-- ==== Sys2Proof/Word.lean ====
section
/-! DEFINITION. Word.lean: the word types of the ZV9400's register space and data path (R5, "Numbers, units and time" of 00_scope). -/

namespace Sys2Proof

/-- A register of BAR0 (R5: every register is 32 bits wide). -/
abbrev Word := BitVec 32

/-- A byte of the data path. -/
abbrev Byte := BitVec 8

/-- A 64-bit quantity (R6, R7). -/
abbrev DWord := BitVec 64

end Sys2Proof
end

