-- ==== Sys2Proof/Syntax.lean ====
section
/-! DEFINITION. Syntax.lean: the commands of the block, one constructor per row of spec/opcode_table.json.
Operands are what comes from outside the part when the row happens: a requester's value, a stack's answer, a sensor's
reading, a pin's level. What the part knows itself is State, not an operand. -/

namespace Sys2Proof

/-- Who makes a register or Commons access (Table 20.4, Table 09.6, Table 13.4). `host n` is the LD function of LD n. -/
inductive Requester where
  | owner
  | lark
  | mctp
  | host (ld : Nat)
  | peer
  | engine
deriving DecidableEq, Repr

/-- What is measured outside the model about one read: its latency in ns (R24) and the lowest of the load causes 0x7 to
0xB of Table 08.3 that its media READs met (0: none). -/
structure Meas where
  latNs : Nat
  loadCause : Nat
deriving DecidableEq, Repr

/-- The items of the tables partition (order 8) that Table 09.7 tells apart. -/
inductive TableItem where
  | directory | leafIndex | guard | logIndex
  /-- a sample of the hourly or the daily ring -/
  | history (daily : Bool)
  /-- a word of the newer or the older bank -/
  | filter (older : Bool)
  | wear
  /-- a counter row of the hot-line filter, or an entry of the hot list -/
  | hotRow (row : Nat)
  | hotEntry
deriving DecidableEq, Repr

/-- An arbiter slot of a channel (R81): whether the engine that is granted hands its command over in it. -/
structure ArbSlot where
  chan : Nat
  hands : Bool
deriving DecidableEq, Repr

/-- What a keepalive tells beside that its sender lives: nothing, that everything is copied, or that the domain under migration is deleted. -/
inductive KeepaliveWord where
  | plain | synced | gone
deriving DecidableEq, Repr

/-- What the part meets as it powers up: STRAP[7:0] (R493), and the Seed store pages with an error that their check bits cannot correct, which
recall finds (R474). -/
structure PowerUpSight where
  strap : Byte
  unread : List Nat
deriving DecidableEq, Repr

/-- A parity error found on a Rick read (Table 09.7): the order of the partition (10 for the tag array); a pinned L2 to L4 node
of partition 2 (`partition 2`) or an entry of its node map; an item of the tables partition, corrected from its other copy or not. -/
inductive Perr where
  | none
  | partition (order : Nat)
  | nodeMap
  | table (item : TableItem) (corrected : Bool)
  /-- the partition holds a structure with two copies (R195, Table 09.7) and the byte is unresolved -/
  | unresolved (order : Nat)
deriving DecidableEq, Repr

/-- The stored form of a line as the correction ladder returned it (R199). -/
inductive StoredForm where
  /-- 80 bytes of the slot, decoded through the ladder -/
  | slot (bytes : List Byte)
  /-- the ladder returned poison (R114, R116) -/
  | poison
deriving DecidableEq, Repr

/-- Status of a response of a Ling hub (Table 03.7). -/
inductive HubStatus where
  | success | programFailed | eraseFailed | addressError | planeSuspended | nothingToDo | aborted | dieFailed | standby
deriving DecidableEq, Repr

/-- What the margin read of a Seed store page found (R475). -/
inductive PageFinding where
  | rewritten        -- corrected bit or margin failure; the rewrite verified at strict margins
  | rewriteFailed    -- the rewrite failed its verify: the page is relocated
deriving DecidableEq, Repr

/-- A time source (Table 02.1, TB_STATUS.source). -/
inductive TimeSource where
  | none | pps | fabric | cxl
deriving DecidableEq, Repr

/-- Fields of Create domain (Table 13.9), Load domain plan and Prepare target. -/
structure DomainSpec where
  dom : Nat
  ld : Nat
  tier : Nat
  cls : Nat
  dpaBase : Nat
  dpaLimit : Nat
  poolBase : Nat
  g : Nat
  burst : Nat
  beCeiling : Nat
  anchor : Bool
  mirror : Bool
  meterEn : Bool
  userCtr : Bool
deriving DecidableEq, Repr

/-- Fields that Modify domain (0x0103) may change; `none` leaves a field. -/
structure DomainChange where
  tier : Option Nat
  cls : Option Nat
  g : Option Nat
  burst : Option Nat
  beCeiling : Option Nat
  anchor : Option Bool
  meterEn : Option Bool
  userCtr : Option Bool
deriving DecidableEq, Repr

/-- The operation of an armed cut (R394). -/
inductive CutOp where
  | snapshot | reset | disarm | release
deriving DecidableEq, Repr

/-- Payload of Arm snapshot or reset cut (R394): the instant, the fabric tag and the (node, domain) pairs; no pairs: all domains. -/
structure CutSpec where
  op : CutOp
  at_ : Nat
  ftag : Nat
  pairs : List (Nat × Nat)
deriving DecidableEq, Repr

/-- What recovery finds when it reads the media back (R219, R138, R214, R218): which of the structures that the part wrote
itself, and that State holds, still decode and verify. -/
structure RecoveryFinding where
  /-- checkpoint copies A and B decode and match their CRC (R138, R279) -/
  ckptA : Bool
  ckptB : Bool
  /-- a flush image with the number of WP_FLUSH_EXPECT is valid (R214) -/
  image : Bool
  /-- every Gorse record expected before the image's journal sequence is present and verifies (Table 10.7) -/
  gorseRecords : Bool
  /-- sequence numbers of anchor records whose data slot cannot be decoded (R218) -/
  badAnchors : List Nat
deriving DecidableEq, Repr

/-- One message of the mirror stream (R385): sequence number, domain, logical line, byte mask, data and poison. -/
structure MirrorRec where
  seq : Nat
  dom : Nat
  line : Nat
  mask : BitVec 64
  data : List Byte
  poison : Bool
deriving DecidableEq, Repr

/-- A link of the fabric as a link report names it (R377): two nodes (by UID) and their ports. -/
structure LinkRep where
  uidA : DWord
  portA : Nat
  uidB : DWord
  portB : Nat
deriving DecidableEq, Repr

/-- THE COMMANDS: one constructor per row of spec/opcode_table.json, in its order. -/
inductive Instr where
  -- registers (00, 18, 20)
  | registerWrite (who : Requester) (off : Nat) (v : Word)
  | bar0BadSizeAccess (who : Requester) (off : Nat) (write : Bool)
  | lowHalfRead (who : Requester) (off : Nat)
  | lowHalfWrite (who : Requester) (off : Nat) (v : Word)
  | highHalfWrite (who : Requester) (off : Nat) (v : Word)
  | clearOnRead (who : Requester) (off : Nat)
  | cdLadderCntLowRead (who : Requester) (k : Nat)
  | seedWriteComplete
  | mctpRegisterRead (vendor : Nat) (count : Nat) (off : Nat)
  | commonsDisallowedAccess (who : Requester) (off : Nat) (write : Bool)
  -- CXL.mem (12) and admission (11, 07)
  | memRd (port link ld tag dpa : Nat)
  | memRdData (port link ld tag dpa : Nat)
  | memInv (port link ld tag dpa : Nat)
  | memInvNt (port link ld tag dpa : Nat)
  | memSpecRd (port link ld tag dpa : Nat)
  | memWr (port link ld tag dpa : Nat) (data : List Byte) (poison : Bool)
  | memWrPtl (port link ld tag dpa : Nat) (data : List Byte) (mask : BitVec 64) (poison : Bool)
  | memUnexpectedOpcode (port link tag opcode : Nat)
  | admitRequest (dom : Nat) (perr : Perr) (m : Meas)
  | writeSetWaitResume (set : Nat)
  -- time base and schedule (02)
  | ppsEdge
  | todFrame (bytes : List Byte)
  | timeSourceSwitch (src : TimeSource)
  | sourceLossTimeout
  | disciplineComplete
  | slewComplete
  | leapSecond
  | scheduleTick (n : Nat)
  | scheduleWindowMissed (entry : Nat)
  | deferredActionResume (entry : Nat)
  | schedEntryWrite (who : Requester) (entry word : Nat) (v : Word)
  | meterMinuteClose
  | effectiveAgeUpdate
  | anchorJournalCheckpoint
  | bestEffortWindow
  | mapCheckpoint
  | holdUpTest
  | scrubPassStart
  | marginReadSweep
  | refreshScan
  | wearLevellingEvaluation
  | parityWriteBackSweep
  | keyRotationStep
  | rotationTimer
  | snapshotCut (entry : Nat)
  | fabricResetCut (entry : Nat)
  | seedStoreMarginRead (pages : List (Nat × PageFinding))
  | timeSave
  | eventArchiveDrain
  | larkDoorbell (entry : Nat)
  -- Ling channels (03)
  | flitPeriod (chan : Nat)
  | flitReceive (chan : Nat) (flit : List Byte)
  | ackReceive (chan nextSeq : Nat) (replayRequest : Bool)
  | ackTimer (chan : Nat)
  | replayTimeout (chan : Nat)
  | blockLockLoss (chan : Nat)
  | retrainComplete (chan : Nat)
  | retrainTimeout (chan : Nat)
  | issueSlot (slot : ArbSlot)
  | readResponse (chan tag : Nat) (st : HubStatus) (resensed : Bool) (dev : Int) (slot : List Byte) (m : Meas)
  | readSoftResponse (chan tag : Nat) (st : HubStatus) (slot : List Byte) (erasures : List Nat) (m : Meas)
  | marginReadResponse (chan tag : Nat) (st : HubStatus) (weak : Nat)
  | programResponse (chan tag : Nat) (st : HubStatus)
  | eraseResponse (chan tag : Nat) (st : HubStatus)
  | suspendResponse (chan tag : Nat) (st : HubStatus)
  | resumeResponse (chan tag : Nat) (st : HubStatus)
  | copyResponse (chan tag : Nat) (st : HubStatus)
  | statusResponse (chan tag : Nat) (st : HubStatus) (planes : Word)
  | tempResponse (chan tag : Nat) (st : HubStatus) (dies : List Int) (hub : Int)
  | configResponse (chan tag : Nat) (st : HubStatus) (data : Word)
  | tempPoll (chan : Nat)
  | lngAlertFall (group : Nat)
  | mcArbMapWrite (who : Requester) (chan : Nat) (v : Word)
  | arbMapRevert (chan : Nat)
  | arbiterWatchdog (chan : Nat)
  | dataTagTimeout (chan tag : Nat)
  | channelResetComplete (chan : Nat)
  | groupSidebandReset (chan : Nat)
  | mcCtlReset (who : Requester) (chan : Nat)
  | mcCtlDisable (who : Requester) (chan : Nat) (v : Bool)
  | channelDisableTakesEffect (chan : Nat)
  | groupRailsGood (group : Nat)
  | lngRstRelease (group : Nat)
  | channelTrained (chan : Nat)
  | bringUpTimeout (chan : Nat)
  | suspendHoldTimeout (chan die plane : Nat)
  -- codes and parity (04)
  | parityEntryAgeTrigger (plot page : Nat)
  | parityOverrun (plot page : Nat)
  | parityWritebackComplete (plot page : Nat)
  | pageRebuildStart (plot page : Nat)
  | pageRebuildComplete (plot page : Nat)
  -- translation and wear (05)
  | mapJournalVerified
  | checkpointJournalTrigger
  | checkpointComplete (crc : DWord)
  | spareErase (plot : Nat)
  | migrationStart (kind entry : Nat) (node : Bool)
  | migrationMapSwitch (entry : Nat) (node : Bool)
  | migrationSourceErase (plot : Nat)
  | plotRedirect (plot : Nat)
  -- drift (06)
  | hourBoundary
  | ageUncertainAlert
  | inPlaceRefresh (plot : Nat)
  | inPlaceRefreshComplete (plot : Nat)
  | rewriteQueueService
  | scrubPace
  -- write path (07)
  | frameScan
  | apply (set way : Nat) (tables perr : Perr)
  | regraftComplete (level index : Nat)
  | dirtyLeafWriteBack (node : Nat)
  | leafWriteBackComplete (node : Nat)
  | leafAgeExpire (node : Nat)
  | holdUpFactorUpdate
  | holdUpTestSample
  | holdUpTestTimeout
  | holdUpRetest
  | pwrFail
  | flushSealed (durUs bytes : Nat)
  | anchorRecordVerified (seq : Nat)
  | anchorCountCheckpoint
  | anchorCheckpointComplete
  | recovery (f : RecoveryFinding)
  | recoveryComplete (ms : Nat)
  | gpfPhase1 (port : Nat)
  | gpfPhase2 (port : Nat)
  -- read path and Rick (08, 09)
  | rpGuardSelWrite (who : Requester) (v : Word)
  | evictionBufferWrite
  | maintNone
  | maintProbe
  | maintInvalidate
  | maintPin
  | maintUnpin
  -- Gorse (10)
  | uncleanSweepStep (perr : Perr)
  | ideKmKeyProgram (port link : Nat)
  | ideIntegrityFailure (port link : Nat)
  | spdmGetVersion (conn : Nat)
  | spdmGetCapabilities (conn : Nat)
  | spdmNegotiateAlgorithms (conn : Nat)
  | spdmGetDigests (conn : Nat)
  | spdmGetCertificate (conn slot : Nat)
  | spdmChallenge (conn slot : Nat)
  | spdmGetMeasurements (conn index : Nat)
  | spdmKeyExchange (conn slot : Nat)
  | spdmFinish (conn : Nat) (verified : Bool)
  | spdmKeyUpdate (conn : Nat)
  | spdmHeartbeat (conn : Nat)
  | spdmEndSession (conn : Nat)
  | spdmGetCsr (conn : Nat)
  | spdmSetCertificate (conn slot : Nat) (chain : List Byte) (ownerAuthorised : Bool)
  -- regulation (11)
  | regulatorRefill
  | gRecompute
  | gRaiseTakesEffect
  | qsDomSelWrite (who : Requester) (v : Word)
  -- host links (12, 18)
  | hostLinkUp (port link width rate : Nat) (flit256 : Bool)
  | hostLinkDown (port link : Nat)
  | hotReset (port link : Nat)
  | linkDisableReceived (port link : Nat)
  | perstAssert (port : Nat)
  | perstLow100us (port : Nat)
  | perstRelease (port : Nat)
  | functionLevelReset (ld : Nat)
  | cxlReset (ld : Nat)
  -- CXL mailbox (12)
  | cxlIdentify (ld : Nat)
  | backgroundOperationStatus (ld : Nat)
  | getEventRecords (ld log : Nat)
  | clearEventRecords (ld log count : Nat)
  | getEventInterruptPolicy (ld : Nat)
  | setEventInterruptPolicy (ld : Nat) (policy : Word)
  | getFwInfo (ld : Nat)
  | transferFw (ld : Nat)
  | activateFw (ld : Nat)
  | getSupportedLogs (ld : Nat)
  | getLog (ld : Nat)
  | identifyMemoryDevice (ld : Nat)
  | getPartitionInfo (ld : Nat)
  | getHealthInfo (ld : Nat)
  | getAlertConfiguration (ld : Nat)
  | setAlertConfiguration (ld life tempHigh tempLow : Nat)
  | getShutdownState (ld : Nat)
  | setShutdownState (ld : Nat) (clean : Bool)
  | getPoisonList (ld : Nat)
  | injectPoison (ld dpa : Nat)
  | clearPoison (ld dpa : Nat) (data : List Byte)
  | getScanMediaCapabilities (ld : Nat)
  | scanMedia (ld dpa lines : Nat)
  | getScanMediaResults (ld : Nat)
  | sanitize (ld : Nat)
  | secureErase (ld : Nat)
  | backgroundOpComplete (ld : Nat)
  | getDcConfiguration (ld : Nat)
  | getDcExtentList (ld : Nat)
  | addDcResponse (ld dom : Nat) (accept : Bool)
  | releaseDc (ld dom : Nat)
  | extentReleaseComplete (ld dom : Nat)
  | cxlUnsupportedOpcode (ld opcode : Nat)
  | cxlSetTimestamp (ld : Nat) (stamp : Nat)
  | cxlGetTimestamp (ld : Nat)
  -- FM API (12, 13)
  | fmGetLdInfo
  | fmGetLdAllocations
  | fmSetLdAllocations (ld static256m : Nat)
  | fmInitiateDcAdd (ld dpaPlot plots tag : Nat)
  | fmInitiateDcRelease (ld dom : Nat)
  -- Lark (13)
  | larkStart
  | cpInTagWrite (who : Requester) (mb : Nat) (v : Word)
  | internalNoticeRetry (mb : Nat)
  | larkTakeCommand (bytes : List Byte)
  | cpOutRelease (who : Requester) (mb : Nat)
  | doorbellSet (who : Requester) (mb : Nat) (v : Word)
  | vcsIdentify
  | getCounter (authority : Nat)
  | getProgress
  | getNotices
  | createDomain
  | deleteDomain (dom : Nat)
  | modifyDomain (dom : Nat) (chg : DomainChange)
  | loadDomainPlan (plan : List DomainSpec)
  | listDomains
  | rotateDomainKey (dom : Nat)
  | clearQuarantine (dom : Nat)
  | setDelegate (index : Nat) (key : List Byte) (groups lds : Word)
  | revokeDelegate (index : Nat)
  | rekeyAuthority (index : Nat) (key : List Byte)
  | mediaReformatting (u : Nat)
  | overwriteSanitize
  | setChannelDisable (chan : Nat) (v : Bool)
  | rickMaintenance (op count : Nat) (key : DWord)
  | setCommonsSize (mib : Nat)
  | confirmBackwardStep
  | discardBackwardStep
  | writeScheduleEntry (entry : Nat) (ctl period window : Word) (phase : DWord)
  | saveSchedule
  | setTimedDoorbell (n : Nat) (v : Word)
  | transferImageChunk (off : Nat) (bytes : List Byte)
  | activateInactiveSlot
  | activationImageReady (accepted : Bool)
  | activationTimeout
  | raiseSvnMin
  | setMirrorPartner (uid : DWord) (promote demote : Bool)
  | startLiveDomainMigration (dom node dstDom dstLd dpaBase poolBase : Nat) (snapSlot : Option Nat)
  | armSnapshotOrResetCut (c : CutSpec)
  | requestPowerState (viaResponder : Bool) (target : Nat)
  | clearEventRecorder
  | flushMeterStream
  | writeRwaField
  | saveControlProfile (entries : List (Nat × Word))
  | readOwnerDataArea (off count : Nat)
  | writeOwnerDataArea (off : Nat) (bytes : List Byte)
  | fmApiTunnel
  | vcsUnsupportedOpcode
  | authLockoutExpire (mb : Nat)
  | longOperationEnd (result : Nat)
  | larkWatchdogExpire
  -- Sward (14)
  | peerBusyResend (opcode : Nat)
  | mirrorBind (dom plots : Nat) (confirm peerLeads : Bool)
  | prepareTarget (d : DomainSpec) (srcNode : Nat) (snap : Bool)
  | peerArm (c : CutSpec) (originator : Nat)
  | cutReport (node : Nat) (ftag : Nat) (done : Bool)
  | barrier (node participants : Nat) (release : Bool)
  | broadcast (src port left : Nat) (payload : List Byte)
  | swardReplayTimeout (port : Nat)
  | swardRetrainTimeout (port : Nat)
  | swardLinkSession (port : Nat) (ok : Bool)
  | swardHello (port peerPort fabricId : Nat) (peerUid peerPartner : DWord) (peerLeads : Bool)
  | swardLinkUp (port : Nat)
  | swardLinkDown (port : Nat)
  | formationUidFlood (port : Nat) (uid : DWord)
  | formationLinkReport (links : List LinkRep)
  | routingTables (nodeId nodesM1 : Nat) (ext : List Nat) (whole : Bool) (tree : List Nat) (ids : List (DWord × Nat)) (rows : List (Nat × Word))
  | endToEndResend (dest msg : Nat)
  | fabricTimeMessage (port : Nat) (ztime leap : Int) (announced hops master : Nat)
  | linkDelayExchange (port delayNs : Nat)
  | forwardedWrite (r : MirrorRec)
  | mirrorRecord (r : MirrorRec) (perr : Perr)
  | mirrorAck (seq : Nat)
  | keepalive (mig : Bool) (word : KeepaliveWord)
  | partnerLoss
  | resyncStep (m : Meas)
  | swCtlReset (who : Requester)
  -- power (15)
  | sidebandPowerRequest (target : Nat)
  | wakeTimer
  | a2DrainComplete
  | a3DrainComplete
  | drainTimeout
  | a2ExitComplete
  | a3ExitComplete (tablesValid : Bool)
  | railStepGood
  | pgTimeout (sq : Nat)
  | shutdownStepDone
  | offTimeoutExpire (sq : Nat)
  | adcConversion (input code : Nat)
  | pgLowFault (sq : Nat)
  | railRetryExpire (sq : Nat)
  | minOffExpire
  | faultNExternal
  | faultNRelease
  | faultHoldExpire
  | biasStep
  -- thermal (16)
  | ondieSensorRead (readings : List (Int × Bool))
  | remoteDiodeRead (diode : Nat) (reading : Int) (openShort : Bool)
  | aonSensorRead (readings : List Int)
  | tempMissingTimeout (chan : Nat)
  | rateHoldExpire (group : Nat)
  | bgLevelTimer
  | graceExpire
  | stepRiseTimer
  | stepFallTimer
  | comparatorTrip
  -- recorder, meter, monitor (17)
  | ringPageWrite
  | evReadSeqWrite (who : Requester) (v : Word)
  | meterReadStream (bytes : Nat)
  | meterReadStatus
  | meterUnknownCommand (cmd : Nat)
  | mtrCsRise
  | tailWindowProgram
  | pmCounterOverflow (bank k : Nat)
  | pmSlotClear (who : Requester)
  -- resets (18)
  | coldPowerOn
  | strapLatch (at_ : PowerUpSight)
  | seedRecallComplete
  | vddAonLow
  | vddAonRemoved
  | glbRstWarm
  | glbRstControl
  | glbRstCold
  | pwrFailReturn
  | fmApiLdReset (ld : Nat)
  | fmSetDcRegionConfig (ld region base256m len256m : Nat)
  | commonsWrite (who : Requester) (off : Nat) (bytes : List Byte)
  | vddNvLoss (written : Nat) (oldMask : Nat)
  | swardKeyUpdateCount (port : Nat)
  | cowWalkerAdvance (dom : Nat) (count : Nat)
deriving DecidableEq, Repr

end Sys2Proof
end

