-- ==== Sys2Proof/Config.lean ====
section
/-! DEFINITION. Config.lean: what an implementation fixes, and the free values. A constant here that is opaque has no body:
no proof can see what it is, so a claim about it holds whatever it is (notes/assumptions name each). -/

namespace Sys2Proof.Config

/-- FREE VALUE (R192, R247, R266: salts, DRBG draws; every value the spec leaves open after a command): draw number `n`. -/
opaque freeValue : Nat → BitVec 64

/-- FREE VALUE: a 256-bit key drawn from the DRBG (R266): draw number `n`. -/
opaque freeKey : Nat → BitVec 256

/-- The fused root key (Table 10.1), unique per device. -/
opaque rootKey : BitVec 256

/-- CP_UID, fused (Table 13.12). -/
opaque uid : BitVec 64

/-- GLB_REV.rev_id: 0xA0 or 0xB0 (R3); which of the two is a matter of the part in hand. -/
opaque revIsB0 : Bool

/-- The keyed hash that gives the set of a read-cache or Aftermath key (R247, R254): the spec gives no formula. -/
opaque cacheHash : BitVec 64 → Nat → Nat

/-- The counter that a row of the hot-line filter keeps for a logical line (R151): the spec gives no formula. -/
opaque hotHash : Nat → Nat → Nat

/-- The place of a plot at format: which physical plot is the `i`-th of a kind (Table 05.6) at usable size `u` GiB. The spec
gives the numbers of each kind (R130) and not the order. -/
opaque formatPlot : Nat → Nat → Nat → Nat

/-- The plot table state (Table 05.6) of physical plot `p` after a format at usable size `u`: the other side of `formatPlot`. -/
opaque formatState : Nat → Nat → Nat

/-- Verification of something signed or sealed under a scheme that the spec only names (ECDSA P-384, SP 800-38F): the verdict
on these bytes. -/
opaque sealVerifies : List Byte → Bool

/-- CRC-64 (R138, R214): the spec names no polynomial. -/
opaque crc64 : List Byte → BitVec 64

/-- SHA-384, which the spec names and does not give (R298, R343). -/
opaque sha384 : List Byte → List Byte

/-- The bytes of a certificate chain or measurement that the part holds from manufacture (R298): slot or index `i`. -/
opaque attestationBytes : Nat → List Byte

end Sys2Proof.Config
end

