-- ==== Sys2Proof/Machine/State.lean ====
section
/-! DEFINITION. Machine/State.lean: the state of the block, as plain data. Registers that software sees stand in `regs`, keyed
by BAR0 offset (20_register_map); what the engines hold beside them stands in one structure per block of the part (Table 01.1).
A sparse table (`Tbl`) lists only the keys whose value differs from the table's default, in strictly rising order. -/

namespace Sys2Proof.Machine

/-- A sparse table in canonical form: keys strictly rising, no entry equal to the default of its key. -/
abbrev Tbl (α : Type) := List (Nat × α)

/-- A byte memory of the part (Commons, the owner data area): Host.Cell pairs in canonical form; an unlisted byte is 0. -/
abbrev Memory := List Host.Cell

/-! ### Registers -/

/-- A high half latched by a read of a low half, or a low half held by a write (R6, R7), per requester and low offset. -/
structure HalfLatch where
  who : Requester
  off : Nat
  val : Word
deriving DecidableEq, Repr

/-! ### Time base (02) -/

/-- An offset being absorbed (R44, R511): what is left, and whether ztime runs at half rate (else it slews at 200 ppm). -/
structure Absorb where
  left : Int
  half : Bool
deriving DecidableEq, Repr

structure TimeBase where
  /-- ztime: TAI ns since 2000 (R40) -/
  ztime : Nat
  /-- 1 us ticks since VDD_AON rose (R47) -/
  tick : Nat
  /-- slewing: ns of slew not yet given, in units of 200 ppm of a tick (R44) -/
  slewFrac : Nat
  absorb : Option Absorb
  /-- the offset that consecutive accepted frames agree on, and how many did (R35) -/
  agree : Option (Int × Nat)
  /-- tick of the last PPS edge (R33) -/
  edgeTick : Option Nat
  /-- a frame has been accepted for that edge (R34) -/
  edgeUsed : Bool
  /-- the ztime that ztime stood for at that edge once the absorption in progress has ended, less TB_PPS_DELAY (R36, R511) -/
  edgeGoal : Int
  /-- tick of the last fabric time update (Table 02.4) -/
  fabricTick : Option Nat
  /-- consecutive edges or fabric updates within 1 us of the expected instant (Table 02.4) -/
  inPhase : Nat
  /-- us spent in LOCKED since cold power-on (R37) -/
  lockedUs : Nat
  /-- tick since which the PPS source and the fabric source have been valid (R32) -/
  ppsSince : Option Nat
  fabricSince : Option Nat
  /-- a priority 1 or 2 source has been valid since cold power-on (R39) -/
  primarySeen : Bool
  /-- the time base has been LOCKED since the source in use became valid (Table 02.4) -/
  wasLocked : Bool
  /-- the owner discarded a pending step: the source is ignored until it agrees within 1 s (Table 02.5) -/
  ignoring : Bool
  /-- the time base was not LOCKED at some moment of the open meter minute, and of the open drift interval (R38, R168) -/
  minuteUnlocked : Bool
  driftUnlocked : Bool
  /-- an hour boundary that ztime has passed and that HOUR_BOUNDARY has still to sample (R169) -/
  hourDue : Bool
  /-- 1: insert, 2: delete announced by the last frame before 23:59 of this UTC day (R43) -/
  leapArmed : Nat
  /-- ztime of that end of day, at which TB_LEAP changes -/
  leapAt : Nat
  /-- the hour that ztime stood at before its latest confirmed backward step (Table 02.5); 0 none -/
  stepTop : Nat
  /-- a leap offset has been taken from a frame or message since cold power-on (R40) -/
  leapTaken : Bool
  /-- entries whose next_due is recomputed at the next tick (R46) -/
  stale : List Nat
  /-- actions started and not yet carried out, and entries deferred under R49: (entry, action) in start order -/
  started : List (Nat × Nat)
  deferred : List Nat
  /-- ztime of the last time save that no entry carried (R54) -/
  lastSave : Nat
deriving DecidableEq, Repr

/-! ### Media channels (03) -/

/-- Commands of Table 03.4. -/
inductive MOp where
  | read | readSoft | marginRead | program | erase | suspend | resume | copy | status | temp | config
deriving DecidableEq, Repr

/-- The part of a host read that a media READ serves: the data slot, or copy A (0) or B (1) of a node (R225, R129). -/
inductive Role where
  | data
  | l0 (copy : Nat)
  | l1 (copy : Nat)
deriving DecidableEq, Repr

/-- Which work in the part a media command belongs to. -/
inductive Why where
  /-- READ for fetch `id` -/
  | fetch (id : Nat) (role : Role)
  /-- READ or PROGRAM for item `item` of job `id` -/
  | job (id item : Nat)
  /-- READ of the stored form of a frame's line (R199), and PROGRAM of the line -/
  | apply (set way : Nat)
  | frame (set way : Nat)
  /-- PROGRAM of copy `copy` of a counter node, for the write-back of leaf `leaf` -/
  | node (leaf level index copy : Nat)
  /-- PROGRAM of the second copy of an apply to a plot under migration (R145) -/
  | dual (set way : Nat)
  /-- ERASE of member `m` of a physical plot -/
  | erase (plot m : Nat)
  /-- READ that verifies slot `k` of a PROGRAM or COPY in flight at a channel reset (R88): the tag that it holds, and the slot -/
  | verify (tag k : Nat)
  /-- PROGRAM of a slot of the log field or of a checkpoint plot -/
  | log
  /-- PROGRAM of a slot of the plot at index `i` of the recorder plot list (R443) -/
  | recorder (i : Nat)
  /-- STATUS, TEMP, CONFIG, SUSPEND, RESUME -/
  | ctl
deriving DecidableEq, Repr

/-- PROGRAM of a slot of the log field, of a checkpoint plot or of a recorder plot. -/
def Why.isLog : Why → Bool
  | .log | .recorder _ => true
  | .fetch _ _ | .job _ _ | .apply _ _ | .frame _ _ | .node _ _ _ _ | .dual _ _ | .erase _ _ | .verify _ _ | .ctl => false

/-- A command waiting in an engine's queue or in flight (Table 03.5). `step` is the ladder step of a READ (R114). -/
structure MCmd where
  op : MOp
  addr : Nat
  param : Nat
  data : List (List Byte)
  dst : Nat
  eng : Nat
  cls : Nat
  /-- host reads: the tier (R317). Engines 0 and 1 (Table 11.3): 0 charged and gated, 1 charged and not held, 2 not charged -/
  tier : Nat
  step : Nat
  /-- the reference sample of the previous hour was used (R174, R176) -/
  young : Bool
  /-- COPY: the destination's media address -/
  copyTo : Nat
  /-- a read left to wait behind an operation that was resumed by force (R78) -/
  waits : Bool
  why : Why
deriving DecidableEq, Repr

structure InFlight where
  tag : Nat
  cmd : MCmd
  tokens : Nat
  issued : Nat
deriving DecidableEq, Repr

/-- One plane as the controller tracks it (R67, R73, R74). -/
structure Plane where
  queue : List Nat
  suspended : Option Nat
  resumedAt : Option Nat
  suspendedAt : Option Nat
deriving DecidableEq, Repr

/-- The link layer of one channel (R59 to R64, R513). -/
structure Link where
  /-- messages not yet sent in full, in order; the first has been begun where `txOpen` -/
  tx : List (List Byte)
  txOpen : Bool
  txSeq : Nat
  /-- flits sent and not acknowledged, oldest first: sequence number and payload -/
  unacked : List (Nat × List Byte)
  rxSeq : Nat
  /-- flits accepted since the last ACK sent -/
  rxPending : Nat
  /-- message bytes accepted and not yet a whole message (R60) -/
  rxBytes : List Byte
  /-- replays in a row without acknowledgement progress -/
  replays : Nat
  /-- the sequence number of the last replay request acted on -/
  replayMark : Option Nat
deriving DecidableEq, Repr

structure Chan where
  queue : List MCmd
  flight : List InFlight
  planes : Tbl Plane
  link : Link
  /-- ticks of the channel resets of the last 60 s (R90) -/
  resets : List Nat
  standby : Bool
  /-- MC_CTL.disable written and not yet in effect (R515) -/
  disabling : Bool
  /-- bit d: die d reported status 0x7 -/
  diesFailed : Nat
  /-- issue slots until a gated background engine may assert a request again, by engine (R430) -/
  bgWait : Tbl Nat
  /-- a grant that awaits handover: input, engine and tick of the grant (R81, R85) -/
  grant : Option (Nat × Nat × Nat)
  /-- the plane to which a SUSPEND has just gone: its read follows at once (R77) -/
  follow : Option Nat
  /-- the state, CONFIG or READY, that the channel had before it entered RETRAIN or CHRESET (R513) -/
  before : Nat
deriving DecidableEq, Repr

/-! ### Host requests and fetches (08, 11, 12) -/

inductive ReqState where
  /-- arrived, not yet examined for admission -/
  | arrived
  /-- held by its regulator (R305) -/
  | held
  /-- an admitted write that waits for a frame of its set, or for the dirty limit (R197) -/
  | setWait | limitWait
  /-- an admitted read whose fetch is in flight -/
  | fetching
  /-- a merged write whose completion waits: for an anchor record (R215), for the mirror (R385), for write-through (R208) -/
  | anchorWait (seq : Nat) | mirrorWait (seq : Nat) | throughWait
  /-- for an anchor record and for the mirror -/
  | bothWait (anchor mirror : Nat)
  /-- held behind a snapshot cut's first write (R397) or record 0x31 (R396) -/
  | cutWait
deriving DecidableEq, Repr

/-- A CXL.mem request held by a port (R241). -/
structure Req where
  id : Nat
  port : Nat
  link : Nat
  ld : Nat
  tag : Nat
  dpa : Nat
  write : Bool
  data : List Byte
  mask : BitVec 64
  poison : Bool
  dom : Nat
  /-- logical line number of the pool address (R126) -/
  line : Nat
  /-- class, tier and anchor flag of the domain as the request resolved (R302) -/
  cls : Nat
  tier : Nat
  anchor : Bool
  st : ReqState
  wasHeld : Bool
  /-- the read woke the device or met an exit from a power state (cause 0x5) -/
  woke : Bool
deriving DecidableEq, Repr

/-- Version of a child (R273). -/
structure Version where
  major : DWord
  minor : BitVec 7
deriving DecidableEq, Repr

/-- A counter node (R272): the major counter and the 64 minors (sparse, default 0). -/
structure Node where
  major : DWord
  minors : Tbl (BitVec 7)
deriving DecidableEq, Repr

/-- What has come back of one part of a fetch. -/
inductive Got where
  | waiting
  | slot (copy : Nat) (bytes : List Byte)
  | node (n : Node)
  | failed
deriving DecidableEq, Repr

/-- What a fetch is for. -/
inductive FetchFor where
  | host
  /-- a pin of an absent line (R258) -/
  | pin
  /-- a pin of an absent counter node of level 0 or 1 (R258): no data slot is read -/
  | pinNode (level : Nat)
  /-- a resync or migration read (R390, R391) -/
  | sward
  /-- a read of a snapshot's held plot for a migration of the snapshot (R400) -/
  | held
  /-- a line of Scan Media of an LD (R338) -/
  | scan (ld : Nat)
deriving DecidableEq, Repr

/-- A read of a line from the media (R225 to R228). -/
structure Fetch where
  id : Nat
  use : FetchFor
  line : Nat
  dom : Nat
  cls : Nat
  tier : Nat
  eng : Nat
  /-- requests attached (R228), by request id -/
  reqs : List Nat
  /-- the physical plot in force at lookup (R146), or the place in the stranded-line area (R159) -/
  phys : Nat
  strand : Option Nat
  data : Got
  l0 : Got
  l1 : Got
  /-- lowest-numbered cause met so far (R236), 0 none -/
  cause : Nat
  /-- the channel of the slowest media READ -/
  slowest : Nat
  /-- installs no data line, no L0 node, no L1 node (Table 09.4) -/
  noAlloc : Bool
  noAlloc0 : Bool
  noAlloc1 : Bool
  /-- the second copy of the L0 node, of the L1 node has been called for (Table 10.7) -/
  again0 : Bool
  again1 : Bool
  /-- has entered ladder step 4; a channel reset has delayed it (R238) -/
  step4 : Bool
  reset : Bool
deriving DecidableEq, Repr

/-! ### Codes, translation, drift (04, 05, 06) -/

/-- A parity-delta entry (Table 04.3). While a write-back runs, `engine` is the write-back engine's copy of the delta, and `parity` holds the new
parity slots that it makes of it, by page slot (R108). -/
structure Delta where
  delta : List (List Byte)
  count : Nat
  first : Nat
  engine : Option (List (List Byte))
  parity : Tbl (List Byte)
deriving DecidableEq, Repr

/-- A data or node map entry (Table 05.3, Table 05.4). -/
structure MapEntry where
  phys : Nat
  epoch : Nat
  migrating : Bool
  writeProtect : Bool
  cow : Bool
  stranded : Bool
  keyGen : Bool
  rotating : Bool
  degraded : Bool
  generation : Nat
  wearClass : Nat
deriving DecidableEq, Repr

/-- A plot table record (Table 05.5): state code of Table 05.6, hot, programs. -/
structure PlotRec where
  state : Nat
  hot : Nat
  programs : Nat
deriving DecidableEq, Repr

/-- A record of the journal ring that changes the map, the plot table, the tree or a snapshot (Tables 05.8, 10.5, 14.5). -/
structure JRec where
  seq : Nat
  /-- its ring position, once its log plot is free to be programmed (R136) -/
  pos : Option Nat
  type : Nat
  kind : Nat
  /-- bytes 2-3: domain (records 0x25, 0x31 to 0x33) -/
  dom : Nat
  /-- bytes 4-7: bit 31 node map, or slot, level/index -/
  node : Bool
  entry : Nat
  plotA : Nat
  plotB : Nat
  gen : Nat
  flags : Nat
  value : Nat
deriving DecidableEq, Repr

/-- A checkpoint copy (R138): S, start and completion ztime, CRC-64 as written, and the contents. -/
structure Ckpt where
  s : Nat
  start : Nat
  done : Nat
  crc : DWord
  map : Tbl MapEntry
  nodeMap : Tbl MapEntry
  plots : Tbl PlotRec
  /-- physical plots that hold the copy -/
  own : List Nat
  /-- ring position and length in slots of its tree snapshot (R278) -/
  snapAt : Nat
  snapLen : Nat
  /-- how often every L3, L4 and crown node has been advanced as a whole (R278) -/
  bumps : Nat
  /-- tree snapshot L2, L3, L4 and crown saves (R278) -/
  l2 : Tbl Node
  l3 : Tbl Node
  l4 : Tbl Node
  crown : Tbl Node
  /-- every stack's E, the ztime of its last update and both history rings (R171) -/
  eff : Tbl Nat
  lastDrift : Nat
  hourly : Tbl (Nat × Nat)
  daily : Tbl (Nat × Nat)
deriving DecidableEq, Repr

/-- A checkpoint in progress (R138): S, start ztime, the plots allocated so far for the copy, the slots of its tree snapshot (R278), and the copy once it
has been written. -/
structure CkptRun where
  s : Nat
  start : Nat
  own : List Nat
  snapLen : Nat
  copy : Option Ckpt
deriving DecidableEq, Repr

/-- A migration between steps 1 and 6 of Table 05.12. Step 0: its target has failed and it waits for another. -/
structure Migration where
  kind : Nat
  entry : Nat
  node : Bool
  src : Nat
  tgt : Nat
  gen : Nat
  /-- hour at which the copy began (R133) -/
  hour : Nat
  /-- step of Table 05.12 reached -/
  step : Nat
  /-- next page to copy; 256: every page copied -/
  page : Nat
  /-- dual-apply programs in flight (R145) -/
  dual : Nat
  /-- snapshot: the plot's applying frames and the 256 saved L0 nodes (R397) -/
  saved : Bool
  /-- the source retires at the end, whatever the kind (R147, R154, R156) -/
  retire : Bool
  /-- the target that its newest durable record 0x01 names, which recovery goes by (Table 05.12) -/
  durable : Option Nat
deriving DecidableEq, Repr

/-- The multi-slot media jobs (R108, R112, R116, R144, R180, R186, R188, R285). -/
inductive JobKind where
  | parityWb | rebuild | refreshPage | migratePage | rewrite | reconstruct (fetch : Nat) | regraft (level index : Nat) | scrubPage
  | scan (ld : Nat) | margin | redirect | restrand (line : Nat) | rotate
  /-- step 4 of an apply's stored-form read (R199); the two slots of a stranded line's new place (R158) -/
  | applyRead (set way : Nat) | strand (line place : Nat)
  /-- the unclean sweep's reads of an L0 node, its L1 parent and the node's lines (R294) -/
  | sweep (node : Nat)
deriving DecidableEq, Repr

structure Job where
  id : Nat
  kind : JobKind
  plot : Nat
  page : Nat
  /-- READs and PROGRAMs outstanding or queued -/
  reads : Nat
  progs : Nat
  /-- slots read, by page slot; an absent slot is an erasure -/
  slots : Tbl (List Byte)
  /-- page slots corrected at step 2 or later, and page slots whose program failed -/
  weak : List Nat
  failed : List Nat
  /-- slots whose READ decoded with no corrected symbol (R70) -/
  clean : List Nat
  /-- 0 reading, 1 reading the parity slots for step 4, 2 programming -/
  phase : Nat
  /-- the entry of a migration's plot: logical plot or node plot -/
  entry : Nat
  node : Bool
deriving DecidableEq, Repr

/-- The open hold-up test (R209). -/
structure HuTest where
  v1 : Nat
  start : Nat
deriving DecidableEq, Repr

/-! ### Write path (07) -/

inductive FrameState where
  | holding | eligible | applying
deriving DecidableEq, Repr

/-- How far the apply of an applying frame has come (R199): not begun; the stored form is being read; its anchor record is out (R216), or verified, with the
stored form as read; its PROGRAMs are out. -/
inductive ApplyStage where
  | idle | reading | recording (old : StoredForm) | recorded (old : StoredForm) | programming
deriving DecidableEq, Repr

/-- A write-buffer frame (R191, Table 07.1): both bank copies of each of the 64 positions, byte and parity bit (bit 8). -/
structure Frame where
  tag : Nat
  state : FrameState
  poison : Bool
  stamp : Nat
  bankA : List (BitVec 9)
  bankB : List (BitVec 9)
  /-- order in which the frame was allocated or became eligible (R198) -/
  order : Nat
  dom : Nat
  anchor : Bool
  /-- what the apply waits for: its read, its record or its PROGRAMs not yet verified (R145); an applying frame with none waits for its apply (R397) -/
  progs : Nat
  stage : ApplyStage
  /-- a PROGRAM has failed its verify: the frame is held until the retire migration has placed the line (R154) -/
  failed : Bool
deriving DecidableEq, Repr

/-- A dirty counter leaf (R202, R283). -/
structure Leaf where
  node : Node
  first : Nat
  /-- changed since the running write-back took its copy, and when first -/
  changedAt : Option Nat
  writing : Bool
  /-- restored by recovery, or write-back started before a sweep completes: advance twice (R284) -/
  restored : Bool
  /-- node programs of the write-back not yet verified -/
  progs : Nat
deriving DecidableEq, Repr

/-- An anchor record (Table 07.5): type 1 write, 2 apply, 3 checkpoint. -/
structure AnchorRec where
  seq : Nat
  /-- ring position of its header slot, once its log plot is free to be programmed (R136) -/
  pos : Option Nat
  type : Nat
  poison : Bool
  dom : Nat
  line : Nat
  mask : BitVec 64
  data : List Byte
  ver : Version
  verified : Bool
deriving DecidableEq, Repr

/-! ### Rick (09) -/

/-- A line of the read cache, the eviction buffer or Aftermath (R247): kind (counter node) and line or node number. -/
structure CLine where
  isNode : Bool
  num : Nat
  data : List Byte
  pinned : Bool
deriving DecidableEq, Repr

/-- An entry of the eviction buffer (R254), with the set and way it left and the line whose install evicted it. -/
structure EvLine where
  line : CLine
  set : Nat
  way : Nat
  byNode : Bool
  byNum : Nat
  /-- the way mask of that install: tier 0 to 3, 4 counter nodes -/
  byTier : Nat
deriving DecidableEq, Repr

/-- A running maintenance operation (R256): op, keys left and next key. -/
structure Maint where
  op : Nat
  isNode : Bool
  next : Nat
  left : Nat
  waiting : Bool
  /-- a pin whose read is to be started -/
  want : Bool
  /-- a pin whose install waits for an eviction-buffer entry -/
  stalled : Bool
deriving DecidableEq, Repr

/-! ### Gorse (10) -/

structure KeySet where
  data : BitVec 256
  tweak : BitVec 256
  tag : BitVec 256
deriving DecidableEq, Repr

structure Rotation where
  dom : Nat
  forced : Bool
  next : Nat
  left : Nat
  target : Bool
  /-- ztime at which it began or Lark last advanced it by itself (R289) -/
  stepAt : Nat
deriving DecidableEq, Repr

structure Regraft where
  level : Nat
  index : Nat
  major : DWord
  /-- 0 held, waiting for what is in flight below; 1 record 0x22 appended and children under way; 2 children done -/
  stage : Nat
  /-- children programmed as poison slots (R294) -/
  bad : List Nat
deriving DecidableEq, Repr

/-- An SPDM connection (R298): 0 DOE of HP0, 1 DOE of HP1, 2 MCTP. How far negotiation has come, 3 at its end; and its session: 0 none,
1 in handshake, 2 established. -/
structure Spdm where
  phase : Nat
  session : Nat
deriving DecidableEq, Repr

/-! ### Regulation (11), guard (08), meter (17) -/

structure Bucket where
  gb : Int
  bb : Int
deriving DecidableEq, Repr

/-- Counters of QS_DOM_DATA (Table 11.6), of the guard (Table 08.4) and of the domain page (R459). -/
structure DomCnt where
  readLines : Nat
  writeLines : Nat
  charged : Nat
  shortfall : Nat
  heldTicks : Nat
  reads : Nat
  ladder : Nat
  media : Nat
  own : Nat
  load : Nat
  late : Nat
  maxCur : Nat
  maxPrev : Nat
  alarms : Nat
deriving DecidableEq, Repr

/-- A meter accumulator of one domain in one bank (Table 17.5). -/
structure MeterAcc where
  readLines : Nat
  writeLines : Nat
  shortfall : Nat
  heldTicks : Nat
  ladder : Nat
  media : Nat
  own : Nat
  load : Nat
  late : Nat
  maxNs : Nat
  geffMin : Nat
  partialWin : Bool
  scaled : Bool
  quarantined : Bool
  deleted : Bool
deriving DecidableEq, Repr

structure Meter where
  /-- accumulators of the open bank, by domain -/
  open_ : Tbl MeterAcc
  /-- first_minute of the open window: UTC minutes since 2000 -/
  firstMinute : Int
  minutes : Nat
  gap : Bool
  coalesced : Bool
  holdover : Bool
  /-- units of the stream not yet consumed, oldest first: packet sequence number and 64 bytes (R450) -/
  units : List (Nat × List Byte)
  /-- how many of the newest units are in the tail window and not yet programmed (at most 8) -/
  tail : Nat
  /-- units of the packet in emission that have not yet entered the stream (R448, R449) -/
  closing : List (Nat × List Byte)
  /-- the 8 newest units emitted (MT_TAIL), oldest first -/
  newest : List (List Byte)
  /-- units programmed into the spool since the last format, runs of them given up with their packet at an unclean loss (first unit, length), and the spool
  plots erased behind the units consumed -/
  marked : Nat
  gaps : List (Nat × Nat)
  freed : Nat
  /-- slots of the spool's open page, and those of the full page that holds the header of the packet in emission -/
  page : List (List Byte)
  headPage : List (List Byte)
  /-- the meter port: command of the open transaction, and bytes clocked out of the current item (prefix byte included) -/
  portCmd : Option Nat
  portPos : Nat
  /-- the unit being clocked out has been flushed: it is completed with 0x00 bytes (R455) -/
  cut : Bool
  /-- a close has coalesced and no later one has swapped (R449) -/
  coalescing : Bool
  /-- next packet sequence number and the end of the block of 256 covered (R438, Table 17.7) -/
  next : Nat
  covered : Nat
deriving DecidableEq, Repr

/-! ### Events (17) -/

structure EventRec where
  seq : Nat
  ztime : Nat
  code : Nat
  block : Nat
  inst : Nat
  dom : Option Nat
  sev : Nat
  flags : Nat
  p0 : Nat
  p1 : Nat
deriving DecidableEq, Repr

structure Staged where
  ev : EventRec
  offered : Bool
  archived : Bool
deriving DecidableEq, Repr

structure Recorder where
  /-- staging, oldest first, at most 256 -/
  staging : List Staged
  /-- ring pages, newest first, at most 512 (R439) -/
  ring : List (List EventRec)
  /-- archive, newest first, at most 1,048,576 -/
  archive : List EventRec
  /-- records written to the archive since the last format, and the slots of its open page -/
  archived : Nat
  page : List (List Byte)
  /-- pages written to the ring -/
  ringAt : Nat
  lostSince : Nat
  lastRing : Option Nat
  /-- once-per-minute marks: (event code, instance, minute) -/
  marks : List (Nat × Nat × Nat)
  latched : Option EventRec
  /-- next sequence number and the end of the block of 256 already covered (R438) -/
  next : Nat
  covered : Nat
deriving DecidableEq, Repr

/-! ### Host interface (12) -/

structure PoisonRec where
  dpa : Nat
deriving DecidableEq, Repr

/-- A dynamic-capacity extent (R333): its domain, and 0 pending, 1 accepted, 2 releasing. -/
structure Extent where
  dom : Nat
  st : Nat
deriving DecidableEq, Repr

/-- A committed HDM decoder (R332): base and size of its host range, skip, interleave ways, granularity in bytes, and this device's position. -/
structure Hdm where
  base : Nat
  size : Nat
  skip : Nat
  ways : Nat
  gran : Nat
  pos : Nat
deriving DecidableEq, Repr

/-- What the part keeps for one LD. -/
structure Ld where
  /-- event logs: Informational, Warning, Failure, Fatal, Dynamic Capacity (R337): event codes with parameter, oldest first -/
  logs : Tbl (List (Nat × Nat))
  overflow : Tbl Nat
  poison : List Nat
  poisonOvf : Option Nat
  policy : Word
  alertLife : Nat
  alertHigh : Nat
  alertLow : Nat
  clean : Bool
  /-- background operation: opcode, percent-done flag (0 none, 1 running, 2 done) -/
  bgOp : Nat
  bgState : Nat
  scanHits : List Nat
  extents : List Extent
  regions : Tbl (Nat × Nat)
  /-- committed HDM decoders, in their order; no command of the table writes them -/
  decoders : List Hdm
  /-- Memory Space Enable of the LD function (Table 15.3); no command of the table writes it -/
  mse : Bool
deriving DecidableEq, Repr

/-! ### Lark (13) -/

structure Authority where
  key : Option (List Byte)
  groups : Word
  lds : Word
  locked : Bool
deriving DecidableEq, Repr

/-- The command that Lark has taken and not answered (R351, R359): mailbox, tag, pointer, header fields and payload. -/
structure Taken where
  mb : Nat
  tag : Word
  ptr : DWord
  opcode : Nat
  auth : Bool
  authority : Nat
  counter : Nat
  buffer : Nat
  payload : List Byte
  /-- the mailbox's LD has been reset since: the response is discarded (Table 13.11) -/
  lost : Bool
deriving DecidableEq, Repr

structure LongOp where
  opcode : Nat
  mb : Nat
  authority : Nat
  dom : Nat
deriving DecidableEq, Repr

/-- Hitless activation (R367): step of Table 13.10, new version. -/
structure Activation where
  step : Nat
  version : Nat
  /-- tick of its trigger (Table 13.10) -/
  start : Nat
deriving DecidableEq, Repr

/-- An image slot of the boot flash (R341, R343). -/
structure ImageSlot where
  /-- the image of manufacture, which the boot ROM accepts; false once a chunk has been transferred -/
  factory : Bool
  bytes : Memory
deriving DecidableEq, Repr

structure Lark where
  taken : Option Taken
  /-- mailbox taken last (R351) -/
  lastMb : Nat
  auths : Tbl Authority
  /-- consecutive authentication failures per mailbox, and mailboxes in the 1 s lockout, with the tick at which it began (R360) -/
  failRun : Tbl Nat
  lockout : List (Nat × Nat)
  longOp : Option LongOp
  act : Option Activation
  /-- the directory copies with a good CRC (R341): copy, sequence number, and whether slot B is active -/
  dirSeq : List (Nat × Nat × Bool)
  slotA : ImageSlot
  slotB : ImageSlot
  /-- notices taken from MB36 to MB39 that wait for Get notices: mailbox and tag; and those whose write was rejected and that their engines
  keep (R350), oldest first -/
  notices : List (Nat × Word)
  kept : List (Nat × Word)
  fwRunning : Bool
  /-- the schedule has been loaded since the last cold power-on (R53) -/
  scheduled : Bool
deriving DecidableEq, Repr

/-! ### Seed store (18) -/

/-- A spread-counter place (R479): two slots (base, sequence, valid), highest set cell of the tally plus one, and marks. -/
structure Spread where
  baseA : Nat
  seqA : Nat
  validA : Bool
  baseB : Nat
  seqB : Nat
  validB : Bool
  tally : Nat
  worn : Bool
  lost : Bool
  inUse : Bool
deriving DecidableEq, Repr

/-- A write waiting in the Seed store queue (R473). -/
inductive SeedWrite where
  /-- a class P register write: whose write it is (R505), offset and value -/
  | register (who : Requester) (off : Nat) (v : Word)
  | pair (who : Requester) (off : Nat) (lo hi : Word)
  | ownerData (off : Nat) (bytes : List Byte)
deriving DecidableEq, Repr

structure Seed where
  queue : List SeedWrite
  /-- the slots of each register's place, by the register's (a 64-bit quantity's low) offset: their bytes, none of a slot whose write was cut off (R476) -/
  slots : Tbl (Tbl (List Byte))
  frozen : List Nat
  /-- register places moved, by the register's offset; the worn-place list; and registers that went on in a worn place (R478) -/
  regMoved : Tbl Nat
  wornPlaces : List Nat
  wornOn : List Nat
  spread : Tbl Spread
  /-- places that a counter moved to (R481) -/
  moved : Tbl Nat
  schedule : Option (List (Nat × Word))
  profile : List (Nat × Word)
  ownerData : Memory
  keyBlobs : Tbl KeySet
  pagesRelocated : Tbl Nat
  reserveUsed : Nat
  /-- pages with an error that their check bits cannot correct, which the recall under way finds (R474) -/
  unread : List Nat
  /-- recall found a page of the control profile, or of the crown save of copy A, or of copy B, uncorrectable (Table 18.4) -/
  profileLost : Bool
  crownLostA : Bool
  crownLostB : Bool
deriving DecidableEq, Repr

/-! ### Sward (14) -/

structure SwPort where
  /-- UID and port of the node at the far end, from its hello (R376) -/
  peerUid : DWord
  peerPort : Nat
  /-- the hello has been exchanged and holds nothing against the link -/
  helloOk : Bool
  /-- replays in a row without acknowledgement progress; 8: the port retrains (R372) -/
  replays : Nat
  /-- measured link delay (R381) -/
  delayNs : Nat
deriving DecidableEq, Repr

structure SnapSt where
  dom : Nat
  number : Nat
  ftag : Nat
  /-- number of the first request received after the cut -/
  since : Nat
  /-- record 0x31 verified -/
  cut : Bool
  /-- plots of the domain that the walker has passed; clearing when `ending` -/
  walker : Nat
  ending : Bool
  aborted : Bool
  /-- held physical plots: (logical plot, physical plot, epoch) -/
  held : List (Nat × Nat × Nat)
  /-- snapshot node plots, the L0 nodes saved in them, and records appended to the newest (R398) -/
  nodePlots : List Nat
  saved : Tbl Node
  recs : Nat
deriving DecidableEq, Repr

/-- A message above the link layer without an acknowledgement (R380): destination, message, how often it has been sent, and the tick of the last time. -/
structure Sending where
  dest : Nat
  msg : Nat
  times : Nat
  tick : Nat
deriving DecidableEq, Repr

structure Sward where
  ports : Tbl SwPort
  /-- ports held down (R373, R376, R377) -/
  held : List Nat
  /-- lowest UID known, and the port it came from (R377) -/
  lowUid : DWord
  rootPort : Option Nat
  links : List LinkRep
  /-- mirror records sent and not acknowledged, oldest first (R385) -/
  outstanding : List MirrorRec
  /-- follower: next sequence number to merge and records that came early -/
  nextSeq : Nat
  early : List MirrorRec
  /-- anchor records that a mirror acknowledgement waits for: anchor and mirror sequence number (R385) -/
  ackWait : List (Nat × Nat)
  /-- the dirty-plot bitmap, which lies in Commons, was lost: the next resync is full (R389) -/
  bitmapLost : Bool
  /-- the next line of the walk over dirty plots, and records of copied lines not acknowledged: plot and sequence number (R390) -/
  resyncLine : Nat
  resyncUnacked : List (Nat × Nat)
  /-- node IDs given by the root, by UID (R377); extents of the torus in nodes, whether every torus link is up, and the ports to this
  node's children in the spanning tree (R379, R393) -/
  ids : List (DWord × Nat)
  ext : List Nat
  whole : Bool
  tree : List Nat
  /-- the partner names this node (R383); it claims to be leader; two leaders have found each other (R388) -/
  peerNames : Bool
  peerLeads : Bool
  clash : Bool
  /-- a fabric reset has not yet ended in a formed fabric (R401) -/
  resetting : Bool
  /-- writes forwarded by the follower that wait to merge here (R385) -/
  fwd : List MirrorRec
  /-- numbers of forwarded writes that have come, so that one sent again is not ordered twice (R380) -/
  fwdSeen : List Nat
  /-- Arms that came while formation was in progress (Table 14.6), with their originators -/
  armWait : List (CutSpec × Nat)
  /-- domains confirmed by the partner (R384) -/
  confirmed : List Nat
  /-- armed cuts by schedule entry (R394), and reports received -/
  cuts : Tbl CutSpec
  originators : Tbl Nat
  reports : List (Nat × Nat × Bool)
  snaps : Tbl SnapSt
  barrierArrived : List Nat
  /-- barrier of this node: 0 none, 1 arrived and waiting, 2 released, 3 failed (R393) -/
  barrier : Nat
  /-- messages above the link layer that have no acknowledgement yet (R380) -/
  sends : List Sending
  peerBusy : Tbl Nat
  /-- live migration (SW_MIG, R391): its state (0 none, 1 copying, 2 mirrored until deletion, 3 failed), the migrating domain of this node,
  the other node and the destination's domain; whether this node is the source -/
  migState : Nat
  migDom : Nat
  migNode : Nat
  migDst : Nat
  migSource : Bool
  migSnap : Option Nat
  /-- pool plot of the destination domain, and the next sequence number of the migration's stream (R391) -/
  migPool : Nat
  migSeq : Nat
  lastKeepalive : Nat
  /-- tick of the last acknowledgement, or of the first record after none was outstanding (R387) -/
  lastAck : Nat
  /-- cuts that this node does not make, to be reported after T: T, originator and fabric tag (R394) -/
  noCut : List (Nat × Nat × Nat)
deriving DecidableEq, Repr

/-! ### Power, thermal, pins (15, 16, 19) -/

/-- Why the rails are off or going off, and what follows (R212, R414, R421 to R423, R434, R462, R463). -/
inductive AfterOff where
  | stay | powerUp | coldOn | coldRestart (cause : Nat) | warm (source : Nat) | faultWait
deriving DecidableEq, Repr

structure Power where
  after : AfterOff
  /-- retries used per channel in the last 60 s: (channel, ticks) -/
  retries : Tbl (List Nat)
  /-- consecutive conversions out of range per channel: below, above -/
  lowRun : Tbl Nat
  highRun : Tbl Nat
  /-- a wake latched during an entry (R408) -/
  wakeLatched : Bool
  groupsDown : List Nat
  /-- the open hold-up test (R209) -/
  huTest : Option HuTest
  /-- V history: HOLDUP code of the last second's lowest and highest (R209) -/
  huLow : Nat
  huHigh : Nat
  huTrend : Option (Nat × Nat)
  /-- tick at which the hold-up test after recovery, or after a failed test, is due (R209) -/
  huDue : Option Nat
  /-- fault_hold_ms of a driven FAULT_N has not yet passed (R422) -/
  faultHold : Bool
  /-- ticks at which the entry in progress began (R407), each rail channel last changed its state (R419 to R421), the wait of min_off began (R423), and
  FAULT_N was driven (R422) -/
  since : Nat
  chanTick : Tbl Nat
  offTick : Nat
  faultTick : Nat
deriving DecidableEq, Repr

structure Sensor where
  reading : Int
  broken : Bool
  goodSince : Nat
  changedAt : Nat
  /-- readings of the last 10 s at which the value changed, with the one before: (tick, value) newest first -/
  window : List (Nat × Int)
  tripRun : Nat
deriving DecidableEq, Repr

structure Thermal where
  sensors : Tbl Sensor
  /-- groups held at THROTTLE by their rate limit until this tick (R428) -/
  rateHold : Tbl Nat
  graceEnd : Bool
  requestAt : Nat
  /-- ticks of the last change of the background level, of the last change of the step or crossing of THROTTLE, and of each stack's last TEMP response (R427, R430, R431) -/
  bgAt : Nat
  stepAt : Nat
  tempTick : Tbl Nat
deriving DecidableEq, Repr

/-- Pin levels (19). Bits of sqEn, sqPg, lngRstN as the pins are numbered. -/
structure Pins where
  sqEn : BitVec 24
  sqPg : BitVec 24
  faultDrive : Bool
  faultIn : Bool
  thermtripLow : Bool
  pwrFailLow : Bool
  perstLow0 : Bool
  perstLow1 : Bool
  /-- when the PERST of each port fell, in ticks -/
  perstAt0 : Nat
  perstAt1 : Nat
  lngRstN : BitVec 5
  strap : Byte
  mtrCsHigh : Bool
deriving DecidableEq, Repr

/-! ### Durable media contents of the part's own making (07) -/

/-- A flush image (Table 07.3): what its sections carry. -/
structure Image where
  seq : Nat
  /-- it lies in flush image area B (R213) -/
  areaB : Bool
  /-- trigger ztime and cause: 1 loss of the supply, 2 entry to Off, 3 thermal trip, 4 entry to A3 -/
  at_ : Nat
  cause : Nat
  f : Nat
  salt : Nat
  frames : Tbl Frame
  leaves : Tbl Leaf
  deltas : Tbl Delta
  meter : Meter
  eff : Tbl Nat
  lastDrift : Nat
  hourly : Tbl (Nat × Nat)
  daily : Tbl (Nat × Nat)
  rebuilds : List Nat
  jrnlSeq : Nat
  ringPos : Nat
  anchorSeq : Nat
  anchorX : Nat
  crown : Tbl Node
deriving DecidableEq, Repr

/-! ### Outputs -/

/-- What the part sends out. The box `State.out` lists what has been sent, newest first. -/
inductive Out where
  /-- CXL.mem data response: port, tag, data, poison, DevLoad -/
  | memData (port tag : Nat) (data : List Byte) (poison : Bool) (devload : Nat)
  /-- CXL.mem completion without data -/
  | memCmp (port tag : Nat) (devload : Nat)
  | linkProtocolError (port link opcode : Nat)
  /-- a register or Commons read result -/
  | readData (who : Requester) (v : Word)
  | advisoryNonFatal (port : Nat)
  | mctp (code : Nat) (vals : List Word)
  /-- a completed CXL mailbox command: LD, opcode, return code and words of payload -/
  | cxl (ld opcode rc : Nat) (vals : List Nat)
  | fm (rc : Nat) (vals : List Nat)
  | gpf (port phase : Nat)
  | msix (vector : Nat)
  | hostMsix (ld vector : Nat)
  | attention (mb : Nat)
  | spdm (conn code : Nat) (bytes : List Byte)
  /-- a flit on a channel: its 32 bytes (Table 03.3) -/
  | flit (chan : Nat) (bytes : List Byte)
  | linkReset (chan : Nat)
  | meterByte (b : Byte)
  | sward (port dest vc msg : Nat) (vals : List Nat)
  | mirror (r : MirrorRec) (vc : Nat)
  | sideband (ack : Bool)
  | hostMem (ptr : DWord) (bytes : List Byte)
  | jtagOff
deriving DecidableEq, Repr

/-! ### The block's own groups -/

structure Media where
  chans : Tbl Chan
  /-- STATUS/TEMP already requested for bring-up: channels whose identity has been read -/
  identified : List Nat
  mixedReported : Bool
deriving DecidableEq, Repr

structure Codes where
  deltas : Tbl Delta
  /-- pages marked for rebuild, in order, as plot*256 + page; and those being rebuilt -/
  marked : List Nat
  rebuilding : List Nat
  /-- pages that wait for room in the list of 65,536 (R112), with the page slot -/
  markWait : List (Nat × Nat)
  jobs : List Job
  nextJob : Nat
deriving DecidableEq, Repr

structure Plots where
  map : Tbl MapEntry
  nodeMap : Tbl MapEntry
  plots : Tbl PlotRec
  migs : List Migration
  /-- migrations requested and not started, oldest first: kind, node plot, entry (R147) -/
  migQueue : List (Nat × Bool × Nat)
  /-- plots waiting for erase, and erases in flight: plot, members left -/
  erasing : Tbl Nat
  eraseFailed : List Nat
  /-- journal: next sequence number, records not yet verified (oldest first) and verified since the older copy (newest first) -/
  nextSeq : Nat
  unverified : List JRec
  verified : List JRec
  ckptA : Option Ckpt
  ckptB : Option Ckpt
  ckptRun : Option CkptRun
  /-- hour of the last format, the epoch of every map entry not listed -/
  formatHour : Nat
  /-- stranded lines: line to place; and how many places of each log plot of the area have been programmed since its erase, in order (R157) -/
  strandIdx : Tbl Nat
  strandFill : Tbl Nat
  /-- hour at which a stranded line was last programmed, by line (R184) -/
  strandHour : Tbl Nat
  /-- wear cache, hot-line filter counts by line, hot list by plot, slot-program sampler -/
  wear : Tbl Nat
  hotFilter : Tbl Nat
  hotList : Tbl Nat
  sampler : Nat
  sampledSince : Nat
  wearNotIdle : List Nat
  /-- recorder plot list: those that hold a programmed slot, index to (plot, epoch); plots that replaced one of the format's; and replacements that wait
  for an erased spare (R443) -/
  recorders : Tbl (Nat × Nat)
  recPlots : Tbl Nat
  recWait : List Nat
  freshNext : Nat
  s0 : Nat
  logErases : Nat
deriving DecidableEq, Repr

/-- The log field (R135, R136, R157): what the part tracks of its journal ring, its stranded-line area and its checkpoint directory. -/
structure LogField where
  /-- ring position of the next append: data slots passed since the last format -/
  pos : Nat
  /-- ring position up to which the log plots ahead are erased -/
  room : Nat
  /-- data slots of the ring's open page so far, and of the stranded-line area's open page -/
  page : List (List Byte)
  strandPage : List (List Byte)
  /-- directory records written since the last format, and how many of them fit before the next erase -/
  dir : Nat
  dirRoom : Nat
  /-- the flush image area that the last restored image lies in (R213): none, or whether it is area B -/
  area : Option Bool
deriving DecidableEq, Repr

structure Drift where
  eff : Tbl Nat
  last : Nat
  gapNext : Bool
  railsOff : List Nat
  tMax : Tbl Int
  /-- channels with a media die sensor broken at some moment of the interval (R166) -/
  broke : List Nat
  hourly : Tbl (Nat × Nat)
  daily : Tbl (Nat × Nat)
  kdie : Tbl Int
  cur : List Nat
  old : List Nat
  /-- physical plots queued for refresh, in order, with 1 due, 2 urgent, 3 overdue -/
  queue : List (Nat × Nat)
  refreshing : List (Nat × Nat × Nat)
  overdueSeen : List Nat
  rewrite : List (Nat × Nat × Nat)
  /-- scrub cursor: plot position and page; none when no pass runs -/
  scrub : Option (Nat × Nat)
  /-- slots that applies have programmed in pages which an in-place refresh has still to reach (R180): plot, page, slot -/
  applied : List (Nat × Nat × Nat)
  /-- in-place refreshes that stand at the start of a page, with that page: stopped under R405, or to be restarted after a power loss (Table 06.4) -/
  refreshOn : Tbl Nat
  /-- plots that the running margin sweep has still to cover; none when no sweep runs -/
  margin : Option (List Nat)
  deltaPerMin : Tbl Nat
deriving DecidableEq, Repr

structure WriteBuf where
  salt : Nat
  frames : Tbl Frame
  /-- the second copies of the frames' directory words (R191); the first are the fields of `frames` -/
  dirCopy : Tbl Word
  order : Nat
  /-- frames in use have passed press and not yet fallen below it (R198) -/
  pressing : Bool
  leaves : Tbl Leaf
  /-- hold-up factor in force, and a higher one with the tick since which it has held (R207) -/
  f : Nat
  fUp : Option (Nat × Nat)
  image : Option Image
  /-- an image being written; where its next seal goes, and the slot; how many seals are out (R211, R214, R411) -/
  writing : Option Image
  sealing : Option (Nat × List Byte)
  sealed : Nat
  clean : Bool
  recovered : Bool
  anchors : List AnchorRec
  anchorNext : Nat
  anchorX : Nat
  anchorSince : Nat
  /-- an anchor checkpoint in progress (R217): X and its start ztime; and the anchor frames in use at step 1 not yet applied -/
  anchorRun : Option (Nat × Nat)
  anchorFrames : List Nat
  cRefFull : Nat
  whCm : Nat
  tablesSaved : Bool
  /-- lines of write-protected plots whose discarded write has still to advance its counter, with their domains (R160) -/
  discards : List (Nat × Nat)
deriving DecidableEq, Repr

structure HostIf where
  reqs : List Req
  nextReq : Nat
  fetches : List Fetch
  nextFetch : Nat
  /-- lines ended at ladder steps 2 to 4 since cold power-on (R336) -/
  corrected : Nat
  lds : Tbl Ld
  spdm : Tbl Spdm
  /-- GPF phase 2 requests not answered: port, and the number of the next request at its arrival (R205) -/
  gpfWait : List (Nat × Nat)
  /-- what is in force of HI_LD_CFG, HI_PORT_CFG and HI_CTL.owner_port (R324, R330, Table 12.6) -/
  ldCfg : Tbl Word
  portCfg : List Word
  ownerPort : Nat
deriving DecidableEq, Repr

structure Rick where
  salt : DWord
  lines : Tbl CLine
  plru : Tbl (BitVec 15)
  evb : List EvLine
  aft : Tbl (List CLine)
  maint : Option Maint
  commons : Memory
  /-- bytes of Commons that a parity error left bad (Table 09.7), and Rick errors corrected since cold power-on (R336) -/
  badBytes : List Nat
  corrected : Nat
  /-- a directory word was unresolved since cold power-on (Table 12.5) -/
  dirLost : Bool
  /-- the Commons size in force (R246) -/
  commonsMib : Nat
deriving DecidableEq, Repr

structure Gorse where
  /-- domain key sets, by 2 * domain + generation -/
  keys : Tbl KeySet
  /-- counter nodes as the part last made them: L0 and L1 (its copies on the media), L2 to L4 (Rick), crown (Table 10.4) -/
  l0 : Tbl Node
  l1 : Tbl Node
  l2 : Tbl Node
  l3 : Tbl Node
  l4 : Tbl Node
  crown : Tbl Node
  /-- how often every L3, L4 and crown node has been advanced as a whole (R278) -/
  bumps : Nat
  nodeGen : Bool
  /-- the node key generation advances at the next checkpoint (Table 10.6) -/
  nodeGenDue : Bool
  regrafts : List Regraft
  rotation : Option Rotation
  rotWait : List Nat
  /-- unclean sweep: next L0 index -/
  sweep : Option Nat
  /-- L0 nodes at or above it that an apply below them has had swept already (R294) -/
  swept : List Nat
  unverifiable : List (Nat × Nat)
  /-- epoch seeded at format: the major of a node never listed -/
  seedEpoch : Nat
  /-- certificate chains of slots 1 to 7 (R298) -/
  chains : Tbl (List Byte)
  /-- keys drawn from the DRBG so far -/
  draws : Nat
deriving DecidableEq, Repr

structure Regul where
  buckets : Tbl Bucket
  cnts : Tbl DomCnt
  guardLatch : List Word
  domLatch : List Word
  lvlSum : Nat
  lvlTicks : Nat
  lvlMean : Nat
  /-- G in force, and G as last recomputed (R311, R315) -/
  g : Nat
  gNew : Nat
  /-- a higher G and the tick since which it has held (R315) -/
  gUp : Option (Nat × Nat)
  escal : Tbl Nat
deriving DecidableEq, Repr

/-- The performance monitor (R456 to R458): counter values by 16*bank + counter, slot counts by 9*channel + category, and the
counter whose overflow waits for a completing request with the completions since (R458). -/
structure Perf where
  vals : Tbl Nat
  slots : Tbl Nat
  armed : Option (Nat × Nat)
deriving DecidableEq, Repr

/-- THE STATE of the block. -/
structure State where
  /-- commands waiting, first in first out (the model's queue) -/
  pending : List Instr
  /-- registers by BAR0 offset; an unlisted register holds its reset value -/
  regs : Tbl Word
  latches : List HalfLatch
  holds : List HalfLatch
  tb : TimeBase
  media : Media
  codes : Codes
  tp : Plots
  log : LogField
  df : Drift
  wb : WriteBuf
  host : HostIf
  rk : Rick
  gx : Gorse
  qs : Regul
  lark : Lark
  sw : Sward
  pw : Power
  th : Thermal
  ev : Recorder
  mt : Meter
  pm : Perf
  sd : Seed
  pins : Pins
  out : List Out
  /-- MODEL'S OWN: how many free values have been drawn; Config's opaque functions are applied to it -/
  free : Nat
deriving DecidableEq, Repr

/-- Why a step stops: no command of the table stops this machine, so there is no fault. -/
inductive Fault
deriving DecidableEq, Repr

/-- Why a command has no meaning in the model. -/
inductive Refusal where
  /-- Raised by exec's arm of a command that is not modelled yet (none in this model's final form). SAFE. -/
  | notModelled (mnemonic : String)
deriving DecidableEq, Repr

/-- The answer of a meaning. -/
abbrev Answer := Host.Outcome State Fault Refusal

/-- The part right after VDD_AON has first risen with a Seed store that was never written: every register at its reset value
(R507), every engine empty. DESIGN CHOICE (notes/assumptions): the values of what is no register and has no reset value in the
spec (counts and lists empty, pins at their inactive level). -/
def State.reset : State :=
  { pending := [], regs := [], latches := [], holds := []
    tb := { ztime := 0, tick := 0, slewFrac := 0, absorb := none, agree := none, edgeTick := none, edgeUsed := false, edgeGoal := 0, fabricTick := none
            inPhase := 0, lockedUs := 0, ppsSince := none, fabricSince := none, primarySeen := false, wasLocked := false
            ignoring := false, minuteUnlocked := true, driftUnlocked := true, hourDue := false, leapArmed := 0, leapAt := 0, stepTop := 0, leapTaken := false, stale := [0], started := [], deferred := []
            lastSave := 0 }
    media := { chans := [], identified := [], mixedReported := false }
    codes := { deltas := [], marked := [], rebuilding := [], markWait := [], jobs := [], nextJob := 0 }
    tp := { map := [], nodeMap := [], plots := [], migs := [], migQueue := [], erasing := [], eraseFailed := [], nextSeq := 1
            unverified := [], verified := [], ckptA := none, ckptB := none, ckptRun := none, formatHour := 0, strandIdx := [], strandFill := [], strandHour := []
            wear := [], hotFilter := [], hotList := [], sampler := 0, sampledSince := 0, wearNotIdle := []
            recorders := [], recPlots := [], recWait := [], freshNext := 0, s0 := 0, logErases := 0 }
    log := { pos := 0, room := 0, page := [], strandPage := [], dir := 0, dirRoom := 0, area := none }
    df := { eff := [], last := 0, gapNext := false, railsOff := [], tMax := [], broke := [], hourly := [], daily := [], kdie := []
            cur := [], old := [], queue := [], refreshing := [], refreshOn := [], overdueSeen := [], rewrite := [], scrub := none
            applied := [], margin := none, deltaPerMin := [] }
    wb := { salt := 0, frames := [], dirCopy := [], order := 0, pressing := false, leaves := [], f := 0, fUp := none, image := none, writing := none, sealing := none, sealed := 0
            clean := true, recovered := false, anchors := [], anchorNext := 1, anchorX := 0, anchorSince := 0
            anchorRun := none, anchorFrames := [], cRefFull := 0, whCm := 0, tablesSaved := false, discards := [] }
    host := { reqs := [], nextReq := 0, fetches := [], nextFetch := 0, corrected := 0, lds := [], spdm := [], gpfWait := [], ldCfg := [], portCfg := [0x50, 0x50], ownerPort := 0 }
    rk := { salt := 0, lines := [], plru := [], evb := [], aft := [], maint := none
            commons := [], badBytes := [], corrected := 0, dirLost := false, commonsMib := 16 }
    gx := { keys := [], l0 := [], l1 := [], l2 := [], l3 := [], l4 := [], crown := [], bumps := 0, nodeGen := false, nodeGenDue := false, regrafts := [], rotation := none
            rotWait := [], sweep := none, swept := [], unverifiable := [], seedEpoch := 0, chains := [], draws := 0 }
    qs := { buckets := [], cnts := [], guardLatch := [], domLatch := [], lvlSum := 0, lvlTicks := 0, lvlMean := 0
            g := 0, gNew := 0, gUp := none, escal := [] }
    lark := { taken := none, lastMb := 35, auths := [], failRun := [], lockout := [], longOp := none, act := none
              dirSeq := [(0, 1, false)], slotA := { factory := true, bytes := [] }
              slotB := { factory := false, bytes := [] }
              notices := [], kept := [], fwRunning := false, scheduled := false }
    sw := { ports := [], lowUid := 0, rootPort := none, links := [], outstanding := [], nextSeq := 1, early := [], ackWait := [], bitmapLost := false, resyncLine := 0
            resyncUnacked := [], ids := [], ext := [], whole := false, tree := [], peerNames := false, peerLeads := false, clash := false, resetting := false, fwd := [], armWait := [], confirmed := [], cuts := [], originators := [], reports := [], snaps := []
            barrierArrived := [], barrier := 0, held := [], fwdSeen := [], lastAck := 0, noCut := [], sends := [], peerBusy := [], migState := 0, migDom := 0, migNode := 0, migDst := 0, migSource := false
            migSnap := none, migPool := 0, migSeq := 0, lastKeepalive := 0 }
    pw := { after := .stay, retries := [], lowRun := [], highRun := [], wakeLatched := false
            groupsDown := [], huTest := none, huLow := 0, huHigh := 0, huTrend := none, huDue := none, faultHold := false, since := 0, chanTick := [], offTick := 0, faultTick := 0 }
    th := { sensors := [], rateHold := [], graceEnd := false, requestAt := 0, bgAt := 0, stepAt := 0, tempTick := [] }
    ev := { staging := [], ring := [], archive := [], archived := 0, page := [], ringAt := 0, lostSince := 0, lastRing := none, marks := [], latched := none
            next := 0, covered := 0 }
    mt := { open_ := [], firstMinute := 0, minutes := 1, gap := false, coalesced := false, holdover := true, units := []
            tail := 0, closing := [], newest := [], marked := 0, gaps := [], freed := 0, page := [], headPage := [], portCmd := none, portPos := 0, cut := false, coalescing := false, next := 0, covered := 0 }
    pm := { vals := [], slots := [], armed := none }
    sd := { queue := [], slots := [], frozen := [], regMoved := [], wornPlaces := [], wornOn := [], spread := [], moved := [], schedule := none, profile := []
            ownerData := [], keyBlobs := [], pagesRelocated := [], reserveUsed := 0, unread := [], profileLost := false, crownLostA := false, crownLostB := false }
    pins := { sqEn := 0, sqPg := 0, faultDrive := false, faultIn := false, thermtripLow := false, pwrFailLow := false
              perstLow0 := false, perstLow1 := false, perstAt0 := 0, perstAt1 := 0, lngRstN := 0, strap := 0, mtrCsHigh := true }
    out := []
    free := 0 }

end Sys2Proof.Machine
end

