-- ==== Sys2Proof/Machine/Tbl.lean ====
section
/-! DEFINITION. Machine/Tbl.lean: the sparse tables and byte memories of State, and the bit-field and number helpers of the
whole model. Every table is read and written through `Tbl.get` and `Tbl.set` only, so it keeps its canonical form. -/

namespace Sys2Proof.Machine

section
variable {α : Type} [DecidableEq α]

/-- What key `k` of table `t` holds; `d k` where it is not listed. -/
def Tbl.get (d : Nat → α) : Tbl α → Nat → α
  | [], k => d k
  | (j, v) :: t, k => if k < j then d k else if k = j then v else Tbl.get d t k

/-- Put `v` at key `k`: the default value removes the entry. (What is dropped after a removal is empty in canonical form.) -/
def Tbl.set (d : Nat → α) : Tbl α → Nat → α → Tbl α
  | [], k, v => if v = d k then [] else [(k, v)]
  | (j, w) :: t, k, v =>
    if k < j then (if v = d k then (j, w) :: t else (k, v) :: (j, w) :: t)
    else if k = j then (if v = d k then t.dropWhile (fun e => decide (e.1 ≤ k)) else (k, v) :: t)
    else (j, w) :: Tbl.set d t k v

/-- Change what key `k` holds. -/
def Tbl.upd (d : Nat → α) (t : Tbl α) (k : Nat) (f : α → α) : Tbl α :=
  Tbl.set d t k (f (Tbl.get d t k))

/-- Canonical form: keys above `lo` strictly rising, and no entry equal to its default. -/
def Tbl.wfFrom (d : Nat → α) : Nat → Tbl α → Bool
  | _, [] => true
  | lo, (k, v) :: t => decide (lo ≤ k) && (decide (v ≠ d k) && Tbl.wfFrom d (k + 1) t)

/-- Canonical form of a table. -/
def Tbl.wf (d : Nat → α) (t : Tbl α) : Bool := Tbl.wfFrom d 0 t

/-- Partial tables: what key `k` holds, if anything. -/
def Tbl.find : Tbl α → Nat → Option α
  | [], _ => none
  | (j, v) :: t, k => if k = j then some v else Tbl.find t k

/-- Partial tables: insert or replace. -/
def Tbl.put : Tbl α → Nat → α → Tbl α
  | [], k, v => [(k, v)]
  | (j, w) :: t, k, v =>
    if k < j then (k, v) :: (j, w) :: t else if k = j then (k, v) :: t else (j, w) :: Tbl.put t k v

/-- Partial tables: remove. -/
def Tbl.del (t : Tbl α) (k : Nat) : Tbl α := t.filter (fun e => !decide (e.1 = k))

end

/-! ### Byte memories (Commons, owner data area): an unlisted byte is 0 -/

/-- What an unlisted byte reads as. -/
def Memory.blank (_ : Nat) : Byte := 0

/-- Read of one byte. -/
def Memory.read (m : Memory) (a : Nat) : Byte := Tbl.get Memory.blank m a

/-- Write of one byte. -/
def Memory.write (m : Memory) (a : Nat) (v : Byte) : Memory := Tbl.set Memory.blank m a v

/-- Bytes at consecutive addresses. -/
def Memory.writeBytes : Memory → Nat → List Byte → Memory
  | m, _, [] => m
  | m, a, b :: bs => Memory.writeBytes (Memory.write m a b) (a + 1) bs

/-- `n` bytes from address `a`. -/
def Memory.readBytes (m : Memory) (a n : Nat) : List Byte := (List.range n).map (fun i => Memory.read m (a + i))

/-- The canonical form of a memory. -/
def Memory.wf (m : Memory) : Bool := Tbl.wf Memory.blank m

/-! ### Numbers and bit fields -/

/-- Bits `hi` down to `lo` of a register value, as a number ([h:l], "Bit fields"). -/
def bits (v : Word) (hi lo : Nat) : Nat := v.toNat / 2 ^ lo % 2 ^ (hi + 1 - lo)

/-- A register value with bits `hi` to `lo` replaced by `x`. -/
def putBits (v : Word) (hi lo x : Nat) : Word :=
  BitVec.ofNat 32 (v.toNat - bits v hi lo * 2 ^ lo + x % 2 ^ (hi + 1 - lo) * 2 ^ lo)

/-- `a + n`, saturating at `top` (counters said to saturate). -/
def satAdd (a n top : Nat) : Nat := min (a + n) top

/-- Ceiling of a quotient. -/
def ceilDiv (a b : Nat) : Nat := (a + b - 1) / b

/-- Little-endian bytes of a number. -/
def leBytes : Nat → Nat → List Byte
  | 0, _ => []
  | n + 1, x => BitVec.ofNat 8 x :: leBytes n (x / 256)

/-- The number that little-endian bytes spell. -/
def leNat : List Byte → Nat
  | [] => 0
  | b :: bs => b.toNat + 256 * leNat bs

/-- Two's complement of an integer in `w` bits, as a number. -/
def twos (w : Nat) (x : Int) : Nat := (x % (2 ^ w : Nat)).toNat

/-- The integer that `w` bits stand for in two's complement. -/
def signed (w x : Nat) : Int := if x % 2 ^ w < 2 ^ (w - 1) then (x % 2 ^ w : Nat) else ((x % 2 ^ w : Nat) : Int) - (2 ^ w : Nat)

/-- A temperature code (R510). -/
def tempCode (t : Int) : Nat := if t < -64 then 0xC0 else if t > 191 then 0xBF else if t < 0 then (t + 256).toNat else t.toNat

/-- The temperature that a code stands for (R510). -/
def codeTemp (c : Nat) : Int := if c % 256 < 0xC0 then (c % 256 : Nat) else ((c % 256 : Nat) : Int) - 256

/-- Replace the element at index `i` of a list. -/
def setAt {α : Type} : List α → Nat → α → List α
  | [], _, _ => []
  | _ :: xs, 0, v => v :: xs
  | x :: xs, n + 1, v => x :: setAt xs n v

/-- Bitwise sum of two byte strings. -/
def xorBytes (a b : List Byte) : List Byte := List.zipWith (· ^^^ ·) a b

/-- Number of elements that satisfy a test. -/
def countIf {α : Type} (p : α → Bool) (l : List α) : Nat := (l.filter p).length

end Sys2Proof.Machine
end

