-- ==== Sys2Proof/Machine/Crypto.lean ====
section
/-! DEFINITION. Machine/Crypto.lean: the named standards that the spec builds slots, tags and message authentication from:
AES-256 (FIPS 197), XTS (IEEE 1619), GHASH (SP 800-38D), SHA-256 and HMAC (FIPS 180-4, 198-1), and CRC-16 as R33 states it.
PRESUMED: the standards' own definitions, which the spec names and does not repeat. -/

namespace Sys2Proof.Machine

/-! ### AES-256 -/

/-- Product in GF(2^8) modulo `p` (bit 8 included), by `n` shift steps. -/
def gfMulBy (p : Nat) : Nat → Nat → Nat → Nat
  | 0, _, _ => 0
  | n + 1, a, b =>
    let a2 := if a * 2 < 256 then a * 2 else (a * 2) ^^^ p
    (if b % 2 = 1 then a else 0) ^^^ gfMulBy p n a2 (b / 2)

/-- Product in the AES field. -/
def aesMul (a b : Nat) : Nat := gfMulBy 0x11B 8 a b

/-- a^254, the AES inverse (0 for 0). -/
def aesInv (a : Nat) : Nat :=
  let a2 := aesMul a a
  let a4 := aesMul a2 a2
  let a8 := aesMul a4 a4
  let a16 := aesMul a8 a8
  let a32 := aesMul a16 a16
  let a64 := aesMul a32 a32
  let a128 := aesMul a64 a64
  aesMul a128 (aesMul a64 (aesMul a32 (aesMul a16 (aesMul a8 (aesMul a4 a2)))))

/-- Rotate a byte left. -/
def rotl8 (x n : Nat) : Nat := (x * 2 ^ n % 256) ||| (x / 2 ^ (8 - n))

/-- S-box. -/
def aesSub (a : Nat) : Nat :=
  let b := aesInv a
  b ^^^ rotl8 b 1 ^^^ rotl8 b 2 ^^^ rotl8 b 3 ^^^ rotl8 b 4 ^^^ 0x63

/-- Inverse S-box. -/
def aesUnsub (a : Nat) : Nat := aesInv (rotl8 a 1 ^^^ rotl8 a 3 ^^^ rotl8 a 6 ^^^ 0x05)

/-- Words 8.. of the key schedule, newest first, from the eight newest words (each 4 bytes). -/
def aesExpand : Nat → Nat → Nat → List (List Nat) → List (List Nat)
  | 0, _, _, acc => acc
  | n + 1, i, rcon, acc =>
    let prev := acc.headD []
    let back := acc.getD 7 []
    let t :=
      if i % 8 = 0 then
        (match prev with
         | [a, b, c, d] => [aesSub b ^^^ rcon, aesSub c, aesSub d, aesSub a]
         | _ => prev)
      else if i % 8 = 4 then prev.map aesSub
      else prev
    aesExpand n (i + 1) (if i % 8 = 0 then gfMulBy 0x11B 8 rcon 2 else rcon) (List.zipWith (· ^^^ ·) back t :: acc)

/-- Cut a list into pieces of 4. -/
def fours : Nat → List Nat → List (List Nat)
  | 0, _ => []
  | n + 1, l => l.take 4 :: fours n (l.drop 4)

/-- The 15 round keys of a 32-byte key, 16 bytes each. -/
def aesRoundKeys (key : List Nat) : List (List Nat) :=
  let ws := (aesExpand 52 8 1 (fours 8 key).reverse).reverse
  (List.range 15).map (fun r => ((ws.drop (4 * r)).take 4).flatten)

/-- Columns of the state after ShiftRows (column-major bytes). -/
def aesShift (s : List Nat) : List Nat := (List.range 16).map (fun i => s.getD ((i + 4 * (i % 4)) % 16) 0)

/-- Inverse of ShiftRows. -/
def aesUnshift (s : List Nat) : List Nat := (List.range 16).map (fun i => s.getD ((i + 16 - 4 * (i % 4)) % 16) 0)

/-- MixColumns with the coefficients of the first row (a, b, c, d). -/
def aesMix (a b c d : Nat) (s : List Nat) : List Nat :=
  (List.range 16).map (fun i =>
    let col := i / 4 * 4
    let g := fun k => s.getD (col + (i + k) % 4) 0
    aesMul a (g 0) ^^^ aesMul b (g 1) ^^^ aesMul c (g 2) ^^^ aesMul d (g 3))

/-- Add a round key. -/
def aesAdd (s k : List Nat) : List Nat := List.zipWith (· ^^^ ·) s k

/-- AES-256 encryption of one block of 16 bytes. -/
def aesEnc (key blk : List Nat) : List Nat :=
  match aesRoundKeys key with
  | [] => blk
  | k0 :: ks =>
    let mid := (ks.take 13).foldl (fun s k => aesAdd (aesMix 2 3 1 1 (aesShift (s.map aesSub))) k) (aesAdd blk k0)
    aesAdd (aesShift (mid.map aesSub)) (ks.getD 13 [])

/-- AES-256 decryption of one block of 16 bytes. -/
def aesDec (key blk : List Nat) : List Nat :=
  match (aesRoundKeys key).reverse with
  | [] => blk
  | k14 :: ks =>
    let mid := (ks.take 13).foldl (fun s k => aesMix 14 11 13 9 (aesAdd ((aesUnshift s).map aesUnsub) k)) (aesAdd blk k14)
    aesAdd ((aesUnshift mid).map aesUnsub) (ks.getD 13 [])

/-- The 32 bytes of a 256-bit key, least significant first. -/
def keyBytes (k : BitVec 256) : List Nat := (leBytes 32 k.toNat).map BitVec.toNat

/-- 16 bytes of a number, least significant first (R269: presented to AES least significant byte first). -/
def block16 (x : Nat) : List Nat := (leBytes 16 x).map BitVec.toNat

/-! ### XTS-AES-256 (IEEE 1619), a data unit of whole blocks -/

/-- The next tweak: multiplication by the primitive element of GF(2^128). -/
def xtsNext (t : Nat) : Nat := if t * 2 < 2 ^ 128 then t * 2 else (t * 2 % 2 ^ 128) ^^^ 0x87

/-- One pass over the blocks of a data unit. -/
def xtsBlocks (f : List Nat → List Nat) : Nat → Nat → List Nat → List Nat
  | 0, _, _ => []
  | n + 1, t, bs =>
    let tb := block16 t
    aesAdd (f (aesAdd (bs.take 16) tb)) tb ++ xtsBlocks f n (xtsNext t) (bs.drop 16)

/-- Number of a list of bytes, least significant first. -/
def natOf (bs : List Nat) : Nat := bs.foldr (fun b acc => b + 256 * acc) 0

/-- XTS encryption of a 64-byte line (R269). -/
def xtsEnc (k1 k2 : BitVec 256) (tweak : Nat) (line : List Byte) : List Byte :=
  (xtsBlocks (aesEnc (keyBytes k1)) 4 (natOf (aesEnc (keyBytes k2) (block16 tweak))) (line.map BitVec.toNat)).map (BitVec.ofNat 8)

/-- XTS decryption of a 64-byte line. -/
def xtsDec (k1 k2 : BitVec 256) (tweak : Nat) (ct : List Byte) : List Byte :=
  (xtsBlocks (aesDec (keyBytes k1)) 4 (natOf (aesEnc (keyBytes k2) (block16 tweak))) (ct.map BitVec.toNat)).map (BitVec.ofNat 8)

/-! ### GHASH (SP 800-38D) -/

/-- Number of a block in the bit order of GHASH: byte 0 most significant. -/
def beNat (bs : List Nat) : Nat := bs.foldl (fun acc b => acc * 256 + b) 0

/-- Product in GF(2^128) with the bits in GHASH order, `n` steps from the most significant bit of x. -/
def ghashMul : Nat → Nat → Nat → Nat
  | 0, _, _ => 0
  | n + 1, x, v =>
    (if x.testBit n then v else 0) ^^^ ghashMul n x (if v % 2 = 1 then (v / 2) ^^^ 0xE1000000000000000000000000000000 else v / 2)

/-- GHASH under `h` of whole blocks. -/
def ghash (h : Nat) (blocks : List (List Nat)) : Nat :=
  blocks.foldl (fun y b => ghashMul 128 (y ^^^ beNat b) h) 0

/-- The closing length block for 16 bytes of associated data and 64 bytes of text. -/
def ghashLen : List Nat := [0, 0, 0, 0, 0, 0, 0, 128, 0, 0, 0, 0, 0, 0, 2, 0]

/-- Bytes of a block given as a GHASH number, first byte first. -/
def beBytes : Nat → Nat → List Nat
  | 0, _ => []
  | n + 1, x => x / 256 ^ n % 256 :: beBytes n (x % 256 ^ n)

/-- The tag of a slot (R270), 64 bits. DEDUCED: blocks are byte strings, least significant byte first where numbered. -/
def slotTag (kt : BitVec 256) (tweak : Nat) (ct : List Byte) : Nat :=
  let k := keyBytes kt
  let h := beNat (aesEnc k (block16 0))
  let c := ct.map BitVec.toNat
  let s := beBytes 16 (ghash h [block16 tweak, c.take 16, (c.drop 16).take 16, (c.drop 32).take 16, (c.drop 48).take 16, ghashLen])
  natOf (aesAdd (aesEnc k (block16 (tweak ||| 2 ^ 127))) s) % 2 ^ 64

/-! ### SHA-256 and HMAC -/

def shaK : List Nat :=
  [0x428a2f98, 0x71374491, 0xb5c0fbcf, 0xe9b5dba5, 0x3956c25b, 0x59f111f1, 0x923f82a4, 0xab1c5ed5]
  ++ [0xd807aa98, 0x12835b01, 0x243185be, 0x550c7dc3, 0x72be5d74, 0x80deb1fe, 0x9bdc06a7, 0xc19bf174]
  ++ [0xe49b69c1, 0xefbe4786, 0x0fc19dc6, 0x240ca1cc, 0x2de92c6f, 0x4a7484aa, 0x5cb0a9dc, 0x76f988da]
  ++ [0x983e5152, 0xa831c66d, 0xb00327c8, 0xbf597fc7, 0xc6e00bf3, 0xd5a79147, 0x06ca6351, 0x14292967]
  ++ [0x27b70a85, 0x2e1b2138, 0x4d2c6dfc, 0x53380d13, 0x650a7354, 0x766a0abb, 0x81c2c92e, 0x92722c85]
  ++ [0xa2bfe8a1, 0xa81a664b, 0xc24b8b70, 0xc76c51a3, 0xd192e819, 0xd6990624, 0xf40e3585, 0x106aa070]
  ++ [0x19a4c116, 0x1e376c08, 0x2748774c, 0x34b0bcb5, 0x391c0cb3, 0x4ed8aa4a, 0x5b9cca4f, 0x682e6ff3]
  ++ [0x748f82ee, 0x78a5636f, 0x84c87814, 0x8cc70208, 0x90befffa, 0xa4506ceb, 0xbef9a3f7, 0xc67178f2]

/-- Rotate a 32-bit word right. -/
def ror (x n : Nat) : Nat := x / 2 ^ n ||| x * 2 ^ (32 - n) % 2 ^ 32

/-- Message schedule, newest first. -/
def shaSched : Nat → List Nat → List Nat
  | 0, w => w
  | n + 1, w =>
    let a := w.getD 14 0
    let b := w.getD 1 0
    let s0 := ror a 7 ^^^ ror a 18 ^^^ a / 8
    let s1 := ror b 17 ^^^ ror b 19 ^^^ b / 1024
    shaSched n ((w.getD 15 0 + s0 + w.getD 6 0 + s1) % 2 ^ 32 :: w)

/-- One round of the compression function. -/
def shaRound (st : List Nat) (kw : Nat) : List Nat :=
  match st with
  | [a, b, c, d, e, f, g, h] =>
    let s1 := ror e 6 ^^^ ror e 11 ^^^ ror e 25
    let ch := (e &&& f) ^^^ ((e ^^^ 0xffffffff) &&& g)
    let t1 := (h + s1 + ch + kw) % 2 ^ 32
    let s0 := ror a 2 ^^^ ror a 13 ^^^ ror a 22
    let mj := (a &&& b) ^^^ (a &&& c) ^^^ (b &&& c)
    [(t1 + s0 + mj) % 2 ^ 32, a, b, c, (d + t1) % 2 ^ 32, e, f, g]
  | _ => st

/-- Compress one 64-byte block. -/
def shaBlock (st blk : List Nat) : List Nat :=
  let w := (shaSched 48 ((fours 16 blk).map beNat).reverse).reverse
  let out := (List.zipWith (· + ·) shaK w).foldl shaRound st
  List.zipWith (fun x y => (x + y) % 2 ^ 32) st out

/-- Process `n` blocks. -/
def shaBlocks : Nat → List Nat → List Nat → List Nat
  | 0, st, _ => st
  | n + 1, st, m => shaBlocks n (shaBlock st (m.take 64)) (m.drop 64)

/-- SHA-256. -/
def sha256 (m : List Nat) : List Nat :=
  let pad := (119 - m.length % 64) % 64
  let p := m ++ [0x80] ++ List.replicate pad 0 ++ beBytes 8 (8 * m.length)
  let st := shaBlocks (p.length / 64)
    [0x6a09e667, 0xbb67ae85, 0x3c6ef372, 0xa54ff53a, 0x510e527f, 0x9b05688c, 0x1f83d9ab, 0x5be0cd19] p
  (st.map (beBytes 4)).flatten

/-- HMAC-SHA-256. -/
def hmac (key m : List Nat) : List Nat :=
  let k0 := if 64 < key.length then sha256 key else key
  let k := k0 ++ List.replicate (64 - k0.length) 0
  sha256 (k.map (· ^^^ 0x5c) ++ sha256 (k.map (· ^^^ 0x36) ++ m))

/-- One derived key of 256 bits (Table 10.1): SP 800-108 counter mode, one iteration, label and context numbers. -/
def kdf (label : List Nat) (ctx idx : Nat) : BitVec 256 :=
  BitVec.ofNat 256 (natOf (hmac (keyBytes Config.rootKey) ([0, 0, 0, 1] ++ label ++ [0] ++ (block16 ctx) ++ [idx] ++ [0, 0, 1, 0])))

/-! ### CRC -/

/-- CRC-16 step over one byte, most significant bit first (R33). -/
def crc16Byte (poly : Nat) : Nat → Nat → Nat
  | 0, c => c
  | n + 1, c => crc16Byte poly n (if c < 2 ^ 15 then c * 2 else (c * 2 % 2 ^ 16) ^^^ poly)

/-- CRC-16 with a polynomial and initial value 0xFFFF, most significant bit first, no final xor (R33). -/
def crc16 (poly : Nat) (bs : List Byte) : Nat :=
  bs.foldl (fun c b => crc16Byte poly 8 (c ^^^ b.toNat * 256)) 0xFFFF

end Sys2Proof.Machine
end

