-- ==== Sys2Proof/Machine/Codes.lean ====
section
/-! DEFINITION. Machine/Codes.lean: the two codes of 04 over GF(2^8): the line code RS(80,73) (R97, R98) and the page code
RS(68,64) (R102, R116). Symbols are numbers below 256. -/

namespace Sys2Proof.Machine

/-- Product in GF(2^8) with x^8 + x^4 + x^3 + x^2 + 1 (R97). -/
def gfMul : Nat → Nat → Nat → Nat
  | 0, _, _ => 0
  | n + 1, a, b => (if b % 2 = 1 then a else 0) ^^^ gfMul n (if a * 2 < 256 then a * 2 else (a * 2) ^^^ 0x11D) (b / 2)

/-- Product of two symbols. -/
def gmul (a b : Nat) : Nat := gfMul 8 a b

/-- alpha^n, alpha = 0x02. -/
def gexp : Nat → Nat
  | 0 => 1
  | n + 1 => if gexp n * 2 < 256 then gexp n * 2 else (gexp n * 2) ^^^ 0x11D

/-- a^(2^k - 2 ...): the inverse, a^254. -/
def ginv (a : Nat) : Nat :=
  let a2 := gmul a a
  let a4 := gmul a2 a2
  let a8 := gmul a4 a4
  let a16 := gmul a8 a8
  let a32 := gmul a16 a16
  let a64 := gmul a32 a32
  let a128 := gmul a64 a64
  gmul a128 (gmul a64 (gmul a32 (gmul a16 (gmul a8 (gmul a4 a2)))))

/-- Locators of positions 0 to 79, computed once. -/
def locators : List Nat := (List.range 80).map (fun n => gexp (n % 255))

/-- One syndrome: the value at x of the word as a polynomial, sum of c_n * (alpha^n)^k (R97, R102). -/
def syndrome (word : List Nat) (k : Nat) : Nat :=
  (List.zipWith (fun c n => gmul c (gexp (n * k % 255))) word (List.range word.length)).foldl (· ^^^ ·) 0

/-- The first `m` syndromes. -/
def syndromes (m : Nat) (word : List Nat) : List Nat := (List.range m).map (syndrome word)

/-- Gaussian elimination over GF(2^8): `n` columns of an augmented matrix to solve. -/
def gfSolve : Nat → List (List Nat) → Option (List Nat)
  | 0, _ => some []
  | n + 1, rows =>
    match rows.find? (fun r => r.headD 0 ≠ 0) with
    | none => none
    | some p =>
      let inv := ginv (p.headD 0)
      let piv := (p.drop 1).map (gmul inv)
      let rest := (rows.erase p).map (fun r => List.zipWith (fun x y => x ^^^ gmul (r.headD 0) y) (r.drop 1) piv)
      match gfSolve n rest with
      | none => none
      | some xs =>
        let v := (List.zipWith gmul piv xs).foldl (· ^^^ ·) (piv.getLastD 0)
        some (v :: xs)

/-- Symbols at positions `pos` such that the syndromes of the word are zero, given the syndromes of the word with zeros there. -/
def fillSymbols (pos : List Nat) (syn : List Nat) : Option (List Nat) :=
  gfSolve pos.length ((List.range pos.length).map (fun k => pos.map (fun n => gexp (n * k % 255)) ++ [syn.getD k 0]))

/-- Put symbols at positions. -/
def putSymbols (word : List Nat) : List Nat → List Nat → List Nat
  | p :: ps, v :: vs => putSymbols (setAt word p v) ps vs
  | _, _ => word

/-- Coefficients of the product of (x - Y) over the erasure locators, constant term first. -/
def erasurePoly (pos : List Nat) : List Nat :=
  pos.foldl (fun g n =>
    let y := gexp (n % 255)
    List.zipWith (· ^^^ ·) (0 :: g) (g.map (gmul y) ++ [0])) [1]

/-- Syndromes with the erasures' part removed: T_j = sum g_i S_(j+i). -/
def forneySyn (g syn : List Nat) : List Nat :=
  (List.range (syn.length + 1 - g.length)).map (fun j =>
    (List.zipWith gmul g (syn.drop j)).foldl (· ^^^ ·) 0)

/-- Positions of `e` errors from the reduced syndromes, if the locator polynomial of degree `e` has `e` roots among `len`. -/
def errorPositions (len e : Nat) (t : List Nat) : Option (List Nat) :=
  match gfSolve e ((List.range e).map (fun j => (List.range (e + 1)).map (fun l => t.getD (j + l) 0))) with
  | none => none
  | some c =>
    let roots := (List.range len).filter (fun n =>
      (List.zipWith (fun cl l => gmul cl (gexp (n * l % 255))) c (List.range e)).foldl (· ^^^ ·) (gexp (n * e % 255)) = 0)
    if roots.length = e then some roots else none

/-- Try to decode with exactly `e` errors at positions outside the erasures. -/
def tryErrors (m : Nat) (word : List Nat) (er : List Nat) (e : Nat) : Option (List Nat) :=
  let w0 := putSymbols word er (er.map (fun _ => 0))
  let syn := syndromes m w0
  let pos := if e = 0 then some [] else errorPositions word.length e (forneySyn (erasurePoly er) syn)
  match pos with
  | none => none
  | some ps =>
    let all := er ++ ps.filter (fun p => p ∉ er)
    let w1 := putSymbols w0 all (all.map (fun _ => 0))
    match fillSymbols all (syndromes m w1) with
    | none => none
    | some vs =>
      let w2 := putSymbols w1 all vs
      if syndromes m w2 = List.replicate m 0 then some w2 else none

/-- Bounded-distance decode with `m` check symbols and flagged erasures: the first `e` with 2e + f at most `m` that fits. -/
def decodeWord (m : Nat) (word : List Nat) (er : List Nat) : Option (List Nat) :=
  (List.range (m / 2 + 1)).findSome? (fun e => if 2 * e + er.length ≤ m then tryErrors m word er e else none)

/-! ### The line code -/

/-- A slot of 80 bytes as symbols. -/
def symbols (slot : List Byte) : List Nat := slot.map BitVec.toNat

/-- Line decode of a slot (R98): the corrected 80 bytes, or a decode failure. `er` are the flagged byte positions. -/
def lineDecode (slot : List Byte) (er : List Nat) : Option (List Byte) :=
  if slot.length = 80 then (decodeWord 7 (symbols slot) er).map (List.map (BitVec.ofNat 8)) else none

/-- The seven check bytes 73 to 79 of bytes 0 to 72 (R97). -/
def checkBytes (body : List Byte) : List Byte :=
  match fillSymbols [73, 74, 75, 76, 77, 78, 79] (syndromes 7 (symbols body ++ List.replicate 7 0)) with
  | some vs => vs.map (BitVec.ofNat 8)
  | none => List.replicate 7 0

/-- A slot from ciphertext, tag and meta byte (Table 04.1). -/
def buildSlot (ct : List Byte) (tag : Nat) (meta_ : Byte) : List Byte :=
  let body := ct ++ leBytes 8 tag ++ [meta_]
  body ++ checkBytes body

/-- The erased slot: 80 bytes of 0x00 (R94). -/
def erasedSlot : List Byte := List.replicate 80 0

/-- A poison slot: meta 0x80 and zeros, with valid check bytes (R120). -/
def poisonSlot : List Byte := buildSlot (List.replicate 64 0) 0 0x80

/-! ### Fields of a slot (Tables 04.1, 04.2) -/

def slotCipher (sl : List Byte) : List Byte := sl.take 64
def slotTagOf (sl : List Byte) : Nat := leNat ((sl.drop 64).take 8)
def slotMeta (sl : List Byte) : Nat := (sl.getD 72 0).toNat
def metaPoison (m : Nat) : Bool := m.testBit 7
def metaFormat (m : Nat) : Nat := m / 32 % 4
def metaPhase (m : Nat) : Bool := m.testBit 3
def metaKeyGen (m : Nat) : Bool := m.testBit 2
/-- The reserved bits 1:0 of a meta byte are zero (R94, R96). -/
def metaReservedOk (m : Nat) : Bool := m % 4 = 0

/-- Meta byte of a data slot. -/
def dataMeta (anchor phase gen : Bool) : Byte :=
  BitVec.ofNat 8 (32 + (if anchor then 16 else 0) + (if phase then 8 else 0) + (if gen then 4 else 0))

/-- Meta byte of a counter-node slot (R275). -/
def nodeMeta (phase gen : Bool) : Byte := BitVec.ofNat 8 (64 + (if phase then 8 else 0) + (if gen then 4 else 0))

/-! ### The page code -/

/-- Parity slots 64 to 67 of 64 data slots, column by column (R102, R105). -/
def pageParity (data : List (List Byte)) : List (List Byte) :=
  let cols := (List.range 80).map (fun n =>
    let word := data.map (fun sl => (sl.getD n 0).toNat) ++ [0, 0, 0, 0]
    (fillSymbols [64, 65, 66, 67] (syndromes 4 word)).getD [0, 0, 0, 0])
  (List.range 4).map (fun k => cols.map (fun c => BitVec.ofNat 8 (c.getD k 0)))

/-- The parity that one data slot `s` with the given bytes contributes: g[k][s] times the bytes (R106). -/
def parityOf (s : Nat) (diff : List Byte) : List (List Byte) :=
  pageParity ((List.range 64).map (fun i => if i = s then diff else erasedSlot))

/-- Step 4 (R116): solve the erased page slots `er` of a page whose other slots are given. None: more than 4 erasures, or a
column whose leftover syndromes disagree (event 0x2106). -/
def pageSolve (slots : List (List Byte)) (er : List Nat) : Option (List (List Byte)) :=
  if er.length ≤ 4 then
    let cols := (List.range 80).map (fun n =>
      let w0 := putSymbols (slots.map (fun sl => (sl.getD n 0).toNat)) er (er.map (fun _ => 0))
      match fillSymbols er (syndromes 4 w0) with
      | none => none
      | some vs =>
        let w := putSymbols w0 er vs
        if syndromes 4 w = [0, 0, 0, 0] then some w else none)
    if cols.all Option.isSome then
      some ((List.range 68).map (fun s => cols.map (fun c => BitVec.ofNat 8 ((c.getD []).getD s 0))))
    else none
  else none

end Sys2Proof.Machine
end

