-- ==== Sys2Proof/Machine/Regmap.lean ====
section
/-! DEFINITION. Machine/Regmap.lean: the register map of BAR0 (20_register_map, and the field tables of every chapter): which
fields a register has, with access code (Table 00.2), reset value, keep class (Table 00.3) and the values it may take (R9). -/

namespace Sys2Proof.Machine

/-- Access codes (Table 00.2). -/
inductive Acc where
  | ro | rw | w1c | wo | rwp | rwa | rc
deriving DecidableEq, Repr

/-- Keep classes (Table 00.3). -/
inductive Keep where
  | p | a | c | l | x
deriving DecidableEq, Repr

/-- The encodings a field may take; every other one is reserved (R9). -/
inductive Legal where
  | any
  | range (lo hi : Nat)
  | signedMin (lo : Int)      -- signed 8-bit values of at least `lo`
  | ranges (rs : List (Nat × Nat))
deriving DecidableEq, Repr

/-- One field of a register: bits [hi:lo], access, reset value, keep class, legal encodings. -/
structure Fld where
  hi : Nat
  lo : Nat
  acc : Acc
  rst : Nat
  keep : Keep
  legal : Legal := .any
deriving DecidableEq, Repr

/-- A field that may take any encoding. -/
def fld (hi lo : Nat) (acc : Acc) (rst : Nat) (keep : Keep) : Fld := ⟨hi, lo, acc, rst, keep, .any⟩

/-- A field with reserved encodings: those outside `a` to `b`. -/
def fldIn (hi lo : Nat) (acc : Acc) (rst : Nat) (keep : Keep) (a b : Nat) : Fld := ⟨hi, lo, acc, rst, keep, .range a b⟩

/-- May the field take this encoding (R9)? -/
def Legal.ok : Legal → Nat → Bool
  | .any, _ => true
  | .range a b, x => decide (a ≤ x) && decide (x ≤ b)
  | .signedMin lo, x => decide (lo ≤ signed 8 x)
  | .ranges rs, x => rs.any (fun r => decide (r.1 ≤ x) && decide (x ≤ r.2))

/-- A whole register of 32 bits with one access code. -/
def whole (acc : Acc) (keep : Keep) : List Fld := [fld 31 0 acc 0 keep]

/-! ### Block bases (Table 20.1) -/

def GLB : Nat := 0x0
def TB : Nat := 0x10000
def MC : Nat := 0x20000
def CD : Nat := 0x50000
def TP : Nat := 0x60000
def DF : Nat := 0x70000
def WP : Nat := 0x80000
def RP : Nat := 0x90000
def RK : Nat := 0xA0000
def GX : Nat := 0xB0000
def QD : Nat := 0xC0000
def HI : Nat := 0xE0000
def CP : Nat := 0xF0000
def SW : Nat := 0x100000
def PW : Nat := 0x110000
def SQ : Nat := 0x118000
def TH : Nat := 0x120000
def EV : Nat := 0x130000
def MT : Nat := 0x138000
def PM : Nat := 0x140000
def SD : Nat := 0x150000
def QS : Nat := 0x160000

/-- Entries of DF_AF at reset (R167). -/
def dfAfReset : List Nat :=
  [1, 1, 1, 1, 1, 1, 1, 1, 1, 1, 1, 1, 1, 1, 1, 1]
  ++ [1, 1, 1, 1, 1, 1, 1, 1, 1, 1, 1, 1, 1, 1, 1, 1]
  ++ [1, 1, 1, 1, 1, 1, 1, 1, 1, 1, 1, 1, 1, 1, 1, 1]
  ++ [1, 1, 1, 1, 1, 1, 1, 1, 1, 1, 1, 1, 1, 1, 1, 1]
  ++ [1, 1, 1, 1, 1, 1, 1, 1, 1, 1, 1, 1, 1, 1, 1, 1]
  ++ [1, 1, 1, 1, 1, 1, 1, 1, 1, 1, 1, 1, 1, 1, 1, 1]
  ++ [1, 1, 1, 1, 1, 1, 1, 1, 1, 1, 1, 1, 1, 1, 1, 1]
  ++ [1, 2, 2, 2, 2, 3, 3, 4, 4, 5, 6, 7, 8, 10, 12, 14]
  ++ [16, 19, 23, 27, 32, 38, 44, 52, 61, 71, 84, 98, 115, 134, 157, 183]
  ++ [213, 248, 288, 334, 388, 450, 521, 603, 697, 805, 929, 1071, 1233, 1419, 1631, 1873]
  ++ [2149, 2464, 2822, 3229, 3692, 4218, 4814, 5490, 6256, 7123, 8103, 9210, 10461, 11871, 13462, 15253]
  ++ [17269, 19537, 22086, 24948, 28160, 31762, 35798, 40318, 45376, 51032, 57352, 64409, 72285, 81067, 90855, 101755]
  ++ [113886, 127379, 142376, 159034, 177527, 198043, 220789, 245991, 273899, 304784, 338943, 376700, 418410, 464460, 515272, 571305]
  ++ [633061, 701086, 775975, 858374, 948987, 1048576, 1157974, 1278080, 1409874, 1554414, 1712853, 1886434, 2076509, 2284536, 2512098, 2760902]
  ++ [3032796, 3329776, 3653997, 4007786, 4393653, 4814304, 5272659, 5771860, 6315294, 6906605, 7549718, 8248849, 9008535, 9833650, 10729430, 11701497]
  ++ [12755885, 13899070, 15137993, 16480098, 17933361, 19506325, 21208136, 23048586, 25038149, 27188026, 29510195, 32017452, 34723470, 37642847, 40791168, 44185062]
/-- Global and reset registers (Tables 20.8 to 20.10, 18.7, 18.8). GLB_REV.rev_id is Config.revIsB0's (R3). -/
def glbFields (o : Nat) : List Fld :=
  if o = 0x000 then [fld 31 16 .ro 0x9400 .x, fld 15 0 .ro 0x1F7E .x]
  else if o = 0x004 then [fld 23 16 .ro 0x01 .x, fld 15 8 .ro 0x03 .x, fld 7 0 .ro 0xA0 .x]
  else if o = 0x008 then [fld 7 0 .ro 0 .a]
  else if o = 0x00C then [fld 31 0 .rw 0 .c]
  else if o = 0x010 then [fld 31 31 .w1c 0 .a, fld 25 24 .ro 0 .a, fld 23 23 .ro 0 .a, fld 22 22 .ro 0 .a, fld 20 0 .ro 0 .a]
  else if o = 0x014 then [fld 31 16 .rc 0 .a, fld 15 0 .rc 0 .a]
  else if o = 0x100 then [fld 31 31 .rwa 0 .x, fld 30 30 .rwa 0 .x, fld 29 29 .rwa 0 .x, fld 0 0 .rwp 0 .p]
  else if o = 0x104 then [fld 15 8 .ro 0 .a, fld 3 0 .ro 0 .a]
  else if o = 0x108 then [fld 31 24 .rc 0 .a, fld 23 16 .rc 0 .a, fld 15 8 .rc 0 .a, fld 7 0 .rc 0 .a]
  else []

/-- One word of a schedule entry (Table 02.6, R52): entry 0 is fixed except for its window. -/
def schedFields (n w : Nat) : List Fld :=
  let ac : Acc := if n = 0 then .ro else .rw
  if w = 0x00 then
    [fld 31 31 ac (if n = 0 then 1 else 0) .a, fld 30 30 ac 0 .a, fld 29 29 ac (if n = 0 then 1 else 0) .a, fld 28 28 .ro 0 .x,
     fld 23 16 .rc 0 .a, fld 7 0 ac (if n = 0 then 1 else 0) .a]
  else if w = 0x04 then [fld 31 0 ac (if n = 0 then 60000 else 0) .a]
  else if w = 0x08 then [fld 31 0 .rw (if n = 0 then 1000 else 0) .a]
  else if w = 0x10 ∨ w = 0x14 then [fld 31 0 ac 0 .a]
  else if w = 0x18 ∨ w = 0x1C then [fld 31 0 .ro 0 .a]
  else []

/-- Time base registers (Tables 02.8, 02.9). -/
def tbFields (o : Nat) : List Fld :=
  if o = 0x000 then [fld 11 11 .ro 0 .a, fld 10 10 .ro 0 .a, fld 9 9 .ro 0 .a, fld 8 8 .ro 0 .a, fld 5 4 .ro 0 .a, fld 2 0 .ro 0 .a]
  else if o = 0x004 then [fld 7 0 .rw 0x01 .a]
  else if o = 0x008 ∨ o = 0x00C then whole .ro .a
  else if o = 0x010 then [fld 17 16 .ro 0 .a, fld 15 0 .ro 0 .a]
  else if o = 0x014 then [fld 15 0 .rw 0 .a]
  else if o = 0x018 ∨ o = 0x01C ∨ o = 0x020 then whole .ro .a
  else if o = 0x024 then whole .rc .a
  else if o = 0x028 ∨ o = 0x02C then whole .rwp .p
  else if 0x1000 ≤ o ∧ o < 0x1800 then schedFields ((o - 0x1000) / 0x20) ((o - 0x1000) % 0x20)
  else []

/-- Registers of one media channel (Tables 03.15 to 03.19). -/
def mcFields (o : Nat) : List Fld :=
  if o = 0x000 then [fld 31 31 .wo 0 .x, fld 30 30 .rwp 0 .p, fldIn 23 16 .rw 0x40 .c 1 0xFF, fldIn 15 12 .rw 0x8 .c 1 0xF]
  else if o = 0x004 then [fld 27 24 .ro 0 .x, fld 23 16 .ro 0 .x, fld 15 8 .ro 0 .x, fld 3 3 .ro 0 .x, fld 2 0 .ro 0 .x]
  else if o = 0x008 then
    [fld 23 21 .rw 7 .c, fld 20 18 .rw 6 .c, fld 17 15 .rw 5 .c, fld 14 12 .rw 4 .c, fld 11 9 .rw 3 .c, fld 8 6 .rw 2 .c,
     fld 5 3 .rw 1 .c, fld 2 0 .rw 0 .c]
  else if o = 0x00C then [fldIn 15 0 .rw 0x14 .c 1 0xFFFF]
  else if o = 0x010 then [fldIn 15 8 .rw 0x0A .c 1 0xFF, fld 7 4 .rw 0x7 .c, fld 3 0 .rw 0x3 .c]
  else if o = 0x014 then [fld 26 16 .ro 0 .x, fld 8 0 .ro 0 .x]
  else if o = 0x018 then [fld 31 16 .rc 0 .a, fld 15 0 .rc 0 .a]
  else if o = 0x01C then [fld 31 16 .ro 0 .a, fld 15 0 .ro 0 .a]
  else if o = 0x020 then [fld 19 16 .ro 0 .a, fld 15 0 .ro 0 .a]
  else []

/-- Code registers (Tables 04.7 to 04.9). -/
def cdFields (o : Nat) : List Fld :=
  if o = 0x000 then
    [fld 8 8 .rw 1 .c, fld 3 3 .rw 1 .c, fld 2 2 .rw 1 .c, fld 1 1 .rw 1 .c, fld 0 0 .rw 1 .c]
  else if o = 0x004 then [fldIn 23 16 .rw 0xE0 .c 1 0xFF, fldIn 15 0 .rw 0xFA .c 0x0A 0xFA]
  else if o = 0x008 then [fld 16 0 .ro 0 .x]
  else if o = 0x00C then [fld 15 0 .ro 0 .x]
  else if 0x010 ≤ o ∧ o < 0x040 ∧ o % 4 = 0 then whole .rc .a
  else []

/-- Translation registers (Tables 05.15 to 05.18). -/
def tpFields (o : Nat) : List Fld :=
  if o = 0x000 then [fld 15 0 .rwa 0 .p]
  else if o = 0x004 then [fld 7 6 .ro 0 .x, fld 5 0 .ro 0 .x]
  else if o = 0x008 ∨ o = 0x00C ∨ o = 0x010 then [fld 23 0 .ro 0 .x]
  else if o = 0x014 then [fldIn 31 16 .rw 0x400 .c 0x100 0xFFFF, fldIn 15 0 .rw 0x1000 .c 1 0xFFFF]
  else if o = 0x018 then [fld 23 0 .rw 0x20000 .c]
  else if o = 0x01C then [fld 23 0 .ro 0 .x]
  else if o = 0x020 then [fld 31 24 .ro 0 .x, fld 23 16 .ro 0 .x, fld 15 8 .ro 0 .x, fld 7 0 .ro 0 .x]
  else if o = 0x024 then [fldIn 31 16 .rw 0x30 .c 1 0xFFFF, fldIn 15 8 .rw 0x20 .c 1 0xFF, fldIn 7 0 .rw 0x40 .c 8 0xFF]
  else if o = 0x028 then [fldIn 8 0 .rw 0x40 .c 1 0x100]
  else if o = 0x02C then [fld 8 0 .ro 0 .x]
  else if o = 0x030 ∨ o = 0x034 then whole .ro .x
  else if o = 0x038 then [fld 15 0 .ro 0 .x]
  else if o = 0x03C then [fld 20 0 .ro 0 .x]
  else if o = 0x040 ∨ o = 0x044 then [fld 23 0 .ro 0 .x]
  else if o = 0x048 then [fld 20 0 .ro 0 .x]
  else []

/-- Drift registers (Tables 06.5 to 06.7). -/
def dfFields (o : Nat) : List Fld :=
  if o = 0x000 then [fld 3 3 .rw 1 .c, fld 2 2 .rw 1 .c, fld 1 1 .rw 1 .c, fld 0 0 .rw 1 .c]
  else if o = 0x004 then
    [fld 6 6 .ro 0 .x, fld 5 5 .ro 0 .x, fld 4 4 .ro 0 .x, fld 3 3 .ro 0 .x, fld 2 2 .ro 0 .x, fld 1 1 .ro 1 .x, fld 0 0 .ro 1 .x]
  else if o = 0x008 then [fldIn 15 0 .rw 0x2D0 .c 1 0x2D0]
  else if o = 0x00C then [fldIn 7 0 .rw 0x4B .c 0x32 0x55, fld 31 8 .rw 0x800 .c]
  else if o = 0x010 then [⟨7, 0, .rw, 0x55, .c, .signedMin 0x37⟩]
  else if o = 0x014 then [fldIn 3 0 .rw 2 .c 1 0xF, fld 15 8 .rw 4 .c, fld 31 16 .rw 0x40 .c]
  else if o = 0x018 ∨ o = 0x01C ∨ o = 0x020 then [fld 23 0 .ro 0 .x]
  else if o = 0x024 then [fld 12 0 .ro 0 .x]
  else if o = 0x028 then whole .rc .a
  else if o = 0x02C then [fld 31 16 .ro 0 .x, fld 15 0 .ro 0 .x]
  else if o = 0x030 ∨ o = 0x034 then whole .ro .x
  else if 0x100 ≤ o ∧ o < 0x240 ∧ o % 4 = 0 then whole .ro .x
  else if 0x300 ≤ o ∧ o < 0x580 ∧ o % 4 = 0 then [fld 31 16 .ro 0 .x, fld 15 0 .ro 0 .x]
  else if 0x800 ≤ o ∧ o < 0xC00 ∧ o % 4 = 0 then [fld 31 0 .rwp (dfAfReset.getD ((o - 0x800) / 4) 0) .p]
  else []

/-- Write path registers (Tables 07.8 to 07.11). -/
def wpFields (o : Nat) : List Fld :=
  if o = 0x000 then [fldIn 15 0 .rw 0x7D0 .c 0 0xFA0, fldIn 31 24 .rw 0xC0 .c 0x40 0xFF]
  else if o = 0x004 then [fldIn 13 0 .rw 0x1800 .c 0x400 0x2000]
  else if o = 0x008 then [fld 13 0 .ro 0 .x, fld 15 14 .ro 0 .x, fld 29 16 .ro 0 .x]
  else if o = 0x00C then [fld 19 0 .ro 0 .x]
  else if o = 0x010 then [fldIn 15 0 .rw 0x64 .c 1 0xFFFF, fldIn 23 16 .rw 0xC0 .c 1 0xFF]
  else if o = 0x014 then [fld 18 0 .ro 0 .x]
  else if o = 0x018 then [fld 31 16 .rwp 0x2EE0 .p, fldIn 15 8 .rwp 0xE6 .p 1 0xFF, fldIn 7 0 .rwp 0x32 .p 1 0xFF]
  else if o = 0x01C then
    [fldIn 31 24 .rw 0x80 .c 0x20 0xFF, fldIn 23 16 .rw 0x14 .c 1 0xFF, fldIn 15 8 .rw 0x0A .c 1 0xFF, fld 7 3 .rw 0x17 .c,
     fldIn 2 1 .rw 0 .c 0 2, fld 0 0 .rw 1 .c]
  else if o = 0x020 ∨ o = 0x024 then [fld 23 0 .ro 0 .p]
  else if o = 0x028 then [fld 15 0 .ro 0 .x, fld 24 16 .ro 0 .x]
  else if o = 0x02C then
    [fld 11 8 .ro 0 .x, fld 4 4 .ro 0 .x, fld 3 3 .ro 0 .x, fld 2 2 .ro 0 .x, fld 1 1 .ro 1 .x, fld 0 0 .ro 0 .x]
  else if o = 0x030 then [fld 31 0 .ro 1 .p]
  else if o = 0x034 then [fld 31 0 .ro 0 .p]
  else if o = 0x038 then [fld 15 0 .ro 0 .x, fld 31 16 .ro 0 .x]
  else if o = 0x03C ∨ o = 0x040 ∨ o = 0x044 ∨ o = 0x048 then whole .ro .x
  else if o = 0x04C then [fld 31 16 .rc 0 .a, fld 15 0 .rc 0 .a]
  else if o = 0x050 then [fld 15 0 .ro 0 .x]
  else []

/-- Read path registers (Table 08.6). -/
def rpFields (o : Nat) : List Fld :=
  if o = 0x000 then [fldIn 2 0 .rw 2 .c 1 4]
  else if o = 0x004 ∨ o = 0x008 then [fld 12 0 .ro 0 .x, fld 28 16 .ro 0 .x]
  else if o = 0x00C then [fld 11 0 .rw 0 .c]
  else if 0x010 ≤ o ∧ o < 0x030 ∧ o % 4 = 0 then whole .ro .c
  else if 0x040 ≤ o ∧ o < 0x070 ∧ o % 4 = 0 then whole .rc .a
  else []

/-- Rick registers (Tables 09.9 to 09.12). -/
def rkFields (o : Nat) : List Fld :=
  if o = 0x000 then [fldIn 6 0 .rwp 0x10 .p 0x04 0x40]
  else if o = 0x004 then [fld 15 12 .rw 8 .c, fld 1 1 .rw 1 .c, fld 0 0 .rw 1 .c]
  else if o = 0x008 then [fld 19 0 .ro 0 .x]
  else if o = 0x00C then [fld 21 0 .ro 0 .x]
  else if 0x010 ≤ o ∧ o < 0x024 ∧ o % 4 = 0 then [fld 15 0 .rw 0xFFFF .c]
  else if o = 0x030 then whole .rw .c
  else if o = 0x034 then [fld 6 6 .rw 0 .c, fld 5 0 .rw 0 .c]
  else if o = 0x038 then [fld 31 31 .wo 0 .x, fldIn 19 16 .rw 0 .c 0 4, fld 15 0 .rw 0 .c]
  else if o = 0x03C then
    [fld 31 31 .ro 0 .x, fld 30 30 .w1c 0 .x, fld 29 26 .ro 0 .x, fld 25 24 .ro 0 .x, fld 23 23 .ro 0 .x, fld 22 22 .ro 0 .x,
     fld 20 17 .ro 0 .x, fld 16 0 .ro 0 .x]
  else if 0x040 ≤ o ∧ o < 0x064 ∧ o % 4 = 0 then [fld 8 0 .ro 0 .x, fld 25 16 .ro 0 .x]
  else if o = 0x064 then [fld 31 16 .rc 0 .a, fld 15 0 .rc 0 .a]
  else if o = 0x068 then whole .rc .a
  else if 0x070 ≤ o ∧ o < 0x098 ∧ o % 4 = 0 then whole .rc .a
  else []

/-- Gorse registers (Tables 10.9 to 10.11). -/
def gxFields (o : Nat) : List Fld :=
  if o = 0x000 then [fldIn 7 0 .rw 8 .c 1 0xFF]
  else if o = 0x004 then [fld 31 16 .ro 0 .x, fld 15 8 .ro 0 .x, fld 2 2 .ro 0 .x, fld 1 1 .ro 0 .x, fld 0 0 .ro 0 .x]
  else if o = 0x008 then [fld 15 0 .rw 0x10 .c, fld 16 16 .rw 1 .c]
  else if o = 0x00C then [fld 0 0 .w1c 0 .x, fld 27 16 .ro 0 .x]
  else if o = 0x010 then [fld 11 0 .ro 0 .x, fld 12 12 .ro 0 .x, fld 13 13 .ro 0 .x]
  else if o = 0x014 then [fld 23 0 .ro 0 .x]
  else if o = 0x018 then [fld 23 0 .ro 0 .p, fld 24 24 .ro 0 .p]
  else if 0x020 ≤ o ∧ o < 0x040 ∧ o % 4 = 0 then whole .rc .a
  else if 0x100 ≤ o ∧ o < 0x1C0 ∧ o % 4 = 0 then whole .ro .x
  else if 0x1000 ≤ o ∧ o < 0x5000 ∧ o % 4 = 0 then
    [fld 31 31 .rwa 0 .p, fld 30 30 .ro 0 .p, fld 29 29 .ro 0 .p, fld 28 28 .ro 0 .p, fld 15 0 .ro 0 .a]
  else []

/-- One word of a domain table entry (Tables 11.1, 11.2); `n` is the domain, whose key_slot reads n. -/
def domFields (n w : Nat) : List Fld :=
  if w = 0x00 then
    [fld 31 31 .rwa 0 .p, fld 28 24 .rwa 0 .p, fld 21 20 .rwa 0 .p, fld 17 16 .rwa 0 .p, fld 15 15 .rwa 0 .p, fld 14 14 .rwa 0 .p,
     fld 13 13 .rwa 0 .p, fld 12 12 .rwa 0 .p, fld 11 0 .ro n .p]
  else if w = 0x04 ∨ w = 0x08 ∨ w = 0x0C then [fld 23 0 .rwa 0 .p]
  else if w = 0x10 then [fld 31 16 .rwa 0 .p, fld 15 0 .rwa 0 .p]
  else if w = 0x14 then [fld 15 0 .rwa 0xFFFF .p]
  else if w = 0x18 then [fld 15 0 .ro 0 .x]
  else if w = 0x1C then [fld 31 31 .ro 0 .x, fld 30 30 .ro 0 .x, fld 15 0 .ro 0 .x]
  else []

/-- QS control window (Tables 11.6 to 11.8). -/
def qsFields (o : Nat) : List Fld :=
  if o = 0x000 then
    [fldIn 31 24 .rw 0x32 .c 0 0x64, fld 23 16 .rw 0x19 .c, fldIn 15 8 .rw 0x0A .c 0x05 0x32, fld 1 1 .rw 1 .c, fld 0 0 .rw 1 .c]
  else if o = 0x004 then [fldIn 7 0 .rw 0x52 .c 1 0xFF, fldIn 27 16 .rw 0x704 .c 1 0xFFF]
  else if o = 0x008 then [fld 7 0 .rw 0x50 .c, fld 15 8 .rw 0x0A .c, fld 23 16 .rw 0x08 .c]
  else if o = 0x00C then [fld 7 0 .rw 0x10 .c, fld 19 8 .rw 0x230 .c]
  else if o = 0x010 then [fld 7 0 .rw 0x60 .c, fld 15 8 .rw 0xC0 .c, fld 23 16 .rw 0x40 .c]
  else if o = 0x014 then [fldIn 15 0 .rw 0x100 .c 1 0xFFFF, fld 31 16 .rw 0x1C10 .c]
  else if o = 0x018 then [fld 7 0 .rw 0x40 .c, fld 15 8 .rw 0xA0 .c, fld 23 16 .rw 0xE0 .c]
  else if o = 0x01C then [fld 31 24 .ro 0 .x, fld 15 14 .ro 0 .x, fld 10 8 .ro 0 .x, fld 1 1 .ro 0 .x, fld 0 0 .ro 0 .x]
  else if o = 0x020 then [fld 11 0 .ro 0 .x, fld 27 16 .ro 0 .x]
  else if o = 0x024 then [fld 8 0 .ro 0 .x]
  else if o = 0x028 then whole .ro .x
  else if 0x030 ≤ o ∧ o < 0x040 ∧ o % 4 = 0 then [fld 8 0 .ro 0x100 .x]
  else if 0x040 ≤ o ∧ o < 0x050 ∧ o % 4 = 0 then [fld 15 0 .ro 0 .x]
  else if o = 0x050 then
    [fldIn 7 0 .rw 0xF0 .c 1 0xF0, fldIn 15 8 .rw 0xC0 .c 1 0xF0, fldIn 23 16 .rw 0x80 .c 1 0xF0, fldIn 31 24 .rw 0x40 .c 1 0xF0]
  else if o = 0x054 then [fld 7 0 .ro 0 .x, fld 15 8 .ro 0 .x, fld 23 16 .ro 0 .x, fld 31 24 .ro 0 .x]
  else if o = 0x058 then [fld 7 0 .ro 0 .x]
  else if o = 0x060 then [fld 11 0 .rw 0 .c]
  else if 0x068 ≤ o ∧ o < 0x090 ∧ o % 4 = 0 then whole .ro .c
  else if o = 0x090 ∨ o = 0x094 then whole .ro .x
  else if 0x0A0 ≤ o ∧ o < 0x0E0 ∧ o % 4 = 0 then whole .ro .a
  else if o = 0x0E0 then whole .rc .a
  else []

/-- Host interface registers (Tables 12.6 to 12.9). -/
def hiFields (o : Nat) : List Fld :=
  if o = 0x000 then [fld 31 31 .rwa 0 .p, fld 0 0 .rwp 0 .p]
  else if o = 0x004 ∨ o = 0x008 then [fld 8 8 .rwp 0 .p, fldIn 6 4 .rwp 5 .p 0 5, fldIn 1 0 .rwp 0 .p 0 2]
  else if 0x010 ≤ o ∧ o < 0x030 ∧ o % 4 = 0 then
    [fld 31 31 .ro 0 .x, fld 20 16 .ro 0 .x, fld 10 8 .ro 0 .x, fld 4 4 .ro 0 .x, fld 3 3 .ro 0 .x, fld 1 1 .ro 0 .x, fld 0 0 .ro 0 .x]
  else if 0x040 ≤ o ∧ o < 0x0C0 ∧ o % 4 = 0 then
    [fld 31 31 .rwa 0 .p, fld 26 25 .rwa 0 .p, fld 23 20 .rwa 0 .p, fldIn 15 0 .rwa 0 .p 0 0xC000]
  else if o = 0x0C0 then whole .ro .p
  else if o = 0x0C4 ∨ o = 0x0C8 then whole .rc .a
  else []

/-- One register of a mailbox set (Table 13.14): keep class L for MB0 to MB31, C for the others. -/
def mbFields (k w : Nat) : List Fld :=
  let kp : Keep := if k < 32 then .l else .c
  if w = 0x00 ∨ w = 0x04 ∨ w = 0x08 then [fld 31 0 .rw 0 kp]
  else if w = 0x0C then [fld 0 0 .ro 0 kp, fld 1 1 .w1c 0 kp]
  else if w = 0x10 ∨ w = 0x14 ∨ w = 0x18 then [fld 31 0 .ro 0 kp]
  else if w = 0x1C then [fld 0 0 .w1c 0 kp, fld 15 8 .ro 0 kp]
  else if w = 0x20 then [fld 31 0 .wo 0 .x]
  else if w = 0x24 then [fld 31 0 .ro 0 kp]
  else if w = 0x28 then [fld 31 0 .ro 3 kp]
  else if w = 0x2C then [fld 31 0 .w1c 0 kp]
  else if w = 0x30 then [fld 31 0 .rw 0 kp]
  else if w = 0x34 ∨ w = 0x38 then [fld 31 0 .ro 0 .x]
  else []

/-- Control plane registers (Tables 13.12 to 13.14). -/
def cpFields (o : Nat) : List Fld :=
  if o = 0x000 then
    [fld 31 31 .ro 0 .x, fld 30 30 .ro 0 .x, fld 29 29 .ro 0 .x, fld 28 28 .ro 0 .x, fld 27 27 .ro 0 .a, fld 26 26 .ro 0 .p,
     fld 25 24 .ro 0 .x, fld 8 0 .ro 0 .p]
  else if o = 0x004 then [fldIn 15 0 .rw 0x1F4 .c 0x64 0xFFFF]
  else if o = 0x008 then [fld 31 16 .ro 0 .x, fld 15 14 .ro 0 .x, fld 6 0 .ro 0 .x]
  else if o = 0x00C then [fld 5 0 .ro 0 .x, fld 11 8 .ro 0 .x, fld 23 16 .ro 0 .x]
  else if o = 0x010 ∨ o = 0x014 then whole .ro .x
  else if o = 0x018 then [fld 15 0 .ro 0 .p]
  else if o = 0x01C then whole .rc .a
  else if o = 0x020 then [fld 31 16 .rc 0 .a, fld 15 0 .rc 0 .a]
  else if o = 0x024 then [fld 15 0 .ro 0 .a]
  else if o = 0x028 ∨ o = 0x02C then whole .ro .x
  else if o = 0x030 then [fld 11 0 .ro 0 .x, fld 23 12 .ro 0 .x, fld 31 31 .ro 0 .x]
  else if 0x040 ≤ o ∧ o < 0x080 ∧ o % 4 = 0 then [fld 31 31 .rw 0 .c, fld 29 24 .rw 0 .c, fld 21 16 .rw 0 .c, fld 15 0 .rw 0 .c]
  else if 0x1000 ≤ o ∧ o < 0x1A00 then mbFields ((o - 0x1000) / 0x40) ((o - 0x1000) % 0x40)
  else []

/-- Sward registers (Tables 14.7 to 14.10). -/
def swFields (o : Nat) : List Fld :=
  if o = 0x000 then [fld 31 31 .rwp 0 .p, fld 23 16 .rwp 0xFF .p, fld 15 0 .rwp 0 .p]
  else if o = 0x004 then [fld 31 31 .wo 0 .c, fldIn 15 0 .rw 0xC8 .c 0x14 0xFFFF]
  else if o = 0x008 then
    [fld 31 29 .ro 0 .x, fld 28 28 .ro 0 .x, fld 27 27 .ro 0 .x, fld 26 26 .ro 0 .x, fld 19 16 .ro 0 .x, fld 15 8 .ro 0 .x, fld 7 0 .ro 0 .x]
  else if o = 0x00C ∨ o = 0x010 then whole .ro .x
  else if o = 0x014 ∨ o = 0x018 then whole .rwa .p
  else if o = 0x01C then [fld 31 28 .ro 0 .x, fld 27 27 .ro 0 .x, fld 26 26 .ro 0 .x, fld 23 16 .ro 0 .x, fld 15 0 .ro 0 .x]
  else if o = 0x020 ∨ o = 0x024 then whole .ro .x
  else if o = 0x028 then [fld 23 0 .ro 0 .x]
  else if o = 0x02C then [fld 11 0 .ro 0 .x, fld 19 12 .ro 0 .x, fld 29 28 .ro 0 .x]
  else if o = 0x030 then [fld 7 0 .ro 0 .x, fld 11 8 .ro 0 .x]
  else if 0x040 ≤ o ∧ o < 0x060 ∧ o % 4 = 0 then
    [fld 0 0 .ro 0 .x, fld 1 1 .ro 0 .x, fld 15 8 .ro 0 .x, fld 18 16 .ro 0 .x, fld 31 24 .ro 0 .x]
  else if 0x080 ≤ o ∧ o < 0x100 ∧ o % 4 = 0 then
    (if (o - 0x080) % 16 = 0 then [fld 0 0 .ro 0 .x, fld 12 1 .ro 0 .x] else whole .ro .x)
  else if 0x400 ≤ o ∧ o < 0x800 ∧ o % 4 = 0 then
    [fld 2 0 .ro 0 .x, fld 3 3 .ro 0 .x, fld 6 4 .ro 0 .x, fld 7 7 .ro 0 .x, fld 11 8 .ro 0 .x]
  else if 0x800 ≤ o ∧ o < 0x810 ∧ o % 4 = 0 then whole .rc .a
  else []

/-- Power state registers (Tables 15.14, 15.15). -/
def pwFields (o : Nat) : List Fld :=
  if o = 0x000 then [fld 27 24 .ro 0 .a, fld 19 16 .ro 0 .a, fld 11 8 .ro 0 .a, fld 7 7 .ro 0 .a, fld 3 0 .ro 0 .a]
  else if o = 0x004 then [fld 15 0 .rw 0x3C .a, fldIn 23 16 .rw 0x64 .a 0x0A 0xFF, fld 24 24 .rw 1 .a]
  else if o = 0x008 ∨ o = 0x00C then whole .ro .a
  else if o = 0x010 then [fld 0 0 .w1c 0 .a, fld 1 1 .w1c 0 .a, fld 2 2 .w1c 0 .a, fld 3 3 .w1c 0 .a, fld 8 8 .w1c 0 .a]
  else if o = 0x014 then [fld 7 0 .rc 0 .a, fld 15 8 .rc 0 .a, fld 23 16 .rc 0 .a]
  else if o = 0x018 then [fld 15 8 .rc 0 .a, fld 23 16 .rc 0 .a]
  else if o = 0x01C then [fld 3 0 .ro 0 .a, fld 4 4 .ro 0 .a, fld 15 8 .ro 0 .a]
  else if o = 0x020 then [fld 7 0 .ro 0 .x, fld 9 8 .ro 0 .x, fld 10 10 .ro 0 .x, fld 11 11 .ro 0 .x, fld 23 16 .ro 0 .x]
  else []

/-- Default rail channels (Table 15.10): kind, step, group, keep_a3, reaction, retries. -/
def railDefault (n : Nat) : Nat × Nat × Nat × Nat × Nat × Nat :=
  if n = 0 then (1, 0, 0, 0, 3, 0)
  else if n = 1 then (1, 1, 0, 1, 3, 0)
  else if n = 2 then (1, 3, 0, 0, 3, 0)
  else if n = 3 then (1, 4, 0, 0, 3, 0)
  else if n = 4 then (1, 2, 0, 0, 3, 0)
  else if n < 10 then (1, 5, n - 4, 0, 1, 3)
  else if n < 15 then (1, 6, n - 9, 0, 1, 3)
  else if n < 20 then (1, 7, n - 14, 0, 1, 3)
  else if n < 23 then (1, 2, 6, 0, 0, 0)
  else (2, 0, 7, 0, 0, 0)

/-- One word of rail channel SQn (Tables 15.16, 15.17). -/
def railFields (n w : Nat) : List Fld :=
  let (kind, step, group, keep, react, retries) := railDefault n
  if w = 0x00 then
    [fldIn 31 30 .rwp kind .p 0 2, fld 29 27 .rwp step .p, fld 26 24 .rwp step .p, fld 23 21 .rwp group .p, fld 20 20 .rwp keep .p,
     fld 19 19 .rwp 0 .p, fld 18 17 .rwp react .p, fld 16 15 .rwp 1 .p, fld 14 12 .rwp retries .p]
  else if w = 0x04 then
    [fldIn 7 0 .rwp 0x32 .p 1 0xFF, fldIn 15 8 .rwp 0x0A .p 1 0xFF, fldIn 23 16 .rwp 0x32 .p 1 0xFF, fld 31 24 .rwp 0x0A .p]
  else if w = 0x08 then [fld 27 16 .rwp 0 .p, fld 11 0 .rwp 0xFFF .p]
  else if w = 0x0C then [fld 27 16 .rwp 0 .p, fld 11 0 .rwp 0 .p]
  else if w = 0x10 then [fld 11 0 .ro 0 .a, fld 15 12 .ro 0 .a, fld 23 16 .ro 0 .a, fld 24 24 .ro 0 .a]
  else []

/-- Sequencer registers (Tables 15.16, 15.18). -/
def sqFields (o : Nat) : List Fld :=
  if o = 0x000 then
    [fld 20 20 .rwp 1 .p, fld 19 19 .rwp 0 .p, fld 18 18 .rwp 1 .p, fldIn 17 16 .rwp 1 .p 0 2, fldIn 15 8 .rwp 0x0A .p 1 0xFF,
     fldIn 7 0 .rwp 0x0A .p 0x0A 0xFF]
  else if o = 0x004 then [fld 3 0 .ro 0 .a, fld 6 4 .ro 0 .a, fld 8 8 .ro 0 .a, fld 9 9 .ro 0 .a]
  else if o = 0x008 then [fld 11 0 .ro 0 .x]
  else if 0x100 ≤ o ∧ o < 0x400 then railFields ((o - 0x100) / 0x20) ((o - 0x100) % 0x20)
  else []

/-- Thresholds of Table 16.1 as temperature codes: WARN, THROTTLE, CRIT, TRIP. -/
def thrDefault (g : Nat) : Nat × Nat × Nat × Nat :=
  if g < 2 then (125, 135, 145, 155) else if g = 2 then (95, 100, 105, 110) else if g = 3 then (80, 85, 92, 100)
  else (85, 95, 105, 115)

/-- Thermal registers (Tables 16.4 to 16.6). -/
def thFields (o : Nat) : List Fld :=
  if o = 0x000 then [fldIn 31 24 .rw 0x10 .c 0x10 0xFF, fldIn 23 16 .rw 0x32 .c 1 0xFF, fldIn 15 8 .rw 0x0A .c 1 0xFF, fldIn 7 0 .rw 0x0A .c 1 0xFF]
  else if o = 0x004 then
    [fld 31 31 .ro 0 .a, fld 30 30 .ro 0 .x, fld 29 29 .ro 0 .x, fld 26 24 .ro 0 .x, fld 22 20 .ro 0 .x, fld 2 0 .ro 0 .x]
  else if o = 0x008 then
    [fld 2 0 .ro 0 .x, fld 6 4 .ro 0 .x, fld 10 8 .ro 0 .x, fld 14 12 .ro 0 .x, fld 18 16 .ro 0 .x, fld 22 20 .ro 0 .x]
  else if 0x010 ≤ o ∧ o < 0x040 ∧ o % 4 = 0 then
    (let g := (o - 0x010) / 8
     let (w, t, c, tr) := thrDefault g
     if o % 8 = 0 then [fld 31 24 .rwp tr .p, fld 23 16 .rwp c .p, fld 15 8 .rwp t .p, fld 7 0 .rwp w .p]
     else [fld 7 0 .rwp (if g < 2 then 10 else if g < 4 then 8 else 0) .p, fld 11 8 .rwp 5 .p, fld 16 16 .rwp (if g < 4 then 1 else 0) .p])
  else if 0x040 ≤ o ∧ o < 0x058 ∧ o % 4 = 0 then [fld 7 0 .ro 0 .x, fld 25 16 .ro 0 .x]
  else if o = 0x060 ∨ o = 0x064 then whole .rwa .p
  else if o = 0x068 then [fld 7 0 .rwa 0 .p, fld 8 8 .rwa 0 .p, fld 9 9 .rwa 0 .p]
  else if o = 0x070 ∨ o = 0x074 then whole .ro .x
  else if o = 0x078 then [fld 7 0 .ro 0 .x, fld 8 8 .ro 0 .x, fld 9 9 .ro 0 .x]
  else if 0x080 ≤ o ∧ o < 0x100 ∧ o % 4 = 0 then [fld 7 0 .ro 0 .x, fld 8 8 .ro 0 .x]
  else if o = 0x100 then [fld 9 0 .ro 0 .p, fld 10 10 .ro 0 .p, fld 23 16 .ro 0 .p]
  else if o = 0x104 then [fld 31 16 .rc 0 .a, fld 15 0 .rc 0 .a]
  else []

/-- Event recorder registers (Table 17.13). -/
def evFields (o : Nat) : List Fld :=
  if o = 0x000 then [fldIn 7 0 .rw 8 .c 8 0xFF, fld 8 8 .rw 1 .c, fld 13 12 .rw 2 .c]
  else if o = 0x008 ∨ o = 0x00C ∨ o = 0x010 ∨ o = 0x014 then whole .ro .x
  else if o = 0x018 then [fld 8 0 .ro 0 .x, fld 24 16 .ro 0 .x]
  else if o = 0x01C ∨ o = 0x020 then whole .rc .a
  else if o = 0x030 ∨ o = 0x034 then whole .rw .c
  else if o = 0x038 then [fld 1 0 .ro 0 .x, fld 31 31 .ro 0 .x]
  else if 0x040 ≤ o ∧ o < 0x060 ∧ o % 4 = 0 then whole .ro .x
  else []

/-- Meter registers (Table 17.14). -/
def mtFields (o : Nat) : List Fld :=
  if o = 0x000 then [fld 31 31 .rwa 0 .x]
  else if o = 0x004 then [fld 15 0 .rw 0 .c, fld 31 16 .rw 2 .c]
  else if o = 0x008 then [fld 0 0 .ro 0 .x, fld 1 1 .ro 0 .x, fld 2 2 .ro 0 .x, fld 3 3 .ro 0 .x, fld 4 4 .ro 0 .x]
  else if o = 0x00C then [fld 24 0 .ro 0 .x]
  else if o = 0x010 then whole .ro .x
  else if o = 0x014 then [fld 15 0 .ro 0 .x]
  else if o = 0x018 ∨ o = 0x01C then whole .ro .x
  else if o = 0x020 then [fld 31 16 .rc 0 .a, fld 15 0 .rc 0 .a]
  else if 0x100 ≤ o ∧ o < 0x500 ∧ o % 4 = 0 then whole .ro .x
  else []

/-- The event numbers of Table 17.11; every other number is reserved (R9). -/
def pmEvents : List (Nat × Nat) :=
  [(0x00, 0x01), (0x10, 0x1B), (0x20, 0x2B), (0x30, 0x3B), (0x40, 0x48), (0x50, 0x6B), (0x70, 0x7D), (0x80, 0x8C), (0x90, 0xA9), (0xB0, 0xBD), (0xC0, 0xD7)]
/-- Performance monitor registers (Tables 17.15 to 17.17). -/
def pmFields (o : Nat) : List Fld :=
  if o = 0x000 then [fld 0 0 .rw 1 .c, fld 1 1 .wo 0 .c]
  else if o = 0x004 then [fld 0 0 .w1c 0 .x, fld 15 8 .ro 0 .x, fld 31 16 .ro 0 .x]
  else if 0x100 ≤ o ∧ o < 0xD00 then
    (let w := o % 16
     if w = 0 then [fld 31 31 .rw 0 .c, fld 30 30 .rw 0 .c, fld 23 16 .rw 0xFF .c, ⟨7, 0, .rw, 0, .c, .ranges pmEvents⟩]
     else if w = 8 then [fld 31 0 .rw 0 .c] else if w = 12 then [fld 15 0 .rw 0 .c] else [])
  else if 0xD00 ≤ o ∧ o < 0xD18 ∧ o % 4 = 0 then whole .w1c .c
  else if 0xE00 ≤ o ∧ o < 0xE20 ∧ o % 4 = 0 then whole .ro .x
  else if 0x1000 ≤ o ∧ o < 0x2400 ∧ o % 4 = 0 ∧ (o - 0x1000) % 0x80 < 0x48 then whole .ro .c
  else []

/-- Seed store registers (Tables 18.9, 18.10). -/
def sdFields (o : Nat) : List Fld :=
  if o = 0x000 then [fld 31 31 .ro 0 .x, fld 30 30 .ro 0 .x, fld 29 29 .ro 0 .x, fld 7 0 .ro 0 .x]
  else if o = 0x004 then [fld 14 0 .ro 0 .x]
  else if o = 0x008 then [fld 20 0 .ro 0 .x]
  else if o = 0x00C then [fld 17 0 .ro 0 .x]
  else if o = 0x010 ∨ o = 0x014 then [fld 31 16 .rc 0 .a, fld 15 0 .rc 0 .a]
  else if 0x100 ≤ o ∧ o < 0x300 ∧ o % 4 = 0 then
    (if o % 16 = 8 then [fld 16 0 .ro 0 .x, fld 24 24 .ro 0 .x, fld 25 25 .ro 0 .x, fld 26 26 .ro 0 .x]
     else if o % 16 = 12 then [] else whole .ro .x)
  else []

/-- The fields of the register at BAR0 offset `o`; none where the offset is reserved (R501). -/
def fieldsAt (o : Nat) : List Fld :=
  if o < 0x10000 then glbFields o
  else if o < 0x20000 then tbFields (o - TB)
  else if o < 0x48000 then mcFields ((o - MC) % 0x1000)
  else if o < 0x50000 then []
  else if o < 0x60000 then cdFields (o - CD)
  else if o < 0x70000 then tpFields (o - TP)
  else if o < 0x80000 then dfFields (o - DF)
  else if o < 0x90000 then wpFields (o - WP)
  else if o < 0xA0000 then rpFields (o - RP)
  else if o < 0xB0000 then rkFields (o - RK)
  else if o < 0xC0000 then gxFields (o - GX)
  else if o < 0xE0000 then domFields ((o - QD) / 0x20) ((o - QD) % 0x20)
  else if o < 0xF0000 then hiFields (o - HI)
  else if o < 0x100000 then cpFields (o - CP)
  else if o < 0x110000 then swFields (o - SW)
  else if o < 0x118000 then pwFields (o - PW)
  else if o < 0x120000 then sqFields (o - SQ)
  else if o < 0x130000 then thFields (o - TH)
  else if o < 0x138000 then evFields (o - EV)
  else if o < 0x140000 then mtFields (o - MT)
  else if o < 0x150000 then pmFields (o - PM)
  else if o < 0x160000 then sdFields (o - SD)
  else if o < 0x170000 then qsFields (o - QS)
  else []

/-- A register word put together from its fields. -/
def assemble (val : Fld → Nat) : List Fld → Word
  | [] => 0
  | f :: fs => BitVec.ofNat 32 (val f % 2 ^ (f.hi + 1 - f.lo) * 2 ^ f.lo) ||| assemble val fs

/-- The reset value of the register at `o` (R507). -/
def resetWord (o : Nat) : Word := assemble Fld.rst (fieldsAt o)

/-- Registers whose writes are ignored as a whole when the new value breaks a condition (R46 apart): MC_ARB_MAP (R83),
QS_BE_CTL, QS_DEVLOAD (Table 11.6), MT_WM (Table 17.14), TH_GRP_THR (Table 16.4), CP_TDB (R355). -/
def wholeOk (o : Nat) (v : Word) : Bool :=
  if 0x20000 ≤ o ∧ o < 0x48000 ∧ (o - MC) % 0x1000 = 8 then
    ((List.range 8).map (fun e => bits v (3 * e + 2) (3 * e))).Nodup
  else if o = QS + 0x010 then bits v 7 0 < bits v 15 8
  else if o = QS + 0x018 then bits v 7 0 < bits v 15 8 ∧ bits v 15 8 < bits v 23 16
  else if o = MT + 0x004 then bits v 15 0 < bits v 31 16
  else if TH + 0x010 ≤ o ∧ o < TH + 0x040 ∧ o % 8 = 0 then
    codeTemp (bits v 7 0) < codeTemp (bits v 15 8) ∧ codeTemp (bits v 15 8) < codeTemp (bits v 23 16) ∧
      codeTemp (bits v 23 16) < codeTemp (bits v 31 24) ∧ ((o - TH - 0x010) / 8 < 2 → codeTemp (bits v 31 24) ≤ 155)
  else if CP + 0x040 ≤ o ∧ o < CP + 0x080 then bits v 29 24 ≤ 35
  else true

/-- QS_CTL.c0_pct may not exceed c01_pct (Table 11.7): the one reserved encoding that depends on another field of the write. -/
def crossOk (o : Nat) (f : Fld) (old v : Word) : Bool :=
  if o = QS ∧ f.lo = 16 then
    (let c01 := if bits v 31 24 ≤ 0x64 then bits v 31 24 else bits old 31 24
     decide (bits v 23 16 ≤ c01))
  else true

end Sys2Proof.Machine
end

