-- ==== Sys2Proof/Machine/Ops.lean ====
section
/-! DEFINITION. Machine/Ops.lean: the named operations every meaning is made of: registers and their fields, the out box,
performance counts, spread counters and class P writes of the Seed store, event records, and reads and writes of BAR0 by a
requester under the access codes. -/

namespace Sys2Proof.Machine

/-! ### Registers by offset -/

/-- The word that the register at BAR0 offset `o` holds. -/
def State.reg (s : State) (o : Nat) : Word := Tbl.get resetWord s.regs o

/-- Put a word into the register at `o`. -/
def State.setReg (s : State) (o : Nat) (v : Word) : State := { s with regs := Tbl.set resetWord s.regs o v }

/-- Field [hi:lo] of the register at `o`. -/
def State.fld (s : State) (o hi lo : Nat) : Nat := bits (s.reg o) hi lo

/-- Field [hi:lo] of the register at `o` as a flag. -/
def State.flag (s : State) (o b : Nat) : Bool := decide (s.fld o b b = 1)

/-- Write field [hi:lo] of the register at `o`. -/
def State.setFld (s : State) (o hi lo x : Nat) : State := s.setReg o (putBits (s.reg o) hi lo x)

/-- Set or clear one bit. -/
def State.setBit (s : State) (o b : Nat) (v : Bool) : State := s.setFld o b b (if v then 1 else 0)

/-- A 64-bit quantity, low half at `o` (R6). -/
def State.reg64 (s : State) (o : Nat) : Nat := (s.reg o).toNat + 2 ^ 32 * (s.reg (o + 4)).toNat

/-- Put a 64-bit quantity at `o`. -/
def State.setReg64 (s : State) (o x : Nat) : State :=
  (s.setReg o (BitVec.ofNat 32 x)).setReg (o + 4) (BitVec.ofNat 32 (x / 2 ^ 32))

/-- Add to a saturating counter field (R506: hardware counters). -/
def State.bump (s : State) (o hi lo n : Nat) : State :=
  s.setFld o hi lo (satAdd (s.fld o hi lo) n (2 ^ (hi + 1 - lo) - 1))

/-- Send something out of the part. -/
def State.emit (s : State) (x : Out) : State := { s with out := x :: s.out }

/-- Draw the next free value. -/
def State.draw (s : State) : BitVec 64 × State := (Config.freeValue s.free, { s with free := s.free + 1 })

/-! ### Often read registers -/

/-- PW_STATE.state (Table 15.15): 0 to 3 A0 to A3, 4 Off. -/
def State.power (s : State) : Nat := s.fld PW 3 0

/-- TB_STATUS.state (Table 02.9). -/
def State.tbState (s : State) : Nat := s.fld TB 2 0

/-- The leap offset in TB_LEAP, signed. -/
def State.leap (s : State) : Int := signed 16 (s.fld (TB + 0x10) 15 0)

/-- UTC seconds since 2000-01-01T00:00:00 UTC: utc2000 of "UTC, meter minutes and the CXL timestamp". -/
def State.utc (s : State) : Int := (s.tb.ztime / 1000000000 : Nat) - (s.leap - 32)

/-- UTC minutes since 2000-01-01T00:00 UTC. -/
def State.utcMinute (s : State) : Int := s.utc / 60

/-- The current ztime hour in the form of the map epoch field (Table 05.3). -/
def State.hour (s : State) : Nat := s.tb.ztime / 3600000000000 % 65536

/-- MC_STAT.state of channel `c` (Table 03.12). -/
def State.chanState (s : State) (c : Nat) : Nat := s.fld (MC + c * 0x1000 + 4) 27 24

/-- Set MC_STAT.state. -/
def State.setChanState (s : State) (c x : Nat) : State := s.setFld (MC + c * 0x1000 + 4) 27 24 x

/-- A channel is in service: READY, RETRAIN or CHRESET (R307, R426). -/
def State.inService (s : State) (c : Nat) : Bool := decide (s.chanState c = 4 ∨ s.chanState c = 5 ∨ s.chanState c = 6)

/-- U, the usable pool memory in GiB (TP_CFG). -/
def State.usable (s : State) : Nat := s.fld TP 15 0

/-- N, the number of populated channels (TP_GEOM). -/
def State.chanCount (s : State) : Nat := s.fld (TP + 4) 5 0

/-! ### Performance counts (R456) -/

/-- A counter wraps (R458): its PM_OVF bit is set; with sample_en set, and no sample ready or awaited, a capture is armed. -/
def State.pmOverflow (s : State) (bank k : Nat) : State :=
  let i := 16 * bank + k
  let s := s.setBit (PM + 0xD00 + 4 * (i / 32)) (i % 32) true
  if s.flag (PM + 0x100 + i * 0x10) 30 then
    (if s.flag (PM + 4) 0 then s.bump (PM + 4) 31 16 1
     else if s.pm.armed.isSome then s.bump (PM + 4) 31 16 1
     else { s with pm := { s.pm with armed := some (i, 0) } })
  else s

/-- Add `n` to counter `k` of bank `b` if it is enabled, selects event `e` and has instance `i` in its mask. -/
def State.countOne (s : State) (b e i n k : Nat) : State :=
  let o := PM + 0x100 + (16 * b + k) * 0x10
  if s.flag o 31 ∧ s.fld o 7 0 = e ∧ (8 ≤ i ∨ (s.fld o 23 16).testBit i) then
    let v := Tbl.get (fun _ => 0) s.pm.vals (16 * b + k) + n
    let s := { s with pm := { s.pm with vals := Tbl.set (fun _ => 0) s.pm.vals (16 * b + k) (v % 2 ^ 48) } }
    if 2 ^ 48 ≤ v then s.pmOverflow b k else s
  else s

/-- Is any PM_SEL or PM_VAL register away from its reset value? With none, no counter is enabled (Table 17.16). -/
def State.pmUsed (s : State) : Bool := s.regs.any (fun e => decide (PM + 0x100 ≤ e.1) && decide (e.1 < PM + 0xD00))

/-- Count `n` occurrences of event `e` in bank `b`, instance `i` (8: none): every counter of the bank that is enabled, selects
the event and has the instance in its mask adds `n`, wrapping at 2^48. -/
def State.count (s : State) (b e i n : Nat) : State :=
  if s.pmUsed && s.flag PM 0 then (List.range 16).foldl (fun t k => t.countOne b e i n k) s else s

/-- A global event counts in banks 10 and 11. -/
def State.countGlobal (s : State) (e n : Nat) : State := (s.count 10 e 8 n).count 11 e 8 n

/-! ### Spread counters of the Seed store (R479 to R482) -/

/-- A place of a Seed store that was never written (DESIGN CHOICE: both slots valid, base and sequence 0). -/
def Spread.fresh : Spread :=
  { baseA := 0, seqA := 0, validA := true, baseB := 0, seqB := 0, validB := true, tally := 0, worn := false, lost := false, inUse := false }

/-- The place that a counter stands in: places 13 to 31 take over from worn ones (R481). -/
def State.place (s : State) (q : Nat) : Nat := (Tbl.find s.sd.moved q).getD q

/-- Contents of a place. -/
def State.spread (s : State) (q : Nat) : Spread := Tbl.get (fun _ => Spread.fresh) s.sd.spread (s.place q)

/-- The base in force: of the valid slot with the higher sequence (R479). -/
def Spread.base (p : Spread) : Nat :=
  if p.validA ∧ p.validB then (if p.seqA < p.seqB then p.baseB else p.baseA) else if p.validA then p.baseA else p.baseB

/-- The sequence in force. -/
def Spread.seq (p : Spread) : Nat :=
  if p.validA ∧ p.validB then max p.seqA p.seqB else if p.validA then p.seqA else p.seqB

/-- The value of a counter (R479): base plus the cells set. -/
def Spread.value (p : Spread) : Nat := p.base + p.tally

/-- The value of the counter at place `q`. -/
def State.counter (s : State) (q : Nat) : Nat := (s.spread q).value

/-- Advance to `c` (R480): set cells one by one where they suffice, otherwise a new base with the next sequence into the slot
with the lower sequence and a cleared tally. -/
def Spread.advance (p : Spread) (c : Nat) : Spread :=
  if c ≤ p.value then p
  else if c - p.value ≤ 1920 - p.tally then { p with tally := p.tally + (c - p.value), inUse := true }
  else
    (if p.seqA ≤ p.seqB then { p with baseA := c, seqA := p.seq + 1, validA := true, tally := 0, inUse := true }
     else { p with baseB := c, seqB := p.seq + 1, validB := true, tally := 0, inUse := true })

/-- Is the place worn out (R481)? -/
def Spread.wornOut (p : Spread) : Bool := decide (100000 ≤ p.seq)

/-- Contents of a place by its own number. -/
def State.rawPlace (s : State) (i : Nat) : Spread := Tbl.get (fun _ => Spread.fresh) s.sd.spread i

/-- The first unused place among 13 to 31 (R481, Table 18.5). -/
def State.freePlace (s : State) : Option Nat :=
  ((List.range 19).map (fun i => i + 13)).find? (fun i => !(s.rawPlace i).inUse && !(s.rawPlace i).worn)

/-- A counter goes to an unused place with base `c` (R481, R482); the place it leaves is marked worn. -/
def State.moveCounter (s : State) (q f c : Nat) : State :=
  let old := s.place q
  let t := Tbl.set (fun _ => Spread.fresh) s.sd.spread old { s.rawPlace old with worn := true }
  let t := Tbl.set (fun _ => Spread.fresh) t f { Spread.fresh with baseA := c, seqA := 1, inUse := true }
  { s with sd := { s.sd with spread := t, moved := Tbl.put s.sd.moved q f } }

/-- Replace the contents of a counter's place. -/
def State.setSpread (s : State) (q : Nat) (p : Spread) : State :=
  { s with sd := { s.sd with spread := Tbl.set (fun _ => Spread.fresh) s.sd.spread (s.place q) p } }

/-- Advance the counter at place `q` to `c` (R480). An advance that wears its place out moves the counter, unless it is an authority's or no
place is unused (R481); the answer is then the place worn out and the new place, 0xFF for an authority. -/
def State.advanceCounter (s : State) (q c : Nat) : Option (Nat × Nat) × State :=
  let p := (s.spread q).advance c
  if ¬ p.wornOut then (none, s.setSpread q p)
  else if q ≤ 8 then (if (s.spread q).worn then none else some (s.place q, 0xFF), s.setSpread q { p with worn := true })
  else match s.freePlace with
    | some f => (some (s.place q, f), s.moveCounter q f c)
    | none => (none, s.setSpread q { p with worn := true })

/-! ### Events (R436 to R446) -/

/-- Table 17.2: the block that owns a code (DEDUCED from the chapters that define the codes). -/
def codeBlock (code : Nat) : Nat :=
  let h := code / 0x100
  if h < 0x20 then 2 else if h < 0x30 then 3 else if h < 0x40 then 4 else if h < 0x50 then 5 else if h < 0x60 then 6
  else if h < 0x70 then 7 else if h < 0x80 then 8 else if h < 0x90 then 9 else if h < 0xA0 then 0xA
  else if code = 0xA105 ∨ code = 0xA106 then 0 else if h < 0xB0 then 0xB else if h = 0xB4 then 1 else if h < 0xC0 then 0xC
  else if h < 0xD0 then 0xD else if h = 0xD1 then 0x14 else if h = 0xD2 then 0xE else if h < 0xE0 then 0 else if h < 0xF0 then 0xF
  else if h = 0xF1 then 0x10 else if h = 0xF2 then 0x11 else 0x13

/-- Severity of a code (R437, Table 17.3; codes of Table 12.5 take the log named there; the others DEDUCED). -/
def codeSeverity (code : Nat) : Nat :=
  if code ∈ [0x1001, 0x3106, 0xB102, 0xD204, 0xD205, 0xE201, 0xE202, 0xD302] then 3
  else if code ∈ [0x2102, 0x5105, 0x5108, 0x8101, 0x8105, 0x8102, 0x3107, 0x3108, 0x7106, 0x5102, 0x3109, 0x8106, 0x8107, 0x8108,
      0x8109, 0x810C, 0x7105, 0x7107, 0xF204, 0xF102] then 2
  else if code ∈ [0x1101, 0x1002, 0x1102, 0x1103, 0x1104, 0x1105, 0x1106, 0x1107, 0x2103, 0x2104, 0x2106, 0x3101, 0x3103, 0x3105,
      0x310A, 0x4101, 0x4102, 0x4103, 0x4104, 0x4105, 0x4107, 0x4108, 0x5103, 0x5104, 0x5106, 0x5109, 0x510A, 0x6101, 0x6102, 0x6103,
      0x7101, 0x7102, 0x7103, 0x7104, 0x7108, 0x8104, 0x810A, 0x810D, 0x9101, 0x9102, 0x9103, 0x9105, 0xA101, 0xA102, 0xA103, 0xA104,
      0xB101, 0xB104, 0xB105, 0xB201, 0xB203, 0xB403, 0xB404, 0xC101, 0xC103, 0xC104, 0xC201, 0xC204, 0xC402, 0xC403, 0xD102, 0xD103,
      0xD105, 0xD201, 0xD202, 0xD203, 0xD206, 0xE101, 0xE102, 0xE103, 0xE104, 0xE105, 0xE106, 0xF202, 0xF301, 0xF302, 0xF303, 0xF304,
      0xF305, 0xF306, 0xF307] then 1
  else 0

/-- CXL event log of a code (Table 12.5): 0 Informational, 1 Warning, 2 Failure, 3 Fatal; none: no CXL record. -/
def cxlLog (code : Nat) : Option Nat :=
  if code ∈ [0x2102, 0x5105, 0x5108, 0x8101, 0x8105, 0x8102, 0x3108, 0x3107, 0x7106, 0x5102] then some 2
  else if code ∈ [0x9101, 0x1103, 0x310A, 0xE102] then some 1
  else if code ∈ [0xE201, 0xE202] then some 3
  else none

/-- Capacity of a CXL event log (R337); log 4 is Dynamic Capacity. -/
def cxlLogCap (log : Nat) : Nat := if log = 3 then 16 else 64

/-- What the part keeps for an LD that has been given nothing yet. -/
def Ld.fresh : Ld :=
  { logs := [], overflow := [], poison := [], poisonOvf := none, policy := 0, alertLife := 0, alertHigh := 0, alertLow := 0
    clean := true, bgOp := 0, bgState := 0, scanHits := [], extents := [], regions := [], decoders := [], mse := false }

/-- The record of LD `i`. -/
def State.ld (s : State) (i : Nat) : Ld := Tbl.get (fun _ => Ld.fresh) s.host.lds i

/-- Replace the record of LD `i`. -/
def State.setLd (s : State) (i : Nat) (l : Ld) : State :=
  { s with host := { s.host with lds := Tbl.set (fun _ => Ld.fresh) s.host.lds i l } }

/-- HI_LD_CFG of LD i: valid. -/
def State.ldValid (s : State) (i : Nat) : Bool := s.flag (HI + 0x40 + i * 4) 31

/-- Is there a domain of this number, DOM0 to DOM4095, and is it valid (QS_DOM_CFG.valid)? -/
def State.domValid (s : State) (d : Nat) : Bool := decide (d < 4096) && s.flag (QD + d * 0x20) 31

/-- The LD of a domain (QS_DOM_CFG.ld). -/
def State.domLd (s : State) (d : Nat) : Nat := s.fld (QD + d * 0x20) 28 24

/-- A record enters staging (R442): a full staging discards it and counts it in EV_LOST, except that a Fatal record displaces
the newest record of the lowest severity present. -/
def State.stage (s : State) (e : EventRec) : State :=
  if s.ev.staging.length < 256 then
    { s with ev := { s.ev with staging := s.ev.staging ++ [{ ev := e, offered := false, archived := false }] } }
  else
    let s := ({ s with ev := { s.ev with lostSince := s.ev.lostSince + 1 } }).bump (EV + 0x1C) 31 0 1
    if e.sev = 3 then
      (let low := (s.ev.staging.map (fun x => x.ev.sev)).foldl min 3
       let rev := s.ev.staging.reverse
       let kept := (rev.takeWhile (fun x => x.ev.sev ≠ low)) ++ (rev.dropWhile (fun x => x.ev.sev ≠ low)).drop 1
       { s with ev := { s.ev with staging := kept.reverse ++ [{ ev := e, offered := false, archived := false }] } })
    else s

/-- The next sequence number (R438): the spread counter of place 9 is advanced by 256 before the 256 numbers are used. Answers the places
of a move as well. -/
def State.nextSeq (s : State) : Option (Nat × Nat) × State :=
  if s.ev.next < s.ev.covered then (none, s)
  else
    let c := s.counter 9 + 256
    let (m, s) := s.advanceCounter 9 c
    (m, { s with ev := { s.ev with covered := c, next := max s.ev.next (c - 256) } })

/-- A record under the sequence number at hand (R436), staged, with the attention interrupt (R446); a record of the power
states or the rail sequencer raises owner MSI-X vector 6 as well (DESIGN CHOICE: Table 13.5 names the vector, no rule its trigger). -/
def State.putRecord (s : State) (code inst : Nat) (dom : Option Nat) (p0 p1 : Nat) : State :=
  let e : EventRec :=
    { seq := s.ev.next, ztime := s.tb.ztime, code := code, block := codeBlock code, inst := inst, dom := dom, sev := codeSeverity code
      flags := (if s.tbState = 2 then 0 else 1) + (if s.flag TB 8 then 0 else 2) + (if s.wb.recovered then 0 else 4)
      p0 := p0 % 2 ^ 32, p1 := p1 % 2 ^ 32 }
  let s := { s with ev := { s.ev with next := s.ev.next + 1 } }
  let s := s.stage e
  let s := if s.flag EV 8 ∧ s.fld EV 13 12 ≤ codeSeverity code then s.emit (.msix 3) else s
  let s := if codeBlock code = 0xE ∨ codeBlock code = 0x14 then s.emit (.msix 6) else s
  s.countGlobal 0xD2 1

/-- A record of an event (R436) with the next sequence number; event 0xF304 follows where the counter of those numbers moved (R481). -/
def State.record (s : State) (code inst : Nat) (dom : Option Nat) (p0 p1 : Nat) : State :=
  let (m, s) := s.nextSeq
  let s := s.putRecord code inst dom p0 p1
  match m with
  | some x => s.putRecord 0xF304 0 none x.1 x.2
  | none => s

/-- The number of the meter minute that is open now (first_minute and minutes of the open window). -/
def State.minute (s : State) : Nat := (s.mt.firstMinute + s.mt.minutes).toNat

/-- A record at most once per `key` per meter minute. -/
def State.recordOnce (s : State) (key code inst : Nat) (dom : Option Nat) (p0 p1 : Nat) : State :=
  if (code, key, s.minute) ∈ s.ev.marks then s
  else
    let s := { s with ev := { s.ev with marks := (code, key, s.minute) :: s.ev.marks.filter (fun m => m.2.2 = s.minute) } }
    s.record code inst dom p0 p1

/-- Append a record to log `log` of LD `i`, with the LD function's interrupt where the policy asks for one (bits [2k+1:2k] of the setting, 1:
MSI-X, for log k): counted in HI_EVT_OVF and in the log's overflow where the log
is full, with event 0xA103 once per meter minute (R337). -/
def State.cxlRecord (s : State) (i log code p0 : Nat) : State :=
  let l := s.ld i
  let cur := (Tbl.find l.logs log).getD []
  if cur.length < cxlLogCap log then
    let s := s.setLd i { l with logs := Tbl.put l.logs log (cur ++ [(code, p0)]) }
    if bits l.policy (2 * log + 1) (2 * log) = 1 then s.emit (.hostMsix i 0) else s
  else ((s.setLd i { l with overflow := Tbl.put l.overflow log ((Tbl.find l.overflow log).getD 0 + 1) }).bump (HI + 0xC4) 31 0 1).recordOnce i 0xA103 0 none i 0

/-- CXL event records of a device event (R337): to the LD owning the domain it names, or to every valid LD. -/
def State.cxlEvents (s : State) (code : Nat) (dom : Option Nat) (p0 : Nat) : State :=
  match cxlLog code with
  | none => s
  | some log =>
    match dom with
    | some d => if s.ldValid (s.domLd d) then s.cxlRecord (s.domLd d) log code p0 else s
    | none => (List.range 32).foldl (fun t i => if s.ldValid i then t.cxlRecord i log code p0 else t) s

/-- Record an event (R436): its record, and its CXL event records (R337). -/
def State.event (s : State) (code inst : Nat) (dom : Option Nat) (p0 p1 : Nat) : State :=
  (s.record code inst dom p0 p1).cxlEvents code dom (p0 % 2 ^ 32)

/-- Record an event at most once per `key` per meter minute. -/
def State.eventOnce (s : State) (key code inst : Nat) (dom : Option Nat) (p0 p1 : Nat) : State :=
  if (code, key, s.minute) ∈ s.ev.marks then s
  else
    let s := { s with ev := { s.ev with marks := (code, key, s.minute) :: s.ev.marks.filter (fun m => m.2.2 = s.minute) } }
    s.event code inst dom p0 p1

/-- Advance a counter to `c` (R480, R481), with event 0xF304 where its place wears out. -/
def State.advanceTo (s : State) (q c : Nat) : State :=
  let (m, s) := s.advanceCounter q c
  match m with
  | some x => s.event 0xF304 0 none x.1 x.2
  | none => s

/-! ### Class P writes (R473 to R478) -/

/-- Registers that the part writes by itself (R478). -/
def selfWritten (o : Nat) : Bool :=
  o = TB + 0x28 || o = TB + 0x2C || o = WP + 0x20 || o = WP + 0x24 || o = WP + 0x30 || o = WP + 0x34 || o = HI + 0xC0 ||
  o = TH + 0x100 || o = GX + 0x18 || (decide (GX + 0x1000 ≤ o) && decide (o < GX + 0x5000)) || o = CP

/-- Bits of the register at `o` that are class P and held in its place: of GX_EPOCH the node key generation alone (R478). -/
def persistMask (o : Nat) : Word :=
  if o = GX + 0x18 then 0x01000000 else assemble (fun f => if f.keep = .p then 2 ^ (f.hi + 1 - f.lo) - 1 else 0) (fieldsAt o)

/-- Low halves of the 64-bit class P quantities: TB_ZTIME_SAVE, WP_FLUSH_EXPECT, SW_PARTNER_UID. -/
def seedPairs : List Nat := [TB + 0x28, WP + 0x30, SW + 0x14]

/-- The register that names the place of the register at `o`: the low half of a 64-bit quantity, else itself. -/
def seedKey (o : Nat) : Nat := if 4 ≤ o ∧ o - 4 ∈ seedPairs then o - 4 else o

/-- CRC-8, polynomial 0x07, initial value 0 (R476). -/
def crc8 (bs : List Byte) : Nat :=
  bs.foldl (fun c b => (List.range 8).foldl (fun c _ => if c < 128 then c * 2 else (c * 2 % 256) ^^^ 0x07) (c ^^^ b.toNat)) 0

/-- The bytes of a slot (R476): 8, or 16 of a 64-bit quantity. -/
def seedSlot (pair : Bool) (value count : Nat) : List Byte :=
  let b := if pair then leBytes 8 value ++ leBytes 3 count ++ leBytes 4 0 else leBytes 4 value ++ leBytes 3 count
  b ++ leBytes 1 (crc8 b)

/-- Count and value of a slot whose CRC is right. -/
def slotOpen (b : List Byte) : Option (Nat × Nat) :=
  let n := b.length - 1
  if b = [] ∨ crc8 (b.take n) ≠ (b.getD n 0).toNat then none
  else if n = 15 then some (leNat ((b.drop 8).take 3), leNat (b.take 8))
  else some (leNat ((b.drop 4).take 3), leNat (b.take 4))

/-- What a place resolves to (R476): the count in force, its value (none: the reset value), and whether two valid slots of that count clash. -/
structure SeedValue where
  count : Nat
  value : Option Nat
  clash : Bool
deriving DecidableEq, Repr

/-- Resolve the slots of a place. -/
def seedResolve (slots : Tbl (List Byte)) : SeedValue :=
  let ok := slots.filterMap (fun (x : Nat × List Byte) => slotOpen x.2)
  let top := ok.foldl (fun m (x : Nat × Nat) => max m x.1) 0
  match ok.filter (fun x => x.1 = top) with
  | [] => { count := 0, value := none, clash := false }
  | x :: rest => if rest.all (fun y => y.2 = x.2) then { count := top, value := some x.2, clash := false } else { count := top, value := none, clash := true }

/-- The place of the register at `o`, resolved. -/
def State.seedPlace (s : State) (o : Nat) : SeedValue := seedResolve (Tbl.get (fun _ => []) s.sd.slots (seedKey o))

/-- The class P registers that have their place in the persistent-registers region (Table 18.3). DESIGN CHOICE: place n is that of the n-th of them in
ascending order, a 64-bit quantity taking two. -/
def seedRegs : List Nat :=
  [GLB + 0x100, TB + 0x28, TB + 0x2C] ++ (List.range 40).map (fun c => MC + 0x1000 * c) ++ TP :: (List.range 256).map (fun i => DF + 0x800 + 4 * i) ++
  [WP + 0x18, WP + 0x20, WP + 0x24, WP + 0x30, WP + 0x34, RK, GX + 0x18, HI, HI + 4, HI + 8] ++ (List.range 32).map (fun i => HI + 0x40 + 4 * i) ++
  [HI + 0xC0, CP, CP + 0x18, SW, SW + 0x14, SW + 0x18, SQ] ++
  (List.range 24).flatMap (fun n => [0, 4, 8, 0xC].map (fun k => SQ + 0x100 + 0x20 * n + k)) ++
  (List.range 12).map (fun i => TH + 0x10 + 4 * i) ++ [TH + 0x60, TH + 0x64, TH + 0x68, TH + 0x100]

/-- The place of the register at `o`, counted from page 64 (Table 18.3): 8 to a page; after the 1,024 of the registers those of the domain table and
of the domain state. -/
def homePlace (o : Nat) : Nat :=
  if QD ≤ o ∧ o < QD + 0x20000 then 1024 + 6 * ((o - QD) / 0x20) + (o - QD) % 0x20 / 4
  else if GX + 0x1000 ≤ o ∧ o < GX + 0x5000 then 25600 + (o - (GX + 0x1000)) / 4
  else seedRegs.idxOf o

/-- The place that a register holds now (R478). -/
def State.regPlace (s : State) (k : Nat) : Nat := (Tbl.find s.sd.regMoved k).getD (homePlace k)

/-- The page of a place. -/
def placePage (p : Nat) : Nat := 64 + p / 8

/-- The first place of the persistent-registers region that nothing uses or has used, with the next for a 64-bit quantity. -/
def State.seedFree (s : State) (pair : Bool) : Option Nat :=
  let taken (p : Nat) : Bool := decide (p < seedRegs.length) || decide (p ∈ s.sd.wornPlaces) ||
    s.sd.regMoved.any (fun x => decide (p = x.2) || (decide (x.1 ∈ seedPairs) && decide (p = x.2 + 1)))
  (List.range 1024).find? (fun p => !taken p && (!pair || (decide (p + 1 < 1024) && !taken (p + 1))))

/-- SD_WEAR follows the highest write count. -/
def State.seedWear (s : State) (c : Nat) : State := if s.fld (SD + 0x0C) 17 0 < c then s.setFld (SD + 0x0C) 17 0 c else s

/-- Write the class P fields that the register at `k` holds (with its high half, if it is a 64-bit quantity) into the next slot of its place (R476 to
R478): slot (c + 1) mod 4 with count c + 1. A register of R478 at 250,000 goes to an unused place, or on in its worn one where none remains. -/
def State.slotWrite (s : State) (k : Nat) : State :=
  let pair := decide (k ∈ seedPairs)
  let v := (s.reg k &&& persistMask k).toNat + (if pair then (s.reg (k + 4) &&& persistMask (k + 4)).toNat * 2 ^ 32 else 0)
  let here := Tbl.get (fun _ => []) s.sd.slots k
  let c := (seedResolve here).count
  let stay (t : State) : State :=
    State.seedWear { t with sd := { t.sd with slots := Tbl.put t.sd.slots k (Tbl.put here ((c + 1) % 4) (seedSlot pair v (c + 1))) } } (c + 1)
  if c < 250000 then stay s
  else
    let old := s.regPlace k
    match s.seedFree pair with
    | some f =>
      State.event { s with sd := { s.sd with
        slots := Tbl.put s.sd.slots k [(0, seedSlot pair v 1)]
        regMoved := Tbl.put s.sd.regMoved k f
        wornPlaces := (if pair then [old, old + 1] else [old]) ++ s.sd.wornPlaces } } 0xF304 0 none old f
    | none =>
      if k ∈ s.sd.wornOn then stay s
      else State.event { stay s with sd := { (stay s).sd with wornOn := k :: s.sd.wornOn } } 0xF307 0 none (placePage old) 0

/-- May the register at `o` still be written (R477, R478)? -/
def State.seedOpen (s : State) (o : Nat) : Bool := decide ((s.seedPlace o).count < 250000) || selfWritten o

/-- A write to a register at 250,000 writes is ignored, and the register counted as frozen, once (R477). -/
def State.freeze (s : State) (o : Nat) : State :=
  if o ∈ s.sd.frozen then s
  else
    let s := { s with sd := { s.sd with frozen := o :: s.sd.frozen } }
    let s := s.setFld (SD + 0x04) 14 0 s.sd.frozen.length
    let s := s.setFld (SD + 0x08) 20 0 o
    s.event 0xF301 0 none o 0

/-- Put `v` into the class P fields of the register at `o`, in the register and in a slot of its Seed store place (R476, R477). -/
def State.persist (s : State) (o : Nat) (v : Word) : State :=
  let m := persistMask o
  if s.seedOpen o then (s.setReg o ((s.reg o &&& ~~~ m) ||| (v &&& m))).slotWrite (seedKey o) else s.freeze (seedKey o)

/-- Write field [hi:lo] of a class P register, through to the Seed store. -/
def State.persistFld (s : State) (o hi lo x : Nat) : State := s.persist o (putBits (s.reg o) hi lo x)

/-- Write both halves of a 64-bit class P quantity: one slot write (R476). -/
def State.persistPair (s : State) (o : Nat) (lo hi : Word) : State :=
  let put (t : State) (o : Nat) (v : Word) : State := t.setReg o ((t.reg o &&& ~~~ persistMask o) ||| (v &&& persistMask o))
  if s.seedOpen o then (put (put s o lo) (o + 4) hi).slotWrite o else s.freeze o

/-- Write a 64-bit class P quantity. -/
def State.persist64 (s : State) (o x : Nat) : State := s.persistPair o (BitVec.ofNat 32 x) (BitVec.ofNat 32 (x / 2 ^ 32))

/-! ### Writes under the access codes (R8 to R10) -/

/-- What one field holds after a plain write of `v` over `old` (Table 00.2, R9). RWP fields change when the Seed store write
completes, RWA fields only by command, WO fields hold nothing. -/
def Fld.after (o : Nat) (f : Fld) (old v : Word) : Nat :=
  let was := bits old f.hi f.lo
  let new := bits v f.hi f.lo
  match f.acc with
  | .ro | .rwp | .rwa | .rc => was
  | .rw => if f.legal.ok new && crossOk o f old v then new else was
  | .w1c => was - (was &&& new)
  | .wo => 0

/-- The word a register holds after a plain write. -/
def plainWord (o : Nat) (old v : Word) : Word :=
  if wholeOk o v then assemble (fun f => f.after o old v) (fieldsAt o) else old

/-- The word that the RWP fields of a write put into a register, field by field, keeping fields with a reserved encoding. -/
def persistWord (o : Nat) (old v : Word) : Word :=
  if wholeOk o v then
    assemble (fun f => if f.acc = .rwp ∧ f.legal.ok (bits v f.hi f.lo) then bits v f.hi f.lo else bits old f.hi f.lo) (fieldsAt o)
  else old

/-- Does the register have an RWP field? -/
def hasPersist (o : Nat) : Bool := (fieldsAt o).any (fun f => f.acc = .rwp)

/-- Put a write into the Seed store queue (R473). -/
def State.queueSeed (s : State) (w : SeedWrite) : State :=
  ({ s with sd := { s.sd with queue := s.sd.queue ++ [w] } }).setBit SD 29 true

/-- A plain write of `v` to the register at `o`: the plain fields at once, the RWP fields through the Seed store queue. -/
def State.plainWrite (s : State) (who : Requester) (o : Nat) (v : Word) : State :=
  let s := s.setReg o (plainWord o (s.reg o) v)
  if hasPersist o ∧ wholeOk o v then s.queueSeed (.register who o v) else s

/-! ### Who may reach BAR0 (R504, R474) -/

/-- Has recall ended (SD_STATUS.recall_done)? Until then every requester is refused (R474). -/
def State.recalled (s : State) : Bool := s.flag SD 31

/-- Does the register space answer: recall over (R474), core rails up (R415)? -/
def State.regsUp (s : State) : Bool := s.recalled && decide (s.power ≤ 2)

/-- May this requester write registers of the owner's BAR0 (Table 20.4)? -/
def mayWrite : Requester → Bool
  | .owner | .lark => true
  | _ => false

/-- May this requester read registers of the owner's BAR0 (Table 20.4)? -/
def mayRead : Requester → Bool
  | .owner | .lark | .mctp => true
  | _ => false

/-- Requester code of GLB_ERR_LOG (Table 20.10); 3, which is reserved, for every other. -/
def reqCode : Requester → Nat
  | .owner => 0
  | .lark => 1
  | .mctp => 2
  | _ => 3

/-- The port that carries a requester's accesses: the owner function's port (HI_CTL.owner_port), or an LD's. -/
def State.portOf (s : State) (w : Requester) : Nat :=
  match w with
  | .host i => i / 16
  | _ => s.host.ownerPort

/-- A refused register access (Table 20.10): counted in GLB_ERR_CNT, and logged in GLB_ERR_LOG when none is logged and the requester has a code
there. Rule 0 is R5, rule 1 is R504. -/
def State.logRefused (s : State) (w : Requester) (rule off : Nat) (write : Bool) : State :=
  let s := if rule = 0 then s.bump (GLB + 0x14) 15 0 1 else s.bump (GLB + 0x14) 31 16 1
  if s.flag (GLB + 0x10) 31 ∨ reqCode w = 3 then s
  else
    s.setReg (GLB + 0x10) (BitVec.ofNat 32 (2 ^ 31 + reqCode w * 2 ^ 24 + (if write then 2 ^ 23 else 0) + rule % 2 * 2 ^ 22 + off % 2 ^ 21 / 4 * 4))

/-- A disallowed access of a requester without the right (R504 as R262): a write is ignored, a read returns all ones, and an
advisory non-fatal error goes to the port that carried it. -/
def State.disallowed (s : State) (w : Requester) (off : Nat) (write : Bool) : State :=
  let s := (s.logRefused w 1 off write).emit (.advisoryNonFatal (s.portOf w))
  if write then s else s.emit (.readData w 0xFFFFFFFF)

/-- Make a register write of requester `w`, if the register space answers and the requester has the right; `k` is what it does. -/
def State.asWriter (s : State) (w : Requester) (off : Nat) (k : State → State) : State :=
  if ¬ s.regsUp then s else if mayWrite w then k s else s.disallowed w off true

/-- A long operation starts (R364, R365): CP_STATUS.long_op, CP_PROGRESS and CP_PROGRESS_SRC. -/
def State.beginLong (s : State) (opcode mb authority dom : Nat) : State :=
  let s := ({ s with lark := { s.lark with longOp := some ⟨opcode, mb, authority, dom⟩ } }).setBit CP 29 true
  (s.setReg (CP + 8) (BitVec.ofNat 32 (opcode * 2 ^ 16 + 2 ^ 14))).setReg (CP + 0xC) (BitVec.ofNat 32 (mb + authority % 16 * 2 ^ 8))

/-- GLB_RST_STAT of a reset that has ended: kind and cause (Table 18.7). -/
def State.resetDone (s : State) (kind cause : Nat) : State := s.setReg (GLB + 0x104) (BitVec.ofNat 32 (kind + cause % 256 * 256))

/-- Answer of a command that names an instance below a bound; one that names an instance the part does not have reaches nothing. -/
def below (i n : Nat) (s : State) (o : Answer) : Answer := if i < n then o else .next s

end Sys2Proof.Machine
end

