-- ==== Sys2Proof/Machine/Mirror.lean ====
section
/-! DEFINITION. Machine/Mirror.lean: messages to other Sward nodes (R380, R382), which part this member plays for a mirrored or migrating domain
(R384 to R391), the mirror stream and the dirty-plot bitmap (R385, R389, R390). -/

namespace Sys2Proof.Machine

/-! ### Messages to other nodes -/

/-- A Sward port that nothing is known of. -/
def SwPort.fresh : SwPort := { peerUid := 0, peerPort := 0, helloOk := false, replays := 0, delayNs := 0 }

/-- What is held of a Sward port, and its change; SW_PORT_STAT of it. -/
def State.swPort (s : State) (n : Nat) : SwPort := (Tbl.find s.sw.ports n).getD SwPort.fresh
def State.setSwPort (s : State) (n : Nat) (x : SwPort) : State := { s with sw := { s.sw with ports := Tbl.put s.sw.ports n x } }
def portOff (n : Nat) : Nat := SW + 0x40 + 4 * n

/-- Does a Sward port carry traffic: up, secure, the hello good (R373, R376), and not retraining (R372)? -/
def State.swUp (s : State) (n : Nat) : Bool :=
  s.flag (portOff n) 0 && s.flag (portOff n) 1 && (s.swPort n).helloOk && decide ((s.swPort n).replays < 8)

/-- The port toward a node (R380): the primary port of its routing entry, the alternate one where the primary link is down. -/
def State.routeOf (s : State) (node : Nat) : Option Nat :=
  let o := SW + 0x400 + 4 * node
  if s.flag o 3 ∧ s.swUp (s.fld o 2 0) then some (s.fld o 2 0)
  else if s.flag o 7 ∧ s.swUp (s.fld o 6 4) then some (s.fld o 6 4)
  else none

/-- Kinds of message in `Out.sward` (labels of the model: the spec gives the message types no numbers). -/
def msgAck : Nat := 1
def msgHello : Nat := 2
def msgFlood : Nat := 3
def msgReport : Nat := 4
def msgRouting : Nat := 5
def msgTime : Nat := 6
def msgPeer : Nat := 7
def msgKeepalive : Nat := 8
def msgBroadcast : Nat := 9
def msgRetrain : Nat := 10
def msgKeyUpdate : Nat := 11
def msgResend : Nat := 12

/-- Send a message for node `dest` out of a port on a virtual channel (Tables 14.1, 14.2). -/
def State.sendVia (s : State) (p dest vc msg : Nat) (vals : List Nat) : State := (s.emit (.sward p dest vc msg vals)).count 9 (0xB0 + vc) 8 1

/-- Send a message to the neighbour at a port. -/
def State.sendOn (s : State) (p vc msg : Nat) (vals : List Nat) : State := s.sendVia p (s.fld (portOff p) 15 8) vc msg vals

/-- Send a message to a node, if a route is up; a flit with no link up is discarded (R380). -/
def State.sendTo (s : State) (node vc msg : Nat) (vals : List Nat) : State :=
  match s.routeOf node with
  | some p => s.sendVia p node vc msg vals
  | none => s

/-- This node's ID. -/
def State.nodeId (s : State) : Nat := s.fld (SW + 8) 7 0

/-- A message has been sent `n` times, the last time now, and not acknowledged; 0: nothing of it is held any more. -/
def State.setSends (s : State) (dest msg n : Nat) : State :=
  let rest := s.sw.sends.filter (fun (x : Sending) => ¬ (x.dest = dest ∧ x.msg = msg))
  { s with sw := { s.sw with sends := if n = 0 then rest else rest ++ [⟨dest, msg, n, s.tb.tick⟩]
                             peerBusy := if n = 0 then Tbl.del s.sw.peerBusy msg else s.sw.peerBusy } }

/-- Mirror records, forwarded writes and peer commands as END_TO_END_RESEND knows them: the former two by 2^32 plus twice their number, a forwarded
write's being odd; the last by their opcode. -/
def mirrorMsg (q : Nat) : Nat := 2 ^ 32 + 2 * q
def forwardMsg (id : Nat) : Nat := 2 ^ 32 + 2 * id + 1

/-- Send a peer command (R382) to a node on VC2. -/
def State.sendPeer (s : State) (dest opcode : Nat) (vals : List Nat) : State := (s.sendTo dest 2 msgPeer (opcode :: vals)).setSends dest opcode 1

/-! ### Mirrored domains -/

/-- The part that this member plays for a domain: no mirroring; served by nobody (R384); ISOLATED, or destination of a migration not yet
complete; DEGRADED; leader; follower, which serves reads once it is MIRRORED (R390). -/
inductive MirrorRole where
  | alone | unconfirmed | isolated | degraded | leader | follower (serves : Bool)
deriving DecidableEq, Repr

def State.mirrorState (s : State) : Nat := s.fld (SW + 0x1C) 31 28
def State.migActive (s : State) : Bool := decide (s.sw.migState = 1 ∨ s.sw.migState = 2)
def State.domAnchor (s : State) (d : Nat) : Bool := s.flag (QD + d * 0x20) 15
def State.domMirror (s : State) (d : Nat) : Bool := s.flag (QD + d * 0x20) 14
def State.domPool (s : State) (d : Nat) : Nat := s.fld (QD + d * 0x20 + 0xC) 23 0
def State.domSize (s : State) (d : Nat) : Nat := s.fld (QD + d * 0x20 + 8) 23 0 - s.fld (QD + d * 0x20 + 4) 23 0

/-- Is this node the source of a live migration of a domain whose writes are mirrored (R391, R400)? -/
def State.migLeads (s : State) (d : Nat) : Bool :=
  s.sw.migSource && s.migActive && decide (s.sw.migSnap = none) && decide (s.sw.migDom = d)

/-- Is a domain of this node the destination of a live migration? -/
def State.migFollows (s : State) (d : Nat) : Bool := !s.sw.migSource && s.migActive && decide (s.sw.migDom = d)

def State.mirrorRole (s : State) (d : Nat) : MirrorRole :=
  let lead := s.flag (SW + 0x1C) 27
  if s.migLeads d then .leader
  else if s.migFollows d then (if s.sw.migState = 1 then .isolated else .follower true)
  else if ¬ s.domMirror d then .alone
  else if s.mirrorState < 2 ∨ d ∉ s.sw.confirmed then .unconfirmed
  else match s.mirrorState with
    | 3 => .degraded
    | 4 => .isolated
    | 2 => if lead then .leader else .follower true
    | _ => if lead then .leader else .follower false

/-- The node at the other end of a domain's mirror stream. -/
def State.mirrorPeer (s : State) (d : Nat) : Nat :=
  if s.migLeads d ∨ s.migFollows d then s.sw.migNode else s.fld (SW + 0x1C) 23 16

/-- Sequence numbers of a live migration's stream lie above every number of the pair's (DESIGN CHOICE: the spec gives one sequence, and
does not say how the two streams share it). -/
def migBase : Nat := 2 ^ 63

/-- Does this node copy a domain's lines to another node, the live domain's or a snapshot's (R391, R400)? -/
def State.migCopies (s : State) (d : Nat) : Bool := s.sw.migSource && s.migActive && decide (s.sw.migDom = d)

/-- Give a write or a copied line its mirror sequence number and send its record on virtual channel `vc` (R385, R390, R391). In a migration
the record names the destination's domain and line. Answers the number. -/
def State.mirrorOut (s : State) (r : MirrorRec) (vc : Nat) : Nat × State :=
  let route := (s.routeOf (if s.migCopies r.dom then s.sw.migNode else s.mirrorPeer r.dom)).isSome
  let send (t : State) (x : MirrorRec) : State :=
    let t := { t with sw := { t.sw with outstanding := t.sw.outstanding ++ [x], lastAck := if t.sw.outstanding = [] then t.tb.tick else t.sw.lastAck } }
    let t := t.setSends (if s.migCopies r.dom then s.sw.migNode else s.mirrorPeer r.dom) (mirrorMsg x.seq) 1
    ((if route then t.emit (.mirror x vc) else t).count 9 0xB9 8 1).count 9 (0xB0 + vc) 8 1
  if s.migCopies r.dom then
    let q := s.sw.migSeq
    let x : MirrorRec := { r with seq := q, dom := s.sw.migDst, line := r.line - s.domPool r.dom * 16384 + s.sw.migPool * 16384 }
    (q, send { s with sw := { s.sw with migSeq := q + 1 } } x)
  else
    let q := s.reg64 (SW + 0x20) + 1
    (q, send (s.setReg64 (SW + 0x20) q) { r with seq := q })

/-- Acknowledge a mirror sequence number to the other member. -/
def State.mirrorAckOut (s : State) (q : Nat) : State :=
  s.sendTo (if migBase ≤ q then s.sw.migNode else s.fld (SW + 0x1C) 23 16) 0 msgAck [q]

/-- Nothing of a live migration's stream is under way any more. -/
def Sward.migStop (w : Sward) : Sward :=
  { w with outstanding := w.outstanding.filter (fun r => decide (r.seq < migBase)), early := w.early.filter (fun r => decide (r.seq < migBase))
           ackWait := w.ackWait.filter (fun x => decide (x.2 < migBase)), resyncUnacked := w.resyncUnacked.filter (fun x => decide (x.2 < migBase))
           fwd := w.fwd.filter (fun r => decide (r.seq < migBase)), fwdSeen := w.fwdSeen.filter (fun q => decide (q < migBase))
           sends := w.sends.filter (fun (x : Sending) => decide (x.msg < mirrorMsg migBase)) }

/-! ### The dirty-plot bitmap (R389) -/

/-- Offset of the bitmap in Commons. -/
def State.bitmapBase (s : State) : Nat := s.rk.commonsMib * 2 ^ 20 - s.usable * 128

/-- Is plot `p` dirty, and its change. -/
def State.dirtyPlot (s : State) (p : Nat) : Bool := ((s.rk.commons.read (s.bitmapBase + p / 8)).toNat).testBit (p % 8)
def State.setDirty (s : State) (p : Nat) (v : Bool) : State :=
  let a := s.bitmapBase + p / 8
  let b := (s.rk.commons.read a).toNat
  let n := if b.testBit (p % 8) then b - 2 ^ (p % 8) else b
  { s with rk := { s.rk with commons := s.rk.commons.write a (BitVec.ofNat 8 (if v then n + 2 ^ (p % 8) else n)) } }

/-- Dirty plots at or above plot `p`, ascending. -/
def State.dirtyFrom (s : State) (p : Nat) : List Nat :=
  let base := s.bitmapBase
  (s.rk.commons.filter (fun c => decide (base + p / 8 ≤ c.1))).flatMap (fun c =>
    ((List.range 8).map (fun k => (c.1 - base) * 8 + k)).filter (fun q => decide (p ≤ q) && (c.2.toNat.testBit (q % 8))))

/-- A line read for a resync or migration goes out on VC1 as a full-line record, with its number (R390). -/
def State.resyncSend (s : State) (line d : Nat) (data : List Byte) (poison : Bool) : State :=
  let (q, s) := s.mirrorOut ⟨0, d, line, BitVec.allOnes 64, data, poison⟩ 1
  let s := s.count 9 (if s.migCopies d then 0xBC else 0xBB) 8 1
  { s with sw := { s.sw with resyncUnacked := s.sw.resyncUnacked ++ [(line / 16384, q)] } }

end Sys2Proof.Machine
end

