-- ==== Sys2Proof/Machine/Recorder.lean ====
section
/-! DEFINITION. Machine/Recorder.lean: the event recorder, the meter stream and the performance monitor (17). -/

namespace Sys2Proof.Machine

/-! ### Recorder levels (R439 to R445) -/

/-- Records of staging not yet offered to the ring, oldest first. -/
def State.unoffered (s : State) : List EventRec := (s.ev.staging.filter (fun x => !x.offered)).map (·.ev)

/-- The records that one page write puts on the page (R440): all when 8 or fewer wait, else the 8 of highest severity, oldest
first within a severity; in sequence order on the page. -/
def ringPick (w : List EventRec) : List EventRec :=
  if w.length ≤ 8 then w
  else
    let bySev := w.filter (·.sev = 3) ++ w.filter (·.sev = 2) ++ w.filter (·.sev = 1) ++ w.filter (·.sev = 0)
    w.filter (fun e => e ∈ bySev.take 8)

/-- After records left staging: those archived and offered go (R442), and record 0xF102 gives the count lost since the last. -/
def State.stagingRoom (s : State) : State :=
  let s := { s with ev := { s.ev with staging := s.ev.staging.filter (fun x => !(x.offered && x.archived)) } }
  if 0 < s.ev.lostSince ∧ s.ev.staging.length < 256 then
    let n := s.ev.lostSince
    ({ s with ev := { s.ev with lostSince := 0 } }).event 0xF102 0 none n 0
  else s

/-- A ring page write (R440), over the oldest of the 512 pages. -/
def State.ringPage (s : State) : State :=
  let w := s.unoffered
  if w = [] then s
  else
    let s := { s with ev := { s.ev with
      ring := (ringPick w :: s.ev.ring).take 512
      ringAt := s.ev.ringAt + 1
      lastRing := some s.tb.tick
      staging := s.ev.staging.map (fun (x : Staged) => { x with offered := true }) } }
    (s.bump (EV + 0x20) 31 0 (w.length - (ringPick w).length)).stagingRoom

/-- Every record held at some level. -/
def State.heldRecords (s : State) : List EventRec := s.ev.staging.map (·.ev) ++ s.ev.ring.flatten ++ s.ev.archive

/-- EV_SEQ_FIRST: the sequence number of the oldest record held. -/
def State.seqFirst (s : State) : Nat :=
  match s.heldRecords.map (·.seq) with
  | [] => s.ev.next
  | x :: xs => xs.foldl min x

/-- Bytes of a record (Table 17.1). -/
def EventRec.bytes (e : EventRec) : List Byte :=
  leBytes 8 e.seq ++ leBytes 8 e.ztime ++ leBytes 2 e.code ++ leBytes 1 e.block ++ leBytes 1 e.inst ++
  leBytes 2 (match e.dom with | some d => d % 4096 | none => 0x8FFF) ++ leBytes 1 e.sev ++ leBytes 1 e.flags ++
  leBytes 4 e.p0 ++ leBytes 4 e.p1

/-! ### Performance monitor (R456 to R458) -/

/-- A CXL.mem request completes: the sampler captures it when a capture is armed and the bank's scope holds its port (R458). -/
def State.pmComplete (s : State) (port cls dom cause line lat chan : Nat) (write : Bool) : State :=
  match s.pm.armed with
  | none => s
  | some (i, skid) =>
    if i / 16 = port ∨ 2 ≤ i / 16 then
      let s := { s with pm := { s.pm with armed := none } }
      let s := s.setReg (PM + 0xE00) (BitVec.ofNat 32 (i + min skid 32 * 2 ^ 8 + cls % 4 * 2 ^ 14 + dom % 4096 * 2 ^ 16 + cause % 16 * 2 ^ 28))
      let s := s.setReg64 (PM + 0xE04) line
      let s := s.setReg (PM + 0xE0C) (BitVec.ofNat 32 lat)
      let s := s.setReg (PM + 0xE10) (BitVec.ofNat 32 (chan % 64 + (if write then 256 else 0)))
      let s := s.setReg64 (PM + 0xE14) s.tb.ztime
      let s := (s.setBit (PM + 4) 0 true).setFld (PM + 4) 15 8 i
      s.emit (.msix 3)
    else { s with pm := { s.pm with armed := some (i, skid + 1) } }

/-- Count one issue slot of channel `c` in a category of Table 17.12 (0 to 8). -/
def State.slotCount (s : State) (c cat : Nat) : State :=
  if s.flag PM 0 then
    let s := { s with pm := { s.pm with slots := Tbl.upd (fun _ => 0) s.pm.slots (9 * c + cat) (fun n => (n + 1) % 2 ^ 48) } }
    s.count (2 + c / 8) (0x40 + cat) (c % 8) 1
  else s

/-! ### Meter accumulators (R447) -/

/-- An accumulator at the start of a window; geff_min is settled at close. -/
def MeterAcc.fresh : MeterAcc :=
  { readLines := 0, writeLines := 0, shortfall := 0, heldTicks := 0, ladder := 0, media := 0, own := 0, load := 0, late := 0
    maxNs := 0, geffMin := 65535, partialWin := false, scaled := false, quarantined := false, deleted := false }

/-- The accumulator of a domain in the open bank. -/
def State.acc (s : State) (d : Nat) : MeterAcc := Tbl.get (fun _ => MeterAcc.fresh) s.mt.open_ d

/-- Accumulate for a valid domain (R447). -/
def State.meter (s : State) (d : Nat) (f : MeterAcc → MeterAcc) : State :=
  if s.domValid d then { s with mt := { s.mt with open_ := Tbl.upd (fun _ => MeterAcc.fresh) s.mt.open_ d f } } else s

/-- meter_en of a domain as it stands (QS_DOM_CFG bit 13). -/
def State.meterEn (s : State) (d : Nat) : Bool := s.flag (QD + d * 0x20) 13

/-- g of a domain (QS_DOM_RATE [15:0]). -/
def State.domG (s : State) (d : Nat) : Nat := s.fld (QD + d * 0x20 + 0x10) 15 0

/-- Tier of a domain (QS_DOM_CFG [21:20]). -/
def State.domTier (s : State) (d : Nat) : Nat := s.fld (QD + d * 0x20) 21 20

/-- Latency class of a domain (QS_DOM_CFG [17:16]). -/
def State.domClass (s : State) (d : Nat) : Nat := s.fld (QD + d * 0x20) 17 16

/-- The scaling factor of a tier in 256ths (QS_SCALE). -/
def State.scale (s : State) (t : Nat) : Nat := s.fld (QS + 0x30 + t * 4) 8 0

/-- geff of a domain (R314): g scaled by its tier's factor. -/
def State.geff (s : State) (d : Nat) : Nat := s.domG d * s.scale (s.domTier d) / 256

/-- Cap a count at its field of `w` bits. -/
def cap (w x : Nat) : Nat := min x (2 ^ w - 1)

/-- The record unit of a domain (Table 17.5) for a window. `fl` are flag bits 0 to 2 and 4 of the packet. -/
def State.meterRecord (s : State) (fl first minutes d : Nat) : List Byte :=
  let a := s.acc d
  let geff := min a.geffMin (s.geff d)
  let sat := decide (2 ^ 48 ≤ a.readLines ∨ 2 ^ 48 ≤ a.writeLines ∨ 2 ^ 48 ≤ a.shortfall ∨ 2 ^ 32 ≤ a.heldTicks / 1000 ∨ 2 ^ 32 ≤ a.ladder ∨
    2 ^ 32 ≤ a.media ∨ 2 ^ 32 ≤ a.own ∨ 2 ^ 32 ≤ a.load ∨ 2 ^ 32 ≤ a.late ∨ 2 ^ 32 ≤ a.maxNs ∨ 65535 ≤ minutes)
  let flags := fl + (if a.partialWin ∨ a.deleted then 8 else 0) + (if a.scaled ∨ s.scale (s.domTier d) < 256 then 32 else 0) +
    (if a.quarantined ∨ s.flag (GX + 0x1000 + d * 4) 31 then 64 else 0) + (if sat then 128 else 0)
  leBytes 4 first ++ leBytes 2 d ++ leBytes 2 (cap 16 minutes) ++ leBytes 1 flags ++
  leBytes 1 (s.domTier d + 4 * s.domClass d) ++ leBytes 2 (s.domG d) ++ leBytes 2 geff ++ leBytes 2 0 ++
  leBytes 6 (cap 48 a.readLines) ++ leBytes 6 (cap 48 a.writeLines) ++ leBytes 6 (cap 48 a.shortfall) ++
  leBytes 4 (cap 32 (a.heldTicks / 1000)) ++ leBytes 2 0 ++ leBytes 4 (cap 32 a.ladder) ++ leBytes 4 (cap 32 a.media) ++
  leBytes 4 (cap 32 a.own) ++ leBytes 4 (cap 32 a.load) ++ leBytes 4 (cap 32 a.late) ++ leBytes 4 (cap 32 a.maxNs)

/-- The header unit of a packet (Table 17.7); its length word stays 0 until the last record has entered the stream. -/
def meterHeader (len fl seq z first minutes : Nat) : List Byte :=
  leBytes 4 len ++ leBytes 2 1 ++ leBytes 2 (fl % 4 + fl / 4 % 2 * 4 + fl / 16 % 2 * 8) ++ leBytes 8 seq ++ leBytes 8 z ++
  leBytes 4 first ++ leBytes 2 (cap 16 minutes) ++ leBytes 34 0

/-- Does a domain have a record in the closing window (R448)? -/
def State.metered (s : State) (d : Nat) : Bool := (s.domValid d && s.meterEn d) || (s.acc d).deleted

/-- Domains with a record, ascending. -/
def State.meteredDomains (s : State) : List Nat := (List.range 4096).filter s.metered

/-- Units the spool holds in all. -/
def spoolUnits : Nat := 16777216

/-- MT_STATUS bit 1, request: set when the units held reach hi, with owner MSI-X vector 4 (Table 13.5), cleared when they fall to lo (R450). -/
def State.meterRequest (s : State) : State :=
  let n := s.mt.units.length
  if s.fld (MT + 4) 31 16 * 4096 ≤ n then (if s.flag (MT + 8) 1 then s else s.emit (.msix 4)).setBit (MT + 8) 1 true
  else if n ≤ s.fld (MT + 4) 15 0 * 4096 then s.setBit (MT + 8) 1 false
  else s

/-- A new window opens at the present UTC minute. -/
def State.meterOpen (s : State) : State :=
  { s with
    mt := { s.mt with open_ := [], firstMinute := s.utcMinute, minutes := 1, gap := false, coalesced := false, holdover := false }
    tb := { s.tb with minuteUnlocked := decide (s.tbState ≠ 2) } }

/-- The next packet sequence number, covered 256 ahead by the spread counter of place 10. -/
def State.packetSeq (s : State) : State :=
  if s.mt.next < s.mt.covered then s
  else
    let c := s.counter 10 + 256
    let s := s.advanceTo 10 c
    { s with mt := { s.mt with covered := c, next := max s.mt.next (c - 256) } }

/-- The sequence number of the packet in emission. -/
def Meter.emitting (m : Meter) : Option Nat := (m.closing.map (·.1)).head?

/-- Units of packet `q` that have entered the stream. -/
def Meter.entered (m : Meter) (q : Nat) : Nat := countIf (fun (u : Nat × List Byte) => decide (u.1 = q)) m.units

/-- Write the length word of the first unit of packet `q`, its header (R448 step 3), in the stream and among the newest units. -/
def Meter.writeLength (m : Meter) (q : Nat) : Meter :=
  let n := m.entered q
  let put (b : List Byte) : List Byte := leBytes 4 (64 * n) ++ b.drop 4
  let at_ := m.units.length - n
  { m with
    units := m.units.mapIdx (fun i (u : Nat × List Byte) => if i = at_ then (u.1, put u.2) else u)
    newest := if n ≤ m.newest.length then m.newest.mapIdx (fun i b => if i = m.newest.length - n then put b else b) else m.newest }

/-- Units of the packet in emission enter the stream while the tail window has room; with the last one the length word is written and the packet counts
as emitted (R448). -/
def State.meterPump (s : State) : State :=
  match s.mt.emitting with
  | none => s
  | some q =>
    let us := s.mt.closing.take (8 - s.mt.tail)
    if us = [] then s
    else
      let rest := s.mt.closing.drop us.length
      let mt : Meter := { s.mt with
        units := s.mt.units ++ us, closing := rest, tail := s.mt.tail + us.length
        newest := (s.mt.newest ++ us.map (fun (u : Nat × List Byte) => u.2)).drop (s.mt.newest.length + us.length - 8) }
      let s := ({ s with mt := if rest = [] then mt.writeLength q else mt }).countGlobal 0xD3 us.length
      (if rest = [] then s.bump (MT + 0x20) 15 0 1 else s).meterRequest

/-- A close of the meter window (R448, R449) counted up to UTC minute `upTo`; `stepped` for a close that Table 02.5 requires. -/
def State.meterClose (s : State) (upTo : Int) (stepped : Bool) : State :=
  let doms := s.meteredDomains
  let minutes := max s.mt.minutes (upTo - s.mt.firstMinute).toNat
  if spoolUnits < s.mt.units.length + (1 + doms.length) ∨ s.mt.closing ≠ [] then
    let s := (s.bump (MT + 0x20) 31 16 1)
    let s := if s.mt.coalescing then s else s.event 0xF202 0 none (twos 32 s.mt.firstMinute) (cap 16 minutes)
    { s with
      mt := { s.mt with minutes := minutes + 1, coalesced := true, coalescing := true, holdover := s.mt.holdover || s.tb.minuteUnlocked }
      tb := { s.tb with minuteUnlocked := decide (s.tbState ≠ 2) } }
  else
    let first := twos 32 s.mt.firstMinute
    let fl := (if s.mt.holdover ∨ s.tb.minuteUnlocked then 1 else 0) + (if stepped then 2 else 0) +
      (if s.mt.coalesced ∨ 1 < minutes then 4 else 0) + (if s.mt.gap then 16 else 0)
    let s := s.packetSeq
    let seq := s.mt.next
    let units := (seq, meterHeader 0 fl seq s.tb.ztime first minutes) :: doms.map (fun d => (seq, s.meterRecord fl first minutes d))
    let was := s.mt.coalescing
    let s := { s with mt := { s.mt with closing := units, next := seq + 1, coalescing := false } }
    let s := if was then s.event 0xF203 0 none first (cap 16 minutes) else s
    s.meterOpen.meterPump

/-! ### The commands -/

/-- RING_PAGE_WRITE (R440): with records waiting and ring_gap_s passed since the previous page write. -/
def execRingPageWrite (s : State) : Answer :=
  .next (match s.ev.lastRing with
    | none => s.ringPage
    | some t => if s.fld EV 7 0 * 1000000 ≤ s.tb.tick - t then s.ringPage else s)

/-- Where a sequence number is held, searched in staging, ring, archive (R444). -/
def State.findRecord (s : State) (q : Nat) : Nat × Option EventRec :=
  match (s.ev.staging.map (·.ev)).find? (fun e => e.seq = q) with
  | some e => (1, some e)
  | none =>
    match s.ev.ring.flatten.find? (fun e => e.seq = q) with
    | some e => (2, some e)
    | none =>
      match s.ev.archive.find? (fun e => e.seq = q) with
      | some e => (3, some e)
      | none => (0, none)

/-- The high half of EV_READ_SEQ: both halves take effect (R7), and the record of that number is latched (R444). -/
def State.readSeq (s : State) (who : Requester) (v : Word) : State :=
  let s := match s.holds.find? (fun h => h.who = who ∧ h.off = EV + 0x30) with
    | some h => { (s.setReg (EV + 0x30) h.val) with holds := s.holds.filter (fun h => ¬ (h.who = who ∧ h.off = EV + 0x30)) }
    | none => s
  let s := s.setReg (EV + 0x34) v
  let (loc, r) := s.findRecord (s.reg64 (EV + 0x30))
  { (s.setReg (EV + 0x38) (BitVec.ofNat 32 loc)) with ev := { s.ev with latched := r } }

/-- EV_READ_SEQ_WRITE (R444). -/
def execEvReadSeqWrite (who : Requester) (v : Word) (s : State) : Answer := .next (s.asWriter who (EV + 0x34) (fun t => t.readSeq who v))

/-- Is the next unit available to the meter port: has its packet's length word been written (R450)? -/
def State.meterAvail (s : State) : Bool :=
  match s.mt.units with
  | [] => false
  | u :: _ => decide (s.mt.emitting ≠ some u.1)

/-- MT_STATUS (Table 17.14). -/
def State.mtStatus (s : State) : Word :=
  let w := putBits (putBits (s.reg (MT + 8)) 0 0 (if s.meterAvail then 1 else 0)) 2 2 (if s.mt.coalescing then 1 else 0)
  putBits w 3 3 (if s.mt.closing = [] then 0 else 1)

/-- PM_COUNTER_OVERFLOW (R458): counter `k` of bank `bank`, if it counts, wraps to 0. -/
def execPmCounterOverflow (bank k : Nat) (s : State) : Answer :=
  below bank 12 s (below k 16 s (.next (
    if s.flag PM 0 ∧ s.flag (PM + 0x100 + (16 * bank + k) * 0x10) 31 then
      ({ s with pm := { s.pm with vals := Tbl.set (fun _ => 0) s.pm.vals (16 * bank + k) 0 } }).pmOverflow bank k
    else s)))

/-- PM_SLOT_CLEAR (R457): a write of 1 to PM_CTL.slot_clear. -/
def execPmSlotClear (who : Requester) (s : State) : Answer :=
  .next (s.asWriter who PM (fun s => { s with pm := { s.pm with slots := [] } }))

/-- After recovery every staged record not yet archived goes to the archive in sequence order (R441). -/
def State.archiveDrain (s : State) : State :=
  if s.wb.recovered then
    let w := (s.ev.staging.filter (fun x => !x.archived)).map (·.ev)
    ({ s with ev := { s.ev with
      archive := (w.reverse ++ s.ev.archive).take 1048576
      archived := s.ev.archived + w.length
      staging := s.ev.staging.map (fun (x : Staged) => { x with archived := true }) } }).stagingRoom
  else s

end Sys2Proof.Machine
end

