-- ==== Sys2Proof/Machine/Time.lean ====
section
/-! DEFINITION. Machine/Time.lean: the time base and the schedule table (02). -/

namespace Sys2Proof.Machine

/-! ### State of the time base -/

/-- Enter a state of Table 02.4. Any state but LOCKED marks the open meter minute and drift interval (R38, R168). -/
def State.setTbState (s : State) (x : Nat) : State :=
  let s := s.setFld TB 2 0 x
  if x = 2 then { s with tb := { s.tb with wasLocked := true } }
  else { s with tb := { s.tb with minuteUnlocked := true, driftUnlocked := true, inPhase := 0 } }

/-- Take a time source (TB_STATUS.source). -/
def State.setSource (s : State) (x : Nat) : State := s.setFld TB 5 4 x

/-- TB_STATUS.source. -/
def State.source (s : State) : Nat := s.fld TB 5 4

/-- TB_STATUS.time_valid. -/
def State.timeValid (s : State) : Bool := s.flag TB 8

/-- What the absorption in progress has still to give. -/
def State.absorbLeft (s : State) : Int := match s.tb.absorb with | some a => a.left | none => 0

/-- ztime after one 1 us tick: at its own rate, at half rate, or slewed by 200 ppm, which is 1 ns in 5 ticks (R44). -/
def TimeBase.advance (t : TimeBase) : TimeBase :=
  match t.absorb with
  | none => { t with ztime := t.ztime + 1000 }
  | some a =>
    if a.left = 0 then { t with ztime := t.ztime + 1000 }
    else if a.half ∧ a.left < 0 then
      { t with ztime := t.ztime + 1000 - min 500 a.left.natAbs, absorb := some { a with left := a.left + min 500 a.left.natAbs } }
    else if t.slewFrac < 4 then { t with ztime := t.ztime + 1000, slewFrac := t.slewFrac + 1 }
    else if 0 < a.left then { t with ztime := t.ztime + 1001, slewFrac := 0, absorb := some { a with left := a.left - 1 } }
    else { t with ztime := t.ztime + 999, slewFrac := 0, absorb := some { a with left := a.left + 1 } }

/-! ### The schedule table (R45 to R54) -/

/-- BAR0 offset of schedule entry `n`. -/
def schedOff (n : Nat) : Nat := TB + 0x1000 + n * 0x20

def State.schedEnabled (s : State) (n : Nat) : Bool := s.flag (schedOff n) 31
def State.schedOneShot (s : State) (n : Nat) : Bool := s.flag (schedOff n) 30
def State.schedUtc (s : State) (n : Nat) : Bool := s.flag (schedOff n) 29
def State.schedRunning (s : State) (n : Nat) : Bool := s.flag (schedOff n) 28
def State.schedAction (s : State) (n : Nat) : Nat := s.fld (schedOff n) 7 0
/-- period_ms in ns. -/
def State.schedPeriod (s : State) (n : Nat) : Nat := (s.reg (schedOff n + 4)).toNat * 1000000
/-- window_ms in ns. -/
def State.schedWindow (s : State) (n : Nat) : Nat := (s.reg (schedOff n + 8)).toNat * 1000000
def State.schedPhase (s : State) (n : Nat) : Nat := s.reg64 (schedOff n + 0x10)
def State.schedDue (s : State) (n : Nat) : Nat := s.reg64 (schedOff n + 0x18)
def State.setDue (s : State) (n x : Nat) : State := s.setReg64 (schedOff n + 0x18) x

/-- next_due of an entry that will not run: all ones. -/
def never : Nat := 2 ^ 64 - 1

/-- ns between ztime and UTC ns since 2000: (leap - 32) s. -/
def State.leapNs (s : State) : Int := (s.leap - 32) * 1000000000

/-- The ztime of a UTC instant `u` (ns since 2000), across the announced end of day: no instant falls into an inserted second,
and one in a deleted second falls at the start of the next day (R45). -/
def State.ztimeOfUtc (s : State) (u : Int) : Int :=
  let z := u + s.leapNs
  if s.tb.leapArmed = 1 ∧ (s.tb.leapAt : Int) - 1000000000 ≤ z then z + 1000000000
  else if s.tb.leapArmed = 2 ∧ (s.tb.leapAt : Int) ≤ z then max (s.tb.leapAt : Int) (z - 1000000000)
  else z

/-- UTC at ztime `z` (ns since 2000), across the announced end of day: an inserted second still belongs to the day that it ends (R45). -/
def State.utcOfZtime (s : State) (z : Nat) : Int :=
  let u : Int := z - s.leapNs
  if s.tb.leapArmed = 1 ∧ s.tb.leapAt ≤ z then u - 1000000000
  else if s.tb.leapArmed = 1 ∧ s.tb.leapAt ≤ z + 1000000000 then (s.tb.leapAt : Int) - s.leapNs - 1000000001
  else if s.tb.leapArmed = 2 ∧ s.tb.leapAt ≤ z then u + 1000000000
  else u

/-- The entry's own time at ztime `z`: UTC or ztime, by its scale. -/
def State.schedTime (s : State) (n z : Nat) : Int := if s.schedUtc n then s.utcOfZtime z else z

/-- The number, counted in periods from the phase, of the last due instant at or before ztime `z` (R45). -/
def State.instantNo (s : State) (n z : Nat) : Int := (s.schedTime n z - s.schedPhase n) / (s.schedPeriod n : Int)

/-- The first due instant of a recurring entry after ztime `z` (R45). -/
def State.dueAfter (s : State) (n z : Nat) : Nat :=
  if s.schedPeriod n = 0 then never
  else
    let t : Int := (s.instantNo n z + 1) * s.schedPeriod n + s.schedPhase n
    (if s.schedUtc n then s.ztimeOfUtc t else t).toNat

/-- next_due as recomputed: the phase of a one-shot entry, the first due instant after ztime of a recurring one. A due instant deferred before
is no longer awaited. -/
def State.recompute (s : State) (n : Nat) : State :=
  let s := s.setDue n (if s.schedOneShot n then s.schedPhase n else s.dueAfter n s.tb.ztime)
  { s with tb := { s.tb with deferred := s.tb.deferred.filter (fun d => ¬ d = n) } }

/-- After its due instant ran or was missed: a one-shot entry clears its enable and reads all ones (R51); a recurring one takes
the following due instant (R48). -/
def State.schedAdvance (s : State) (n : Nat) : State :=
  if s.schedOneShot n then (s.setBit (schedOff n) 31 false).setDue n never
  else s.setDue n (s.dueAfter n (s.schedDue n))

/-- Count `k` missed due instants (R48). -/
def State.schedMissed (s : State) (n k : Nat) : State := s.bump (schedOff n) 23 16 k

/-- The power state that decides which engines are paused: the target while an entry is in progress (R405, Tables 15.4, 15.6), and Off in a flush, in which the
background engines stop (Table 07.4 step 2). -/
def State.stillness (s : State) : Nat := if s.flag (WP + 0x2C) 0 then 4 else if s.flag PW 7 then max s.power (s.fld PW 27 24) else s.power

/-- Is an entry to A2 or A3 in progress? -/
def State.entering (s : State) : Bool :=
  s.flag PW 7 && decide (s.power < 2) && decide (s.fld PW 27 24 = 2 ∨ s.fld PW 27 24 = 3)

/-- Is the engine of an action paused (R405, Table 15.1), or waits it for Lark in a control pause (R369)? The time save never is (R54). -/
def State.paused (s : State) (a : Nat) : Bool :=
  if a = 0x10 then false
  else if s.flag CP 28 ∧ (a = 0x0D ∨ a = 0x0E ∨ a = 0x12) then true
  else if 3 ≤ s.stillness then true
  else if s.stillness = 2 then decide (a ∈ [0x03, 0x06, 0x07, 0x08, 0x09, 0x0A, 0x0B, 0x0C, 0x0F])
  else if s.stillness = 1 then decide (a ∈ [0x06, 0x07, 0x08, 0x09, 0x0A, 0x0C, 0x0F])
  else false

/-- Is the engine of an action at work that no entry started: an anchor checkpoint, a map checkpoint (R138), a hold-up test (R209), a margin sweep, a
fabric reset? -/
def State.engineAtWork (s : State) (a : Nat) : Bool :=
  (decide (a = 0x03) && s.wb.anchorRun.isSome) || (decide (a = 0x05) && s.tp.ckptRun.isSome) || (decide (a = 0x06) && s.pw.huTest.isSome) ||
  (decide (a = 0x08) && s.df.margin.isSome) || (decide (a = 0x0E) && s.sw.resetting)

/-- Is the engine of an action busy, with an earlier start or with work of its own (R47)? -/
def State.actionBusy (s : State) (a : Nat) : Bool :=
  s.engineAtWork a || (List.range 64).any (fun e => s.schedRunning e && decide (s.schedAction e = a))

/-- Start the action of entry `n` (R47): running, one more started action, the next due instant. -/
def State.schedStart (s : State) (n : Nat) : State :=
  let a := s.schedAction n
  let s := (s.setBit (schedOff n) 28 true).schedAdvance n
  { s with tb := { s.tb with started := s.tb.started ++ [(n, a)], deferred := s.tb.deferred.filter (fun d => ¬ d = n) } }

/-- A due instant of entry `n` waits until its engine resumes (R49). -/
def State.defer (s : State) (n : Nat) : State :=
  { s with tb := { s.tb with deferred := if n ∈ s.tb.deferred then s.tb.deferred else s.tb.deferred ++ [n] } }

/-- M of R54: period and window of the enabled entry that carries action 0x10, else 3,660 s. -/
def State.saveMargin (s : State) : Nat :=
  match (List.range 64).find? (fun n => s.schedEnabled n && decide (s.schedAction n = 0x10)) with
  | some n => s.schedPeriod n + s.schedWindow n
  | none => 3660000000000

/-- Write ztime + M to TB_ZTIME_SAVE (R54). -/
def State.saveTime (s : State) : State :=
  let s := s.persist64 (TB + 0x28) (s.tb.ztime + s.saveMargin)
  { s with tb := { s.tb with lastSave := s.tb.ztime } }

/-- The same, only where it exceeds the value held: at entry to Off and at a flush (R54). -/
def State.saveTimeUp (s : State) : State :=
  if s.reg64 (TB + 0x28) < s.tb.ztime + s.saveMargin then s.saveTime else s

/-- The device's own time save: due every 3,600 s while no enabled entry carries action 0x10 (R54). -/
def State.ownSaveDue (s : State) : Bool :=
  !((List.range 64).any (fun n => s.schedEnabled n && decide (s.schedAction n = 0x10))) &&
    decide (3600000000000 ≤ s.tb.ztime - s.tb.lastSave)

/-- What the performance monitor counts at a tick (Table 17.11): event 0x01 in every bank, and every millisecond the background level b. -/
def State.countTick (s : State) : State :=
  if s.pmUsed then
    let s := (List.range 12).foldl (fun (t : State) b => t.count b 0x01 8 1) s
    if s.tb.tick % 1000 = 0 then s.countGlobal 0xD7 (s.fld (TH + 4) 22 20) else s
  else s

/-- Take the oldest started action `a`: the entry it came from, and the state with it taken. -/
def State.takeAction (s : State) (a : Nat) : Option (Nat × State) :=
  match s.tb.started.find? (fun p => p.2 = a) with
  | none => none
  | some p => some (p.1, { s with tb := { s.tb with started := s.tb.started.erase p } })

/-- The action of entry `n` has finished: its running bit clears. -/
def State.endEntry (s : State) (n : Nat) : State := s.setBit (schedOff n) 28 false

/-- The action `a` has finished, whichever entry started it. -/
def State.endAction (s : State) (a : Nat) : State :=
  (List.range 64).foldl (fun t n => if t.schedRunning n ∧ t.schedAction n = a ∧ ¬ (n, a) ∈ t.tb.started then t.endEntry n else t) s

/-- Carry out a started action that finishes within the step; nothing happens where none has been started. -/
def State.runAction (s : State) (a : Nat) (k : Nat → State → State) : Answer :=
  match s.takeAction a with
  | none => .next s
  | some (n, t) => .next ((k n t).endEntry n)

/-- Carry out a started action that goes on after the step; its entry keeps running until `endAction`. -/
def State.beginAction (s : State) (a : Nat) (k : Nat → State → State) : Answer :=
  match s.takeAction a with
  | none => .next s
  | some (n, t) => .next (k n t)

/-! ### Steps of ztime (R44, R50, R511, R512) -/

/-- How many due instants of entry `n` a step from `z0` to `z1` settles: none unless one lies after `z0` and at or before `z1`; one that was due before
and has not run is overtaken by the step and counts with them. -/
def State.passed (s : State) (n z0 z1 : Nat) : Nat :=
  if s.schedOneShot n then (if z0 < s.schedDue n ∧ s.schedDue n ≤ z1 then 1 else 0)
  else if s.schedPeriod n = 0 ∨ z1 < s.schedDue n ∨ z1 < s.dueAfter n z0 then 0
  else (s.instantNo n z1 - s.instantNo n (s.schedDue n)).toNat + 1

/-- R50 for one entry: due at the tick of the step, all but one passed instant missed; entry 0 runs as the stepped close. With the engine paused the run
is deferred (R49). -/
def State.passEntry (z0 z1 : Nat) (s : State) (n : Nat) : State :=
  let k := s.passed n z0 z1
  if s.schedEnabled n ∧ 0 < k then
    if n = 0 then (s.schedMissed n (k - 1)).setDue n (s.dueAfter n z1)
    else
      let s := (s.schedMissed n (k - 1)).setDue n z1
      if s.paused (s.schedAction n) then s.defer n else s
  else s

/-- A step of ztime forward by `d` ns (Table 02.5). -/
def State.stepForward (s : State) (d : Nat) : State :=
  let z0 := s.tb.ztime
  let s := { s with tb := { s.tb with ztime := z0 + d, absorb := none, edgeGoal := s.tb.edgeGoal + d } }
  let s := s.setBit TB 10 false
  let s := s.meterClose s.utcMinute true
  let s := (List.range 64).foldl (State.passEntry z0 (z0 + d)) s
  (s.event 0xB402 0 none d (d / 2 ^ 32)).saveTime

/-- Absorb an offset: slewed, or at half rate where `half` (Table 02.5). -/
def State.absorbOffset (s : State) (d : Int) (half : Bool) : State :=
  { (s.setBit TB 10 true) with tb := { s.tb with absorb := some { left := d, half := half }, slewFrac := 0 } }

/-- A source sets ztime: TB_STATUS.time_valid; with the first since cold power-on, the next drift update charges at DF_GAP_TEMP (R166). -/
def State.setValid (s : State) : State := (if s.timeValid then s else { s with df := { s.df with gapNext := true } }).setBit TB 8 true

/-- Clear the pending backward step. -/
def State.clearPending (s : State) : State := (s.setBit TB 11 false).setReg64 (TB + 0x1C) 0

/-- A priority 1 or 2 source steers again after a pending step has ended (Tables 02.4, 02.5); a CXL timestamp disciplines nothing (Table 02.1). -/
def State.reacquire (s : State) : State :=
  if (s.source = 1 ∨ s.source = 2) ∧ (s.tbState = 0 ∨ s.tbState = 3) then s.setTbState 1 else s

/-- Handle a fresh offset d = source time - ztime (Table 02.5). -/
def State.offset (s : State) (d : Int) : State :=
  let s := { s with tb := { s.tb with absorb := none } }
  let s := s.setBit TB 10 false
  let first := !s.timeValid
  if d.natAbs ≤ 1000000 then
    let s := s.setValid
    if d = 0 then s else s.absorbOffset d false
  else if 0 < d then s.setValid.stepForward d.toNat
  else if (first ∧ d.natAbs ≤ s.saveMargin) ∨ d.natAbs ≤ 1000000000 then
    (s.setValid.absorbOffset d true).event 0xB402 0 none (twos 64 d) (twos 64 d / 2 ^ 32)
  else
    let was := s.flag TB 11
    let s := (s.setBit TB 11 true).setReg64 (TB + 0x1C) (twos 64 d)
    let s := s.setTbState (if s.tb.wasLocked then 3 else 0)
    if was then s else s.event 0xB403 0 none (twos 64 d) (twos 64 d / 2 ^ 32)

/-- An offset measured against a source, given as the residual: the measured offset less the part not yet absorbed (R511). A
source whose step was discarded is ignored until it agrees within 1 s; a pending step ends when the source does (Table 02.5). -/
def State.measured (s : State) (r : Int) : State :=
  if s.tb.ignoring ∧ 1000000000 < r.natAbs then s
  else
    let s := if s.tb.ignoring then ({ s with tb := { s.tb with ignoring := false } }).reacquire else s
    let s := if s.flag TB 11 ∧ r.natAbs ≤ 1000000000 then s.clearPending.reacquire else s
    match s.tb.absorb with
    | some a =>
      if r.natAbs ≤ 1000000 then { s with tb := { s.tb with absorb := some { a with left := a.left + r } } }
      else s.offset (a.left + r)
    | none => s.offset r

/-- The whole seconds by which a residual misses the second expected: nearest, ties upward (R35). -/
def secondsOff (r : Int) : Int := (r + 500000000) / 1000000000

/-- R35 and Table 02.5 for a residual of the source in use: one that names another second waits for three in a row that agree. -/
def State.sourceOffset (s : State) (r : Int) : State :=
  let k := secondsOff r
  if k = 0 then ({ s with tb := { s.tb with agree := none } }).measured r
  else
    let n := match s.tb.agree with | some (k', n) => if k' = k then n + 1 else 1 | none => 1
    if n < 3 then { s with tb := { s.tb with agree := some (k, n) } }
    else ({ s with tb := { s.tb with agree := none } }).measured r

/-- The ztime at which the present UTC day ends, with the announced leap second taken in (R43). -/
def State.dayEnd (s : State) (announced : Nat) : Nat :=
  let day := (s.utc / 86400 + 1) * 86400
  (day * 1000000000 + s.leapNs + (if announced = 1 then 1000000000 else if announced = 2 then -1000000000 else 0)).toNat

/-- Has the announced leap come: TB_LEAP changes at the end of that day (R43)? -/
def State.leapNow (s : State) : State :=
  if (s.tb.leapArmed = 1 ∨ s.tb.leapArmed = 2) ∧ s.tb.leapAt ≤ s.tb.ztime then
    let l := if s.tb.leapArmed = 1 then s.leap + 1 else s.leap - 1
    let s := (s.setFld (TB + 0x10) 15 0 (twos 16 l)).setFld (TB + 0x10) 17 16 0
    { s with tb := { s.tb with leapArmed := 0 } }
  else s

/-- Does an inserted second run now? It still belongs to the day that it ends (R41). -/
def State.inInserted (s : State) : Bool :=
  decide (s.tb.leapArmed = 1) && decide (s.tb.leapAt ≤ s.tb.ztime + 1000000000) && decide (s.tb.ztime < s.tb.leapAt)

/-- Take a source's leap announcement (R43): TB_LEAP shows it, and before 23:59:00 UTC it is armed for the end of the day. -/
def State.announce (s : State) (announced : Nat) : State :=
  let s := s.setFld (TB + 0x10) 17 16 announced
  if s.utc % 86400 < 86340 ∧ ¬ s.inInserted then
    let changed := ¬ s.tb.leapArmed = announced
    let s := { s with tb := { s.tb with leapArmed := announced, leapAt := s.dayEnd announced } }
    if changed then { s with tb := { s.tb with stale := (List.range 64).filter (fun n => s.schedEnabled n && s.schedUtc n && !s.schedOneShot n) } } else s
  else s

/-- Take a source's leap offset: while time_valid is 0 that of the first frame or message only (R40); later a change closes the minute, with event
0xB405. A leap that has come is taken first. -/
def State.takeLeap (s : State) (l : Int) : State :=
  let s := s.leapNow
  let first := !s.tb.leapTaken
  let s := { s with tb := { s.tb with leapTaken := true } }
  if s.leap = l ∨ (¬ s.timeValid ∧ ¬ first) then s
  else
    let upTo := s.utcMinute
    let set (t : State) : State :=
      let t := t.setFld (TB + 0x10) 15 0 (twos 16 l)
      { t with tb := { t.tb with stale := (List.range 64).filter (fun n => t.schedEnabled n && t.schedUtc n && !t.schedOneShot n) } }
    if s.timeValid then
      let s := set s
      (s.meterClose upTo true).event 0xB405 0 none (twos 16 l) 0
    else set s

/-! ### The commands -/

/-- Is the PPS source valid now (Table 02.1): an edge in the last 1.5 s, and a frame accepted for it, or its 900 ms not yet over (R33)? -/
def State.ppsValid (s : State) : Bool :=
  match s.tb.ppsSince, s.tb.edgeTick with
  | some _, some t => decide (s.tb.tick - t < 1500000) && (s.tb.edgeUsed || decide (s.tb.tick - t ≤ 900000))
  | _, _ => false

/-- Is the fabric source valid now: this node is no master, and an update came in the last 1.5 s (R381, Table 02.4)? -/
def State.fabricValid (s : State) : Bool :=
  match s.tb.fabricSince, s.tb.fabricTick with
  | some _, some t => decide (s.tb.tick - t < 1500000)
  | _, _ => false

/-- A PPS edge (R36, Table 02.4): a TAI second starts; the edge counts toward LOCKED and steers the phase. A phase that is absorbed moves the ztime that
this edge stood for (R511). -/
def State.ppsEdge (s : State) : State :=
  let gap : Bool := match s.tb.edgeTick with | some t => decide (1500000 < s.tb.tick - t) | none => true
  let goal : Int := s.tb.ztime + s.absorbLeft - s.fld (TB + 0x14) 15 0
  let since := if gap ∨ ¬ s.tb.edgeUsed then none else s.tb.ppsSince
  let s := { s with tb := { s.tb with edgeTick := some s.tb.tick, edgeUsed := false, edgeGoal := goal, ppsSince := since } }
  let phase : Int := secondsOff goal * 1000000000 - goal
  if s.source = 1 then
    let n := if phase.natAbs ≤ 1000 then s.tb.inPhase + 1 else 0
    let s := { s with tb := { s.tb with inPhase := n } }
    let s := if 64 ≤ n ∧ s.tbState = 1 then s.setTbState 2 else s
    let s := if s.tbState = 2 then (let (v, t) := s.draw; t.setReg (TB + 0x18) (v.truncate 32)) else s
    if (s.tbState = 1 ∨ s.tbState = 2) ∧ s.timeValid ∧ phase ≠ 0 ∧ phase.natAbs ≤ 1000000 ∧ ¬ s.flag TB 11 ∧ ¬ s.tb.ignoring then
      let t := s.measured phase
      { t with tb := { t.tb with edgeGoal := t.tb.edgeGoal + (t.absorbLeft - s.absorbLeft) } }
    else s
  else s

/-- Is a TOD frame acceptable in itself (R33, R34)? -/
def todOk (minQuality : Nat) (b : List Byte) : Bool :=
  decide (b.length = 13) && decide (b.getD 0 0 = 0xA5) && decide (b.getD 1 0 = 0x01) &&
  decide (leNat (b.drop 11) = crc16 0x1021 (b.take 11)) &&
  decide (b.getD 10 0 ∈ [0x00, 0x01, 0x02, 0xFF]) && decide ((b.getD 10 0).toNat ≤ minQuality) && decide ((b.getD 9 0).toNat ≤ 2)

/-- Does a frame end in the interval of R33 after an edge that has no accepted frame yet? -/
def State.todTimely (s : State) : Bool :=
  match s.tb.edgeTick with
  | none => false
  | some t => decide (1000 ≤ s.tb.tick - t) && decide (s.tb.tick - t ≤ 900000) && !s.tb.edgeUsed

/-- TOD_FRAME (R33 to R35): accepted, or counted in TB_FRAME_ERR. -/
def execTodFrame (bytes : List Byte) (s : State) : Answer :=
  if todOk (s.fld (TB + 4) 7 0) bytes && s.todTimely then
    let s := { s with tb := { s.tb with edgeUsed := true, primarySeen := true, ppsSince := s.tb.ppsSince.or s.tb.edgeTick } }
    let sec := leNat ((bytes.drop 2).take 5)
    let s := (s.takeLeap (signed 16 (leNat ((bytes.drop 7).take 2)))).announce (bytes.getD 9 0).toNat
    .next (if s.source = 1 then s.sourceOffset ((sec : Int) * 1000000000 - s.tb.edgeGoal) else s)
  else .next (s.bump (TB + 0x24) 31 0 1)

/-- Take `x` as the source: ACQUIRE, and the time since LOCKED starts anew (Table 02.4). -/
def State.takeSource (s : State) (x : Nat) : State :=
  let s := { s with tb := { s.tb with agree := none, wasLocked := false, inPhase := 0 } }
  (s.setSource x).setTbState 1

/-- TIME_SOURCE_SWITCH (R32): a source that has been valid for 3 s and has priority over the one in use becomes the source. -/
def execTimeSourceSwitch (src : TimeSource) (s : State) : Answer :=
  let held (t : Option Nat) : Bool := match t with | some t => decide (3000000 ≤ s.tb.tick - t) | none => false
  .next (match src with
    | .pps => if s.source ≠ 1 ∧ s.ppsValid ∧ held s.tb.ppsSince then s.takeSource 1 else s
    | .fabric => if (s.source = 0 ∨ s.source = 3) ∧ s.fabricValid ∧ held s.tb.fabricSince then s.takeSource 2 else s
    | .cxl => s
    | .none => s)

/-- SOURCE_LOSS_TIMEOUT (R32, Table 02.4): a source that is no longer valid is lost, in use or not: 1.5 s without an edge or update, or an edge whose
900 ms have passed with no accepted frame. A valid fabric source takes over from PPS; else HOLDOVER after LOCKED, FREERUN otherwise. -/
def execSourceLossTimeout (s : State) : Answer :=
  let lost (t : State) : State := (t.setSource 0).setTbState (if t.tb.wasLocked then 3 else 0)
  let s := if s.fabricValid then s else
    { (if s.flag (SW + 8) 27 then s else s.setBit (SW + 8) 26 false) with tb := { s.tb with fabricSince := none } }
  let s := if s.ppsValid then s else { s with tb := { s.tb with ppsSince := none } }
  .next (
    if s.source = 1 ∧ s.tb.ppsSince.isNone then
      let s := { s with tb := { s.tb with agree := none } }
      if s.tb.fabricSince.isSome then s.takeSource 2 else lost s
    else if s.source = 2 ∧ s.tb.fabricSince.isNone then lost { s with tb := { s.tb with agree := none } }
    else s)

/-- DISCIPLINE_COMPLETE (R37): 600 s in LOCKED since cold power-on. -/
def execDisciplineComplete (s : State) : Answer :=
  .next (if 600000000 ≤ s.tb.lockedUs then s.setBit TB 9 true else s)

/-- SLEW_COMPLETE (R44): the offset has been absorbed. -/
def execSlewComplete (s : State) : Answer :=
  .next (match s.tb.absorb with
    | some a => if a.left = 0 then { (s.setBit TB 10 false) with tb := { s.tb with absorb := none } } else s
    | none => s)

/-- LEAP_SECOND (R41, R43): at the end of the announced day TB_LEAP changes. -/
def execLeapSecond (s : State) : Answer := .next s.leapNow

/-- A Cut report (R394). -/
def State.reportCut (s : State) (o tag : Nat) (done : Bool) : State :=
  if o = s.nodeId then { s with sw := { s.sw with reports := s.sw.reports ++ [(o, tag, done)] } }
  else s.sendPeer o 0x0714 [s.nodeId, tag, if done then 1 else 0]

/-- The Cut reports of cuts that this node does not make, once T has passed (R394). -/
def State.reportNoCuts (s : State) : State :=
  let due := s.sw.noCut.filter (fun x => decide (x.1 < s.tb.ztime))
  if due = [] then s
  else due.foldl (fun (t : State) x => t.reportCut x.2.1 x.2.2 false)
    { s with sw := { s.sw with noCut := s.sw.noCut.filter (fun x => decide (s.tb.ztime ≤ x.1)) } }

/-- An armed cut is over: its Cut report goes to the originator, and its entry is free again (R394, R51). -/
def State.freeCut (s : State) (n : Nat) (done : Bool) : State :=
  match Tbl.find s.sw.cuts n with
  | none => s
  | some c =>
    let o := (Tbl.find s.sw.originators n).getD 0
    let s := s.reportCut o c.ftag done
    let s := s.setFld (schedOff n) 7 0 0
    { s with sw := { s.sw with cuts := Tbl.del s.sw.cuts n, originators := Tbl.del s.sw.originators n } }

/-- A due instant is missed (R48; for a scrub pass still running, R189): counted, event 0xB404 at most once per entry per meter minute, next due instant. -/
def State.missDue (s : State) (n : Nat) : State :=
  let s := (s.schedMissed n 1).schedAdvance n
  let s := { s with tb := { s.tb with deferred := s.tb.deferred.filter (fun d => ¬ d = n) } }
  let s := s.eventOnce n 0xB404 n none n (s.schedAction n)
  let s := if s.schedAction n = 7 ∧ s.df.scrub.isSome then s.event 0x4104 0 none (s.fld (DF + 0x2C) 15 0) 0 else s
  if s.schedAction n = 0x0D ∨ s.schedAction n = 0x0E then s.freeCut n false else s

/-- Is the due instant of entry `n` missed at once: a scrub pass falls due while one still runs (R189)? -/
def State.missesNow (s : State) (n : Nat) : Bool := decide (s.schedAction n = 7) && s.df.scrub.isSome

/-- Evaluate one entry in the tick that began at ztime `z0`: a due instant within its window starts its action if the engine is idle, and one that
arrives while the engine is paused is deferred (R47, R49). An entry with action 0x00 has no engine: its due instants pass with no effect (DESIGN CHOICE). -/
def State.schedEval (z0 : Nat) (s : State) (n : Nat) : State :=
  if s.schedEnabled n ∧ s.schedDue n ≤ s.tb.ztime then
    let a := s.schedAction n
    if a = 0 then s.schedAdvance n
    else if s.paused a then (if z0 < s.schedDue n then s.defer n else s)
    else if s.missesNow n then s.missDue n
    else if s.actionBusy a ∨ s.schedDue n + s.schedWindow n < s.tb.ztime then s
    else s.schedStart n
  else s

/-- One 1 us tick (R47): time advances, and may reach an hour boundary (R169); entries written since are recomputed, the table is evaluated in index order. -/
def State.tick (s : State) : State :=
  let z0 := s.tb.ztime
  let s := { s with tb := { s.tb.advance with
    tick := s.tb.tick + 1
    lockedUs := if s.tbState = 2 then s.tb.lockedUs + 1 else s.tb.lockedUs } }
  let s := { s with tb := { s.tb with hourDue := s.tb.hourDue || decide (z0 / 3600000000000 < s.tb.ztime / 3600000000000) } }
  let s := s.tb.stale.foldl State.recompute s
  let s := { s with tb := { s.tb with stale := [] } }
  ((List.range 64).foldl (State.schedEval z0) s.countTick).reportNoCuts

/-- `n` ticks. -/
def State.ticks : Nat → State → State
  | 0, s => s
  | n + 1, s => State.ticks n s.tick

/-- SCHEDULE_TICK (R47): `n` ticks of 1 us pass. -/
def execScheduleTick (n : Nat) (s : State) : Answer := .next (State.ticks n s)

/-- Has the window of entry `n` passed without its action having started? -/
def State.windowPassed (s : State) (n : Nat) : Bool :=
  s.schedEnabled n && decide (s.schedDue n + s.schedWindow n < s.tb.ztime)

/-- SCHEDULE_WINDOW_MISSED (R48); a deferred due instant is not judged before its engine resumes (R49). -/
def execScheduleWindowMissed (entry : Nat) (s : State) : Answer :=
  below entry 64 s (.next (
    if s.windowPassed entry ∧ ¬ (entry ∈ s.tb.deferred ∧ s.paused (s.schedAction entry)) then s.missDue entry else s))

/-- DEFERRED_ACTION_RESUME (R49): the engine runs again; within the window the action starts, after it the instant is missed. -/
def execDeferredActionResume (entry : Nat) (s : State) : Answer :=
  below entry 64 s (.next (
    if entry ∈ s.tb.deferred ∧ s.schedEnabled entry ∧ s.schedDue entry ≤ s.tb.ztime ∧ ¬ s.paused (s.schedAction entry) then
      if s.windowPassed entry ∨ s.missesNow entry then s.missDue entry
      else if s.actionBusy (s.schedAction entry) then s
      else s.schedStart entry
    else s))

/-- May an entry stand as it now does (R46)? A recurring entry needs a period and a window no longer than it. -/
def State.schedValid (s : State) (n : Nat) : Bool :=
  s.schedOneShot n || (decide (s.schedPeriod n ≠ 0) && decide (s.schedWindow n ≤ s.schedPeriod n))

/-- An accepted change of entry `n`: next_due at the next tick, and the time save where the entry carries it (R46, R54). -/
def State.schedChanged (old s : State) (n : Nat) : State :=
  let s := { s with tb := { s.tb with stale := if n ∈ s.tb.stale then s.tb.stale else s.tb.stale ++ [n] } }
  if s.schedAction n = 0x10 ∨ old.schedAction n = 0x10 then s.saveTime else s

/-- The control word that a write of `v` leaves (Table 02.6): missed and running stay, reserved actions are kept out (R9). -/
def schedCtl (old v : Word) : Word :=
  let w := putBits old 31 29 (bits v 31 29)
  if bits v 7 0 ≤ 0x12 then putBits w 7 0 (bits v 7 0) else w

/-- Write word `w` of schedule entry `n` (R46, R52): ctl, period, window; the halves of the phase follow R7. DESIGN CHOICE: a low half of the phase
stays held where the write of the high half leaves the entry unchanged under R46; the spec says neither. -/
def State.schedWrite (s : State) (who : Requester) (n w : Nat) (v : Word) : State :=
  let o := schedOff n
  if n = 0 ∧ w ≠ 2 then s
  else if w = 0 then
    let t := s.setReg o (schedCtl (s.reg o) v)
    if t.schedValid n then State.schedChanged s t n else s
  else if w = 1 ∨ w = 2 then
    let t := s.setReg (o + 4 * w) v
    if t.schedValid n then State.schedChanged s t n else s
  else if w = 4 then
    { s with holds := { who := who, off := o + 0x10, val := v } :: s.holds.filter (fun h => ¬ (h.who = who ∧ h.off = o + 0x10)) }
  else if w = 5 then
    let t := match s.holds.find? (fun h => h.who = who ∧ h.off = o + 0x10) with
      | some h => { (s.setReg (o + 0x10) h.val) with holds := s.holds.filter (fun h => ¬ (h.who = who ∧ h.off = o + 0x10)) }
      | none => s
    let t := t.setReg (o + 0x14) v
    if t.schedValid n then State.schedChanged s t n else s
  else s

/-- SCHED_ENTRY_WRITE (R46): a register write to word `word` of entry `entry`. -/
def execSchedEntryWrite (who : Requester) (entry word : Nat) (v : Word) (s : State) : Answer :=
  below entry 64 s (below word 8 s (.next (s.asWriter who (schedOff entry + 4 * word) (fun s => s.schedWrite who entry word v))))

/-- METER_MINUTE_CLOSE (R448): action 0x01. -/
def execMeterMinuteClose (s : State) : Answer := s.runAction 0x01 (fun _ t => t.meterClose t.utcMinute false)

/-- TIME_SAVE (R54): action 0x10, or the device's own save every 3,600 s. -/
def execTimeSave (s : State) : Answer :=
  match s.takeAction 0x10 with
  | some (n, t) => .next ((t.saveTime).endEntry n)
  | none => .next (if s.ownSaveDue then s.saveTime else s)

/-- The CXL timestamp of the present ztime (R42). -/
def State.cxlStamp (s : State) : Int := s.tb.ztime + 946684800 * 1000000000 - s.leapNs

end Sys2Proof.Machine
end

