-- ==== Sys2Proof/Machine/Media.lean ====
section
/-! DEFINITION. Machine/Media.lean: where lines lie on the media (R103, R126, R127, R129), map entries and plot table (R131 to
R134), the spare pool (R140 to R142) and the map journal (R137). -/

namespace Sys2Proof.Machine

/-! ### Geometry -/

/-- Rows per die, Q (R127), by the part of TP_GEOM. -/
def State.rows (s : State) : Nat := if s.fld (TP + 4) 7 6 = 2 then 49344 else if s.fld (TP + 4) 7 6 = 1 then 24672 else 0

/-- Physical plots, 8 N Q (R127). -/
def State.physPlots (s : State) : Nat := 8 * s.chanCount * s.rows

/-- The 40-bit media address (Table 03.2). -/
def mediaAddr (die plane seg slot : Nat) : Nat := die * 2 ^ 30 + plane * 2 ^ 26 + seg * 2 ^ 10 + slot

/-- Fields of a media address. -/
def addrDie (a : Nat) : Nat := a / 2 ^ 30 % 8
def addrPlane (a : Nat) : Nat := a / 2 ^ 26 % 16

/-- Channel and die of member `m` of physical plot `p` at `n` channels (R127). -/
def memberChan (n p m : Nat) : Nat := (p % n + m) % n
def memberDie (n p : Nat) : Nat := p / n % 8

/-- Channel and media address of slot `slot` of member `m` of physical plot `p` (R127). -/
def memberAddr (n p m slot : Nat) : Nat × Nat :=
  let z := 17 * (p / (8 * n)) + m
  (memberChan n p m, mediaAddr (memberDie n p) (z % 16) (z / 16) slot)

/-- Member that holds page slot `s` of page `page` (R103). -/
def pageMember (page s : Nat) : Nat := (s + page) % 17

/-- Channel and media address of page slot `s` of page `page` of physical plot `p` (R103). -/
def State.slotAddr (s : State) (p page sl : Nat) : Nat × Nat :=
  memberAddr s.chanCount p (pageMember page sl) (4 * page + sl / 17)

/-- Physical plot, page and page slot of a media address of channel `c` (R103, R127). -/
def State.placeAt (s : State) (c a : Nat) : Nat × Nat × Nat :=
  let n := s.chanCount
  let z := a % 2 ^ 26 / 2 ^ 10 * 16 + addrPlane a
  let m := z % 17
  let page := a % 2 ^ 10 / 4
  (z / 17 * (8 * n) + addrDie a * n + (c + 17 * n - m) % n, page, (m + 17 - page % 17) % 17 + 17 * (a % 4))

/-- Split of a logical line number (Table 05.1). -/
def linePlot (line : Nat) : Nat := line / 16384
def linePage (line : Nat) : Nat := line / 64 % 256
def lineSlot (line : Nat) : Nat := line % 64

/-- Number of L0 node `j` and of L1 node `j` at usable size `u` (R129). -/
def nodeNumber (u level j : Nat) : Nat := if level = 0 then j else u * 2 ^ 18 + j

/-- Channel and media address of copy `copy` of node number `n` in physical plot `p` (R129). -/
def State.nodeAddr (s : State) (p n copy : Nat) : Nat × Nat :=
  let k := n % 8704
  memberAddr s.chanCount p ((k + 8 * copy) % 17) (512 * copy + k / 17)

/-- The link after a link reset: both replay buffers and the streams are empty. -/
def Link.fresh : Link := { tx := [], txOpen := false, txSeq := 0, unacked := [], rxSeq := 0, rxPending := 0, rxBytes := [], replays := 0, replayMark := none }

/-- A channel that nothing has happened on. -/
def Chan.fresh : Chan :=
  { queue := [], flight := [], planes := []
    link := Link.fresh, resets := [], standby := false, disabling := false, diesFailed := 0, bgWait := [], grant := none, follow := none, before := 0 }

/-- What the part tracks of channel `c`. -/
def State.chan (s : State) (c : Nat) : Chan := Tbl.get (fun _ => Chan.fresh) s.media.chans c

/-- Replace the record of channel `c`. -/
def State.setChan (s : State) (c : Nat) (x : Chan) : State :=
  { s with media := { s.media with chans := Tbl.set (fun _ => Chan.fresh) s.media.chans c x } }

/-- A die is out of service: its channel FAILED or DISABLED, or it reported status 0x7 (R115). -/
def State.dieOut (s : State) (c d : Nat) : Bool :=
  decide (s.chanState c = 7 ∨ s.chanState c = 8) || (s.chan c).diesFailed.testBit d

/-- Member `m` of physical plot `p` is out of service. -/
def State.memberOut (s : State) (p m : Nat) : Bool := s.dieOut (memberChan s.chanCount p m) (memberDie s.chanCount p)

/-- Some member of the plot is out of service. -/
def State.plotOut (s : State) (p : Nat) : Bool := (List.range 17).any (s.memberOut p)

/-! ### Numbers of plots (R128 to R130) -/

def State.nodePlots (s : State) : Nat := ceilDiv (s.usable * 266240) 8704
def State.dataPlots (s : State) : Nat := s.usable * 1024
/-- Plots of one checkpoint copy. -/
def State.ckptPlots (s : State) : Nat := ceilDiv (8 * (s.dataPlots + s.nodePlots + s.physPlots)) (2 ^ 20)
/-- S0: spares at format. -/
def State.spareAtFormat (s : State) : Nat := s.physPlots - 6168 - s.nodePlots - s.dataPlots - 2 * s.ckptPlots

/-! ### Map entries and plot table -/

/-- Map entry as format left it. -/
def State.freshEntry (s : State) (node : Bool) (i : Nat) : MapEntry :=
  { phys := Config.formatPlot s.usable (if node then 3 else 2) i, epoch := s.tp.formatHour, migrating := false, writeProtect := false
    cow := false, stranded := false, keyGen := false, rotating := false, degraded := false, generation := 0, wearClass := 0 }

/-- The entry of a logical plot, or of a node plot. -/
def State.entry (s : State) (node : Bool) (i : Nat) : MapEntry :=
  (Tbl.find (if node then s.tp.nodeMap else s.tp.map) i).getD (s.freshEntry node i)

/-- Replace an entry. -/
def State.setEntry (s : State) (node : Bool) (i : Nat) (e : MapEntry) : State :=
  if node then { s with tp := { s.tp with nodeMap := Tbl.put s.tp.nodeMap i e } }
  else { s with tp := { s.tp with map := Tbl.put s.tp.map i e } }

/-- The flags byte (Table 05.4). -/
def MapEntry.flags (e : MapEntry) : Nat :=
  (if e.migrating then 128 else 0) + (if e.writeProtect then 64 else 0) + (if e.cow then 32 else 0) + (if e.stranded then 16 else 0) +
  (if e.keyGen then 8 else 0) + (if e.rotating then 4 else 0) + (if e.degraded then 2 else 0)

/-- An entry with the flags of a flags byte. -/
def MapEntry.withFlags (e : MapEntry) (f : Nat) : MapEntry :=
  { e with migrating := f.testBit 7, writeProtect := f.testBit 6, cow := f.testBit 5, stranded := f.testBit 4, keyGen := f.testBit 3
           rotating := f.testBit 2, degraded := f.testBit 1 }

/-- The plot table record of a physical plot. -/
def State.plotRec (s : State) (p : Nat) : PlotRec :=
  (Tbl.find s.tp.plots p).getD { state := if p < 6168 then 4 else Config.formatState s.usable p, hot := 0, programs := 0 }

/-- Replace a plot table record. -/
def State.setPlot (s : State) (p : Nat) (r : PlotRec) : State := { s with tp := { s.tp with plots := Tbl.put s.tp.plots p r } }

/-- Set the state code of a physical plot. -/
def State.setPlotState (s : State) (p x : Nat) : State := s.setPlot p { s.plotRec p with state := x }

/-- Cycles of a physical plot (R152). -/
def PlotRec.cycles (r : PlotRec) : Nat := r.programs / 17408 + r.hot

/-- A plot table record as 64 bits (Table 05.5), and back. -/
def PlotRec.word (r : PlotRec) : Nat := r.state * 2 ^ 60 + min r.hot (2 ^ 20 - 1) * 2 ^ 40 + r.programs % 2 ^ 40
def plotOfWord (w : Nat) : PlotRec := { state := w / 2 ^ 60 % 16, hot := w / 2 ^ 40 % 2 ^ 20, programs := w % 2 ^ 40 }

/-- wear_class of a physical plot (Table 05.3). -/
def State.wearClassOf (s : State) (p : Nat) : Nat := min 255 ((s.plotRec p).cycles * 256 / 2000000)

/-- The plot at index `i` of the recorder plot list (R443): of the first 1,056 spares of the format, 32 for the archive and 1,024 for the spool, or one
that has replaced it. -/
def State.recorderPlot (s : State) (i : Nat) : Nat := Tbl.get (fun k => Config.formatPlot s.usable 0 k) s.tp.recPlots i

/-- The recorder plots. -/
def State.recorderPlots (s : State) : List Nat := (List.range 1056).map s.recorderPlot

/-! ### Spare counts (TP_SPARE_STAT, TP_SPARE_READY) -/

def State.spares (s : State) : Nat := s.fld (TP + 0x0C) 23 0
def State.ready (s : State) : Nat := s.fld (TP + 0x10) 23 0
def State.setSpares (s : State) (n : Nat) : State := s.setFld (TP + 0x0C) 23 0 n
def State.setReady (s : State) (n : Nat) : State := s.setFld (TP + 0x10) 23 0 n
def State.floor (s : State) : Nat := s.fld (TP + 0x14) 31 16

/-- May an allocation be made (R142)? `snap`: for a snapshot copy-on-write; `exempt`: for a checkpoint or a started migration. -/
def State.mayAllocate (s : State) (snap exempt : Bool) : Bool :=
  if snap then decide (s.fld (TP + 0x18) 23 0 < s.spares) else exempt || decide (s.floor < s.spares)

/-- Is a page marked for rebuild, being rebuilt, or waiting for room in the list? Its parity gives no reconstruction (Table 04.4). -/
def State.marked (s : State) (p page : Nat) : Bool :=
  let k := p * 256 + page
  decide (k ∈ s.codes.marked ∨ k ∈ s.codes.rebuilding) || s.codes.markWait.any (fun x => decide (x.1 = k))

/-- Event 0x2104 and the list of R112: mark a page for rebuild, unless it is marked or being rebuilt. While the list is full the mark waits until a
rebuild completes. -/
def State.markRebuild (s : State) (p page sl : Nat) : State :=
  let k := p * 256 + page
  if s.marked p page then s
  else if 65536 ≤ s.codes.marked.length + s.codes.rebuilding.length then { s with codes := { s.codes with markWait := s.codes.markWait ++ [(k, sl)] } }
  else ({ s with codes := { s.codes with marked := s.codes.marked ++ [k] } }).event 0x2104 0 none p (page * 256 + sl)

/-- A rebuild has completed: the oldest mark that waits for the list is made (R112). -/
def State.markNext (s : State) : State :=
  match s.codes.markWait with
  | [] => s
  | (k, sl) :: rest => State.markRebuild { s with codes := { s.codes with markWait := rest } } (k / 256) (k % 256) sl

/-- A migration of an entry, if one runs. -/
def State.migrationOf (s : State) (node : Bool) (i : Nat) : Option Migration :=
  s.tp.migs.find? (fun m => m.node = node ∧ m.entry = i ∧ m.step < 5)

/-- Replace the migration of the same source. -/
def State.setMig (s : State) (m : Migration) : State :=
  { s with tp := { s.tp with migs := s.tp.migs.map (fun x => if x.src = m.src ∧ x.node = m.node ∧ x.entry = m.entry then m else x) } }

end Sys2Proof.Machine
end

