-- ==== Sys2Proof/Machine/Log.lean ====
section
/-! DEFINITION. Machine/Log.lean: commands of the engines as they are queued, the keys and slots of the log field (R157, R269 to R271, Table 10.3), the
journal ring and what is appended to it (R136, R137, R215, R277), and the wear that programs make (R149, R150). -/

namespace Sys2Proof.Machine

/-! ### Commands of the engines -/

/-- Put a command at the end of its engine's queue. -/
def State.submit (s : State) (c : Nat) (m : MCmd) : State := s.setChan c { s.chan c with queue := (s.chan c).queue ++ [m] }

/-- Put a command at the head of its engine's queue (R233). -/
def State.submitHead (s : State) (c : Nat) (m : MCmd) : State := s.setChan c { s.chan c with queue := m :: (s.chan c).queue }

/-- A command without data. -/
def MCmd.of (op : MOp) (addr param eng : Nat) (why : Why) : MCmd :=
  { op := op, addr := addr, param := param, data := [], dst := 0, eng := eng, cls := 3, tier := 0, step := 0, young := false, copyTo := 0, waits := false, why := why }

/-- Does a PROGRAM or COPY write the slot at a media address? -/
def MCmd.writesSlot (m : MCmd) (a : Nat) : Bool :=
  (decide (m.op = .program) && decide (m.addr ≤ a) && decide (a < m.addr + m.data.length)) || (decide (m.op = .copy) && decide (m.copyTo = a))

/-- A slot that a PROGRAM not yet verified will leave at an address: the slot built for it (Table 04.6). -/
def State.programmed (s : State) (c a : Nat) : Option (List Byte) :=
  let hit (m : MCmd) : Option (List Byte) := if ¬ m.writesSlot a then none else if m.op = .copy then m.data[0]? else m.data[a - m.addr]?
  ((s.chan c).flight.map (·.cmd) ++ (s.chan c).queue).reverse.findSome? hit

/-- Is a PROGRAM or COPY into a physical plot queued or in flight? -/
def State.plotWrites (s : State) (p : Nat) : Bool :=
  s.media.chans.any (fun c => (c.2.flight.map (·.cmd) ++ c.2.queue).any (fun m => decide (m.op = .program ∨ m.op = .copy) && decide (m.dst = p)))

/-- Erase a physical plot: one ERASE per member in service, on engine 1. -/
def State.erasePlot (s : State) (p charge : Nat) : State :=
  let ms := (List.range 17).filter (fun m => !s.memberOut p m)
  let s := { s with tp := { s.tp with erasing := Tbl.put s.tp.erasing p ms.length } }
  ms.foldl (fun t m =>
    let (c, a) := memberAddr t.chanCount p m 0
    t.submit c { MCmd.of .erase a (if p < 6168 then 1 else 0) 1 (.erase p m) with dst := p, tier := charge }) s

/-! ### Keys, tweaks and slots -/

/-- Labels of Table 10.1 as ASCII. -/
def labelNode : List Nat := [0x6E, 0x6F, 0x64, 0x65]
def labelLog : List Nat := [0x6C, 0x6F, 0x67]
def labelImage : List Nat := [0x69, 0x6D, 0x61, 0x67, 0x65]
def labelWrap : List Nat := [0x77, 0x72, 0x61, 0x70]

/-- A derived key set (R265): label and context. -/
def derivedSet (label : List Nat) (ctx : Nat) : KeySet :=
  { data := kdf label ctx 0, tweak := kdf label ctx 1, tag := kdf label ctx 2 }

/-- The node key set of a generation. -/
def nodeKeys (gen : Bool) : KeySet := derivedSet labelNode (if gen then 1 else 0)

/-- The key set of a domain's generation, if present. -/
def State.domKeys (s : State) (d : Nat) (gen : Bool) : Option KeySet := Tbl.find s.gx.keys (2 * d + (if gen then 1 else 0))

/-- GX_DOM of a domain. -/
def gxDom (d : Nat) : Nat := GX + 0x1000 + d * 4
def State.quarantined (s : State) (d : Nat) : Bool := s.flag (gxDom d) 31
/-- The domain's current key generation. -/
def State.domGen (s : State) (d : Nat) : Bool := s.flag (gxDom d) 29

/-- The tweak of a slot (Table 10.2). -/
def tweakOf (kind major minor dom idx : Nat) : Nat :=
  kind % 4 * 2 ^ 121 + major % 2 ^ 64 * 2 ^ 57 + minor % 128 * 2 ^ 50 + dom % 4096 * 2 ^ 38 + idx % 2 ^ 38

/-- A slot built from a line of 64 bytes under a key set and tweak (R269, R270). -/
def sealSlot (k : KeySet) (t : Nat) (line : List Byte) (meta_ : Byte) : List Byte :=
  let ct := xtsEnc k.data k.tweak t line
  buildSlot ct (slotTag k.tag t ct) meta_

/-- The line of a slot whose tag verifies under a key set and tweak. -/
def openSlot (k : KeySet) (t : Nat) (sl : List Byte) : Option (List Byte) :=
  if slotTagOf sl = slotTag k.tag t (slotCipher sl) then some (xtsDec k.data k.tweak t (slotCipher sl)) else none

/-- A header slot under the log key set (Table 10.3): its place, the sequence number of its record, and its 64 bytes. -/
def logSlot (place seq : Nat) (payload : List Byte) (anchor : Bool) : List Byte :=
  sealSlot (derivedSet labelLog 0) (tweakOf 3 seq 0 0 place) payload (if anchor then 0x70 else 0x60)

/-- The 64 bytes of a header slot that decodes: none where a reserved meta bit is set, its format is not that of the log field, or its tag fails (R96). -/
def openLog (place seq : Nat) (sl : List Byte) : Option (List Byte) :=
  let m := slotMeta sl
  if metaPoison m ∨ ¬ metaReservedOk m ∨ metaFormat m ≠ 3 then none else openSlot (derivedSet labelLog 0) (tweakOf 3 seq 0 0 place) sl

/-- The bytes of a record padded to a slot's 64. -/
def padLine (b : List Byte) : List Byte := b ++ List.replicate (64 - b.length) 0

/-! ### Log pages (R213) -/

/-- Program a data or parity slot of a log page in SLC mode, on engine 3 (DESIGN CHOICE: Table 03.10 names no engine for the log field). A slot on a member
out of service gets no PROGRAM: its log page carries it (R214). -/
def State.putLog (s : State) (plot page sl : Nat) (slot : List Byte) : State :=
  if s.memberOut plot (pageMember page sl) then s
  else
    let (c, a) := s.slotAddr plot page sl
    s.submit c { MCmd.of .program a 2 3 .log with data := [slot], dst := plot, tier := 2 }

/-- The four parity slots of a log page whose data slots are given, the rest being erased (R105, R213). -/
def State.putLogParity (s : State) (plot page : Nat) (slots : List (List Byte)) : State :=
  let par := pageParity (slots ++ List.replicate (64 - slots.length) erasedSlot)
  [0, 1, 2, 3].foldl (fun (t : State) k => t.putLog plot page (64 + k) (par.getD k erasedSlot)) s

/-- Whole log pages with their parity, from data slot `n` of the log plots that begin at `base`. -/
def State.putLogPages (s : State) (base n : Nat) (slots : List (List Byte)) : State :=
  let s := (List.range slots.length).foldl (fun (t : State) i =>
    t.putLog (base + (n + i) / 8192) ((n + i) / 64 % 128) ((n + i) % 64) (slots.getD i erasedSlot)) s
  (List.range (ceilDiv slots.length 64)).foldl (fun (t : State) i =>
    t.putLogParity (base + (n + 64 * i) / 8192) ((n + 64 * i) / 64 % 128) ((slots.drop (64 * i)).take 64)) s

/-! ### The journal ring (R135, R136) -/

/-- Data slots of the journal ring: log plots 1,288 to 6,167. -/
def ringSlots : Nat := 4880 * 8192

/-- Log plot, page and slot of a ring position. -/
def ringPlot (p : Nat) : Nat := 1288 + p % ringSlots / 8192
def ringLogPage (p : Nat) : Nat := p / 64 % 128

/-- Is the slot of a ring position programmed and verified? -/
def State.ringDone (s : State) (p : Nat) : Bool :=
  let (c, a) := s.slotAddr (ringPlot p) (ringLogPage p) (p % 64)
  (s.programmed c a).isNone

/-- Append a slot at the ring's write position; with its 64th data slot a log page gets its parity. -/
def State.ringAppend (s : State) (slot : List Byte) : State :=
  let p := s.log.pos
  let s := s.putLog (ringPlot p) (ringLogPage p) (p % 64) slot
  let page := s.log.page ++ [slot]
  if page.length < 64 then { s with log := { s.log with pos := p + 1, page := page } }
  else ({ s with log := { s.log with pos := p + 1, page := [] } }).putLogParity (ringPlot p) (ringLogPage p) page

/-- Close the ring's open page: its parity is programmed with the slots it has, and the ring goes on at the next page (R217 step 4). -/
def State.ringClose (s : State) : State :=
  if s.log.page = [] then s
  else
    let p := s.log.pos
    ({ s with log := { s.log with pos := p + (64 - s.log.page.length), page := [] } }).putLogParity (ringPlot p) (ringLogPage p) s.log.page

/-- S of the newer, and of the older, valid copy. -/
def State.ckptS (s : State) : Nat × Nat :=
  let a := match s.tp.ckptA with | some c => c.s | none => 0
  let b := match s.tp.ckptB with | some c => c.s | none => 0
  (max a b, min a b)

/-- Do the 8,192 positions from `lo` hold something the ring still needs: a map journal record newer than the older valid copy, an anchor record, or the tree
snapshot of a copy (R136, R217, R279)? -/
def State.ringHeld (s : State) (lo : Nat) : Bool :=
  let here (p : Option Nat) : Bool := match p with | some x => decide (lo ≤ x) && decide (x < lo + 8192) | none => false
  let covers (at_ len : Nat) : Bool := decide (at_ < lo + 8192) && decide (lo < at_ + len)
  s.tp.verified.any (fun r => decide (s.ckptS.2 < r.seq) && here r.pos) || s.tp.unverified.any (fun r => here r.pos) ||
  s.wb.anchors.any (fun a => here a.pos) ||
  (match s.tp.ckptA with | some c => covers c.snapAt c.snapLen | none => false) || (match s.tp.ckptB with | some c => covers c.snapAt c.snapLen | none => false) ||
  (match s.tp.ckptRun.bind (fun r => r.copy) with | some c => covers c.snapAt c.snapLen | none => false)

/-- Erased ring positions that the next append needs: those of a record, or of a tree snapshot that waits to be written. -/
def State.ringNeed (s : State) : Nat := match s.tp.ckptRun with | some r => if r.copy.isSome then 2 else r.snapLen + 64 | none => 2

/-- Does the next append need a log plot that is not erased? -/
def State.ringShort (s : State) : Bool := decide (ringSlots ≤ s.log.room) && decide (s.log.room < s.log.pos + s.ringNeed)

/-- Is the next append held up by what its log plot still holds (R136: a checkpoint starts at once)? -/
def State.ringStuck (s : State) : Bool := s.ringShort && s.ringHeld (s.log.room - ringSlots)

/-- Erase the next log plot of the ring just before it is reused, unless it is still needed. -/
def State.ringErase (s : State) : State :=
  let p := ringPlot s.log.room
  if ¬ s.ringShort ∨ s.ringHeld (s.log.room - ringSlots) ∨ (Tbl.find s.tp.erasing p).isSome then s else s.erasePlot p 2

/-! ### Records (R137, R215, R277) -/

/-- An empty journal record of a type. -/
def JRec.of (type : Nat) : JRec :=
  { seq := 0, pos := none, type := type, kind := 0, dom := 0, node := false, entry := 0, plotA := 0, plotB := 0, gen := 0, flags := 0, value := 0 }

/-- The 32 bytes of a record (Tables 05.8, 10.5, 14.5). The recorder plot list of record 0x06 is marked by `gen` 1. -/
def JRec.bytes (r : JRec) : List Byte :=
  let head := leBytes 1 r.type ++ leBytes 1 r.kind ++ leBytes 2 r.dom
  if 0x20 ≤ r.type then
    head ++ leBytes 4 r.entry ++ leBytes 8 r.seq ++ leBytes 8 r.value ++ leBytes 1 r.flags ++ List.replicate 7 0
  else
    let rec_ := decide (r.type = 6) && decide (r.gen = 1)
    head ++ leBytes 4 (r.entry % 2 ^ 24 + (if r.node then 2 ^ 31 else 0) + (if rec_ then 2 ^ 30 else 0)) ++ leBytes 8 r.seq ++
    leBytes 3 r.plotA ++ leBytes 3 r.plotB ++ leBytes 1 (if rec_ then 0 else r.gen) ++ leBytes 1 r.flags ++ leBytes 8 r.value

/-- The header slot that a record takes in the ring. DEDUCED: one record to a slot, since its tweak holds one record sequence number (Table 10.3). -/
def JRec.slot (r : JRec) (p : Nat) : List Byte := logSlot (p % ringSlots) r.seq (padLine r.bytes) false

/-- Slots of an anchor record: header and data, a checkpoint record its header alone (R215). -/
def AnchorRec.len (a : AnchorRec) : Nat := if a.type = 3 then 1 else 2

/-- The header of an anchor record (Table 07.5), at ring position `p`. -/
def AnchorRec.header (a : AnchorRec) (p : Nat) : List Byte :=
  padLine (leBytes 8 a.seq ++ leBytes 1 a.type ++ leBytes 1 (if a.poison then 1 else 0) ++ leBytes 2 a.dom ++ leBytes 5 a.line ++ leBytes 7 0 ++
    leBytes 8 a.mask.toNat ++ leBytes 8 (if a.type = 3 then (p + 1) % ringSlots else a.ver.major.toNat) ++ leBytes 1 a.ver.minor.toNat)

/-- The slots of an anchor record at ring position `p` (R215, Table 10.3). -/
def State.anchorSlots (s : State) (a : AnchorRec) (p : Nat) : List (List Byte) :=
  let gen := s.domGen a.dom
  let body : List (List Byte) := match s.domKeys a.dom gen with
    | some k => [sealSlot k (tweakOf 2 a.seq 0 a.dom a.line) a.data (if gen then 0x74 else 0x70)]
    | none => [poisonSlot]
  logSlot (p % ringSlots) a.seq (a.header p) true :: (if a.type = 3 then [] else body)

/-- Place the records that wait for the ring, in their order, while its erased log plots have room; the next log plot is erased when it is needed (R136). -/
def State.ringPump (s : State) : State :=
  let s := s.tp.unverified.foldl (fun (t : State) (r : JRec) =>
    let p := t.log.pos
    if r.pos.isSome ∨ t.log.room < p + 1 then t
    else
      let t := t.ringAppend (r.slot p)
      { t with tp := { t.tp with unverified := t.tp.unverified.map (fun (x : JRec) => if x.seq = r.seq then { x with pos := some p } else x) } }) s
  let s := s.wb.anchors.foldl (fun (t : State) (a : AnchorRec) =>
    let p := t.log.pos
    if a.pos.isSome ∨ t.log.room < p + a.len then t
    else
      let t := (t.anchorSlots a p).foldl State.ringAppend t
      { t with wb := { t.wb with anchors := t.wb.anchors.map (fun (x : AnchorRec) => if x.seq = a.seq then { x with pos := some p } else x) } }) s
  s.ringErase

/-- Append a record: the next sequence number; it takes effect when it has been programmed and verified (R137). -/
def State.journal (s : State) (r : JRec) : State :=
  (State.ringPump { s with tp := { s.tp with nextSeq := s.tp.nextSeq + 1, unverified := s.tp.unverified ++ [{ r with seq := s.tp.nextSeq }] } }).countGlobal 0xD1 1

/-- May `n` more anchor records be appended: at most 33,024 outstanding and 256 in flight (R215, R217)? -/
def State.anchorRoom (s : State) (n : Nat) : Bool :=
  decide (countIf (fun (a : AnchorRec) => decide (a.type ≠ 3)) s.wb.anchors + n ≤ 33024) && decide (countIf (fun (a : AnchorRec) => !a.verified) s.wb.anchors + n ≤ 256)

/-- Append an anchor record (R215, R216). -/
def State.anchorAppend (s : State) (type : Nat) (poison : Bool) (dom line : Nat) (mask : BitVec 64) (data : List Byte) (ver : Version) : State :=
  let q := s.wb.anchorNext
  let a : AnchorRec := { seq := q, pos := none, type := type, poison := poison, dom := dom, line := line, mask := mask, data := data, ver := ver, verified := false }
  let s := { s with wb := { s.wb with anchorNext := q + 1, anchors := s.wb.anchors ++ [a], anchorSince := s.wb.anchorSince + 1 } }
  State.ringPump ((s.setReg64 (WP + 0x3C) q).countGlobal 0xD0 1)

/-- Are the slots of an anchor record programmed and verified? -/
def State.anchorDone (s : State) (a : AnchorRec) : Bool := match a.pos with | some p => (List.range a.len).all (fun i => s.ringDone (p + i)) | none => false

/-- Entries of a domain's plots. -/
def State.domPlots (s : State) (d : Nat) : List Nat :=
  let base := s.fld (QD + d * 0x20 + 0xC) 23 0
  (List.range (s.fld (QD + d * 0x20 + 8) 23 0 - s.fld (QD + d * 0x20 + 4) 23 0)).map (fun i => base + i)

/-- The state that a record gives to physical plot `p` once it takes effect. -/
def JRec.plotState (r : JRec) (p : Nat) : Option Nat :=
  if r.type = 1 ∧ r.plotB = p then some 7
  else if r.type = 2 ∧ r.plotB = p then some (if r.node then 3 else 2)
  else if r.type = 2 ∧ r.plotA = p then (if r.kind = 2 then none else if r.kind = 4 then some 6 else some 1)
  else if r.type = 3 ∧ r.plotA = p then some 0
  else if r.type = 4 ∧ r.plotA = p then some 5
  else if r.type = 0x32 ∧ r.value = p then some 6
  else none

/-- The plot table record of a physical plot once every record appended so far has taken effect. -/
def State.plotSoon (s : State) (p : Nat) : PlotRec :=
  s.tp.unverified.foldl (fun (x : PlotRec) (r : JRec) =>
    if r.type = 7 ∧ r.plotA = p then plotOfWord r.value
    else match r.plotState p with | some k => { x with state := k } | none => x) (s.plotRec p)

/-- A map entry once every record appended so far has taken effect: its flags. -/
def State.flagsSoon (s : State) (node : Bool) (i : Nat) : MapEntry :=
  s.tp.unverified.foldl (fun (e : MapEntry) (r : JRec) =>
    if r.type = 0x33 ∧ ¬ node ∧ i ∈ s.domPlots r.dom then { e with cow := false }
    else if ¬ (r.entry = i ∧ r.node = node) then e
    else if r.type = 1 then { e with migrating := true }
    else if r.type = 2 ∨ r.type = 5 ∨ r.type = 8 then MapEntry.withFlags e r.flags
    else e) (s.entry node i)

/-- Record 0x05: a change of an entry's flags. -/
def State.journalFlags (s : State) (node : Bool) (i : Nat) (f : MapEntry → MapEntry) : State :=
  let e := s.entry node i
  s.journal { JRec.of 0x05 with node := node, entry := i, plotA := e.phys, gen := e.generation, flags := (f (s.flagsSoon node i)).flags }

/-- Record 0x04: a physical plot leaves service. -/
def State.journalRetire (s : State) (p cause : Nat) : State := s.journal { JRec.of 0x04 with kind := cause, plotA := p }

/-- Record 0x07: a change of a plot table record. -/
def State.journalPlot (s : State) (p : Nat) (f : PlotRec → PlotRec) : State := s.journal { JRec.of 0x07 with plotA := p, value := (f (s.plotSoon p)).word }

/-! ### Spares (R140, R141) -/

/-- Listed spares that are erased, whole in service and not yet given away. -/
def State.listedReady (s : State) : List (Nat × PlotRec) :=
  s.tp.plots.filter (fun p => decide (p.2.state = 0) && decide ((s.plotSoon p.1).state = 0) && !s.plotOut p.1)

/-- The listed spare with the lowest or highest cycles. -/
def bestSpare (high : Bool) (l : List (Nat × PlotRec)) : Option Nat :=
  match l with
  | [] => none
  | x :: xs => some (xs.foldl (fun b y => if (if high then b.2.cycles < y.2.cycles else y.2.cycles < b.2.cycles) then y else b) x).1

/-- The first spare that nothing has happened to since format, whole in service, at or after index `i`, within `n` of them. -/
def State.freshSpare (s : State) : Nat → Nat → Option (Nat × Nat)
  | 0, _ => none
  | n + 1, i =>
    let p := Config.formatPlot s.usable 0 i
    if (Tbl.find s.tp.plots p).isSome ∨ s.plotOut p then State.freshSpare s n (i + 1) else some (i, p)

/-- A plot table record that nothing has happened to since format, listed. -/
def State.listSpare (s : State) (p : Nat) : State :=
  if (Tbl.find s.tp.plots p).isSome then s else s.setPlot p { state := 0, hot := 0, programs := 0 }

/-- Take an erased spare (R141): the lowest cycles, or the highest for a cold-on migration. A spare never used since format has no cycles. None: no erased
spare, and the allocation waits. The record that the allocation appends gives the plot its new state. -/
def State.takeSpare (s : State) (high : Bool) : Option (Nat × State) :=
  if s.ready = 0 then none
  else
    let took (p : Nat) (t : State) : Option (Nat × State) := some (p, ((t.listSpare p).setSpares (t.spares - 1)).setReady (t.ready - 1))
    let listed := bestSpare high s.listedReady
    let fresh := s.freshSpare (s.tp.s0 - s.tp.freshNext) s.tp.freshNext
    match listed, fresh with
    | some p, none => took p s
    | none, some (i, p) => took p { s with tp := { s.tp with freshNext := i + 1 } }
    | some p, some (i, q) =>
      if high ∨ (s.plotRec p).cycles = 0 then took p s else took q { s with tp := { s.tp with freshNext := i + 1 } }
    | none, none => none

/-! ### The ring in use (R138) -/

/-- Ring positions since the oldest record that the older valid copy still needs. -/
def State.journalUse (s : State) : Nat :=
  let need := (s.tp.verified.filter (fun r => decide (s.ckptS.2 < r.seq)) ++ s.tp.unverified).filterMap (fun r => r.pos)
  match need with
  | [] => 0
  | p :: ps => s.log.pos - ps.foldl min p

/-! ### Wear -/

/-- An entry leaves a full wear cache (R150): which one is an open value; its programs go to the plot table by record 0x07. -/
def State.evictWear (s : State) : State :=
  if s.tp.wear.length ≤ 65536 then s
  else
    let (v, s) := s.draw
    match s.tp.wear[v.toNat % s.tp.wear.length]? with
    | none => s
    | some (p, n) => State.journalPlot { s with tp := { s.tp with wear := Tbl.set (fun _ => 0) s.tp.wear p 0 } } p (fun r => { r with programs := r.programs + n })

/-- Wear: programs counted by the sampler (R149); every 4,096th adds 4,096 to the pending programs of its plot. -/
def State.sample (s : State) (p n : Nat) : State :=
  if s.tp.sampler + n < 4096 then { s with tp := { s.tp with sampler := s.tp.sampler + n } }
  else
    State.evictWear { s with tp := { s.tp with
      sampler := s.tp.sampler + n - 4096
      wear := Tbl.set (fun _ => 0) s.tp.wear p (Tbl.get (fun _ => 0) s.tp.wear p + 4096)
      wearNotIdle := if p ∈ s.tp.wearNotIdle then s.tp.wearNotIdle else p :: s.tp.wearNotIdle } }

/-- The logical plot (false) or node plot (true) whose entry names a physical plot. -/
def State.ownerOf (s : State) (p : Nat) : Option (Bool × Nat) :=
  match (List.range s.dataPlots).find? (fun i => (s.entry false i).phys = p) with
  | some i => some (false, i)
  | none => ((List.range s.nodePlots).find? (fun i => (s.entry true i).phys = p)).map (fun i => (true, i))

/-- The entry under which a physical plot is read: its map or node-map entry; for a plot that has none, one with the epoch of its snapshot or recorder
record (R178, R398, R443) and its own wear class (R173). -/
def State.entryOf (s : State) (p : Nat) : MapEntry :=
  match s.ownerOf p with
  | some (node, i) => s.entry node i
  | none =>
    let held := (s.sw.snaps.flatMap (fun x => x.2.held)).find? (fun h => h.2.1 = p)
    let rec_ := s.tp.recorders.find? (fun x : Nat × (Nat × Nat) => x.2.1 = p)
    let epoch := match held, rec_ with | some h, _ => h.2.2 | none, some x => x.2.2 | none, none => s.tp.formatHour
    { phys := p, epoch := epoch, migrating := false, writeProtect := false, cow := false, stranded := false, keyGen := false, rotating := false
      degraded := false, generation := 0, wearClass := s.wearClassOf p }

/-- The page and page slot of a plot that a media address on a channel holds (R103, R127). -/
def State.slotAt (s : State) (p c a : Nat) : Nat × Nat :=
  let m := (c + s.chanCount - p % s.chanCount) % s.chanCount
  let q := a % 1024
  (q / 4, (m + 17 - q / 4 % 17) % 17 + 17 * (q % 4))

/-- Counters of the hot-line filter for a line, one to a row of 16,384 (R151). -/
def hotKeys (line : Nat) : List Nat := (List.range 4).map (fun r => r * 16384 + Config.hotHash r line % 16384)

/-- Count a program of a line of physical plot `p` in the hot-line filter; PRESUMED: its count is the lowest of its four counters. A line over the
threshold enters its plot in the hot list: 4,096 entries, the lowest evicted and folded (R151, R152). -/
def State.noteHot (s : State) (p line : Nat) : State :=
  let f := (hotKeys line).foldl (fun (t : Tbl Nat) k => Tbl.set (fun _ => 0) t k (Tbl.get (fun _ => 0) t k + 1)) s.tp.hotFilter
  let n := (hotKeys line).foldl (fun m k => min m (Tbl.get (fun _ => 0) f k)) (2 ^ 32)
  let s := { s with tp := { s.tp with hotFilter := f } }
  if n ≤ s.fld (TP + 0x24) 7 0 then s
  else
    let l := Tbl.set (fun _ => 0) s.tp.hotList p (max n (Tbl.get (fun _ => 0) s.tp.hotList p))
    let s := { s with tp := { s.tp with hotList := l } }
    match l with
    | [] => s
    | x :: xs =>
      if l.length ≤ 4096 then s
      else
        let y := xs.foldl (fun (b y : Nat × Nat) => if y.2 < b.2 then y else b) x
        State.journalPlot { s with tp := { s.tp with hotList := Tbl.set (fun _ => 0) l y.1 0 } } y.1 (fun r => { r with hot := min (2 ^ 20 - 1) (r.hot + y.2) })

/-- A PROGRAM or COPY into a data slot of a logical plot counts for its line (R151). -/
def State.hotProgram (s : State) (c : Nat) (m : MCmd) : State :=
  match s.ownerOf m.dst with
  | some (false, i) =>
    let (page, sl) := s.slotAt m.dst c (if m.op = .copy then m.copyTo else m.addr)
    if sl < 64 then s.noteHot m.dst (i * 16384 + page * 64 + sl) else s
  | some (true, _) | none => s

end Sys2Proof.Machine
end

