-- ==== Sys2Proof/Machine/Channels.lean ====
section
/-! DEFINITION. Machine/Channels.lean: the media channels (03): reference sets (R173), the engines' queues, the issue slot and
its conditions (R66 to R85, R229 to R231, R317, R318), the sending side of the flit link (R59 to R64) and what follows a channel's reset. -/

namespace Sys2Proof.Machine

/-! ### Reference sets (R170, R173 to R175) -/

/-- Effective clock E of stack `c` (R165). -/
def State.effClock (s : State) (c : Nat) : Nat := Tbl.get (fun _ => 0) s.df.eff c

/-- Key of a history sample: stack and hour or day. -/
def histKey (c i : Nat) : Nat := c * 65536 + i

/-- The hourly ring holds 1,024 hours; a sample is stored with the hour it belongs to. -/
def State.hourSample (s : State) (c h : Nat) : Option Nat :=
  match Tbl.find s.df.hourly (histKey c (h % 1024)) with
  | some (h', e) => if h' = h then some e else none
  | none => none

/-- The newest daily sample at or before hour `h`, looking back `n` days. -/
def State.daySample (s : State) (c : Nat) : Nat → Nat → Option Nat
  | 0, _ => none
  | n + 1, d =>
    match Tbl.find s.df.daily (histKey c (d % 1366)) with
    | some (d', e) => if d' = d then some e else if d = 0 then none else State.daySample s c n (d - 1)
    | none => if d = 0 then none else State.daySample s c n (d - 1)

/-- Hours of age of a plot (R132). After a confirmed backward step an epoch later than the present hour is read as that hour (Table 02.5). -/
def State.plotAge (s : State) (epoch : Nat) : Nat :=
  let now := s.tb.ztime / 3600000000000
  let age := (now % 65536 + 65536 - epoch % 65536) % 65536
  if 32768 < age ∧ now + (65536 - age) ≤ s.tb.stepTop then 0 else age

/-- The sample for a plot's epoch hour (R170); 0 where no ring holds one. -/
def State.epochSample (s : State) (c epoch : Nat) : Nat :=
  let now := s.tb.ztime / 3600000000000
  let h := now - s.plotAge epoch
  if now < s.plotAge epoch then 0
  else match s.hourSample c h with
    | some e => e
    | none => (s.daySample c 1366 (h / 24)).getD 0

/-- The bit of the recent-write filter for page `page` of physical plot `p` (R174). -/
def filterBit (p page : Nat) : Nat := (p * 256 + page) * 0x9E3779B1 % 2 ^ 32 / 2 ^ 12

/-- Note a PROGRAM of a data slot by the apply engine in the recent-write filter (R174). -/
def State.noteWrite (s : State) (p page : Nat) : State :=
  { s with df := { s.df with cur := if filterBit p page ∈ s.df.cur then s.df.cur else filterBit p page :: s.df.cur } }

/-- Effective seconds between a sample and now (R173). -/
def effSeconds (now ref : Nat) : Nat := (now - ref) * 3600 / 2 ^ 20

/-- Base reference set (Table 06.1, R173). -/
def baseSet (a : Nat) : Nat := if a < 8 then 0 else min 10 (Nat.log2 (a / 2) / 2)

/-- The coefficient k_die of a die (R176). -/
def State.kDie (s : State) (c d : Nat) : Int := Tbl.get (fun _ => (0 : Int)) s.df.kdie (8 * c + d)

/-- The predicted set for a slot of channel `c`, die `d`, with the entry's epoch and wear class; `filtered`: the filter hit and
may give the previous-hour sample. Answers the set and whether that sample was used (R173, R174). -/
def State.predict (s : State) (c d epoch wear : Nat) (filtered : Bool) : Nat × Bool :=
  let now := s.effClock c
  let a0 := effSeconds now (s.epochSample c epoch)
  let a1 := match (if filtered then s.hourSample c (s.tb.ztime / 3600000000000 - 1) else none) with
    | some e => effSeconds now e
    | none => a0
  let young := decide (a1 < a0)
  let a := if young then a1 else a0
  let set : Int := baseSet a + wear / 64 + (s.kDie c d + 512) / 1024
  ((max 0 (min 15 set)).toNat, young)

/-- Does the recent-write filter hit for a page, with young_en set (R174)? -/
def State.filterHit (s : State) (p page : Nat) : Bool :=
  s.flag DF 1 && (decide (filterBit p page ∈ s.df.cur) || decide (filterBit p page ∈ s.df.old))

/-! ### Queues of the engines -/

/-- Does a command verify a PROGRAM or COPY after a channel reset, or program its slot again (R88)? -/
def MCmd.verifies (m : MCmd) : Bool :=
  match m.why with
  | .verify _ _ => true
  | .fetch _ _ | .job _ _ | .apply _ _ | .frame _ _ | .node _ _ _ _ | .dual _ _ | .erase _ _ | .log | .recorder _ | .ctl => false

/-- Which commands need tokens, and how many (Table 03.4). A slot programmed again after a channel reset runs on the tokens that its command still
holds (R88). -/
def State.tokensOf (s : State) (c : Nat) (m : MCmd) : Nat :=
  if m.verifies then 0 else match m.op with
  | .program => m.data.length
  | .erase => s.fld (MC + c * 0x1000) 15 12
  | .copy => 1
  | _ => 0

/-- Does the command use a data tag (R66)? -/
def MOp.isData : MOp → Bool
  | .read | .readSoft | .marginRead | .program | .erase | .copy => true
  | .suspend | .resume | .status | .temp | .config => false

/-- Does the command program or erase (R72)? -/
def MOp.writes : MOp → Bool
  | .program | .erase | .copy => true
  | .read | .readSoft | .marginRead | .suspend | .resume | .status | .temp | .config => false

/-- Is the operation suspendable (Table 03.4)? -/
def MOp.suspendable : MOp → Bool
  | .readSoft | .marginRead | .program | .erase | .copy => true
  | .read | .suspend | .resume | .status | .temp | .config => false

/-- Is the command a READ or READ_SOFT? -/
def MOp.reads : MOp → Bool
  | .read | .readSoft => true
  | .marginRead | .program | .erase | .copy | .suspend | .resume | .status | .temp | .config => false

/-- Opcode (Table 03.4). -/
def MOp.code : MOp → Nat
  | .read => 1 | .readSoft => 2 | .marginRead => 3 | .program => 4 | .erase => 5 | .suspend => 6 | .resume => 7 | .copy => 8
  | .status => 9 | .temp => 10 | .config => 11

/-- Key of a plane: 16 * die + plane. -/
def planeKey (a : Nat) : Nat := 16 * addrDie a + addrPlane a

/-- A plane nothing has been sent to. -/
def Plane.fresh : Plane := { queue := [], suspended := none, resumedAt := none, suspendedAt := none }

/-- What the controller tracks of a plane. -/
def Chan.plane (x : Chan) (k : Nat) : Plane := Tbl.get (fun _ => Plane.fresh) x.planes k

/-- Replace a plane's record. -/
def Chan.setPlane (x : Chan) (k : Nat) (p : Plane) : Chan := { x with planes := Tbl.set (fun _ => Plane.fresh) x.planes k p }

/-- The command in flight on a tag. -/
def Chan.byTag (x : Chan) (t : Nat) : Option InFlight := x.flight.find? (fun f => f.tag = t)

/-- Slots of the command on a tag still being verified or programmed again after a channel reset (R88). -/
def Chan.verifying (x : Chan) (tag : Nat) : Bool :=
  let mine (m : MCmd) : Bool := match m.why with
    | .verify t _ => decide (t = tag)
    | .fetch _ _ | .job _ _ | .apply _ _ | .frame _ _ | .node _ _ _ _ | .dual _ _ | .erase _ _ | .log | .recorder _ | .ctl => false
  x.queue.any mine || x.flight.any (fun f => mine f.cmd)

/-- The commands that the hub has for a plane, oldest first: those in flight, but for one that a channel reset aborted and that is being verified. -/
def Chan.onPlane (x : Chan) (k : Nat) : List InFlight :=
  x.flight.filter (fun f => f.cmd.op.isData && decide (planeKey f.cmd.addr = k) && !x.verifying f.tag)

/-- The operation that the plane runs: the oldest in flight that is not suspended. -/
def Chan.running (x : Chan) (k : Nat) : Option InFlight := (x.onPlane k).find? (fun f => ¬ (x.plane k).suspended = some f.tag)

/-- Tokens held on a channel, and in the whole device (R79). -/
def Chan.tokens (x : Chan) : Nat := (x.flight.map (·.tokens)).sum
def State.tokensHeld (s : State) : Nat := (s.media.chans.map (fun c => c.2.tokens)).sum

/-- The first free tag for a kind of command (R66). -/
def Chan.freeTag (x : Chan) (isData : Bool) : Option Nat :=
  ((List.range 256).filter (fun t => if isData then decide (t < 240) else decide (240 ≤ t))).find? (fun t => (x.byTag t).isNone)

/-- The hold-up cap in tokens (R201). -/
def State.holdupCap (s : State) : Nat := max 1024 (s.fld (WP + 4) 13 0 * s.wb.f / 256)
/-- The thermal cap in tokens (R432): crit_tokens * 64 while a group is at CRIT, else the budget. -/
def State.thermalCap (s : State) : Nat := if s.flag (TH + 4) 29 then s.fld TH 31 24 * 64 else s.fld (WP + 4) 13 0
/-- The effective token budget (R201). -/
def State.budget (s : State) : Nat := min (s.fld (WP + 4) 13 0) (min s.thermalCap s.holdupCap)

/-- Does a read suspend an operation: by its class (R77), unless it was left to wait behind an operation resumed by force (R78)? -/
def State.suspends (s : State) (c : Nat) (m : MCmd) (op : MOp) : Bool :=
  !m.waits && (match op with
  | .erase => (s.fld (MC + c * 0x1000 + 0x10) 7 4).testBit m.cls
  | .readSoft | .marginRead | .program | .copy => (s.fld (MC + c * 0x1000 + 0x10) 3 0).testBit m.cls
  | .read | .suspend | .resume | .status | .temp | .config => false)

/-- Is a read held in the controller because it does not suspend what its plane runs (R229; R233: not at steps 2 and later)? -/
def State.heldByClass (s : State) (c : Nat) (m : MCmd) : Bool :=
  let x := s.chan c
  let k := planeKey m.addr
  m.op.reads && decide (m.step = 0) && decide ((x.plane k).suspended = none) &&
  (match x.running k with | some f => f.cmd.op.suspendable && !s.suspends c m f.cmd.op | none => false)

/-- Planes of a die in PROGRAM, ERASE or COPY, suspended ones not counted (R72). -/
def Chan.writing (x : Chan) (die : Nat) : Nat :=
  countIf (fun q => match x.running (16 * die + q) with | some f => f.cmd.op.writes | none => false) (List.range 16)

/-- Has a SUSPEND gone to a plane and not been answered? -/
def Chan.suspending (x : Chan) (k : Nat) : Bool := x.flight.any (fun f => decide (f.cmd.op = .suspend) && decide (planeKey f.cmd.addr = k))

/-- Is a command held because a flush stops the apply and background engines (Table 07.4)? What programs the log field, or verifies it, goes on. -/
def State.stopped (s : State) (m : MCmd) : Bool :=
  s.flag (WP + 0x2C) 0 && decide (m.eng < 4) && decide (m.op.isData) && !m.why.isLog && !m.verifies

/-- Why a queued command may not be issued now (R82, R229 to R233; DEDUCED: a read that R231 gives way to is one of engines 4 to 7): none, or the category of Table 17.12 of its first failing condition (5 tag, 6
plane, 7 suspend, 8 token). -/
def State.blocked (s : State) (c : Nat) (m : MCmd) : Option Nat :=
  let x := s.chan c
  let k := planeKey m.addr
  let pl := x.plane k
  let tok := s.tokensOf c m
  let calls : Bool := match x.running k with | some f => f.cmd.op.suspendable && s.suspends c m f.cmd.op | none => false
  if (x.freeTag m.op.isData).isNone then some 5
  else if s.stopped m then some 6
  else if x.standby ∧ ¬ (m.op = .config ∨ m.op = .temp) then some 6
  else if m.op.isData then
    let mine := x.onPlane k
    if 16 ≤ mine.length then some 6
    else if ¬ m.verifies ∧ (m.op.reads ∨ m.op = .marginRead ∨ m.op = .copy) ∧ x.flight.any (fun f => f.cmd.writesSlot m.addr) then some 6
    else if m.op.reads ∧ s.fld RP 2 0 ≤ countIf (fun f => f.cmd.op.reads) mine then some 6
    else if pl.suspended.isSome ∧ ¬ m.op.reads then some 6
    else if s.heldByClass c m then some 6
    else if m.op.reads ∧ pl.suspended.isNone ∧ calls ∧ ¬ x.suspending k then some 7
    else if m.op.writes ∧ 8 ≤ x.writing (addrDie m.addr) then some 6
    else if ¬ (m.op.reads ∧ 4 ≤ m.step) ∧ (m.eng = 1 ∨ m.eng = 2 ∨ m.eng = 3 ∨ (m.eng = 0 ∧ m.op = .marginRead)) ∧
        (mine ≠ [] ∨ x.queue.any (fun q => q.op.reads && decide (planeKey q.addr = k) && decide (4 ≤ q.eng))) then some 6
    else if (m.eng = 7 ∨ m.eng = 5 ∨ m.eng = 4) ∧
        s.fld (QS + 0x50) (8 * m.tier + 7) (8 * m.tier) ≤
          countIf (fun f => decide (f.cmd.tier = m.tier) && decide (f.cmd.eng = 7 ∨ f.cmd.eng = 5 ∨ f.cmd.eng = 4)) x.flight then some 6
    else if 0 < tok ∧ (s.budget < s.tokensHeld + tok ∨ 4 * s.fld (MC + c * 0x1000) 23 16 < x.tokens + tok) then some 8
    else if m.eng ≤ 1 ∧ m.tier = 0 ∧ 0 < (Tbl.find x.bgWait m.eng).getD 0 then some 8
    else if m.eng ≤ 1 ∧ m.tier = 0 ∧ signed 32 (s.reg (QS + 0x28)).toNat < 0 ∧ s.fld (QS + 0x10) 7 0 ≤ s.qs.lvlMean then some 8
    else none
  else if m.op = .suspend then
    (match pl.resumedAt with | some t => if s.tb.tick < t + 2 then some 7 else none | none => none)
  else if m.op = .resume then
    (match pl.suspended.bind x.byTag with
     | some f => if f.cmd.op.writes ∧ 8 ≤ x.writing (addrDie m.addr) then some 6 else none
     | none => none)
  else none

/-- The oldest queued command of an engine. -/
def Chan.head (x : Chan) (eng : Nat) : Option MCmd := x.queue.find? (fun m => m.eng = eng)

/-- The command that an engine would hand over next: its oldest that is not held under R229. -/
def State.ask (s : State) (c eng : Nat) : Option MCmd := (s.chan c).queue.find? (fun m => decide (m.eng = eng) && !s.heldByClass c m)

/-- The engine assigned to input `i` by MC_ARB_MAP (R83): the one whose field names it. -/
def State.engineOf (s : State) (c i : Nat) : Option Nat :=
  (List.range 8).find? (fun e => s.fld (MC + c * 0x1000 + 8) (3 * e + 2) (3 * e) = i)

/-- Are commands issued on the channel: READY, and fewer than 64 flits unacknowledged (R61)? -/
def State.linkReady (s : State) (c : Nat) : Bool := decide (s.chanState c = 4) && decide ((s.chan c).link.unacked.length < 64)

/-- Message bytes of a command (Tables 03.4, 03.5). -/
def MCmd.bytes (m : MCmd) (tag : Nat) : List Byte :=
  leBytes 1 m.op.code ++ leBytes 1 tag ++ leBytes 5 m.addr ++ leBytes 1 m.param ++
  (match m.op with
   | .program => m.data.flatten
   | .copy => leBytes 5 m.copyTo
   | .config => leBytes 4 m.dst
   | .read | .readSoft | .marginRead | .erase | .suspend | .resume | .status | .temp => [])

/-- Planes of a channel now suspended, as MC_STAT shows them. -/
def State.showSuspended (s : State) (c : Nat) : State :=
  s.setFld (MC + c * 0x1000 + 4) 15 8 (countIf (fun p : Nat × Plane => p.2.suspended.isSome) (s.chan c).planes)

/-- Put a message at the end of a channel's stream. -/
def Link.send (l : Link) (m : List Byte) : Link := { l with tx := l.tx ++ [m] }

/-- Hand a command over: it takes a tag and its tokens, and its message joins the channel's stream. With a RESUME the plane is no longer suspended
(Table 03.9). -/
def State.launch (s : State) (c : Nat) (m : MCmd) : State :=
  match (s.chan c).freeTag m.op.isData with
  | none => s
  | some t =>
    let x := s.chan c
    let x := { x with
      queue := x.queue.erase m
      flight := x.flight ++ [{ tag := t, cmd := m, tokens := s.tokensOf c m, issued := s.tb.tick }]
      link := x.link.send (m.bytes t) }
    let k := planeKey m.addr
    let s := if m.op = .resume then
        (s.setChan c (x.setPlane k { x.plane k with suspended := none, suspendedAt := none, resumedAt := some s.tb.tick })).showSuspended c
      else s.setChan c x
    (s.count (2 + c / 8) (0x57 + m.op.code) (c % 8) 1)

/-- The slot category of an issued command (Table 17.12). -/
def MCmd.category (m : MCmd) : Nat :=
  if m.op = .suspend ∨ m.op = .resume then 0
  else if m.op.isData ∧ 3 ≤ m.eng then 0 else 1

/-- The plane control that the suspend engine needs before a read (R77): SUSPEND to a plane that runs a suspendable operation
that the read suspends, ready to be sent ahead of it. -/
def State.needSuspend (s : State) (c : Nat) (m : MCmd) : Option MCmd :=
  let x := s.chan c
  let k := planeKey m.addr
  if m.op.reads ∧ (m.eng = 7 ∨ m.eng = 5 ∨ m.eng = 4 ∨ 2 ≤ m.step) ∧ (x.plane k).suspended.isNone then
    match x.running k with
    | none => none
    | some f => if f.cmd.op.suspendable ∧ s.suspends c m f.cmd.op then some { MCmd.of .suspend m.addr 0 6 .ctl with cls := m.cls } else none
  else none

/-- The engine assigned to an input, with the command it would hand over: from the highest input down (R83). -/
def State.heads (s : State) (chan : Nat) : List (Nat × MCmd) :=
  (List.range 8).reverse.filterMap (fun i => (s.engineOf chan i).bind (fun e => (s.ask chan e).map (fun m => (i, m))))

/-- Queue the SUSPENDs that the reads next in turn call for, one per plane (R77). -/
def State.queueSuspends (s : State) (c : Nat) : State :=
  (s.heads c).foldl (fun (t : State) (p : Nat × MCmd) =>
    match t.needSuspend c p.2 with
    | none => t
    | some q =>
      if (t.chan c).queue.any (fun y => y.op = .suspend && planeKey y.addr = planeKey q.addr) ∨ (t.chan c).suspending (planeKey q.addr) then t
      else t.submit c q) s

/-! ### Charges (R303, R306) -/

/-- The counters of a domain nothing has happened to. -/
def DomCnt.fresh : DomCnt :=
  { readLines := 0, writeLines := 0, charged := 0, shortfall := 0, heldTicks := 0, reads := 0, ladder := 0, media := 0, own := 0
    load := 0, late := 0, maxCur := 0, maxPrev := 0, alarms := 0 }

/-- Counters of a domain, and their change. -/
def State.cnt (s : State) (d : Nat) : DomCnt := (Tbl.find s.qs.cnts d).getD DomCnt.fresh
def State.updCnt (s : State) (d : Nat) (f : DomCnt → DomCnt) : State := { s with qs := { s.qs with cnts := Tbl.put s.qs.cnts d (f (s.cnt d)) } }

/-- The buckets of a domain (R304). -/
def State.bucket (s : State) (d : Nat) : Bucket := Tbl.get (fun _ => ⟨0, 0⟩) s.qs.buckets d
def State.setBucket (s : State) (d : Nat) (b : Bucket) : State := { s with qs := { s.qs with buckets := Tbl.set (fun _ => ⟨0, 0⟩) s.qs.buckets d b } }

/-- A balance saturates at -2^31. -/
def satBal (x : Int) : Int := max (-2147483648) x

/-- Count what a domain was charged (Table 11.6). -/
def State.charged (s : State) (d c : Nat) : State := s.updCnt d (fun n => { n with charged := (n.charged + c) % 2 ^ 64 })

/-- The background bucket, and a charge to it. -/
def State.bgBal (s : State) : Int := signed 32 (s.reg (QS + 0x28)).toNat
def State.setBg (s : State) (x : Int) : State := s.setReg (QS + 0x28) (BitVec.ofNat 32 (twos 32 (satBal x)))
def State.chargeBg (s : State) (c : Nat) : State := s.setBg (s.bgBal - c)

/-- A charge that is not held (R306): from gb, or bb while gb is negative and bb is not; of a domain that is gone, from the
background bucket (Table 11.5). -/
def State.chargeFree (s : State) (d c : Nat) : State :=
  if ¬ s.domValid d then s.chargeBg c
  else
    let b := s.bucket d
    let b : Bucket := if 0 ≤ b.gb then { b with gb := satBal (b.gb - c) } else if 0 ≤ b.bb then { b with bb := satBal (b.bb - c) } else { b with gb := satBal (b.gb - c) }
    (s.setBucket d b).charged d c

/-- What a command of the background engines is charged (Table 11.3). -/
def State.bgCost (s : State) (m : MCmd) : Nat :=
  match m.op with
  | .read | .readSoft | .marginRead => 4
  | .program => s.fld (QS + 0x0C) 7 0 * m.data.length
  | .copy => 4 + s.fld (QS + 0x0C) 7 0
  | .erase => s.fld (QS + 0x0C) 19 8
  | .suspend | .resume | .status | .temp | .config => 0

/-- What follows the issue of a command: the sampler (R149; log plots are not counted), the apply's charge, the background charge. -/
def State.issued (s : State) (c : Nat) (m : MCmd) : State :=
  let s := if (m.op = .program ∨ m.op = .copy) ∧ 6168 ≤ m.dst then (s.sample m.dst m.data.length).hotProgram c m else s
  match m.why with
  | .frame set way =>
    (match Tbl.find s.wb.frames (8 * set + way) with
     | some f => s.chargeFree f.dom (s.fld (QS + 0x08) 7 0)
     | none => s)
  | .fetch _ _ | .apply _ _ | .dual _ _ | .node _ _ _ _ | .verify _ _ | .log | .recorder _ | .ctl => s
  | .job _ _ | .erase _ _ => if m.eng ≤ 1 ∧ m.tier < 2 then s.chargeBg (s.bgCost m) else s

/-- Does the background bucket hold a command back (R318)? -/
def State.bucketHolds (s : State) (m : MCmd) : Bool :=
  decide (m.eng ≤ 1) && decide (m.tier = 0) && m.op.isData && decide (signed 32 (s.reg (QS + 0x28)).toNat < 0) && decide (s.fld (QS + 0x10) 7 0 ≤ s.qs.lvlMean)

/-- The occupancies that the performance monitor counts in every slot (Table 17.11): tags in use, tokens held, reads held under R229. -/
def State.slotOccupancy (s : State) (chan : Nat) : State :=
  let x := s.chan chan
  let tags := countIf (fun (f : InFlight) => f.cmd.op.isData) x.flight
  let held := countIf (fun m => s.heldByClass chan m) x.queue
  ((s.count (2 + chan / 8) 0x69 (chan % 8) tags).count (2 + chan / 8) 0x6A (chan % 8) x.tokens).count (2 + chan / 8) 0x6B (chan % 8) held

/-- The start of an issue slot: its occupancies are counted, SUSPENDs that waiting reads call for join their queue, and the background wait runs down. -/
def State.slotStart (s : State) (chan : Nat) : State :=
  let s := (s.slotOccupancy chan).queueSuspends chan
  s.setChan chan { s.chan chan with bgWait := ((s.chan chan).bgWait.map (fun (e : Nat × Nat) => (e.1, e.2 - 1))).filter (fun (e : Nat × Nat) => decide (0 < e.2)) }

/-- Why the engines assert no request (Table 17.12): the first reason of the command of the highest input that has one queued. -/
def State.starved (s : State) (chan : Nat) : Nat :=
  match (List.range 8).reverse.findSome? (fun i => (s.engineOf chan i).bind (fun e => (s.chan chan).head e)) with
  | none => 3
  | some m => if s.linkReady chan then (s.blocked chan m).getD 5 else 4

/-- An engine hands its command over (R81): nothing is held any more, and the slot counts in the command's category. A SUSPEND is followed at once by
its read (R77). -/
def State.handOver (s : State) (chan : Nat) (m : MCmd) : State :=
  let s := (s.launch chan m).issued chan m
  let x := s.chan chan
  let s := s.setChan chan { x with
    grant := none
    follow := if m.op = .suspend then some (planeKey m.addr) else none
    bgWait := if m.eng ≤ 1 ∧ m.tier = 0 ∧ m.op.isData ∧ 0 < s.fld (TH + 4) 22 20 then Tbl.put x.bgWait m.eng (s.fld (TH + 4) 22 20) else x.bgWait }
  (s.setBit (MC + chan * 0x1000 + 4) 3 false).slotCount chan m.category

/-- MC_STAT shows a grant to input `i`, which is counted. -/
def State.showGrant (s : State) (chan i : Nat) : State := (s.setFld (MC + chan * 0x1000 + 4) 2 0 i).count (2 + chan / 8) (0x50 + i) (chan % 8) 1

/-- A granted command is handed over in the slot of its grant (R81). -/
def State.grant (s : State) (chan i : Nat) (m : MCmd) : State := (s.showGrant chan i).handOver chan m

/-- A grant is held: the engine that asserted does not hand over in this slot (R82), which is wasted. -/
def State.holdGrant (s : State) (chan i eng : Nat) : State :=
  let s := s.showGrant chan i
  let s := s.setChan chan { s.chan chan with grant := some (i, eng, s.tb.tick) }
  (s.setBit (MC + chan * 0x1000 + 4) 3 true).slotCount chan 2

/-- The input to be granted: that of the read which follows a SUSPEND (R77), else the highest-numbered that asserts a request (R81, R82). -/
def State.nextAsk (s : State) (chan : Nat) : Option (Nat × MCmd) :=
  let asks := (s.heads chan).filter (fun p => (s.blocked chan p.2).isNone)
  (asks.find? (fun p => p.2.op.reads && decide ((s.chan chan).follow = some (planeKey p.2.addr)))).or asks.head?

/-- One turn of the arbiter. A grant that is held is served by nothing else until its engine hands over, whatever the map says since (R81, R84). -/
def State.slotTurn (s : State) (chan : Nat) (hands : Bool) : State :=
  match (s.chan chan).grant with
  | some (_, e, _) =>
    (match s.ask chan e with
     | some m => if hands ∧ s.linkReady chan ∧ (s.blocked chan m).isNone then s.handOver chan m else s.slotCount chan 2
     | none => s.slotCount chan 2)
  | none =>
    match (if s.linkReady chan then s.nextAsk chan else none) with
    | some (i, m) => if hands then s.grant chan i m else s.holdGrant chan i m.eng
    | none => s.slotCount chan (s.starved chan)

/-- ISSUE_SLOT (R81, R82): the highest-numbered input that asserts is granted and hands its command over; an engine asserts only when it can. `slot.hands`
false: the granted engine does not hand over, and the grant is held (R82: until the watchdog acts, or it hands over after all). Every slot counts in one
category (R457). DESIGN CHOICE: the arbiter goes on granting while a disable is pending (R515 does not say). -/
def execIssueSlot (slot : ArbSlot) (s : State) : Answer :=
  below slot.chan 40 s (.next (
    let s := s.slotStart slot.chan
    let s := if (s.heads slot.chan).any (fun p => s.bucketHolds p.2) then s.countGlobal 0xD6 1 else s
    s.slotTurn slot.chan slot.hands))

/-! ### The flit link (R59 to R64, R513) -/

/-- A flit's 32 bytes (Table 03.3). -/
def flitBytes (seq : Nat) (payload : List Byte) : List Byte :=
  let b := payload ++ leBytes 1 seq
  b ++ leBytes 2 (crc16 0x8BB7 b)

/-- Take `n` bytes off a list of messages: what is left, and whether its first message has been begun. -/
def dropMsgs : List (List Byte) → Nat → Bool × List (List Byte)
  | [], _ => (false, [])
  | m :: ms, n => if m.length ≤ n then dropMsgs ms (n - m.length) else (decide (0 < n), m.drop n :: ms)

/-- The next flit's payload: 29 bytes of the message stream, padded with 0x00 (R60, R513). -/
def Link.payload (l : Link) : List Byte :=
  let p := l.tx.flatten.take 29
  p ++ List.replicate (29 - p.length) 0

/-- The link once its next flit has been sent: it is held for replay (R61). -/
def Link.sent (l : Link) : Link :=
  let (open_, rest) := dropMsgs l.tx 29
  { l with tx := rest, txOpen := open_, txSeq := (l.txSeq + 1) % 256, unacked := l.unacked ++ [(l.txSeq, l.payload)] }

/-- FLIT_PERIOD (R61, R513): the next flit is sent, padded with 0x00, unless 64 flits are unacknowledged. -/
def execFlitPeriod (chan : Nat) (s : State) : Answer :=
  below chan 40 s (.next (
    let x := s.chan chan
    if (s.chanState chan = 3 ∨ s.chanState chan = 4) ∧ x.link.unacked.length < 64 then
      (s.setChan chan { x with link := x.link.sent }).emit (.flit chan (flitBytes x.link.txSeq x.link.payload))
    else s))

/-- An ACK message (R62): the next expected sequence number, and flag bit 0 for a replay request. It joins the stream at the next message boundary. -/
def Link.ack (l : Link) (replay : Bool) : Link :=
  let m := [0x7E] ++ leBytes 1 l.rxSeq ++ [if replay then 1 else 0]
  { l with rxPending := 0, tx := if l.txOpen then (match l.tx with | [] => [m] | a :: as => a :: m :: as) else m :: l.tx }

/-- Send an ACK message (R62), with the replay request of a discarded flit. -/
def State.sendAck (s : State) (c : Nat) (replay : Bool) : State :=
  s.setChan c { s.chan c with link := (s.chan c).link.ack replay }

/-- Enter RETRAIN from CONFIG or READY (R64, R513): event 0x1101. -/
def State.retrain (s : State) (c : Nat) : State :=
  if s.chanState c = 3 ∨ s.chanState c = 4 then
    ((s.setChan c { s.chan c with before := s.chanState c }).setChanState c 5).event 0x1101 c none c 0
  else s

/-- Resend every unacknowledged flit in order (R63), as the replay that names sequence number `mark`; the eighth in a row enters RETRAIN (R64). -/
def State.replay (s : State) (c mark : Nat) : State :=
  let x := s.chan c
  let n := x.link.replays + 1
  let s := s.setChan c { x with link := { x.link with replays := n, replayMark := some mark } }
  let s := x.link.unacked.foldl (fun (t : State) (f : Nat × List Byte) => t.emit (.flit c (flitBytes f.1 f.2))) s
  let s := (s.bump (MC + c * 0x1000 + 0x18) 31 16 1).count (2 + c / 8) 0x67 (c % 8) 1
  if 8 ≤ n then s.retrain c else s

/-- The link once an ACK that names `nextSeq` has come: the flits before it leave the replay buffer; with progress the run of replays ends and the
last replay request is forgotten (R62 to R64). -/
def Link.acked (l : Link) (nextSeq : Nat) : Link :=
  let idx := l.unacked.findIdx (fun f => (f.1 + 1) % 256 = nextSeq % 256)
  if idx < l.unacked.length then { l with unacked := l.unacked.drop (idx + 1), replays := 0, replayMark := none } else l

/-- An ACK message has come (R62, R63): a replay request acts once per number. -/
def State.ackTaken (s : State) (c nextSeq : Nat) (replayRequest : Bool) : State :=
  let l := (s.chan c).link.acked nextSeq
  let s := s.setChan c { s.chan c with link := l }
  if replayRequest ∧ l.replayMark ≠ some (nextSeq % 256) then s.replay c (nextSeq % 256) else s

/-- ACK_RECEIVE (R62, R63). -/
def execAckReceive (chan nextSeq : Nat) (replayRequest : Bool) (s : State) : Answer :=
  below chan 40 s (.next (s.ackTaken chan nextSeq replayRequest))

/-- ACK_TIMER (R62): 256 ns after the first accepted flit not acknowledged. -/
def execAckTimer (chan : Nat) (s : State) : Answer :=
  below chan 40 s (.next (if 0 < (s.chan chan).link.rxPending then s.sendAck chan false else s))

/-- REPLAY_TIMEOUT (R63, R64): 2 us without acknowledgement progress. -/
def execReplayTimeout (chan : Nat) (s : State) : Answer :=
  below chan 40 s (.next (match (s.chan chan).link.unacked with
    | [] => s
    | f :: _ => s.replay chan f.1))

/-- BLOCK_LOCK_LOSS (R513): RETRAIN at once. -/
def execBlockLockLoss (chan : Nat) (s : State) : Answer := below chan 40 s (.next (s.retrain chan))

/-! ### Channel reset (R87 to R90) -/

/-- A channel whose hub has aborted every command: data commands keep their tags and tokens (R88), plane and stack control ends, no plane is suspended
and no grant held. -/
def Chan.aborted (x : Chan) : Chan :=
  { x with link := Link.fresh, flight := x.flight.filter (fun f => f.cmd.op.isData), grant := none, follow := none
           planes := x.planes.map (fun p => (p.1, { p.2 with suspended := none, suspendedAt := none })) }

/-- Enter CHRESET (Table 03.14, steps 1 to 3): counted, event 0x1102 with the cause, both replay buffers emptied. The data commands
in flight keep their tags and tokens. -/
def State.resetChannel (s : State) (c cause : Nat) : State :=
  let o := MC + c * 0x1000
  let x := s.chan c
  let s := s.setChan c { x.aborted with
    before := if s.chanState c = 5 then x.before else s.chanState c
    resets := s.tb.tick :: x.resets.filter (fun t => s.tb.tick - t < 60000000) }
  let s := (s.setChanState c 6).setFld (o + 4) 23 16 cause
  let s := s.bump (o + 0x1C) 15 0 1
  let s := if cause = 1 then s.bump (o + 0x1C) 31 16 1 else s
  let s := (s.setFld (o + 4) 15 8 0).setBit (o + 4) 3 false
  ((s.emit (.linkReset c)).count (2 + c / 8) 0x68 (c % 8) 1).event 0x1102 c none c cause

/-- May a trigger reset the channel (R87)? -/
def State.resettable (s : State) (c : Nat) : Bool := decide (s.chanState c = 4 ∨ s.chanState c = 5)

/-- Would this be the third channel reset within 60 s (R90)? -/
def State.thirdReset (s : State) (c : Nat) : Bool :=
  decide (2 ≤ ((s.chan c).resets.filter (fun t => s.tb.tick - t < 60000000)).length)

end Sys2Proof.Machine
end

