-- ==== Sys2Proof/Machine/Gorse.lean ====
section
/-! DEFINITION. Machine/Gorse.lean: keys (R265 to R268), tweaks, slots and tags (R269 to R271), the counter tree and its versions
(R272 to R288), the security alarm and quarantine (R292, R293). -/

namespace Sys2Proof.Machine

/-! ### Keys -/

/-- Draw a key set from the DRBG into a domain's generation, and write it wrapped to the Seed store (R266, R267). -/
def State.makeKeys (s : State) (d : Nat) (gen : Bool) : State :=
  let n := s.gx.draws
  let k : KeySet := { data := Config.freeKey n, tweak := Config.freeKey (n + 1), tag := Config.freeKey (n + 2) }
  let i := 2 * d + (if gen then 1 else 0)
  { s with
    gx := { s.gx with keys := Tbl.put s.gx.keys i k, draws := n + 3 }
    sd := { s.sd with keyBlobs := Tbl.put s.sd.keyBlobs i k } }

/-- Zeroise a domain's generation in key SRAM and Seed store (R268). -/
def State.zeroKeys (s : State) (d : Nat) (gen : Bool) : State :=
  let i := 2 * d + (if gen then 1 else 0)
  { s with
    gx := { s.gx with keys := Tbl.del s.gx.keys i }
    sd := { s.sd with keyBlobs := Tbl.del s.sd.keyBlobs i } }

/-! ### Tweaks, slots and tags -/

/-! ### Nodes (R272) -/

/-- Minor `i` of a node. -/
def Node.minor (n : Node) (i : Nat) : BitVec 7 := Tbl.get (fun _ => (0 : BitVec 7)) n.minors i

/-- Set minor `i`. -/
def Node.setMinor (n : Node) (i : Nat) (v : BitVec 7) : Node := { n with minors := Tbl.set (fun _ => (0 : BitVec 7)) n.minors i v }

/-- The 64 bytes of a node. -/
def Node.bytes (n : Node) : List Byte :=
  leBytes 8 n.major.toNat ++ leBytes 56 ((List.range 64).foldl (fun a i => a + (n.minor i).toNat * 2 ^ (7 * i)) 0)

/-- The node that 64 bytes spell. -/
def nodeOfBytes (b : List Byte) : Node :=
  let x := leNat (b.drop 8)
  (List.range 64).foldl (fun n i => n.setMinor i (BitVec.ofNat 7 (x / 2 ^ (7 * i)))) { major := BitVec.ofNat 64 (leNat (b.take 8)), minors := [] }

/-- The next major: count + 1, never carrying into the epoch (R272). -/
def nextMajor (m : DWord) : DWord :=
  BitVec.ofNat 64 (m.toNat / 2 ^ 40 * 2 ^ 40 + (m.toNat % 2 ^ 40 + 1) % 2 ^ 40)

/-- Is the count at its end (Table 10.6)? -/
def majorEnd (m : DWord) : Bool := decide (m.toNat % 2 ^ 40 = 2 ^ 40 - 1)

/-- Number of nodes of a level at usable size `u` (Table 10.4); level 5 is the crown. -/
def levelCount (u level : Nat) : Nat :=
  match level with
  | 0 => u * 2 ^ 18
  | 1 => u * 2 ^ 12
  | 2 => u * 64
  | 3 => u
  | 4 => ceilDiv u 64
  | _ => ceilDiv u 4096

/-- A node no one has touched since format: major = epoch shl 40 and minors 0; L3, L4 and crown with the advances of R278. -/
def State.freshNode (s : State) (level i : Nat) : Node :=
  let seed := s.gx.seedEpoch * 2 ^ 40
  if level < 3 ∨ s.gx.bumps = 0 then { major := BitVec.ofNat 64 seed, minors := [] }
  else
    { major := BitVec.ofNat 64 (seed + s.gx.bumps % 2 ^ 40)
      minors := ((List.range 64).filter (fun c => decide (64 * i + c < levelCount s.usable (level - 1)))).map (fun c => (c, 1)) }

/-- The table of a level. -/
def Gorse.table (g : Gorse) (level : Nat) : Tbl Node :=
  match level with
  | 0 => g.l0
  | 1 => g.l1
  | 2 => g.l2
  | 3 => g.l3
  | 4 => g.l4
  | _ => g.crown

/-- Replace the table of a level. -/
def Gorse.setTable (g : Gorse) (level : Nat) (t : Tbl Node) : Gorse :=
  match level with
  | 0 => { g with l0 := t }
  | 1 => { g with l1 := t }
  | 2 => { g with l2 := t }
  | 3 => { g with l3 := t }
  | 4 => { g with l4 := t }
  | _ => { g with crown := t }

/-- Node `i` of a level: a dirty L0 leaf first (R202). -/
def State.node (s : State) (level i : Nat) : Node :=
  match (if level = 0 then Tbl.find s.wb.leaves i else none) with
  | some l => l.node
  | none => (Tbl.find (s.gx.table level) i).getD (s.freshNode level i)

/-- Replace node `i` of a level (not the dirty-leaf copy). -/
def State.setNode (s : State) (level i : Nat) (n : Node) : State := { s with gx := s.gx.setTable level (Tbl.put (s.gx.table level) i n) }

/-- The version of node `i` of a level under its parent (R273). -/
def State.nodeVersion (s : State) (level i : Nat) : Version :=
  let p := s.node (level + 1) (i / 64)
  { major := p.major, minor := p.minor (i % 64) }

/-- The version of a line (R273). -/
def State.lineVersion (s : State) (line : Nat) : Version :=
  let p := s.node 0 (line / 64)
  { major := p.major, minor := p.minor (line % 64) }

/-- The slot of a node under a version (R275). -/
def nodeSlot (gen : Bool) (level i : Nat) (n : Node) (v : Version) : List Byte :=
  sealSlot (nodeKeys gen) (tweakOf 1 v.major.toNat v.minor.toNat level i) n.bytes (nodeMeta (v.major.toNat % 2 = 1) gen)

/-- Check a decoded node slot under a version (R275, R96, R271). -/
def checkNodeSlot (gen : Bool) (level i : Nat) (v : Version) (sl : List Byte) : Option Node :=
  let m := slotMeta sl
  if metaPoison m ∨ ¬ metaReservedOk m ∨ metaFormat m ≠ 2 ∨ metaKeyGen m ≠ gen ∨ metaPhase m ≠ decide (v.major.toNat % 2 = 1) then none
  else (openSlot (nodeKeys gen) (tweakOf 1 v.major.toNat v.minor.toNat level i) sl).map nodeOfBytes

/-- The regraft in flight on a node, if any (R286). -/
def State.regraftOf (s : State) (level i : Nat) : Option Regraft := s.gx.regrafts.find? (fun r => r.level = level ∧ r.index = i)

/-- A node accepted under its parent's next minor sets that minor in the parent (R281). -/
def State.raiseParent (s : State) (level i : Nat) (v : Version) (sl : List Byte) : State :=
  if (checkNodeSlot s.gx.nodeGen level i v sl).isSome ∨ (s.regraftOf (level + 1) (i / 64)).isSome then s
  else
    let p := s.node (level + 1) (i / 64)
    s.setNode (level + 1) (i / 64) (p.setMinor (i % 64) (v.minor + 1))

/-- Check a node copy: under a regraft of its parent a child of the new phase under (m, 1) (R286); during recovery and an unclean
sweep also once under the parent's next minor (R281). -/
def State.verifyNode (s : State) (level i : Nat) (v : Version) (sl : List Byte) : Option Node :=
  let fresh : Option Version := match s.regraftOf (level + 1) (i / 64) with
    | some r => if metaPhase (slotMeta sl) = decide (r.major.toNat % 2 = 1) then some { major := r.major, minor := 1 } else none
    | none => none
  match checkNodeSlot s.gx.nodeGen level i (fresh.getD v) sl with
  | some n => some n
  | none =>
    if ¬ s.wb.recovered ∨ s.gx.sweep.isSome then
      checkNodeSlot s.gx.nodeGen level i { v with minor := v.minor + 1 } sl
    else none

/-! ### Data slots -/

/-- The key generation under which an apply encrypts (R290): the new one in a rotating plot, the plot's elsewhere. -/
def State.applyGen (s : State) (d : Nat) (e : MapEntry) : Bool := if e.rotating then !s.domGen d else e.keyGen

/-- The slot of a line under a version. -/
def State.dataSlot (s : State) (d : Nat) (gen : Bool) (line : Nat) (v : Version) (plain : List Byte) : List Byte :=
  match s.domKeys d gen with
  | some k => sealSlot k (tweakOf 0 v.major.toNat v.minor.toNat d line) plain (dataMeta (s.flag (QD + d * 0x20) 15) (v.major.toNat % 2 = 1) gen)
  | none => poisonSlot

/-- What Gorse makes of a decoded data slot (R95, R96, R121, R226, R274, R286, R290): the line and whether it is poison; none: a
failed tag check. -/
def State.openData (s : State) (d : Nat) (line : Nat) (e : MapEntry) (v : Version) (sl : List Byte) : Option (List Byte × Bool) :=
  let m := slotMeta sl
  let zeros := List.replicate 64 (0 : Byte)
  if metaPoison m then some (zeros, true)
  else if v.minor = 0 ∧ s.gx.sweep.isNone then some (zeros, false)
  else if metaFormat m = 0 then (if v.minor = 0 then some (zeros, false) else none)
  else if ¬ metaReservedOk m ∨ metaFormat m ≠ 1 then none
  else if ¬ e.rotating ∧ metaKeyGen m ≠ e.keyGen then none
  else
    let v := match s.regraftOf 0 (line / 64) with
      | some r => if metaPhase m = decide (r.major.toNat % 2 = 1) then ({ major := r.major, minor := 1 } : Version) else v
      | none => v
    if metaPhase m ≠ decide (v.major.toNat % 2 = 1) then none
    else match s.domKeys d (metaKeyGen m) with
      | none => none
      | some k => (openSlot k (tweakOf 0 v.major.toNat v.minor.toNat d line) sl).map (fun b => (b, false))

/-! ### Alarms (R293) -/

/-- Low and high parameters of a logical line number. -/
def lineLo (line : Nat) : Nat := line % 2 ^ 32
def lineHi (line : Nat) : Nat := line / 2 ^ 32 % 64

/-- GX_ALARM_STAT shows an alarm pending, of domain `d` (0xFFF: none named); owner MSI-X vector 2 where none was (Table 13.5). -/
def State.alarmPending (s : State) (d : Nat) : State :=
  let s := if s.flag (GX + 0x0C) 0 then s else s.emit (.msix 2)
  (s.setBit (GX + 0x0C) 0 true).setFld (GX + 0x0C) 27 16 d

/-- The security alarm of a domain for a line: counted, pending, its event; at quarantine_at the domain is quarantined. -/
def State.alarm (s : State) (d line code : Nat) : State :=
  let s := (s.bump (gxDom d) 15 0 1).bump (GX + 0x20) 31 0 1
  let s := s.alarmPending d
  let s := { s with qs := { s.qs with cnts := match Tbl.find s.qs.cnts d with | some c => Tbl.put s.qs.cnts d { c with alarms := c.alarms + 1 } | none => s.qs.cnts } }
  let s := s.event code 0 (some d) (lineLo line) (lineHi line)
  let at_ := s.fld (GX + 8) 15 0
  if at_ ≠ 0 ∧ at_ ≤ s.fld (gxDom d) 15 0 ∧ ¬ s.quarantined d then
    let s := s.persistFld (gxDom d) 31 31 1
    let s := s.meter d (fun a => { a with quarantined := true })
    (s.bump (GX + 0x34) 31 0 1).event 0x8102 0 (some d) (lineLo line) (lineHi line)
  else s

/-- Is node (level, index) or one above it found unverifiable (Table 10.7)? -/
def State.unverifiable (s : State) (line : Nat) : Bool :=
  s.gx.unverifiable.any (fun p => decide (line / 64 ^ (p.1 + 1) = p.2))

/-- A subtree is found unverifiable: event 0x8105 once. -/
def State.loseSubtree (s : State) (level i : Nat) : State :=
  if (level, i) ∈ s.gx.unverifiable then s
  else ({ s with gx := { s.gx with unverifiable := (level, i) :: s.gx.unverifiable } }).event 0x8105 0 none i level

/-! ### Updating the tree (R282 to R288) -/

/-- Put a node into the dirty-leaf store (R202): a new place takes the present ztime as first change; a place under write-back
notes the change. -/
def State.dirtyLeaf (s : State) (i : Nat) (n : Node) : State :=
  match Tbl.find s.wb.leaves i with
  | some l =>
    let l := { l with node := n, changedAt := if l.writing then l.changedAt.or (some s.tb.ztime) else l.changedAt }
    { s with wb := { s.wb with leaves := Tbl.put s.wb.leaves i l } }
  | none =>
    let l : Leaf := { node := n, first := s.tb.ztime, changedAt := none, writing := false, restored := false, progs := 0 }
    { s with wb := { s.wb with leaves := Tbl.put s.wb.leaves i l } }

/-- GX_STATUS.regrafts, saturating. -/
def State.showRegrafts (s : State) : State := s.setFld (GX + 4) 15 8 (min 255 s.gx.regrafts.length)

/-- Call for a regraft (R285): the node is held from now on; nothing starts twice. -/
def State.startRegraft (s : State) (level i : Nat) (bad : List Nat) : State :=
  if (s.regraftOf level i).isSome then s
  else
    let m := nextMajor (s.node level i).major
    let s := { s with gx := { s.gx with regrafts := s.gx.regrafts ++ [(⟨level, i, m, 0, bad⟩ : Regraft)] } }
    ((s.bump (GX + 0x28) 31 0 1).showRegrafts).count 7 0x87 8 1

/-- One advance of minor `i` of node (level, a), which is below 127 (R283). -/
def State.advanceMinor (s : State) (level a i : Nat) : State :=
  let n := s.node level a
  s.setNode level a (n.setMinor i (n.minor i + 1))

/-- Replace the record of a regraft. -/
def State.setRegraft (s : State) (r : Regraft) : State :=
  { s with gx := { s.gx with regrafts := s.gx.regrafts.map (fun x => if x.level = r.level ∧ x.index = r.index then r else x) } }

/-- A clear re-seed of L0 node `i` (R288): major count + 1, every minor 0, record 0x24, and the node goes to be written back. -/
def State.clearSeed (s : State) (i : Nat) : State :=
  let m := nextMajor (s.node 0 i).major
  let s := s.journal { JRec.of 0x24 with kind := 0, entry := i, value := m.toNat, flags := 1 }
  let s := (s.bump (GX + 0x2C) 31 0 1).count 7 0x8A 8 1
  s.dirtyLeaf i { major := m, minors := [] }

/-- Clear re-seed every L0 node of `n` logical plots from plot `p` (R288): 256 nodes to a plot. -/
def State.clearPlots (s : State) (p n : Nat) : State := (List.range (256 * n)).foldl (fun t k => t.clearSeed (256 * p + k)) s

/-- A poison re-seed of an unverifiable subtree at the first host write below it (R288): the crown epoch is incremented and every
node of the subtree takes major = epoch shl 40 with every minor 1. At the epoch's end nothing takes place (Table 10.6). -/
def State.poisonSeed (s : State) (level i : Nat) : State :=
  if 2 ^ 24 - 1 ≤ s.counter 11 then s.event 0x8105 0 none i level
  else
    let s := s.advanceTo 11 (s.counter 11 + 1)
    let m : DWord := BitVec.ofNat 64 (s.counter 11 * 2 ^ 40)
    let ones : Tbl (BitVec 7) := (List.range 64).map (fun c => (c, (1 : BitVec 7)))
    let s := s.journal { JRec.of 0x24 with kind := level, entry := i, value := m.toNat, flags := 2 }
    let s := (List.range (level + 1)).foldl (fun t lv =>
      (List.range (64 ^ (level - lv))).foldl (fun t k =>
        let j := i * 64 ^ (level - lv) + k
        if lv = 0 then t.dirtyLeaf j ⟨m, ones⟩ else t.setNode lv j ⟨m, ones⟩) t) s
    let s := { s with gx := { s.gx with unverifiable := s.gx.unverifiable.filter (fun p => ¬ (p.1 ≤ level ∧ p.2 / 64 ^ (level - p.1) = i)) } }
    ((s.bump (GX + 0x2C) 31 0 1).count 7 0x8A 8 1).event 0x8106 0 none i level

end Sys2Proof.Machine
end

