-- ==== Sys2Proof/Machine/WriteBuf.lean ====
section
/-! DEFINITION. Machine/WriteBuf.lean: the write buffer's frames, marks and resolution (R191 to R197), the dirty limits (R203) and
what a read sees of the buffer (R17, R196). -/

namespace Sys2Proof.Machine

/-! ### Set and tag of a line (R192) -/

/-- One round of the function of R192. -/
def mixRound (x : Nat) : Nat := (x ^^^ (x / 2 ^ 19)) * 0x29E3779B9 % 2 ^ 38

/-- One round of its inverse: the multiplier's inverse modulo 2^38, and the shift-xor undone. -/
def unmixRound (x : Nat) : Nat := (x * 0x1E144CBC89 % 2 ^ 38) ^^^ (x * 0x1E144CBC89 % 2 ^ 38 / 2 ^ 19)

/-- Set and tag of a logical line under the salt. -/
def lineMix (salt line : Nat) : Nat := mixRound (mixRound ((line ^^^ salt) % 2 ^ 38))
def lineSet (salt line : Nat) : Nat := lineMix salt line % 65536
def lineTag (salt line : Nat) : Nat := lineMix salt line / 2 ^ 16

/-- The logical line of a set and tag. -/
def lineOf (salt set tag : Nat) : Nat := unmixRound (unmixRound (tag * 2 ^ 16 + set)) ^^^ salt

/-! ### Positions (R194, R195) -/

/-- Number of ones among `n` low bits. -/
def ones : Nat → Nat → Nat
  | 0, _ => 0
  | n + 1, x => x % 2 + ones n (x / 2)

/-- A byte with its odd parity bit (R100). -/
def heldByte (b : Byte) : BitVec 9 :=
  BitVec.ofNat 9 (b.toNat + (if ones 8 b.toNat % 2 = 0 then 256 else 0))

/-- The unwritten marks of bank A and bank B (R194). -/
def markA : BitVec 9 := 0x000
def markB : BitVec 9 := 0x0FF

/-- Odd parity over the nine bits. -/
def oddParity (x : BitVec 9) : Bool := decide (ones 9 x.toNat % 2 = 1)

/-- The byte of a held position. -/
def byteOf (x : BitVec 9) : Byte := BitVec.ofNat 8 x.toNat

/-- What the two bank copies of a position resolve to (Table 07.2): none: unresolved; some none: unwritten; some (some b): byte b. -/
def resolve (a b : BitVec 9) : Option (Option Byte) :=
  let wa := ones 9 a.toNat
  let wb := ones 9 b.toNat
  if a = markA ∧ b = markB then some none
  else if oddParity a ∧ oddParity b then (if a = b then some (some (byteOf a)) else none)
  else if a = markA ∧ oddParity b then (if wb = 1 then some (some (byteOf b)) else if wb = 7 ∨ wb = 9 then some none else none)
  else if oddParity a ∧ b = markB then (if wa = 7 ∨ wa = 9 then some (some (byteOf a)) else if wa = 1 then some none else none)
  else if a = markA then some none
  else if b = markB then some none
  else if oddParity a then some (some (byteOf a))
  else if oddParity b then some (some (byteOf b))
  else none

/-- The 64 positions of a frame resolved. -/
def Frame.positions (f : Frame) : List (Option (Option Byte)) := List.zipWith resolve f.bankA f.bankB

/-- Both banks hold a position's value. -/
def bankPair : Option Byte → BitVec 9 × BitVec 9
  | none => (markA, markB)
  | some b => (heldByte b, heldByte b)

/-- A frame with its positions given, in both banks. -/
def Frame.withPositions (f : Frame) (ps : List (Option Byte)) : Frame :=
  { f with bankA := ps.map (fun p => (bankPair p).1), bankB := ps.map (fun p => (bankPair p).2) }

/-- Resolve a frame on a read of it (R195): the chosen values go back to both banks; an unresolved position makes the frame poison
and reads as unwritten. -/
def Frame.resolved (f : Frame) : Frame × Bool :=
  let ps : List (Option (Option Byte)) := f.positions
  let bad := ps.any Option.isNone
  ((Frame.withPositions { f with poison := f.poison || bad } (ps.map (fun (p : Option (Option Byte)) => p.getD none))), bad)

/-- The positions of a frame, unresolved ones as unwritten. -/
def Frame.bytes (f : Frame) : List (Option Byte) := f.positions.map (fun (p : Option (Option Byte)) => p.getD none)

/-- Fully covered: no position resolves to unwritten (R196). -/
def Frame.full (f : Frame) : Bool := f.positions.all (fun p => match p with | some (some _) => true | _ => false)

/-- Overlay: the bytes of `top` where it has any. -/
def overlay (top : List (Option Byte)) (under : List Byte) : List Byte := List.zipWith (fun t u => t.getD u) top under

/-! ### Frames -/

/-- Key of a frame: 8 * set + way. -/
def frameKey (set way : Nat) : Nat := 8 * set + way

/-- The frame at a set and way. -/
def State.frame (s : State) (set way : Nat) : Option Frame := Tbl.find s.wb.frames (frameKey set way)

/-- Is the pressure of R198 on with `n` frames in use: on above press / 256 of the frame limit, off again below (press - 4) / 256. -/
def State.pressAt (s : State) (n : Nat) : Bool :=
  let limit := max s.wb.f 1 * 2048
  let press := s.fld WP 31 24
  decide (press * limit < n * 256) || (s.wb.pressing && decide ((press - 4) * limit ≤ n * 256))

/-- The directory word of a frame (Table 07.1). -/
def Frame.dirWord (f : Frame) : Word :=
  let st := match f.state with | .holding => 1 | .eligible => 2 | .applying => 3
  BitVec.ofNat 32 (f.tag * 2 ^ 10 + st * 2 ^ 8 + (if f.poison then 2 ^ 7 else 0) + f.stamp % 128)

/-- Put a frame, with both copies of its directory word (R191). -/
def State.setFrame (s : State) (set way : Nat) (f : Frame) : State :=
  let t := Tbl.put s.wb.frames (frameKey set way) f
  { s with wb := { s.wb with frames := t, dirCopy := Tbl.put s.wb.dirCopy (frameKey set way) f.dirWord, pressing := s.pressAt t.length } }

/-- Replace all frames. -/
def WriteBuf.withFrames (w : WriteBuf) (t : Tbl Frame) : WriteBuf := { w with frames := t, dirCopy := t.map (fun x => (x.1, x.2.dirWord)) }

/-- Free a frame. -/
def State.freeFrame (s : State) (set way : Nat) : State :=
  let t := Tbl.del s.wb.frames (frameKey set way)
  { s with wb := { s.wb with frames := t, dirCopy := Tbl.del s.wb.dirCopy (frameKey set way), pressing := s.pressAt t.length, anchorFrames := s.wb.anchorFrames.filter (fun k => ¬ k = frameKey set way) } }

/-- The way of a set that holds a line, in state applying or not. -/
def State.wayOf (s : State) (line : Nat) (applying : Bool) : Option Nat :=
  let set := lineSet s.wb.salt line
  (List.range 8).find? (fun w => match s.frame set w with
    | some f => decide (f.tag = lineTag s.wb.salt line) && (decide (f.state = .applying) == applying)
    | none => false)

/-- The frame of a line that is applying, and the one that is holding or eligible (R193). -/
def State.applyingFrame (s : State) (line : Nat) : Option Frame := (s.wayOf line true).bind (fun w => s.frame (lineSet s.wb.salt line) w)
def State.openFrame (s : State) (line : Nat) : Option Frame := (s.wayOf line false).bind (fun w => s.frame (lineSet s.wb.salt line) w)

/-- Frames in use, and the dirty limits with F' = max(F, 1) (R203). -/
def State.framesInUse (s : State) : Nat := s.wb.frames.length
def State.fLimit (s : State) : Nat := max s.wb.f 1
def State.frameLimit (s : State) : Nat := s.fLimit * 2048
def State.leafLimit (s : State) : Nat := s.fLimit * 1024
def State.deltaLimit (s : State) : Nat := s.fLimit * 256

/-- Write-through mode (R208). -/
def State.writeThrough (s : State) : Bool := s.flag (WP + 0x2C) 1

/-- The stamp of a frame allocated now (Table 07.1). -/
def State.stampNow (s : State) : Nat := s.tb.tick / 64 % 128

/-- A bank with the enabled bytes of a write put in, each with its parity bit; the others are neither read nor rewritten (R101). -/
def bankWrite (bank : List (BitVec 9)) (data : List Byte) (mask : BitVec 64) : List (BitVec 9) :=
  (List.range 64).map (fun i => if mask.getLsbD i then heldByte (data.getD i 0) else bank.getD i 0)

/-- A frame with the enabled bytes of a write in both banks (R20, R101). -/
def Frame.written (f : Frame) (data : List Byte) (mask : BitVec 64) : Frame :=
  { f with bankA := bankWrite f.bankA data mask, bankB := bankWrite f.bankB data mask }

/-- All bytes enabled. -/
def fullMask : BitVec 64 := BitVec.allOnes 64

/-- Poison of a buffered line after a write (R122, R123). -/
def poisonAfter (was wpoison : Bool) (mask : BitVec 64) : Bool := wpoison || (was && decide (mask ≠ fullMask))

/-- A frame no byte of which is written. -/
def Frame.blank (tag stamp order dom : Nat) (anchor : Bool) : Frame :=
  { tag := tag, state := .holding, poison := false, stamp := stamp, bankA := List.replicate 64 markA, bankB := List.replicate 64 markB
    order := order, dom := dom, anchor := anchor, progs := 0, stage := .idle, failed := false }

/-- What stops a merge: 0 nothing, 1 no free frame in the set, 2 the dirty limit (R197). -/
def State.mergeWait (s : State) (line : Nat) : Nat :=
  if (s.wayOf line false).isSome then 0
  else if s.frameLimit ≤ s.framesInUse then 2
  else if (List.range 8).all (fun w => (s.frame (lineSet s.wb.salt line) w).isSome) then 1
  else 0

/-- Merge a write into the line's open frame, or into a new frame of its set (R193, R101). -/
def State.mergeWrite (s : State) (line dom : Nat) (data : List Byte) (mask : BitVec 64) (poison anchor : Bool) : State :=
  let set := lineSet s.wb.salt line
  match s.wayOf line false with
  | some w =>
    match s.frame set w with
    | none => s
    | some f =>
      (s.setFrame set w (Frame.written { f with poison := poisonAfter f.poison poison mask } data mask)).count 8 0x9B 8 1
  | none =>
    match (List.range 8).find? (fun w => (s.frame set w).isNone) with
    | none => s
    | some w =>
      let f := Frame.blank (lineTag s.wb.salt line) s.stampNow s.wb.order dom anchor
      let s := { s with wb := { s.wb with order := s.wb.order + 1 } }
      (s.setFrame set w (Frame.written { f with poison := poison } data mask)).count 8 0x9C 8 1

/-- A read of the frame at a set and way (R195): what its positions resolve to goes back to both banks; an unresolved one makes the frame poison, with event
0x5105. -/
def State.readFrame (s : State) (set way line : Nat) : State :=
  match s.frame set way with
  | none => s
  | some f =>
    let (g, bad) := f.resolved
    let s := s.setFrame set way g
    if bad then s.event 0x5105 0 (some f.dom) (lineLo line) (lineHi line) else s

/-- A read of a line's frames. -/
def State.readLine (s : State) (line : Nat) : State :=
  let set := lineSet s.wb.salt line
  let s := match s.wayOf line true with | some w => s.readFrame set w line | none => s
  match s.wayOf line false with | some w => s.readFrame set w line | none => s

/-- What the buffer shows of a line: the applying frame's line with the open frame overlaid (R196), and poison. -/
def State.bufferView (s : State) (line : Nat) : Option (List (Option Byte) × Bool) :=
  match s.applyingFrame line, s.openFrame line with
  | none, none => none
  | some a, none => some (a.bytes, a.poison)
  | none, some o => some (o.bytes, o.poison)
  | some a, some o =>
    some (List.zipWith (fun t u => t.or u) o.bytes a.bytes, o.poison || (a.poison && !o.full))

/-- A read that the buffer alone serves (R15, R16): every byte written. -/
def bufferFull (v : List (Option Byte) × Bool) : Bool := v.1.all Option.isSome

/-- The bytes of a line that the buffer serves alone. -/
def bufferBytes (v : List (Option Byte) × Bool) : List Byte := v.1.map (fun p => p.getD 0)

end Sys2Proof.Machine
end

