-- ==== Sys2Proof/Machine/Rick.lean ====
section
/-! DEFINITION. Machine/Rick.lean: the Rick SRAM tier (09): partitions, the read cache, the eviction buffer and Aftermath, parity
errors by partition, and Commons. A cached counter node's content is `State.node`'s: every change Gorse makes reaches every
copy in the same clock (R252), so its `CLine` carries no bytes. -/

namespace Sys2Proof.Machine

/-! ### Partitions (R245) -/

/-- Sizes in MiB of the partitions of order 1 to 9 (Table 09.1) at usable size `u`, `np` node plots and a Commons size. -/
def partitionSizes (u np commons : Nat) : List Nat :=
  let fixed := [ceilDiv u 128, ceilDiv (4160 * u + 64 * ceilDiv u 64 + 8 * np) (2 ^ 20), 32, 64, 32, commons, 4, 24]
  fixed ++ [512 - fixed.sum]

/-- Bases and sizes as RK_PART shows them. -/
def partitionWords : Nat → List Nat → List Word
  | _, [] => []
  | b, x :: xs => BitVec.ofNat 32 (b % 512 + x % 1024 * 2 ^ 16) :: partitionWords (b + x) xs

/-- Put words at consecutive registers. -/
def State.setRegs : State → Nat → List Word → State
  | s, _, [] => s
  | s, o, w :: ws => State.setRegs (s.setReg o w) (o + 4) ws

/-- The partitions take effect (R246): RK_PART, RK_SETS and the Commons size in force. -/
def State.partition (s : State) : State :=
  let sz := partitionSizes s.usable s.nodePlots (s.fld RK 6 0)
  let s := { s with rk := { s.rk with commonsMib := s.fld RK 6 0 } }
  (s.setRegs (RK + 0x40) (partitionWords 0 sz)).setReg (RK + 8) (BitVec.ofNat 32 (sz.getD 8 0 * 1024))

/-! ### Sets and ways (R247, R250) -/

/-- The 39-bit key. -/
def cacheKey (isNode : Bool) (num : Nat) : Nat := (if isNode then 2 ^ 38 else 0) + num % 2 ^ 38

/-- Read-cache set and Aftermath set of a key. -/
def State.cacheSet (s : State) (isNode : Bool) (num : Nat) : Nat := Config.cacheHash s.rk.salt (cacheKey isNode num) % max 1 (s.fld (RK + 8) 19 0)
def State.aftSet (s : State) (isNode : Bool) (num : Nat) : Nat := Config.cacheHash s.rk.salt (cacheKey isNode num) % 4096

/-- The line in a way of a set. -/
def State.lineAt (s : State) (set way : Nat) : Option CLine := Tbl.find s.rk.lines (16 * set + way)
def State.setLine (s : State) (set way : Nat) (l : CLine) : State := { s with rk := { s.rk with lines := Tbl.put s.rk.lines (16 * set + way) l } }
def State.delLine (s : State) (set way : Nat) : State := { s with rk := { s.rk with lines := Tbl.del s.rk.lines (16 * set + way) } }

/-- Is this the line asked for? -/
def CLine.named (l : CLine) (isNode : Bool) (num : Nat) : Bool := l.isNode == isNode && decide (l.num = num)

/-- The way of its set that holds a line, over all 16 ways (R248). -/
def State.cacheWay (s : State) (isNode : Bool) (num : Nat) : Option Nat :=
  (List.range 16).find? (fun w => match s.lineAt (s.cacheSet isNode num) w with | some l => l.named isNode num | none => false)

/-- The way that the tree points at among those allowed: bit `n` set points right; a side without an allowed way gives way to the
other. -/
def plruPick (b : BitVec 15) (ok : Nat → Bool) : Nat → Nat → Nat → Option Nat
  | 0, _, w => if ok w then some w else none
  | d + 1, n, w =>
    let l := plruPick b ok d (2 * n + 1) w
    let r := plruPick b ok d (2 * n + 2) (w + 2 ^ d)
    if b.getLsbD n then r.or l else l.or r

/-- The tree after a use of way `w`: the nodes on its path point away from it. -/
def plruTouch (b : BitVec 15) (w : Nat) : Nat → Nat → BitVec 15
  | 0, _ => b
  | d + 1, n =>
    let right := decide (w / 2 ^ d % 2 = 1)
    let m : BitVec 15 := BitVec.ofNat 15 (2 ^ n)
    let b := plruTouch b w d (if right then 2 * n + 2 else 2 * n + 1)
    if right then b &&& ~~~ m else b ||| m

/-- Note a use of a way. -/
def State.touch (s : State) (set w : Nat) : State :=
  { s with rk := { s.rk with plru := Tbl.upd (fun _ => (0 : BitVec 15)) s.rk.plru set (fun b => plruTouch b w 4 0) } }

/-- Way mask `t`: of tier 0 to 3, or 4 for counter nodes. -/
def State.wayMask (s : State) (t w : Nat) : Bool := (s.fld (RK + 0x10 + 4 * min t 4) 15 0).testBit w

/-- Is a way pinned? -/
def State.wayPinned (s : State) (set w : Nat) : Bool := match s.lineAt set w with | some l => l.pinned | none => false

/-- Put a line into a way and note the use. -/
def State.place_ (s : State) (set w : Nat) (l : CLine) : State := ((s.setLine set w l).touch set w).count 8 0x94 8 1

/-- An install (R250, R255) of a line not in the cache, its way chosen among those allowed (`mask` 5: every way): whether it took
place, and the state. -/
def State.installNew (s : State) (l : CLine) (mask : Nat) : Bool × State :=
  let set := s.cacheSet l.isNode l.num
  let ok (w : Nat) : Bool := (decide (mask = 5) || s.wayMask mask w) && !s.wayPinned set w
  match (List.range 16).find? (fun w => ok w && (s.lineAt set w).isNone) with
  | some w => (true, s.place_ set w l)
  | none =>
    match plruPick (Tbl.get (fun _ => (0 : BitVec 15)) s.rk.plru set) ok 4 0 0 with
    | none => (false, (s.bump (RK + 0x64) 15 0 1).count 8 0x95 8 1)
    | some w =>
      match s.lineAt set w with
      | none => (true, s.place_ set w l)
      | some v =>
        if 64 ≤ s.rk.evb.length then (false, (s.bump (RK + 0x64) 31 16 1).count 8 0x96 8 1)
        else
          let e : EvLine := { line := v, set := set, way := w, byNode := l.isNode, byNum := l.num, byTier := mask }
          let s := ({ s with rk := { s.rk with evb := s.rk.evb ++ [e] } }).count 8 0x97 8 1
          (true, s.place_ set w l)

/-- An install under R249: nothing while rc_en is 0 (R253); a line already in the cache keeps its place. -/
def State.install (s : State) (isNode : Bool) (num : Nat) (data : List Byte) (mask : Nat) : State :=
  if ¬ s.flag (RK + 4) 0 then s
  else match s.cacheWay isNode num with
    | some w =>
      let set := s.cacheSet isNode num
      s.setLine set w { isNode := isNode, num := num, data := data, pinned := s.wayPinned set w }
    | none => (s.installNew { isNode := isNode, num := num, data := data, pinned := false } mask).2

/-- Take a line out of the eviction buffer and put it back (R249, Table 09.3): into its old way while that way holds the line whose
install evicted it, which then chooses again; else afresh. `pin`: the line comes back pinned (R258). -/
def State.reinstate (s : State) (e : EvLine) (mask : Nat) (pin : Bool) : State :=
  let s := ({ s with rk := { s.rk with evb := s.rk.evb.erase e } }).count 8 0x98 8 1
  let l := { e.line with pinned := pin }
  match s.lineAt e.set e.way with
  | some b =>
    if b.named e.byNode e.byNum then
      let s := s.place_ e.set e.way l
      (s.installNew b (if b.pinned then 5 else e.byTier)).2
    else (s.installNew l mask).2
  | none => (s.installNew l mask).2

/-- The eviction-buffer entry of a line. -/
def State.evLine (s : State) (isNode : Bool) (num : Nat) : Option EvLine := s.rk.evb.find? (fun e => e.line.named isNode num)

/-- The Aftermath line, and its removal. -/
def State.aftLines (s : State) (set : Nat) : List CLine := Tbl.get (fun _ => []) s.rk.aft set
def State.aftLine (s : State) (isNode : Bool) (num : Nat) : Option CLine := (s.aftLines (s.aftSet isNode num)).find? (fun l => l.named isNode num)
def State.setAft (s : State) (set : Nat) (ls : List CLine) : State := { s with rk := { s.rk with aft := Tbl.set (fun _ => []) s.rk.aft set ls } }
def State.dropAft (s : State) (isNode : Bool) (num : Nat) : State :=
  let set := s.aftSet isNode num
  s.setAft set ((s.aftLines set).filter (fun l => !l.named isNode num))

/-- Recall a line from Aftermath (R254): installed under R250, its place freed; with no eligible way it stays. -/
def State.recall (s : State) (l : CLine) (mask : Nat) : State :=
  let s := (s.bump (RK + 0x68) 31 0 1).count 8 0x99 8 1
  if ¬ s.flag (RK + 4) 0 then s
  else
    let (ok, t) := (s.dropAft l.isNode l.num).installNew l mask
    if ok then t else { t with rk := { t.rk with aft := s.rk.aft } }

/-- A lookup in the order of R15: read cache, eviction buffer, Aftermath. -/
def State.lookup (s : State) (isNode : Bool) (num : Nat) (mask : Nat) : Option (List Byte) × State :=
  let s := s.count 8 (if isNode then 0x92 else 0x90) 8 1
  let hit (t : State) : State := t.count 8 (if isNode then 0x93 else 0x91) 8 1
  match s.cacheWay isNode num with
  | some w =>
    let set := s.cacheSet isNode num
    match s.lineAt set w with
    | some l => (some l.data, hit (s.touch set w))
    | none => (none, s)
  | none =>
    match s.evLine isNode num with
    | some e => (some e.line.data, hit (if s.flag (RK + 4) 0 then s.reinstate e mask false else s))
    | none =>
      match s.aftLine isNode num with
      | some l => (some l.data, hit (s.recall l mask))
      | none => (none, s)

/-- Bytes of a line after a masked write. -/
def mergeBytes (old data : List Byte) (mask : BitVec 64) : List Byte :=
  (List.range 64).map (fun i => if mask.getLsbD i then data.getD i 0 else old.getD i 0)

/-- A host write reaches every cached copy of its line (R252). -/
def State.cacheWrite (s : State) (line : Nat) (data : List Byte) (mask : BitVec 64) : State :=
  let f (l : CLine) : CLine := if l.named false line then { l with data := mergeBytes l.data data mask } else l
  let n := countIf (fun l : CLine => l.named false line) (s.rk.lines.map (·.2) ++ s.rk.evb.map (·.line) ++ s.aftLines (s.aftSet false line))
  let s := { s with rk := { s.rk with
    lines := s.rk.lines.map (fun p : Nat × CLine => (p.1, f p.2))
    evb := s.rk.evb.map (fun e : EvLine => { e with line := f e.line }) } }
  let s := s.setAft (s.aftSet false line) ((s.aftLines (s.aftSet false line)).map f)
  if 0 < n then s.count 8 0x9A 8 n else s

/-- Remove a line from the read cache, the eviction buffer and Aftermath. -/
def State.cacheDrop (s : State) (isNode : Bool) (num : Nat) : State :=
  let s := match s.cacheWay isNode num with
    | some w => s.delLine (s.cacheSet isNode num) w
    | none => s
  ({ s with rk := { s.rk with evb := s.rk.evb.filter (fun e => !e.line.named isNode num) } }).dropAft isNode num

/-- Remove every data line that satisfies a test: what a released or re-keyed range leaves behind. -/
def State.cacheDropIf (s : State) (p : CLine → Bool) : State :=
  { s with rk := { s.rk with
    lines := s.rk.lines.filter (fun x => !p x.2)
    evb := s.rk.evb.filter (fun e => !p e.line)
    aft := (s.rk.aft.map (fun x : Nat × List CLine => (x.1, x.2.filter (fun l => !p l)))).filter (fun x => decide (x.2 ≠ [])) } }

/-- Empty read cache, eviction buffer and Aftermath, with a new hash salt (R247, R264). -/
def State.emptyCache (s : State) (salt : Bool) : State :=
  let s := if salt then (let (v, t) := s.draw; { t with rk := { t.rk with salt := v } }) else s
  { s with rk := { s.rk with lines := [], plru := [], evb := [], aft := [] } }

/-- The oldest entry of the eviction buffer goes into its Aftermath set, displacing the oldest of 16; with aft_en 0 it is dropped (R254). -/
def State.evbWrite (s : State) : State :=
  match s.rk.evb with
  | [] => s
  | e :: rest =>
    let s := { s with rk := { s.rk with evb := rest } }
    if s.flag (RK + 4) 1 then
      let set := s.aftSet e.line.isNode e.line.num
      let ls := s.aftLines set ++ [{ e.line with pinned := false }]
      s.setAft set (ls.drop (ls.length - 16))
    else s

/-! ### Parity errors (R263, Table 09.7) -/

/-- Count an error of the partition of an order. -/
def State.perrCount (s : State) (n : Nat) : State :=
  if 1 ≤ n ∧ n ≤ 10 then (s.bump (RK + 0x70 + (n - 1) * 4) 31 0 1).count 8 (0xA0 + n - 1) 8 1 else s

/-- An error that a second copy or a rebuild makes good: counted for Get Health Info (R336). -/
def State.perrGood (s : State) : State := { s with rk := { s.rk with corrected := s.rk.corrected + 1 } }

/-- A lost word of the write-buffer directory, of one of the frames in the line's set: the frame is freed and its content discarded. Which way's word was
lost is an open value. -/
def State.loseFrame (s : State) (line : Nat) : State :=
  let set := lineSet s.wb.salt line
  let ws := (List.range 8).filter (fun w => (s.frame set w).isSome)
  let (v, s) := s.draw
  match ws[v.toNat % max 1 ws.length]? with
  | none => s
  | some w => ({ s.freeFrame set w with rk := { s.rk with dirLost := true } }).event 0x7106 0 none set w

/-- A dirty leaf with an unresolved byte: a node with both copies bad. -/
def State.loseLeaf (s : State) (line : Nat) : State :=
  let i := line / 64
  let s := s.event 0x7105 0 none (nodeNumber s.usable 0 i % 2 ^ 32) (nodeNumber s.usable 0 i / 2 ^ 32)
  { s.loseSubtree 0 i with wb := { s.wb with leaves := Tbl.del s.wb.leaves i } }

/-- An error in a structure with two copies that the other copy corrects: event 0x7101. -/
def State.perrCopy (s : State) (n : Nat) : State := s.perrGood.eventOnce n 0x7101 0 none n 0

/-- An error in an item of the tables partition with one copy: event 0x7108. -/
def State.perrSingle (s : State) : State := s.perrGood.eventOnce 8 0x7108 0 none 8 0

/-- The way that holds a data line is invalidated, and for the read cache its eviction-buffer entry dropped. -/
def State.perrWay (s : State) (line : Nat) : State :=
  match s.cacheWay false line with | some w => s.delLine (s.cacheSet false line) w | none => s

/-- An unresolved byte of a line's frame (R195): the frame is poison, with event 0x5105. -/
def State.poisonFrame (s : State) (line d : Nat) : State :=
  match (s.wayOf line false).or (s.wayOf line true) with
  | none => s
  | some w =>
    (match s.frame (lineSet s.wb.salt line) w with
     | some f => s.setFrame (lineSet s.wb.salt line) w { f with poison := true }
     | none => s).event 0x5105 0 (some d) (lineLo line) (lineHi line)

/-- An unresolved word of a domain's guard counters is set to 0. DEDUCED: every counter of the domain, since the words are held together. -/
def State.zeroGuard (s : State) (d : Nat) : State :=
  let zero (c : DomCnt) : DomCnt := { c with reads := 0, ladder := 0, media := 0, own := 0, load := 0, late := 0, maxCur := 0, maxPrev := 0 }
  { s with qs := { s.qs with cnts := match Tbl.find s.qs.cnts d with | some c => Tbl.put s.qs.cnts d (zero c) | none => s.qs.cnts } }

/-- A damaged history sample is read as 0, as R170 reads an hour that neither ring holds. -/
def State.discardSample (s : State) (daily : Bool) (c h : Nat) : State :=
  let z (k : Nat) (t : Tbl (Nat × Nat)) : Tbl (Nat × Nat) := match Tbl.find t k with | some x => Tbl.put t k (x.1, 0) | none => t
  if daily then { s with df := { s.df with daily := z (histKey c (h / 24 % 1366)) s.df.daily } }
  else { s with df := { s.df with hourly := z (histKey c (h % 1024)) s.df.hourly } }

/-- Every bit of the 32-bit word of a bank of the recent-write filter that holds bit `b` is set. -/
def State.fillFilterWord (s : State) (older : Bool) (b : Nat) : State :=
  let fill (l : List Nat) : List Nat := (List.range 32).map (fun i => b / 32 * 32 + i) ++ l.filter (fun x => ¬ x / 32 = b / 32)
  { s with df := if older then { s.df with old := fill s.df.old } else { s.df with cur := fill s.df.cur } }

/-- A damaged entry of the wear cache: the device-wide sampled programs stand for its pending programs, and the entry is folded at once by record 0x07. -/
def State.foldDamaged (s : State) (p : Nat) : State :=
  let n := s.tp.sampledSince
  ({ s with tp := { s.tp with wear := Tbl.set (fun _ => 0) s.tp.wear p 0 } }).journalPlot p (fun r => { r with programs := r.programs + n })

/-- A parity error met while serving `line` of domain `d`: the repair and the event of Table 09.7. A map entry, a node and the log index are rebuilt as
they were. -/
def State.rickError (s : State) (p : Perr) (line d : Nat) : State :=
  let plot := linePlot line
  let e := s.entry false plot
  match p with
  | .none => s
  | .nodeMap => ((s.perrCount 2).perrGood).event 0x7103 0 none (nodeNumber s.usable 0 (line / 64) / 8704) 0
  | .partition 1 => ((s.perrCount 1).perrGood).event 0x7103 0 none plot 0
  | .partition 2 => ((s.perrCount 2).perrGood).event 0x7104 0 none (line / 64 ^ 3) 0
  | .partition 3 => (s.perrCount 3).perrCopy 3
  | .partition 4 => (s.perrCount 4).perrCopy 4
  | .partition 5 => ((s.perrCount 5).perrGood).markRebuild e.phys (linePage line) (lineSlot line)
  | .partition 6 =>
    let (v, s) := (s.perrCount 6).draw
    let off := v.toNat % (s.rk.commonsMib * 2 ^ 20)
    ({ s with rk := { s.rk with badBytes := off :: s.rk.badBytes } }).event 0x7107 0 none off 0
  | .partition 7 => (((s.perrCount 7).perrGood).dropAft false line).eventOnce 7 0x7102 0 none 7 0
  | .partition 8 => (s.perrCount 8).perrCopy 8
  | .partition 9 =>
    let s := ((s.perrCount 9).perrGood).perrWay line
    ({ s with rk := { s.rk with evb := s.rk.evb.filter (fun e => !e.line.named false line) } }).eventOnce 9 0x7102 0 none 9 0
  | .partition 10 => (((s.perrCount 10).perrGood).perrWay line).eventOnce 10 0x7102 0 none 10 0
  | .partition _ => s
  | .unresolved 3 => ((s.perrCount 3).eventOnce 3 0x7101 0 none 3 0).loseLeaf line
  | .unresolved 4 => ((s.perrCount 4).eventOnce 4 0x7101 0 none 4 0).poisonFrame line d
  | .unresolved 8 => ((s.perrCount 8).eventOnce 8 0x7101 0 none 8 0).loseFrame line
  | .unresolved n => s.perrCount n
  | .table item good =>
    let s := s.perrCount 8
    let copies (lost : State → State) : State := if good then s.perrCopy 8 else lost (s.eventOnce 8 0x7101 0 none 8 0)
    match item with
    | .directory => copies (fun s => s.loseFrame line)
    | .leafIndex => copies (fun s => s.loseLeaf line)
    | .guard => copies (fun s => (s.zeroGuard d).eventOnce 8 0x7108 0 (some d) 8 0)
    | .logIndex => s.perrSingle
    | .history daily =>
      let c := memberChan s.chanCount e.phys (pageMember (linePage line) (lineSlot line))
      (s.discardSample daily c (s.tb.ztime / 3600000000000 - s.plotAge e.epoch)).perrSingle
    | .filter older => (s.fillFilterWord older (filterBit e.phys (linePage line))).perrSingle
    | .wear => (s.foldDamaged e.phys).perrSingle
    | .hotRow r => ({ s with tp := { s.tp with hotFilter := s.tp.hotFilter.filter (fun x : Nat × Nat => ¬ x.1 / 16384 = r) } }).perrSingle
    | .hotEntry => ({ s with tp := { s.tp with hotList := Tbl.set (fun _ => 0) s.tp.hotList e.phys 0 } }).perrSingle

/-- Does the repair make the read wait under cause 0x4 of Table 08.3? -/
def perrCause : Perr → Nat
  | .nodeMap => 4
  | .partition n => if n = 1 ∨ n = 2 then 4 else 0
  | .none | .table _ _ | .unresolved _ => 0

/-! ### Commons (R261, R262) -/

/-- May a requester read, or write, a Commons byte (Table 09.6)? -/
def State.commonsAllowed (s : State) (w : Requester) (off : Nat) (write : Bool) : Bool :=
  let mailbox := decide (0x180000 ≤ off) && decide (off < 0x400000)
  if s.rk.commonsMib * 2 ^ 20 ≤ off then false
  else match w with
    | .lark => true
    | .owner => !write || decide (0x180000 ≤ off)
    | .host j => mailbox && decide ((off - 0x180000) / 0x10000 = j)
    | .mctp | .peer | .engine => false

/-- Does a port carry this requester's accesses? -/
def onPort : Requester → Bool
  | .owner | .host _ => true
  | .lark | .mctp | .peer | .engine => false

/-- The advisory error and, for a read, the all-ones of R262. -/
def State.commonsRefuse (s : State) (w : Requester) (write : Bool) : State :=
  let s := if onPort w then s.emit (.advisoryNonFatal (s.portOf w)) else s
  if write then s else s.emit (.readData w 0xFFFFFFFF)

/-- COMMONS_DISALLOWED_ACCESS (R262): an access that Table 09.6 does not allow. -/
def execCommonsDisallowedAccess (who : Requester) (off : Nat) (write : Bool) (s : State) : Answer :=
  .next (if s.commonsAllowed who off write then s else s.commonsRefuse who write)

/-- COMMONS_WRITE (R261, R262): bytes at consecutive offsets; a bad byte is good again once written (Table 09.7). -/
def execCommonsWrite (who : Requester) (off : Nat) (bytes : List Byte) (s : State) : Answer :=
  .next (if (List.range bytes.length).all (fun i => s.commonsAllowed who (off + i) true) then
      { s with rk := { s.rk with
        commons := Memory.writeBytes s.rk.commons off bytes
        badBytes := s.rk.badBytes.filter (fun a => ¬ (off ≤ a ∧ a < off + bytes.length)) } }
    else s.commonsRefuse who true)

end Sys2Proof.Machine
end

