-- ==== Sys2Proof/Machine/Read.lean ====
section
/-! DEFINITION. Machine/Read.lean: the read path (08): media fetches and their attached reads, the correction ladder (04, R114 to
R121), verification and delivery (R226, R227), the latency guard (R236 to R240), and cache maintenance by address (09). -/

namespace Sys2Proof.Machine

/-! ### DevLoad, completion and the guard -/

/-- DevLoad from the device level alone (Table 11.4). -/
def State.devloadOf (s : State) (lvl : Nat) : Nat :=
  if s.fld (QS + 0x18) 23 16 ≤ lvl then 3 else if s.fld (QS + 0x18) 15 8 ≤ lvl then 2 else if s.fld (QS + 0x18) 7 0 ≤ lvl then 1 else 0

/-- DevLoad of a response (R308): of the tier of the request's domain, if it has one. -/
def State.devload (s : State) (dom : Option Nat) (held : Bool) : Nat :=
  let scaled : Bool := match dom with | some d => decide (s.scale (s.domTier d) < 256) | none => false
  if s.flag (QS + 0x1C) 1 || scaled then 3
  else max (s.devloadOf (s.fld (QS + 0x1C) 31 24)) (if held then 2 else 0)

/-- Latency bound of a class in ns (Table 08.1); class C3 has none. -/
def classBound (cls : Nat) : Option Nat := if cls = 0 then some 2000 else if cls = 1 then some 4000 else if cls = 2 then some 12000 else none

/-- The lower-numbered of two causes; 0 is none (R236). -/
def lowerCause (a b : Nat) : Nat := if a = 0 then b else if b = 0 then a else min a b

/-- Is a read outside its bound (R236)? -/
def outside (cls cause lat : Nat) : Bool :=
  match classBound cls with
  | none => false
  | some b => decide (cause = 1) || decide (b < lat)

/-- The guard classifies a completed read (R239, R240, Table 08.4), with its event (R238); `step4`: it has entered step 4, with no channel reset. -/
def State.guard (s : State) (d cls cause lat chan : Nat) (step4 : Bool) : State :=
  let out := outside cls cause lat
  let bound := cls < 3
  let f (c : DomCnt) : DomCnt :=
    { c with
      reads := (c.reads + 1) % 2 ^ 32
      ladder := if out ∧ cause = 1 then (c.ladder + 1) % 2 ^ 32 else c.ladder
      media := if out ∧ 2 ≤ cause ∧ cause ≤ 5 then (c.media + 1) % 2 ^ 32 else c.media
      own := if out ∧ cause = 6 then (c.own + 1) % 2 ^ 32 else c.own
      load := if out ∧ 7 ≤ cause then (c.load + 1) % 2 ^ 32 else c.load
      late := if out ∧ cause = 0 then (c.late + 1) % 2 ^ 32 else c.late
      maxCur := if bound then max c.maxCur (min lat (2 ^ 32 - 1)) else c.maxCur }
  let g (a : MeterAcc) : MeterAcc :=
    { a with
      ladder := if out ∧ cause = 1 then a.ladder + 1 else a.ladder
      media := if out ∧ 2 ≤ cause ∧ cause ≤ 5 then a.media + 1 else a.media
      own := if out ∧ cause = 6 then a.own + 1 else a.own
      load := if out ∧ 7 ≤ cause then a.load + 1 else a.load
      late := if out ∧ cause = 0 then a.late + 1 else a.late
      maxNs := if bound then max a.maxNs lat else a.maxNs }
  let s := (s.updCnt d f).meter d g
  let p1 := cls % 4 + chan % 64 * 2 ^ 8
  let s := if out then (if cause = 0 then s.bump (RP + 0x6C) 31 0 1 else s.bump (RP + 0x40 + (cause - 1) * 4) 31 0 1) else s
  let s := if out ∧ cause = 0 then s.eventOnce d 0x6101 0 (some d) lat p1 else s
  if step4 ∧ 12000 < lat then s.eventOnce d 0x6102 0 (some d) lat p1 else s

/-- A request held by a port. -/
def State.req (s : State) (id : Nat) : Option Req := s.host.reqs.find? (fun r => r.id = id)
def State.setReq (s : State) (r : Req) : State := { s with host := { s.host with reqs := s.host.reqs.map (fun x => if x.id = r.id then r else x) } }
def State.dropReq (s : State) (id : Nat) : State := { s with host := { s.host with reqs := s.host.reqs.filter (fun r => ¬ r.id = id) } }

/-- Put a DPA on the poison list of an LD (R335): 512 records, then the overflow mark with its time. -/
def State.poisonList (s : State) (ld dpa : Nat) : State :=
  let l := s.ld ld
  let a := dpa / 64 * 64
  if a ∈ l.poison then s
  else if l.poison.length < 512 then s.setLd ld { l with poison := l.poison ++ [a] }
  else s.setLd ld { l with poisonOvf := l.poisonOvf.or (some s.tb.ztime) }

/-- The data response of a read: poison counted in HI_POISON_CNT and, for a line of an LD, put on its list. -/
def State.respond (s : State) (r : Req) (dom : Option Nat) (data : List Byte) (poison : Bool) : State :=
  let dl := s.devload dom r.wasHeld
  let s := (s.dropReq r.id).emit (.memData r.port r.tag data poison dl)
  let s := (s.count r.port (0x20 + dl) 8 1).count r.port 0x13 8 1
  if poison then ((s.bump (HI + 0xC8) 31 0 1).count r.port 0x15 8 1).poisonList r.ld r.dpa else s

/-- A read of a domain leaves the port: delivered, metered (R19), counted and classified. -/
def State.completeRead (s : State) (r : Req) (data : List Byte) (poison : Bool) (cls cause lat chan : Nat) (step4 : Bool) : State :=
  let cause := lowerCause cause (lowerCause (if r.woke then 5 else 0) (if r.wasHeld then 6 else 0))
  let s := s.respond r (some r.dom) data poison
  let s := s.meter r.dom (fun a => { a with readLines := a.readLines + 1 })
  let s := s.updCnt r.dom (fun c => { c with readLines := (c.readLines + 1) % 2 ^ 64 })
  let o := QS + 0xA0 + r.tier * 0x10
  let s := s.setReg64 o ((s.reg64 o + 1) % 2 ^ 64)
  let s := s.guard r.dom cls cause lat chan step4
  let s := (s.count r.port (0x24 + cls % 4) 8 1).count r.port (0x28 + cls % 4) 8 lat
  let s := if outside cls cause lat then s.count r.port (0x30 + cause) 8 1 else s
  s.pmComplete r.port cls r.dom cause r.line lat chan false

/-- Answer the GPF phase 2 requests whose port has no write left that arrived before them (R205). -/
def State.gpfCheck (s : State) : State :=
  let open_ (g : Nat × Nat) : Bool := s.host.reqs.any (fun r => r.write && decide (r.port = g.1) && decide (r.id < g.2))
  let done := s.host.gpfWait.filter (fun g => !open_ g)
  done.foldl (fun (t : State) (g : Nat × Nat) => t.emit (.gpf g.1 2)) { s with host := { s.host with gpfWait := s.host.gpfWait.filter open_ } }

/-- A write completes on the link (R20). -/
def State.completeWrite (s : State) (r : Req) (dom : Option Nat) : State :=
  let dl := s.devload dom r.wasHeld
  let s := ((s.dropReq r.id).emit (.memCmp r.port r.tag dl)).count r.port (0x20 + dl) 8 1
  (s.pmComplete r.port (if dom.isSome then r.cls else 0) r.dom 0 r.line 0 0 true).gpfCheck

/-! ### Fetches -/

def State.fetch (s : State) (id : Nat) : Option Fetch := s.host.fetches.find? (fun f => f.id = id)
def State.setFetch (s : State) (f : Fetch) : State := { s with host := { s.host with fetches := s.host.fetches.map (fun x => if x.id = f.id then f else x) } }
def State.dropFetch (s : State) (id : Nat) : State := { s with host := { s.host with fetches := s.host.fetches.filter (fun f => ¬ f.id = id) } }

/-- The parameter byte of a READ of a data, parity or node slot: its set, and bit 4 by CD_CTL.pilot_en (Table 04.8). -/
def State.readParam (s : State) (set : Nat) : Nat := set % 16 + (if s.flag CD 0 then 16 else 0)

/-- A media job, its change and its end. -/
def State.job (s : State) (id : Nat) : Option Job := s.codes.jobs.find? (fun j => j.id = id)
def State.setJob (s : State) (j : Job) : State := { s with codes := { s.codes with jobs := s.codes.jobs.map (fun x => if x.id = j.id then j else x) } }
def State.dropJob (s : State) (id : Nat) : State := { s with codes := { s.codes with jobs := s.codes.jobs.filter (fun j => ¬ j.id = id) } }

/-- A new job on a page, with nothing outstanding. -/
def State.newJob (s : State) (kind : JobKind) (plot page : Nat) : Nat × State :=
  let j : Job := { id := s.codes.nextJob, kind := kind, plot := plot, page := page, reads := 0, progs := 0, slots := [], weak := [], failed := [], clean := [], phase := 0, entry := 0, node := false }
  (j.id, { s with codes := { s.codes with jobs := s.codes.jobs ++ [j], nextJob := j.id + 1 } })

/-- Predict the set for page slot `sl` of a page of physical plot `p` under an entry: channel, address, set, filtered. The recent-write filter is
looked up for data and parity slots only (R174). -/
def State.slotRead (s : State) (p page sl : Nat) (node : Bool) (e : MapEntry) : Nat × Nat × Nat × Bool :=
  let (c, a) := s.slotAddr p page sl
  let (set, young) := s.predict c (addrDie a) e.epoch e.wearClass (!node && s.filterHit p page)
  (c, a, set, young)

/-- A READ of item `item` of a job: page slot `sl` of a page, read under entry `e` on the job's engine; a slot with a PROGRAM in flight is taken from it. -/
def State.jobReadAs (s : State) (j : Nat) (p page sl item eng tier : Nat) (node : Bool) (e : MapEntry) : State :=
  match s.job j with
  | none => s
  | some x =>
    let (c, a, set, young) := s.slotRead p page sl node e
    match s.programmed c a with
    | some b => s.setJob { x with slots := Tbl.put x.slots item b }
    | none => (s.setJob { x with reads := x.reads + 1 }).submit c { MCmd.of .read a (s.readParam set) eng (.job j item) with tier := tier, young := young }

/-- A READ of a job for page slot `sl` of its page. -/
def State.jobRead (s : State) (j : Nat) (p page sl eng tier : Nat) (node : Bool) (e : MapEntry) : State := s.jobReadAs j p page sl sl eng tier node e

/-- The reads of step 4 of a job (R116, R117): page slots `ks` of its page on members in service, on the input of the engine that serves the original
read, at the head of its queue, suspending as a class-0 read would. -/
def State.stepFourReads (s : State) (j : Nat) (p page eng tier : Nat) (e : MapEntry) (ks : List Nat) : State :=
  (ks.filter (fun k => !s.memberOut p (pageMember page k))).foldl (fun (t : State) k =>
    match t.job j with
    | none => t
    | some x =>
      let (c, a, set, young) := t.slotRead p page k false e
      match t.programmed c a with
      | some b => t.setJob { x with slots := Tbl.put x.slots k b }
      | none =>
        (t.setJob { x with reads := x.reads + 1 }).submitHead c
          { MCmd.of .read a (t.readParam set) eng (.job j k) with cls := 0, tier := tier, step := 4, young := young }) s

/-- Does a job that programs slots of a page as it read them run on it? -/
def State.pageRewriting (s : State) (p page : Nat) : Bool :=
  s.codes.jobs.any (fun j => decide (j.plot = p) && decide (j.page = page) &&
    (match j.kind with
     | .refreshPage | .rewrite | .rebuild | .regraft _ _ | .rotate => true
     | .sweep _ | .parityWb | .migratePage | .reconstruct _ | .scrubPage | .scan _ | .margin | .redirect | .restrand _ | .applyRead _ _ | .strand _ _ => false))

/-- A PROGRAM of one slot on the overwrite path that belongs to no apply: a job of its own waits for its verify. A slot that a queued PROGRAM or a job of
its page is about to write is left to that. -/
def State.looseProgram (s : State) (p page sl : Nat) (slot : List Byte) (eng : Nat) : State :=
  let (c, a) := s.slotAddr p page sl
  if (s.programmed c a).isSome ∨ s.pageRewriting p page then s
  else
    let (j, s) := s.newJob .redirect p page
    let s := match s.job j with | some x => s.setJob { x with progs := 1 } | none => s
    s.submit c { MCmd.of .program a 1 eng (.job j sl) with data := [slot], dst := p }

/-- Queue a slot for rewrite (R118, R186): 4,096 slots; one that does not fit sends its plot to refresh, with event 0x4107. -/
def State.requeue (s : State) (p page sl : Nat) : State :=
  if (p, page, sl) ∈ s.df.rewrite then s
  else if s.df.rewrite.length < 4096 then { s with df := { s.df with rewrite := s.df.rewrite ++ [(p, page, sl)] } }
  else
    let s := if s.df.queue.any (fun q => q.1 = p) then s else { s with df := { s.df with queue := s.df.queue ++ [(p, 1)] } }
    s.event 0x4107 0 none p 0

/-- Count a line that ended at ladder step `k` (1 to 4), or 5 as poison, in CD_LADDER_CNT; step 0 counts in the monitor alone. -/
def State.ladderCount (s : State) (c k : Nat) : State :=
  let s := s.count (2 + c / 8) (0x70 + k) (c % 8) 1
  if k = 0 then s
  else
    let o := CD + 0x10 + 8 * (k - 1)
    let s := s.setReg64 o ((s.reg64 o + 1) % 2 ^ 64)
    if 2 ≤ k ∧ k ≤ 4 then { s with host := { s.host with corrected := s.host.corrected + 1 } } else s

/-- The stranded-line place of a line, if its plot's flag is set and the log index names it (R159). -/
def State.strandOf (s : State) (e : MapEntry) (line : Nat) : Option Nat := if e.stranded then Tbl.find s.tp.strandIdx line else none

/-- Channel and address of the line's slot of a stranded-line place (R157). -/
def State.strandAddr (s : State) (place : Nat) : Nat × Nat :=
  let i := 2 * place + 1
  s.slotAddr (1024 + i / 8192) (i / 64 % 128) (i % 64)

/-- The valid domain whose pool range holds a logical plot. -/
def State.domOfPlot (s : State) (p : Nat) : Option Nat :=
  (List.range 4096).find? (fun d => s.domValid d && decide (s.fld (QD + d * 0x20 + 0xC) 23 0 ≤ p) &&
    decide (p < s.fld (QD + d * 0x20 + 0xC) 23 0 + (s.fld (QD + d * 0x20 + 8) 23 0 - s.fld (QD + d * 0x20 + 4) 23 0)))

/-- The other copy of a node. -/
def otherCopy (copy : Nat) : Nat := if copy = 0 then 1 else 0

/-- The READ of a node copy for a fetch (R225). -/
def State.nodeRead (s : State) (f : Fetch) (level copy : Nat) (head : Bool) : State :=
  let n := nodeNumber s.usable level (f.line / 64 ^ (level + 1))
  let e := s.entry true (n / 8704)
  let (c, a) := s.nodeAddr e.phys n copy
  let (set, young) := s.predict c (addrDie a) e.epoch e.wearClass false
  let m := { MCmd.of .read a (s.readParam set) (if f.eng = 0 then 0 else 4) (.fetch f.id (if level = 0 then .l0 copy else .l1 copy)) with
    cls := f.cls, tier := f.tier, young := young }
  let s := s.count (2 + c / 8) 0x7C (c % 8) 1
  if head then s.submitHead c m else s.submit c m

/-- Is copy `copy` of a node on a member out of service? -/
def State.nodeCopyOut (s : State) (n copy : Nat) : Bool :=
  let (c, a) := s.nodeAddr (s.entry true (n / 8704)).phys n copy
  s.dieOut c (addrDie a)

/-- Is a write-back PROGRAM of a node in flight? -/
def State.nodeInFlight (s : State) (level i : Nat) : Bool :=
  s.media.chans.any (fun c => (c.2.flight.map (·.cmd) ++ c.2.queue).any (fun m =>
    match m.why with
    | .node _ l k _ => decide (l = level ∧ k = i)
    | .fetch _ _ | .job _ _ | .apply _ _ | .frame _ _ | .dual _ _ | .erase _ _ | .verify _ _ | .log | .recorder _ | .ctl => false))

/-- Start step 4 of a fetch's data slot (R116): READs of the page's other slots on members in service. -/
def State.stepFour (s : State) (f : Fetch) : State :=
  let page := linePage f.line
  let sl := lineSlot f.line
  let e := s.entry false (linePlot f.line)
  let (j, s) := s.newJob (.reconstruct f.id) f.phys page
  let s := s.setFetch { f with step4 := true, cause := lowerCause 1 f.cause }
  let s := s.count (2 + (s.slotAddr f.phys page sl).1 / 8) 0x7D ((s.slotAddr f.phys page sl).1 % 8) 1
  s.stepFourReads j f.phys page f.eng f.tier { e with phys := f.phys } ((List.range 68).filter (fun k => k ≠ sl))

/-- The step-4 job of a fetch that has nothing left to read. -/
def State.reconReady (s : State) (fid : Nat) : Option Job :=
  s.codes.jobs.find? (fun j => decide (j.kind = .reconstruct fid) && decide (j.reads = 0))

/-- A data line has ended as poison under the ladder: counted, with event 0x2102 (R120). -/
def State.notePoison (s : State) (p page sl : Nat) (d : Option Nat) : State :=
  (s.ladderCount (s.slotAddr p page sl).1 5).event 0x2102 0 d p (page * 256 + sl)

/-- What R120 does beyond that where the line's die is in service: the page is marked for rebuild, and a poison slot programmed in the line's place. -/
def State.poisonInPlace (s : State) (p page sl : Nat) : State :=
  if s.memberOut p (pageMember page sl) then s else (s.markRebuild p page sl).looseProgram p page sl poisonSlot 1

/-- A line has been reconstructed at step 4: counted, with event 0x2101 where its die is in service (R118). -/
def State.noteRebuilt (s : State) (p page sl : Nat) : State :=
  let s := s.ladderCount (s.slotAddr p page sl).1 4
  if s.memberOut p (pageMember page sl) then s else s.eventOnce p 0x2101 0 none p (page * 256 + sl)

/-- The reconstructed slot is programmed where its die is in service (R118): old and new are equal, so that the parity stays as it is. -/
def State.rebuiltInPlace (s : State) (p page sl : Nat) (b : List Byte) : State :=
  if s.memberOut p (pageMember page sl) then s else s.looseProgram p page sl b 1

/-- The ladder has returned the data line of a fetch as poison (R120). -/
def State.fetchPoison (s : State) (f : Fetch) : State :=
  let page := linePage f.line
  let sl := lineSlot f.line
  let s := s.notePoison f.phys page sl (some f.dom)
  let s := if f.strand.isNone then s.poisonInPlace f.phys page sl else s
  s.setFetch { f with data := .failed }

/-- The data slot of a fetch has not decoded by step 3, or its member is out of service: step 4, if it is enabled and the page's
parity is usable (R114, Table 04.4). -/
def State.fetchLast (s : State) (f : Fetch) : State :=
  if f.strand.isSome ∨ ¬ s.flag CD 3 ∨ s.marked f.phys (linePage f.line) then s.fetchPoison f else s.stepFour f

/-- Begin a fetch (R225): the data READ and those of the L0 and L1 nodes that missed. -/
def State.startFetch (s : State) (use : FetchFor) (line d cls tier eng cause : Nat) (reqs : List Nat) : State :=
  let e := s.entry false (linePlot line)
  let id := s.host.nextFetch
  let n0 := nodeNumber s.usable 0 (line / 64)
  let n1 := nodeNumber s.usable 1 (line / 4096)
  let (h0, s) := if (Tbl.find s.wb.leaves (line / 64)).isSome then (some [], s) else s.lookup true n0 4
  let (h1, s) := s.lookup true n1 4
  let have0 := h0.isSome || s.nodeInFlight 0 (line / 64) || decide (use = .pinNode 1)
  let have1 := h1.isSome || s.nodeInFlight 1 (line / 4096)
  let c0 := if s.nodeCopyOut n0 0 then 1 else 0
  let c1 := if s.nodeCopyOut n1 0 then 1 else 0
  let cause := if (¬ have0 ∧ c0 = 1) ∨ (¬ have1 ∧ c1 = 1) then lowerCause 3 cause else cause
  let f : Fetch :=
    { id := id, use := use, line := line, dom := d, cls := cls, tier := tier, eng := eng, reqs := reqs, phys := e.phys, strand := s.strandOf e line
      data := match use with | .pinNode _ => .failed | _ => .waiting, l0 := if have0 then .node (s.node 0 (line / 64)) else .waiting, l1 := if have1 then .node (s.node 1 (line / 4096)) else .waiting
      cause := cause, slowest := 0, noAlloc := false, noAlloc0 := false, noAlloc1 := false, again0 := false, again1 := false, step4 := false, reset := false }
  let s := { s with host := { s.host with nextFetch := id + 1, fetches := s.host.fetches ++ [f] } }
  let s := if have0 then s else s.nodeRead f 0 c0 false
  let s := if have1 then s else s.nodeRead f 1 c1 false
  match use, f.strand with
  | .pinNode _, _ => s
  | _, some q =>
    let (c, a) := s.strandAddr q
    s.submit c { MCmd.of .read a 0x10 eng (.fetch id .data) with cls := cls, tier := tier }
  | _, none =>
    let (c, a, set, young) := s.slotRead e.phys (linePage line) (lineSlot line) false e
    let s := s.count (2 + c / 8) (0x78 + cls % 4) (c % 8) 1
    if s.memberOut e.phys (pageMember (linePage line) (lineSlot line)) then
      (match s.fetch id with | some f => s.fetchLast { f with cause := lowerCause 3 f.cause } | none => s)
    else
      match s.programmed c a with
      | some b => (match s.fetch id with | some f => s.setFetch { f with data := .slot 0 b } | none => s)
      | none => s.submit c { MCmd.of .read a (s.readParam set) eng (.fetch id .data) with cls := cls, tier := tier, young := young }

/-! ### Maintenance by address (R256 to R260) -/

/-- The key limit of a kind (R257). -/
def State.keyLimit (s : State) (isNode : Bool) : Nat := if isNode then s.usable * 266240 else s.usable * 2 ^ 24

/-- Is a node of a fetch still to come? -/
def Got.pending : Got → Bool
  | .waiting | .slot _ _ => true
  | .node _ | .failed => false

/-- The counter node of a level that a fetch fills: its number, while it is still to come. -/
def State.fillNode (s : State) (f : Fetch) (level : Nat) : Option Nat :=
  if (if level = 0 then f.l0 else f.l1).pending then some (nodeNumber s.usable level (f.line / 64 ^ (level + 1))) else none

/-- Does a fetch fill a line of the cache: a host's data line or a pinned one, or a node it has still to read? -/
def State.fills (s : State) (f : Fetch) (isNode : Bool) (num : Nat) : Bool :=
  if isNode then decide (s.fillNode f 0 = some num) || decide (s.fillNode f 1 = some num)
  else decide (f.line = num) && (match f.use with | .host | .pin => true | .pinNode _ | .sward | .held | .scan _ => false)

/-- Is a fill of the line in flight? -/
def State.filling (s : State) (isNode : Bool) (num : Nat) : Bool := s.host.fetches.any (fun f => s.fills f isNode num)

/-- Mark the fills of a line no-allocate (Table 09.4). -/
def State.noFill (s : State) (isNode : Bool) (num : Nat) : State :=
  { s with host := { s.host with fetches := s.host.fetches.map (fun (f : Fetch) =>
    if isNode then { f with noAlloc0 := f.noAlloc0 || decide (s.fillNode f 0 = some num), noAlloc1 := f.noAlloc1 || decide (s.fillNode f 1 = some num) }
    else { f with noAlloc := f.noAlloc || s.fills f false num }) } }

/-- End the running operation with a status of Table 09.12. -/
def State.maintEnd (s : State) (status : Nat) : State :=
  let s := { s with rk := { s.rk with maint := none } }
  (s.setFld (RK + 0x3C) 29 26 status).setBit (RK + 0x3C) 31 false

/-- One key is complete: on to the next, or the end. -/
def State.maintNext (s : State) (m : Maint) : State :=
  let s := s.bump (RK + 0x3C) 16 0 1
  if m.left ≤ 1 then s.maintEnd 0
  else { s with rk := { s.rk with maint := some { m with next := m.next + 1, left := m.left - 1, waiting := false } } }

/-- Number of pinned lines of a set. -/
def State.pinnedIn (s : State) (set : Nat) : Nat := countIf (s.wayPinned set) (List.range 16)

/-- Mark the cached line pinned. -/
def State.markPinned (s : State) (isNode : Bool) (num : Nat) (v : Bool) : State :=
  let set := s.cacheSet isNode num
  match s.cacheWay isNode num with
  | some w => (match s.lineAt set w with | some l => s.setLine set w { l with pinned := v } | none => s)
  | none => s

/-- Would a pin go over RK_CTL.pin_max in its set? -/
def State.pinFull (s : State) (isNode : Bool) (num : Nat) : Bool :=
  decide (s.fld (RK + 4) 15 12 < s.pinnedIn (s.cacheSet isNode num) + 1)

/-- Install a line for a pin in any way that is not pinned, and pin it. While the eviction buffer has no entry for the victim the install takes no place
(R255), and the pin goes on with its key once an entry has been written. -/
def State.pinInstall (s : State) (m : Maint) (data : List Byte) : State :=
  let l : CLine := { isNode := m.isNode, num := m.next, data := data, pinned := true }
  let (ok, t) := s.installNew l 5
  if ok then t.maintNext m else { t with rk := { t.rk with maint := some { m with waiting := true, stalled := true } } }

/-- One key of a pin (R258). Answers the state with the key complete, the operation ended or the key waiting for its read. -/
def State.pinKey (s : State) (m : Maint) : State :=
  if s.fld (RK + 4) 15 12 = 0 then s.maintEnd 2
  else if s.filling m.isNode m.next then { s with rk := { s.rk with maint := some { m with waiting := true } } }
  else match s.cacheWay m.isNode m.next with
    | some w =>
      if s.wayPinned (s.cacheSet m.isNode m.next) w then s.maintNext m
      else if s.pinFull m.isNode m.next then s.maintEnd 2
      else (s.markPinned m.isNode m.next true).maintNext m
    | none =>
      if ¬ s.flag (RK + 4) 0 then s.maintEnd 5
      else if s.pinFull m.isNode m.next then s.maintEnd 2
      else match s.evLine m.isNode m.next with
        | some e => (s.reinstate e 5 true).maintNext m
        | none =>
          match s.aftLine m.isNode m.next with
          | some l =>
            let t := s.pinInstall m l.data
            if t.cacheWay m.isNode m.next = none then t else (t.dropAft m.isNode m.next).bump (RK + 0x68) 31 0 1
          | none => { s with rk := { s.rk with maint := some { m with waiting := true, want := true } } }

/-- What a probe reports of a key (R259): location, pinned, filling, way. The way in Aftermath is an open value. -/
def State.probe (s : State) (isNode : Bool) (num : Nat) : State :=
  let show_ (t : State) (loc way : Nat) (pin : Bool) : State :=
    (((t.setFld (RK + 0x3C) 25 24 loc).setFld (RK + 0x3C) 20 17 way).setBit (RK + 0x3C) 23 pin).setBit (RK + 0x3C) 22 (t.filling isNode num)
  match s.cacheWay isNode num with
  | some w => show_ s 1 w (s.wayPinned (s.cacheSet isNode num) w)
  | none =>
    if (s.evLine isNode num).isSome then show_ s 3 0 false
    else if (s.aftLine isNode num).isSome then (let (v, t) := s.draw; show_ t 2 (v.toNat % 16) false)
    else show_ s 0 0 false

/-- Work on keys in ascending order until the operation ends or a key waits; `n` bounds the keys of one call. -/
def State.maintRun : Nat → State → State
  | 0, s => s
  | n + 1, s =>
    match s.rk.maint with
    | none => s
    | some m =>
      if m.waiting then s
      else if s.keyLimit m.isNode ≤ m.next then s.maintEnd 4
      else if m.op = 1 then (s.probe m.isNode m.next).maintNext { m with left := 1 }
      else if m.op = 2 then
        (if s.filling m.isNode m.next then
          { s.noFill m.isNode m.next with rk := { s.rk with maint := some { m with waiting := true } } }
        else State.maintRun n ((s.cacheDrop m.isNode m.next).maintNext m))
      else if m.op = 3 then State.maintRun n (s.pinKey m)
      else State.maintRun n ((s.markPinned m.isNode m.next false).maintNext m)

/-- A go (R256): refused while busy; otherwise the operation starts, and runs as far as it can. -/
def State.maintGo (s : State) (op key count : Nat) : State :=
  if s.flag (RK + 0x3C) 31 then s.setBit (RK + 0x3C) 30 true
  else
    let s := s.setReg (RK + 0x3C) (putBits (putBits (s.reg (RK + 0x3C)) 29 17 0) 16 0 0)
    if op = 0 then s
    else
      let s := (s.setBit (RK + 0x3C) 31 true).setFld (RK + 0x3C) 29 26 1
      State.maintRun (count + 1)
        { s with rk := { s.rk with maint := some { op := op, isNode := key.testBit 38, next := key % 2 ^ 38, left := if op = 1 then 1 else count, waiting := false, want := false, stalled := false } } }

/-- Go on with an operation whose key waited for a fill. -/
def State.maintResume (s : State) : State :=
  match s.rk.maint with
  | none => s
  | some m => if m.waiting ∧ ¬ m.stalled ∧ ¬ s.filling m.isNode m.next then State.maintRun (m.left + 1) { s with rk := { s.rk with maint := some { m with waiting := false } } } else s

/-! ### Verification and delivery (R226, R227) -/

/-- A node of a fetch given a verified content: kept, and installed in the read cache (R249). -/
def State.nodeVerified (s : State) (level i : Nat) (n : Node) (noAlloc : Bool) : State :=
  let s := (s.setNode level i n).count 7 0x84 8 1
  if noAlloc then s else s.install true (nodeNumber s.usable level i) [] 4

/-- A node copy has failed its check or its ladder: the other copy is read, or both have failed (Table 10.7). -/
def State.nodeFailed (s : State) (f : Fetch) (level copy : Nat) : State :=
  let again := if level = 0 then f.again0 else f.again1
  let f := { f with cause := lowerCause 3 f.cause }
  let n := nodeNumber s.usable level (f.line / 64 ^ (level + 1))
  if again ∨ s.nodeCopyOut n (otherCopy copy) then
    s.setFetch (if level = 0 then { f with l0 := .failed } else { f with l1 := .failed })
  else
    let f := if level = 0 then { f with l0 := .waiting, again0 := true } else { f with l1 := .waiting, again1 := true }
    (s.setFetch f).nodeRead f level (otherCopy copy) true

/-- A node copy has failed and is programmed anew from the other: event 0x8104, with the node's index and level (Table 10.7). -/
def State.copyRepaired (s : State) (level i : Nat) : State := ((s.event 0x8104 0 none i level).bump (GX + 0x24) 31 0 1).count 7 0x85 8 1

/-- Rewrite the failing copy of a node with the good slot (Table 10.7). -/
def State.repairCopy (s : State) (level i copy : Nat) (slot : List Byte) : State :=
  let n := nodeNumber s.usable level i
  let e := s.entry true (n / 8704)
  let (c, a) := s.nodeAddr e.phys n copy
  let s := s.copyRepaired level i
  if s.dieOut c (addrDie a) then s
  else
    let (j, s) := s.newJob .redirect e.phys 0
    let s := match s.job j with | some x => s.setJob { x with progs := 1 } | none => s
    s.submit c { MCmd.of .program a 1 2 (.job j 0) with data := [slot], dst := e.phys }

/-- Check a node slot that has come back for a fetch. Answers the fetch's node as settled, or the other copy called for. -/
def State.settleNode (s : State) (f : Fetch) (level : Nat) : State :=
  match (if level = 0 then f.l0 else f.l1) with
  | .slot copy b =>
    let i := f.line / 64 ^ (level + 1)
    (match s.verifyNode level i (s.nodeVersion level i) b with
     | some n =>
       let s := (s.raiseParent level i (s.nodeVersion level i) b).nodeVerified level i n (if level = 0 then f.noAlloc0 else f.noAlloc1)
       let s := if (if level = 0 then f.again0 else f.again1) then s.repairCopy level i (otherCopy copy) b else s
       s.setFetch (if level = 0 then { f with l0 := .node n } else { f with l1 := .node n })
     | none => s.nodeFailed f level copy)
  | .waiting | .node _ | .failed => s

/-- A line's slot has failed its tag check: event 0x3109 on a write-protected plot (R161), event 0x8107 while the unclean sweep runs (R294), else the
security alarm. -/
def State.badTag (s : State) (d line : Nat) : State :=
  if (s.entry false (linePlot line)).writeProtect then s.event 0x3109 0 (some d) (lineLo line) (lineHi line)
  else if s.gx.sweep.isSome then s.eventOnce d 0x8107 0 (some d) (lineLo line) (lineHi line)
  else s.alarm d line 0x8101

/-- The outcome of a fetch's line: bytes and poison, with the alarms and events of Table 10.7. -/
def State.fetchLine (s : State) (f : Fetch) : (List Byte × Bool) × State :=
  let zeros := List.replicate 64 (0 : Byte)
  let e := s.entry false (linePlot f.line)
  let bad (t : State) : (List Byte × Bool) × State := ((zeros, true), t)
  match f.data, f.l0, f.l1 with
  | .slot _ b, .node _, .node _ =>
    if metaPoison (slotMeta b) then bad s
    else if s.unverifiable f.line then bad (s.alarm f.dom f.line 0x8101)
    else
      let v := match f.use, f.l0 with
        | .held, .node n => (⟨n.major, n.minor (f.line % 64)⟩ : Version)
        | _, _ => s.lineVersion f.line
      let s := s.count 7 (if v.minor = 0 then 0x8C else 0x82) 8 1
      match s.openData f.dom f.line e v b with
      | some r => (r, if r.2 then s else s.count 7 0x81 8 1)
      | none => bad ((s.count 7 0x83 8 1).badTag f.dom f.line)
  | .slot _ _, .failed, _ => bad ((s.loseSubtree 0 (f.line / 64)).alarm f.dom f.line 0x8101)
  | .slot _ _, _, .failed => bad ((s.loseSubtree 1 (f.line / 4096)).alarm f.dom f.line 0x8101)
  | _, _, _ => bad s

/-- Deliver to each request attached (R227, R228); the first takes the measured latency, each later one its own. -/
def State.deliver (f : Fetch) (data : List Byte) (poison : Bool) : State → List Nat → Nat → State
  | s, [], _ => s
  | s, id :: ids, lat =>
    let s := match s.req id with
      | some r => s.completeRead r data poison f.cls f.cause lat f.slowest (f.step4 && !f.reset)
      | none => s
    let (v, t) := s.draw
    State.deliver f data poison t ids (v.toNat % 2 ^ 32)

/-- The node of a pin has been read: pinned, or status 0x3 where it does not verify (Table 10.7). -/
def State.pinNodeDone (s : State) (f : Fetch) (level : Nat) : State :=
  let bad := decide (f.l1 = .failed) || (decide (level = 0) && decide (f.l0 = .failed))
  let s := if bad then s.loseSubtree (if f.l1 = .failed then 1 else 0) (f.line / (if f.l1 = .failed then 4096 else 64)) else s
  match s.rk.maint with
  | some m =>
    if m.op = 3 ∧ m.waiting ∧ m.isNode ∧ m.next = nodeNumber s.usable level (f.line / 64 ^ (level + 1)) then
      (if bad then s.maintEnd 3
       else if (s.cacheWay true m.next).isSome then State.maintRun (m.left + 1) { s with rk := { s.rk with maint := some { m with waiting := false } } }
       else State.maintRun (m.left + 1) (s.pinInstall { m with waiting := false } []))
    else s
  | none => s

/-- A fetch whose slots have all come back is verified and delivered (R226, R227). -/
def State.fetchTry (s : State) (id : Nat) (lat : Nat) : State :=
  match s.fetch id with
  | none => s
  | some f =>
    if f.data = .waiting ∨ f.l0 = .waiting ∨ f.l1 = .waiting then s
    else
      let s := s.settleNode f 1
      match s.fetch id with
      | none => s
      | some f =>
        if f.l1 = .waiting then s
        else
          let s := s.settleNode f 0
          match s.fetch id with
          | none => s
          | some f =>
            if f.l0 = .waiting then s
            else match f.use with
            | .pinNode level => ((s.dropFetch id).pinNodeDone f level).maintResume
            | _ =>
              let ((line, missed), s) := s.fetchLine f
              let s := s.readLine f.line
              let view := s.bufferView f.line
              let data := match view with | some v => overlay v.1 line | none => line
              let poison := match view with | some v => v.2 || (missed && !bufferFull v) | none => missed
              let s := s.dropFetch id
              let s := match f.use with
                | .host =>
                  let s := if poison ∨ f.noAlloc then s else s.install false f.line data f.tier
                  State.deliver f data poison s f.reqs lat
                | .pinNode _ => s
                | .pin =>
                  let s := State.deliver f data poison s f.reqs lat
                  (match s.rk.maint with
                   | some m =>
                     if m.op = 3 ∧ m.waiting ∧ m.next = f.line ∧ ¬ m.isNode then
                       (if poison then s.maintEnd 3 else State.maintRun (m.left + 1) (s.pinInstall { m with waiting := false } data))
                     else s
                   | none => s)
                | .sward =>
                  let s := State.deliver f data poison s f.reqs lat
                  s.resyncSend f.line f.dom data poison
                | .held => s.resyncSend f.line f.dom line missed
                | .scan ld =>
                  let s := State.deliver f data poison s f.reqs lat
                  if poison then s.setLd ld { s.ld ld with scanHits := (s.ld ld).scanHits ++ [f.line] } else s
              s.maintResume

/-! ### Step 4 and responses of a fetch -/

/-- The parity of a page that is current (Table 04.4), for parity slot `k`, where its media slot reads `b`: the media parity xor the entry, and while a
write-back is in flight the engine's copy xor the entry, that copy being the new parity slot once it has been made. -/
def State.parityNow (s : State) (p page k : Nat) (b : Option (List Byte)) : Option (List Byte) :=
  match Tbl.find s.codes.deltas (p * 256 + page) with
  | none => b
  | some d =>
    let dk := d.delta.getD (k - 64) erasedSlot
    match Tbl.find d.parity k, d.engine with
    | some x, _ => some (xorBytes x dk)
    | none, some e => b.map (fun x => xorBytes (xorBytes x (e.getD (k - 64) erasedSlot)) dk)
    | none, none => b.map (fun x => xorBytes x dk)

/-- What the media's parity slot `k` of a page must hold for the current parity to be `b`. -/
def State.parityHeld (s : State) (p page k : Nat) (b : List Byte) : List Byte :=
  match Tbl.find s.codes.deltas (p * 256 + page) with
  | none => b
  | some d =>
    let x := xorBytes b (d.delta.getD (k - 64) erasedSlot)
    if (Tbl.find d.parity k).isSome then x else match d.engine with | some e => xorBytes x (e.getD (k - 64) erasedSlot) | none => x

/-- The decoded slots of a page job with the parity slots brought up to date; an absent slot is an erasure. -/
def State.pageSlots (s : State) (j : Job) : List (Option (List Byte)) :=
  (List.range 68).map (fun k => if k < 64 then Tbl.find j.slots k else s.parityNow j.plot j.page k (Tbl.find j.slots k))

/-- Page slots of a job that are erasures. -/
def State.erased (s : State) (j : Job) : List Nat := (List.range 68).filter (fun k => ((s.pageSlots j).getD k none).isNone)

/-- Solve a page job (R116): every slot of the page, or none. A page marked for rebuild has no parity (Table 04.4). -/
def State.solvePage (s : State) (j : Job) : Option (List (List Byte)) :=
  if s.marked j.plot j.page then none else pageSolve ((s.pageSlots j).map (fun b => b.getD erasedSlot)) (s.erased j)

/-- Solve a page job for page slot `sl`: where at most 4 slots are erased and the leftover syndromes disagree, event 0x2106 (R116). -/
def State.solve (s : State) (j : Job) (sl : Nat) : Option (List (List Byte)) × State :=
  match s.solvePage j with
  | some x => (some x, s)
  | none => (none, if s.marked j.plot j.page ∨ 4 < (s.erased j).length then s else s.event 0x2106 0 none j.plot (j.page * 256 + sl))

/-- A reconstruct job has every slot: the line, or poison (R116, R118, R120). -/
def State.reconDone (s : State) (j : Job) (fid lat : Nat) : State :=
  let s := s.dropJob j.id
  match s.fetch fid with
  | none => s
  | some f =>
    let sl := lineSlot f.line
    let (got, s) := s.solve j sl
    match got with
    | some slots =>
      let b := slots.getD sl erasedSlot
      let s := (s.noteRebuilt j.plot j.page sl).rebuiltInPlace j.plot j.page sl b
      (s.setFetch { f with data := .slot 0 b }).fetchTry fid lat
    | none => (s.fetchPoison f).fetchTry fid lat

/-- A step 4 that found every slot at hand ends at once. -/
def State.reconPump (s : State) (fid lat : Nat) : State :=
  match s.reconReady fid with
  | some j => s.reconDone j fid lat
  | none => s

/-- Start a fetch, and deliver it at once where nothing has to be read. The latency of such a read is an open value. -/
def State.fetchNow (s : State) (use : FetchFor) (line d cls tier eng cause : Nat) (reqs : List Nat) : State :=
  let id := s.host.nextFetch
  let s := s.startFetch use line d cls tier eng cause reqs
  let (v, s) := s.draw
  (s.reconPump id (v.toNat % 2 ^ 32)).fetchTry id (v.toNat % 2 ^ 32)

/-- Start a fetch of a line of a snapshot's held plot (R398, R400): from physical plot `phys`, programmed at `epoch`, under the saved L0 node `n`. -/
def State.fetchHeld (s : State) (line d phys epoch : Nat) (n : Node) : State :=
  let e := { s.entry false (linePlot line) with phys := phys, epoch := epoch }
  let id := s.host.nextFetch
  let f : Fetch :=
    { id := id, use := .held, line := line, dom := d, cls := 3, tier := s.domTier d, eng := 5, reqs := [], phys := phys, strand := none
      data := .waiting, l0 := .node n, l1 := .node (s.node 1 (line / 4096))
      cause := 0, slowest := 0, noAlloc := true, noAlloc0 := true, noAlloc1 := true, again0 := false, again1 := false, step4 := false, reset := false }
  let s := { s with host := { s.host with nextFetch := id + 1, fetches := s.host.fetches ++ [f] } }
  let (c, a, set, young) := s.slotRead phys (linePage line) (lineSlot line) false e
  let s := if s.memberOut phys (pageMember (linePage line) (lineSlot line)) then s.fetchLast { f with cause := 3 }
    else match s.programmed c a with
      | some b => s.setFetch { f with data := .slot 0 b }
      | none => s.submit c { MCmd.of .read a (s.readParam set) 5 (.fetch id .data) with cls := 3, tier := f.tier, young := young }
  let (v, s) := s.draw
  (s.reconPump id (v.toNat % 2 ^ 32)).fetchTry id (v.toNat % 2 ^ 32)

/-- Start the reads that waiting pins ask for (R258): class C3, uncharged and unmetered. -/
def State.maintPump : Nat → State → State
  | 0, s => s
  | n + 1, s =>
    match s.rk.maint with
    | none => s
    | some m =>
      if m.want then
        let s := { s with rk := { s.rk with maint := some { m with want := false } } }
        let level := if m.next < s.usable * 2 ^ 18 then 0 else 1
        let line := if m.isNode then (if level = 0 then m.next * 64 else (m.next - s.usable * 2 ^ 18) * 4096) else m.next
        let d := (s.domOfPlot (linePlot line)).getD 0
        State.maintPump n (s.fetchNow (if m.isNode then .pinNode level else .pin) line d 3 (s.domTier d) 5 0 [])
      else s

/-- Note a media response on its fetch: its channel and load cause. -/
def State.fetchNote (s : State) (id c : Nat) (m : Meas) : State :=
  match s.fetch id with
  | some f => s.setFetch { f with slowest := c, cause := lowerCause f.cause m.loadCause }
  | none => s

/-- A slot of a fetch has decoded at ladder step `k` (0 to 3). -/
def State.fetchSlot (s : State) (id : Nat) (role : Role) (c k : Nat) (b : List Byte) (m : Meas) : State :=
  let s := s.fetchNote id c m
  match s.fetch id with
  | none => s
  | some f =>
    let f := if 2 ≤ k then { f with cause := lowerCause 1 f.cause } else f
    match role with
    | .data =>
      let s := s.ladderCount c k
      let s := if 2 ≤ k ∧ s.flag CD 8 ∧ f.strand.isNone then s.requeue f.phys (linePage f.line) (lineSlot f.line) else s
      (s.setFetch { f with data := .slot 0 b }).fetchTry id m.latNs
    | .l0 copy => (s.setFetch { f with l0 := .slot copy b }).fetchTry id m.latNs
    | .l1 copy => (s.setFetch { f with l1 := .slot copy b }).fetchTry id m.latNs

/-- A slot of a fetch has not decoded by step 3, or (`out`) its die is out of service. -/
def State.fetchMiss (s : State) (id : Nat) (role : Role) (c : Nat) (out : Bool) (m : Meas) : State :=
  let s := s.fetchNote id c m
  match s.fetch id with
  | none => s
  | some f =>
    let f := if out then { f with cause := lowerCause 3 f.cause } else f
    match role with
    | .data => (((s.setFetch f).fetchLast f).reconPump id m.latNs).fetchTry id m.latNs
    | .l0 copy => (s.nodeFailed { f with cause := lowerCause 1 f.cause } 0 copy).fetchTry id m.latNs
    | .l1 copy => (s.nodeFailed { f with cause := lowerCause 1 f.cause } 1 copy).fetchTry id m.latNs

/-- A maintenance row: a write of RK_MAINT_CMD with go 1 by the owner, with `op`, RK_MAINT_ADDR and count_m1 as they stand. -/
def State.maintRow (s : State) (op : Nat) : State :=
  if ¬ s.regsUp then s
  else
    let s := s.setFld (RK + 0x38) 19 16 op
    State.maintPump (s.fld (RK + 0x38) 15 0 + 1) (s.maintGo op (s.reg64 (RK + 0x30)) (s.fld (RK + 0x38) 15 0 + 1))

/-- EVICTION_BUFFER_WRITE (R254): one entry of the eviction buffer is written, and a pin that waited for an entry goes on. -/
def execEvictionBufferWrite (s : State) : Answer :=
  let n := s.rk.evb.length
  let s := s.evbWrite
  .next (match s.rk.maint with
    | some m =>
      if m.stalled ∧ s.rk.evb.length < n then State.maintPump (m.left + 1) (State.maintResume { s with rk := { s.rk with maint := some { m with stalled := false } } }) else s
    | none => s)

/-- MAINT_NONE (R256): acts on no key, status 0x0 and done 0. -/
def execMaintNone (s : State) : Answer := .next (s.maintRow 0)
/-- MAINT_PROBE (R259). -/
def execMaintProbe (s : State) : Answer := .next (s.maintRow 1)
/-- MAINT_INVALIDATE (R259, Table 09.4). -/
def execMaintInvalidate (s : State) : Answer := .next (s.maintRow 2)
/-- MAINT_PIN (R258). -/
def execMaintPin (s : State) : Answer := .next (s.maintRow 3)
/-- MAINT_UNPIN (R259). -/
def execMaintUnpin (s : State) : Answer := .next (s.maintRow 4)

/-! ### Guard selection (R244) -/

/-- RP_GUARD_SEL_WRITE (R244): all eight counters of the selected domain are latched in the same clock. -/
def State.guardSel (s : State) (v : Word) : State :=
  let s := s.setReg (RP + 0xC) (plainWord (RP + 0xC) (s.reg (RP + 0xC)) v)
  let c := s.cnt (bits v 11 0)
  { s with qs := { s.qs with guardLatch := [c.reads, c.ladder, c.media, c.own, c.load, c.late, c.maxCur, c.maxPrev].map (BitVec.ofNat 32) } }

def execRpGuardSelWrite (who : Requester) (v : Word) (s : State) : Answer := .next (s.asWriter who (RP + 0xC) (fun s => s.guardSel v))

end Sys2Proof.Machine
end

