-- ==== Sys2Proof/Machine/RecPlots.lean ====
section
/-! DEFINITION. Machine/RecPlots.lean: the recorder plots (R443): what the archive (R441) and the meter spool (R448, R450) program into them, the erase of
spool plots behind the units consumed, and the replacement of a plot that fails. -/

namespace Sys2Proof.Machine

/-- A plot leaves service by record 0x04, with event 0x3101 giving its cause. -/
def State.retirePlot (s : State) (p cause : Nat) : State :=
  if (s.plotSoon p).state = 5 then s else (s.journalRetire p cause).event 0x3101 0 none p cause

/-! ### Slots of the recorder plots -/

/-- Slot `n` of the recorder plots, counted through all of them: a header slot as in the journal ring with [49:38] of its tweak at 0xFFF (R443), under record
or packet number `seq`. -/
def recSlot (n seq : Nat) (payload : List Byte) : List Byte := sealSlot (derivedSet labelLog 0) (tweakOf 3 seq 0 0xFFF n) (padLine payload) 0x60

/-- Program a slot of recorder plot `i`, in a mode (0 fresh, 1 over), on engine 1 without charge (DESIGN CHOICE: Table 03.10 names no engine for them). A
plot that waits for its replacement takes nothing: it is filled when it has one. -/
def State.putRec (s : State) (i page sl mode : Nat) (slot : List Byte) : State :=
  let p := s.recorderPlot i
  if i ∈ s.tp.recWait ∨ s.memberOut p (pageMember page sl) then s
  else
    let (c, a) := s.slotAddr p page sl
    s.submit c { MCmd.of .program a mode 1 (.recorder i) with data := [slot], dst := p, tier := 2 }

/-- The parity slots of a page of recorder plot `i` whose 64 data slots are filled (R443). -/
def State.putRecParity (s : State) (i page mode : Nat) (slots : List (List Byte)) : State :=
  let par := pageParity slots
  [0, 1, 2, 3].foldl (fun (t : State) k => t.putRec i page (64 + k) mode (par.getD k erasedSlot)) s

/-- Record 0x06 for recorder plot `i`: its refresh epoch is the hour at which its first slot is programmed (R443). -/
def State.recorderEpoch (s : State) (i : Nat) : State :=
  s.journal { JRec.of 0x06 with gen := 1, entry := i, plotA := s.recorderPlot i, value := s.hour }

/-! ### The archive (R441): plots 0 to 31, two records to a slot -/

/-- Slots of the archive in one turn. -/
def archiveSlots : Nat := 32 * 16384

/-- Archive slot `k`, counted since the last format, with the records that it holds. -/
def State.archiveSlot (s : State) (k : Nat) : List Byte :=
  let rec_ (n : Nat) : Option EventRec := if n < s.ev.archived then s.ev.archive[s.ev.archived - 1 - n]? else none
  let rs := [rec_ (2 * k), rec_ (2 * k + 1)].filterMap id
  recSlot (k % archiveSlots) ((rs.map (·.seq)).headD 0) (rs.flatMap EventRec.bytes)

/-- Program archive slot `k`: fresh the first time round, over the oldest records after that, and over its own first record where it was left half filled
(`again`). Its page's parity follows with the last slot. -/
def State.archivePut (s : State) (again : Bool) (k : Nat) : State :=
  let i := k / 16384 % 32
  let page := k / 64 % 256
  let old := decide (archiveSlots ≤ k)
  let slot := s.archiveSlot k
  let s := if k % 16384 = 0 ∧ ¬ again ∧ ¬ old then s.recorderEpoch i else s
  let s := s.putRec i page (k % 64) (if again ∨ old then 1 else 0) slot
  let slots := s.ev.page.take (k % 64) ++ [slot]
  if k % 64 = 63 ∧ 2 * k + 2 ≤ s.ev.archived then ({ s with ev := { s.ev with page := [] } }).putRecParity i page (if old then 1 else 0) slots
  else { s with ev := { s.ev with page := slots } }

/-- The archive has grown from `a` records: their slots are programmed. -/
def State.archiveProgram (s : State) (a : Nat) : State :=
  if s.ev.archived = a then s
  else (List.range ((s.ev.archived + 1) / 2 - a / 2)).foldl (fun (t : State) j => t.archivePut (decide (j = 0) && decide (a % 2 = 1)) (a / 2 + j)) s

/-! ### The spool: plots 32 to 1,055, one unit to a slot -/

/-- The number, since the last format, of the `k`-th unit that the spool holds. -/
def Meter.unitAt (m : Meter) (k : Nat) : Nat :=
  m.gaps.foldl (fun p (g : Nat × Nat) => if p < g.1 then p else p + g.2) (m.marked - (m.gaps.map (·.2)).sum - (m.units.length - m.tail) + k)

/-- Spool units consumed, or passed over, since the last format. -/
def Meter.spent (m : Meter) : Nat := m.unitAt 0

/-- Slot of the spool's unit `n`, counted since the last format. -/
def spoolSlot (n seq : Nat) (unit : List Byte) : List Byte := recSlot (archiveSlots + n % spoolUnits) seq unit

/-- The recorder plot list index of the spool's unit `n`. -/
def spoolPlot (n : Nat) : Nat := 32 + n / 16384 % 1024

/-- Is the slot of the spool's next unit erased? -/
def State.spoolReady (s : State) : Bool :=
  decide (s.mt.marked / 16384 < s.mt.freed + 1024) && (Tbl.find s.tp.erasing (s.recorderPlot (spoolPlot s.mt.marked))).isNone

/-- Program the oldest unit of the tail window; the page's parity follows with its last slot. A full page that holds the header of the packet in emission is
kept until the header's length word is known. -/
def State.spoolPut (s : State) (u : Nat × List Byte) : State :=
  if ¬ s.spoolReady then s
  else
    let n := s.mt.marked
    let s := if n % 16384 = 0 then s.recorderEpoch (spoolPlot n) else s
    let slot := spoolSlot n u.1 u.2
    let s := s.putRec (spoolPlot n) (n / 64 % 256) (n % 64) 0 slot
    let slots := s.mt.page ++ [slot]
    let mt : Meter := { s.mt with marked := n + 1, tail := s.mt.tail - 1 }
    if slots.length < 64 then { s with mt := { mt with page := slots } }
    else
      let head := match mt.emitting with
        | some q => decide (n + 1 - 64 ≤ n + 1 + mt.tail - mt.entered q) && decide (mt.entered q ≠ 0)
        | none => false
      ({ s with mt := { mt with page := [], headPage := if head then slots else mt.headPage } }).putRecParity (spoolPlot n) (n / 64 % 256) 0 slots

/-- Program the units of the tail window, one page's worth or what there is after 10 ms. -/
def State.spoolProgram (s : State) : State := (s.mt.units.drop (s.mt.units.length - s.mt.tail)).foldl State.spoolPut s

/-- Spool plots whose every unit has been consumed are erased; one that is still being written or read waits. -/
def State.spoolErase (s : State) : State :=
  (List.range (s.mt.spent / 16384 - s.mt.freed)).foldl (fun (t : State) _ =>
    let i := spoolPlot (t.mt.freed * 16384)
    let p := t.recorderPlot i
    if t.plotWrites p ∨ (t.codes.jobs.any (fun j => decide (j.plot = p) && decide (0 < j.reads))) then t
    else
      let u : State := { t with mt := { t.mt with freed := t.mt.freed + 1 }, tp := { t.tp with recorders := Tbl.del t.tp.recorders i } }
      if i ∈ t.tp.recWait then u else u.erasePlot p 2) s

/-- The length word of a packet has been written: a header that the spool holds already is programmed again, on the overwrite path, and its page's parity
with it. -/
def State.headerRewrite (s : State) (q : Nat) : State :=
  let k := s.mt.entered q
  let n := s.mt.marked + s.mt.tail - k
  if k = 0 ∨ s.mt.marked ≤ n then s
  else
    let slot := spoolSlot n q ((s.mt.units.getD (s.mt.units.length - k) (q, [])).2)
    let s := s.putRec (spoolPlot n) (n / 64 % 256) (n % 64) 1 slot
    if n / 64 = s.mt.marked / 64 then { s with mt := { s.mt with page := s.mt.page.set (n % 64) slot } }
    else
      let slots := s.mt.headPage.set (n % 64) slot
      ({ s with mt := { s.mt with headPage := [] } }).putRecParity (spoolPlot n) (n / 64 % 256) 1 slots

/-- The tail window has room: more units enter, and the packet may end. -/
def State.meterGo (s : State) : State :=
  match s.mt.emitting with
  | none => s
  | some q =>
    let s := s.meterPump
    if s.mt.closing = [] then s.headerRewrite q else s

/-! ### Replacement of a plot that fails (R443) -/

/-- Fill recorder plot `i` with slots by their index in it, and the parity of the pages that are full. -/
def State.recFill (s : State) (i : Nat) (slots : Tbl (List Byte)) (full : Nat → Bool) : State :=
  if slots = [] then s
  else
    let s := slots.foldl (fun (t : State) (x : Nat × List Byte) => t.putRec i (x.1 / 64) (x.1 % 64) 0 x.2) (s.recorderEpoch i)
    ((List.range 256).filter full).foldl (fun (t : State) g =>
      t.putRecParity i g 0 ((List.range 64).map (fun k => Tbl.get (fun _ => erasedSlot) slots (64 * g + k)))) s

/-- What recorder plot `i` holds of the archive or the spool is programmed into its new plot. -/
def State.recRefill (s : State) (i : Nat) : State :=
  if i < 32 then
    let top := (s.ev.archived + 1) / 2
    let ks := ((List.range (s.ev.archive.length / 2 + 1)).map (fun d => top - 1 - d)).filter (fun k => k < top ∧ k / 16384 % 32 = i ∧ top ≤ k + archiveSlots)
    s.recFill i (ks.foldl (fun (t : Tbl (List Byte)) k => Tbl.put t (k % 16384) (s.archiveSlot k)) [])
      (fun g => ks.any (fun k => decide (k % 16384 = 64 * g + 63)) && !(decide (s.ev.page ≠ []) && decide ((top - 1) / 64 % 256 = g)))
  else
    let us := (s.mt.units.take (s.mt.units.length - s.mt.tail)).mapIdx (fun k (u : Nat × List Byte) => (s.mt.unitAt k, spoolSlot (s.mt.unitAt k) u.1 u.2))
    let mine := us.filter (fun x => decide (spoolPlot x.1 = i))
    s.recFill i (mine.foldl (fun (t : Tbl (List Byte)) x => Tbl.put t (x.1 % 16384) x.2) [])
      (fun g => mine.any (fun x => decide (x.1 % 16384 = 64 * g + 63)))

/-- Recorder plots that wait for a replacement take erased spares as there are any. -/
def State.recorderAllot (s : State) : State :=
  s.tp.recWait.foldl (fun (t : State) i =>
    match t.takeSpare false with
    | none => t
    | some (q, t) =>
      let t := t.journalPlot q (fun r => { r with state := 8 })
      State.recRefill { t with tp := { t.tp with recWait := t.tp.recWait.filter (fun k => k ≠ i)
                                                 recPlots := Tbl.set (fun k => Config.formatPlot t.usable 0 k) t.tp.recPlots i q } } i) s

/-- A program or erase of plot `p` at index `i` of the recorder plot list has failed: the plot retires and a new allocation replaces it. -/
def State.recorderReplace (s : State) (i p cause : Nat) : State :=
  if s.recorderPlot i ≠ p ∨ i ∈ s.tp.recWait then s
  else
    let s := s.retirePlot p cause
    State.recorderAllot { s with tp := { s.tp with recWait := s.tp.recWait ++ [i], recorders := Tbl.del s.tp.recorders i } }

/-- The index of a plot in the recorder plot list. -/
def State.recorderIdx (s : State) (p : Nat) : Option Nat := (List.range 1056).find? (fun i => s.recorderPlot i = p)

end Sys2Proof.Machine
end

