-- ==== Sys2Proof/Machine/Plots.lean ====
section
/-! DEFINITION. Machine/Plots.lean: journal records and what they change (R137, R138, R277, Table 14.5), the spare pool, the stranded-line area (R157 to
R160), migrations (Table 05.12), retirement and lost media, wear levelling and checkpoints (05). -/

namespace Sys2Proof.Machine

/-! ### Retirement (R155, R163) -/

/-- Give a physical plot a state, with the spare counts following it into and out of states 0x0 and 0x1. -/
def State.moveState (s : State) (p x : Nat) : State :=
  let was := (s.plotRec p).state
  let spare (k : Nat) : Nat := if k ≤ 1 then 1 else 0
  let ready (k : Nat) : Nat := if k = 0 then 1 else 0
  ((s.setPlotState p x).setSpares (s.spares + spare x - spare was)).setReady (s.ready + ready x - ready was)

/-- Listed plots in a state. -/
def State.plotsIn (s : State) (x : Nat) : Nat := countIf (fun p => decide (p.2.state = x)) s.tp.plots

/-- min(100, floor(100 a / b)); 100 where b is 0 and a is not. -/
def percent (a b : Nat) : Nat := if b = 0 then (if a = 0 then 0 else 100) else min 100 (100 * a / b)

/-- Mean cycles of the pool plots in service (R153, R163). DESIGN CHOICE: these are the data, node and snapshot-held plots; a plot that is not listed has
no cycles. Records appended and not yet verified count. -/
def State.meanCycles (s : State) : Nat :=
  let pool := s.tp.plots.filter (fun p => decide (6168 ≤ p.1) && decide (p.2.state = 2 ∨ p.2.state = 3 ∨ p.2.state = 6))
  (pool.map (fun p => (s.plotSoon p.1).cycles)).sum / max 1 (s.dataPlots + s.nodePlots + s.plotsIn 6)

/-- Life (R163): the four fractions in percent, and TP_LIFE. -/
def State.lifeUpdate (s : State) : State :=
  let mean := s.meanCycles
  let retired := countIf (fun p => decide (p.2.state = 5) && decide (6168 ≤ p.1)) s.tp.plots
  let logMax := (s.tp.plots.filter (fun p => decide (p.1 < 6168))).foldl (fun m p => max m p.2.programs) s.tp.logErases
  let wp := s.tp.map.any (fun e => e.2.writeProtect)
  let ws := percent mean 2000000
  let wpct := percent retired (s.tp.s0 - s.floor)
  let wl := percent logMax 50000000
  let cref := s.fld (WP + 0x24) 23 0
  let wh := if cref = 0 then 0 else if s.wb.whCm ≤ s.wb.cRefFull then 100 else percent (cref - s.wb.whCm) (cref - s.wb.cRefFull)
  let top := max (max ws wpct) (max wl wh)
  let life := if wp ∨ 100 ≤ top then 100 else min 99 top
  let s := s.setFld (TP + 0x48) 20 0 mean
  s.setReg (TP + 0x20) (BitVec.ofNat 32 (life * 2 ^ 24 + ws * 2 ^ 16 + wpct * 2 ^ 8 + wl))

/-! ### Journal records: the change each one makes (R137) -/

/-- Set or clear cow on an entry. -/
def State.setCow (s : State) (i : Nat) (v : Bool) : State := s.setEntry false i { s.entry false i with cow := v }

/-- A plot table record takes effect (R134, R152): a plot that it makes a spare joins the spare counts, and the entry that names the plot takes its wear
class (Table 05.3). -/
def State.plotEffect (s : State) (p : Nat) (r : PlotRec) : State :=
  let was := (s.plotRec p).state
  let s := if r.state ≤ 1 ∧ 1 < was then s.moveState p r.state else s
  let s := s.setPlot p r
  match s.ownerOf p with
  | some (node, i) => s.setEntry node i { s.entry node i with wearClass := s.wearClassOf p }
  | none => s

/-- The fields of a record 0x08 (DESIGN CHOICE: Table 05.8 leaves its value open): the line and the hour of its program in the value, its place in plot_b. -/
def JRec.strandLine (r : JRec) : Nat := r.value % 2 ^ 38
def JRec.strandHour (r : JRec) : Nat := r.value / 2 ^ 38 % 65536

/-- The change that a journal record makes to map, plot table, tree and snapshots. Records carry absolute values. -/
def State.recEffect (s : State) (r : JRec) : State :=
  let e := s.entry r.node r.entry
  match r.type with
  | 0x01 => (s.setPlotState r.plotB 7).setEntry r.node r.entry { e with migrating := true }
  | 0x02 =>
    let s := s.setEntry r.node r.entry
      { (MapEntry.withFlags e r.flags) with phys := r.plotB, epoch := r.value % 65536, generation := r.gen, wearClass := s.wearClassOf r.plotB }
    let s := s.setPlotState r.plotB (if r.node then 3 else 2)
    let mine (x : Nat × Nat) : Bool := decide (linePlot x.1 = r.entry)
    let s := if r.node ∨ ¬ e.stranded ∨ r.flags.testBit 4 then s
      else { s with tp := { s.tp with strandIdx := s.tp.strandIdx.filter (fun x => !mine x), strandHour := s.tp.strandHour.filter (fun x => !mine x) } }
    if r.kind = 2 then s else if r.kind = 4 then s.setPlotState r.plotA 6 else s.moveState r.plotA 1
  | 0x03 => s.moveState r.plotA 0
  | 0x04 => s.moveState r.plotA 5
  | 0x05 => s.setEntry r.node r.entry (MapEntry.withFlags e r.flags)
  | 0x06 =>
    if r.gen = 1 then { s with tp := { s.tp with recorders := Tbl.put s.tp.recorders r.entry (r.plotA, r.value % 65536)
                                                 recPlots := Tbl.set (fun k => Config.formatPlot s.usable 0 k) s.tp.recPlots r.entry r.plotA } }
    else s.setEntry r.node r.entry { e with epoch := r.value % 65536 }
  | 0x07 => s.plotEffect r.plotA (plotOfWord r.value)
  | 0x08 =>
    let line := r.strandLine
    let s := { s with tp := { s.tp with
      strandHour := if r.kind = 0 then Tbl.put s.tp.strandHour line r.strandHour else Tbl.del s.tp.strandHour line
      strandIdx := if r.kind = 0 then Tbl.put s.tp.strandIdx line r.plotB else Tbl.del s.tp.strandIdx line } }
    s.setEntry false r.entry (MapEntry.withFlags e r.flags)
  | 0x21 =>
    let p := s.node 2 (r.entry / 64)
    s.setNode 2 (r.entry / 64) { (p.setMinor (r.entry % 64) (BitVec.ofNat 7 r.flags)) with major := BitVec.ofNat 64 r.value }
  | 0x22 =>
    if (s.regraftOf r.kind r.entry).isSome then s
    else State.showRegrafts { s with gx := { s.gx with regrafts := s.gx.regrafts ++ [(⟨r.kind, r.entry, BitVec.ofNat 64 r.value, 1, []⟩ : Regraft)] } }
  | 0x23 =>
    let n := s.node r.kind r.entry
    let s := { s with gx := { s.gx with regrafts := s.gx.regrafts.filter (fun x => ¬ (x.level = r.kind ∧ x.index = r.entry)) } }
    s.showRegrafts.setNode r.kind r.entry { major := BitVec.ofNat 64 r.value, minors := n.minors.map (fun p => (p.1, (1 : BitVec 7))) }
  | 0x24 =>
    let minors : Tbl (BitVec 7) := if r.flags = 1 then [] else (List.range 64).map (fun c => (c, (1 : BitVec 7)))
    s.setNode r.kind r.entry { major := BitVec.ofNat 64 r.value, minors := minors }
  | 0x31 => (s.domPlots r.dom).foldl (fun t i => t.setCow i true) s
  | 0x32 => s.setPlotState r.value 6
  | 0x33 =>
    let held := (s.sw.snaps.filter (fun x => x.1 = r.entry % 256)).flatMap (fun x => x.2.held.map (fun h => h.2.1) ++ x.2.nodePlots)
    (s.domPlots r.dom).foldl (fun (t : State) i => t.setCow i false) (held.foldl (fun t p => t.moveState p 1) s)
  | _ => s

/-! ### Snapshots' end (R399) -/

/-- End the snapshot in slot `k`: record 0x33, and with the aborted bit event 0xC402. -/
def State.endSnapshot (s : State) (k : Nat) (aborted : Bool) : State :=
  match Tbl.find s.sw.snaps k with
  | none => s
  | some x =>
    if x.ending then s
    else
      let s := { s with sw := { s.sw with snaps := Tbl.put s.sw.snaps k { x with ending := true, aborted := aborted, walker := 0 } } }
      let s := s.journal { JRec.of 0x33 with dom := x.dom, entry := k + (if aborted then 256 else 0), value := s.tb.ztime }
      if aborted then s.event 0xC402 0 (some x.dom) x.ftag 0 else s

/-- The snapshot slots of a domain that hold its plots. -/
def State.snapsOf (s : State) (d : Nat) : List Nat := (s.sw.snaps.filter (fun x => decide (x.2.dom = d) && !x.2.ending)).map (·.1)

/-! ### Failed programs and write protection (R154, R160) -/

/-- Request a migration (R147): it starts when MIGRATION_START takes it from the queue. -/
def State.requestMigration (s : State) (kind : Nat) (node : Bool) (i : Nat) : State :=
  if (kind, node, i) ∈ s.tp.migQueue then s
  else { s with tp := { s.tp with migQueue := s.tp.migQueue ++ [(kind, node, i)] } }

/-- A program on a data or node plot has failed its verify: a retire migration of the plot is requested (R154). Answers whether R142 lets it have a target
now. -/
def State.programFailed (s : State) (node : Bool) (i : Nat) : Bool × State := (s.mayAllocate false false, s.requestMigration 2 node i)

/-- Write-protect a plot by record 0x05, for a line that would become stranded (R160): event 0x3108. -/
def State.writeProtect (s : State) (d line : Nat) : State :=
  let i := linePlot line
  if (s.flagsSoon false i).writeProtect then s
  else (s.journalFlags false i (fun e => { e with writeProtect := true })).event 0x3108 0 (some d) (lineLo line) (lineHi line)

/-! ### The stranded-line area (R157 to R159) -/

/-- Places of log plot `x` (0 to 255) of the area that have been programmed since its erase, in order; 4,096 while it is being erased. -/
def State.strandUsed (s : State) (x : Nat) : Nat := if (Tbl.find s.tp.erasing (1024 + x)).isSome then 4096 else Tbl.get (fun _ => 0) s.tp.strandFill x

/-- Free erased places of the area. -/
def State.strandFree (s : State) : Nat := ((List.range 256).map (fun x => 4096 - s.strandUsed x)).sum

/-- Lines that log plot `x` of the area holds. -/
def State.strandLines (s : State) (x : Nat) : List Nat := (s.tp.strandIdx.filter (fun y => decide (y.2 / 4096 = x))).map (fun (y : Nat × Nat) => y.1)

/-- The next free erased place: in the log plot that has been begun, else in the first erased one. -/
def State.strandNext (s : State) : Option Nat :=
  let pick (ok : Nat → Bool) : Option Nat := (List.range 256).find? (fun x => ok (s.strandUsed x))
  ((pick (fun n => decide (0 < n) && decide (n < 4096))).or (pick (fun n => decide (n = 0)))).map (fun x => 4096 * x + s.strandUsed x)

/-- Channel and address of data slot `n` of the area (R157, R213). -/
def State.areaSlot (s : State) (n : Nat) : Nat × Nat := s.slotAddr (1024 + n / 8192) (n / 64 % 128) (n % 64)

/-- Are both slots of a place on members in service? -/
def State.placeGood (s : State) (q : Nat) : Bool :=
  !s.memberOut (1024 + q / 4096) (pageMember (2 * q / 64 % 128) (2 * q % 64)) && !s.memberOut (1024 + q / 4096) (pageMember (2 * q / 64 % 128) (2 * q % 64 + 1))

/-- The pair of slots of place `q`, the next in order, joins its page, whose parity slots are programmed with its 64th data slot. -/
def State.strandFilled (s : State) (q : Nat) (a b : List Byte) : State :=
  let page := s.log.strandPage ++ [a, b]
  let s := { s with tp := { s.tp with strandFill := Tbl.put s.tp.strandFill (q / 4096) (q % 4096 + 1) } }
  if page.length < 64 then { s with log := { s.log with strandPage := page } }
  else ({ s with log := { s.log with strandPage := [] } }).putLogParity (1024 + q / 4096) (2 * q / 64 % 128) page

/-- The next place whose slots both lie on members in service; places passed over stay erased. `n` bounds the search. -/
def State.strandPlace : Nat → State → Option Nat × State
  | 0, s => (none, s)
  | n + 1, s =>
    match s.strandNext with
    | none => (none, s)
    | some q => if s.placeGood q then (some q, s) else State.strandPlace n (s.strandFilled q erasedSlot erasedSlot)

/-- Is a line on its way into the area: its slots being programmed, or its record 0x08 not yet verified? -/
def State.stranding (s : State) (line : Nat) : Bool :=
  s.codes.jobs.any (fun j => match j.kind with
    | .strand l _ => decide (l = line)
    | .restrand l => decide (l = line)
    | .parityWb | .rebuild | .refreshPage | .migratePage | .rewrite | .reconstruct _ | .regraft _ _ | .scrubPage | .scan _ | .margin | .redirect | .rotate
    | .applyRead _ _ | .sweep _ => false) ||
  s.tp.unverified.any (fun r => decide (r.type = 8) && decide (r.strandLine = line))

/-- The header slot's content of a stranded line: domain, line and counter version. -/
def State.strandHead (s : State) (d line : Nat) : List Byte :=
  let v := s.lineVersion line
  padLine (leBytes 2 d ++ leBytes 5 line ++ leBytes 8 v.major.toNat ++ leBytes 1 v.minor.toNat)

/-- Program a line's slot into the area: header slot and line slot of its next place (R157, R158); the record follows when both have verified. DESIGN
CHOICE: a header slot belongs to no record, and its tweak carries sequence number 0. False: no free erased place. -/
def State.strandPut (s : State) (d line : Nat) (slot : List Byte) : Bool × State :=
  match s.strandPlace 4096 with
  | (none, s) => (false, s)
  | (some q, s) =>
    let hs := logSlot (2 * q) 0 (s.strandHead d line) false
    let (j, s) := s.newJob (.strand line q) (1024 + q / 4096) (2 * q / 64 % 128)
    let s := match s.job j with | some x => s.setJob { x with progs := 2 } | none => s
    let put (t : State) (k : Nat) (b : List Byte) : State :=
      let (c, a) := t.areaSlot (2 * q + k)
      t.submit c { MCmd.of .program a 2 3 (.job j k) with data := [b], dst := 1024 + q / 4096, tier := 2 }
    (true, (put (put s 0 hs) 1 slot).strandFilled q hs slot)

/-- Program a stranded line anew (R184, R157): its slot is read from its place, then put into another. Nothing while the line is on its way there, or its
frame is being applied. -/
def State.restrand (s : State) (line : Nat) : State :=
  match Tbl.find s.tp.strandIdx line with
  | none => s
  | some q =>
    if s.stranding line ∨ (s.applyingFrame line).isSome then s
    else
      let (j, s) := s.newJob (.restrand line) (1024 + q / 4096) (2 * q / 64 % 128)
      let (c, a) := s.areaSlot (2 * q + 1)
      let s := match s.job j with | some x => s.setJob { x with reads := 1 } | none => s
      s.submit c { MCmd.of .read a 0x10 1 (.job j 0) with tier := 2 }

/-- Before the area is full (R157): when no more than one log plot's worth of erased places is left, the lines of the full log plot that holds the fewest
are moved elsewhere, if they fit. DESIGN CHOICE: when the move begins. -/
def State.strandCompact (s : State) : State :=
  if 4096 < s.strandFree then s
  else
    let full := (List.range 256).filter (fun x => decide (s.strandUsed x = 4096) && (Tbl.find s.tp.erasing (1024 + x)).isNone && decide ((s.strandLines x).length < 4096))
    match full with
    | [] => s
    | x :: xs =>
      let y := xs.foldl (fun (b : Nat) (y : Nat) => if (s.strandLines y).length < (s.strandLines b).length then y else b) x
      if (s.strandLines y).length ≤ s.strandFree then (s.strandLines y).foldl State.restrand s else s

/-- A log plot of the area is erased once none of its places holds a line, or is about to (R157). -/
def State.strandSweep (s : State) : State :=
  let coming (x : Nat) : Bool :=
    s.codes.jobs.any (fun j => match j.kind with
      | .strand _ q => decide (q / 4096 = x)
      | .parityWb | .rebuild | .refreshPage | .migratePage | .rewrite | .reconstruct _ | .regraft _ _ | .scrubPage | .scan _ | .margin | .redirect | .rotate
      | .restrand _ | .applyRead _ _ | .sweep _ => false) ||
    s.tp.unverified.any (fun r => decide (r.type = 8) && decide (r.plotB / 4096 = x))
  (s.tp.strandFill.map (fun (y : Nat × Nat) => y.1)).foldl (fun (t : State) x =>
    if t.strandLines x ≠ [] ∨ coming x ∨ (Tbl.find t.tp.erasing (1024 + x)).isSome ∨ t.plotWrites (1024 + x) then t
    else
      let t := if Tbl.get (fun _ => 0) t.tp.strandFill x < 4096 then { t with log := { t.log with strandPage := [] } } else t
      t.erasePlot (1024 + x) 2) s

/-- A line whose program failed, and whose plot can have no retire target, becomes a stranded line (R158); with the area full its plot is write-protected
(R160). -/
def State.strand (s : State) (d line : Nat) (slot : List Byte) : State :=
  if s.stranding line then s
  else
    let (ok, s) := s.strandPut d line slot
    if ok then s.strandCompact else s.writeProtect d line

/-- Both slots of a stranded line's new place have verified: record 0x08, which sets the plot's stranded flag (R158). -/
def State.strandPlaced (s : State) (line place : Nat) : State :=
  let i := linePlot line
  let e := s.entry false i
  s.journal { JRec.of 0x08 with
    entry := i, plotA := e.phys, plotB := place, gen := e.generation, flags := ({ s.flagsSoon false i with stranded := true } : MapEntry).flags
    value := line + s.hour * 2 ^ 38 }

/-- The slot that an applying frame of a line stands for: its content under the line's present version. -/
def State.frameSlot (s : State) (line : Nat) (f : Frame) : List Byte :=
  if f.poison then poisonSlot
  else s.dataSlot f.dom (s.applyGen f.dom (s.entry false (linePlot line))) line (s.lineVersion line) (f.bytes.map (fun b => b.getD 0))

/-- The frames of a logical plot that are held because their program failed (R154), with their lines. -/
def State.failedFrames (s : State) (i : Nat) : List (Nat × Frame) :=
  (s.wb.frames.map (fun (f : Nat × Frame) => (lineOf s.wb.salt (f.1 / 8) f.2.tag, f.2))).filter (fun x =>
    decide (x.2.state = .applying) && x.2.failed && decide (linePlot x.1 = i))

/-- The held lines of a plot that R142 refuses a retire target become stranded lines (R158). -/
def State.strandFrames (s : State) (i : Nat) : State :=
  (s.failedFrames i).foldl (fun (t : State) x => t.strand x.2.dom x.1 (t.frameSlot x.1 x.2)) s

/-! ### Migrations (Table 05.12) -/

/-- Migrations between steps 1 and 6. -/
def State.migsActive (s : State) : Nat := s.tp.migs.length

/-- Record 0x01 of a migration. -/
def State.journalStart (s : State) (m : Migration) : State :=
  s.journal { JRec.of 0x01 with
    kind := m.kind, node := m.node, entry := m.entry, plotA := m.src, plotB := m.tgt, gen := (s.entry m.node m.entry).generation
    flags := ({ s.flagsSoon m.node m.entry with migrating := true } : MapEntry).flags }

/-- Step 1 of a migration into target `tgt`: record 0x01. -/
def State.beginMigration (s : State) (kind : Nat) (node : Bool) (i tgt : Nat) : State :=
  let e := s.entry node i
  let m : Migration :=
    { kind := kind, entry := i, node := node, src := e.phys, tgt := tgt, gen := (e.generation + 1) % 256, hour := s.hour, step := 1
      page := 0, dual := 0, saved := false, retire := decide (kind = 2), durable := none }
  let s := { s with tp := { s.tp with migs := s.tp.migs ++ [m], migQueue := s.tp.migQueue.erase (kind, node, i) } }
  s.journalStart m

/-- The copy jobs of a migration are dropped: its copy starts over. -/
def State.dropCopy (s : State) (m : Migration) : State :=
  { s with codes := { s.codes with jobs := s.codes.jobs.filter (fun j => ¬ (j.kind = JobKind.migratePage ∧ j.node = m.node ∧ j.entry = m.entry)) } }

/-- Move a running migration to a new target (R147, Table 05.13): the copy restarts at page 0. `lost`: its old target has been retired, and with no erased
spare the migration waits for one; otherwise the old target becomes a spare awaiting erase. The floor of R142 does not hold here. -/
def State.retarget (s : State) (m : Migration) (lost : Bool) : State :=
  match s.takeSpare false with
  | none => if lost then (s.dropCopy m).setMig { m with step := 0, page := 0, dual := 0 } else s
  | some (p, s) =>
    let s := if lost then s else s.journalPlot m.tgt (fun r => { r with state := 1 })
    let n := { m with tgt := p, step := 1, page := 0, dual := 0, saved := false }
    ((s.dropCopy m).setMig n).journalStart n

/-- Migrations that wait for a target, and a checkpoint that waits for spares, go on when a spare has been erased (R141). -/
def State.retargetWaiting (s : State) : State :=
  s.tp.migs.foldl (fun (t : State) (m : Migration) => if m.step = 0 then t.retarget m true else t) s

/-- The tier of a migration's commands in the background charge (Table 11.3). -/
def Migration.charge (m : Migration) (s : State) : Nat :=
  if m.kind = 3 then (if s.df.refreshing.any (fun r => decide (r.1 = m.src) && decide (2 ≤ r.2.2)) then 2 else 0)
  else if m.kind = 2 ∨ m.kind = 4 then 1 else 0

/-- Are frames of a logical plot applying? One held because its PROGRAM failed is copied from the frame. -/
def State.plotApplying (s : State) (i : Nat) : Bool :=
  s.wb.frames.any (fun f => decide (f.2.state = .applying) && !(f.2.failed && decide (f.2.progs = 0)) && decide (linePlot (lineOf s.wb.salt (f.1 / 8) f.2.tag) = i))

/-- The slot of a line whose applying frame `ok` admits. -/
def State.heldSlot (s : State) (line : Nat) (ok : Frame → Bool) : Option (List Byte) :=
  (s.applyingFrame line).bind (fun f => if ok f then some (s.frameSlot line f) else none)

/-- The lines of a redirect's page. -/
def Migration.pageLines (m : Migration) : List Nat := (List.range 64).map (fun k => m.entry * 16384 + m.page * 64 + k)

/-- Before a redirect's page is programmed, each of its anchor lines has its apply record (R216): those that have none are appended. True: every record
has verified. -/
def State.redirectRecords (s : State) (m : Migration) : Bool × State :=
  let at_ (l : Nat) : Option (Nat × Frame) := (s.wayOf l true).bind (fun w => (s.frame (lineSet s.wb.salt l) w).map (fun f => (w, f)))
  let anchors := m.pageLines.filterMap (fun l => (at_ l).bind (fun x => if x.2.anchor then some (l, x.1, x.2) else none))
  let todo := anchors.filter (fun x => x.2.2.stage = .idle)
  let waiting := anchors.any (fun x => match x.2.2.stage with | .idle | .reading | .recording _ => true | .recorded _ | .programming => false)
  if todo = [] then (!waiting, s)
  else if ¬ s.anchorRoom todo.length then (false, s)
  else
    (false, todo.foldl (fun (t : State) x =>
      let (l, w, f) := x
      (t.setFrame (lineSet t.wb.salt l) w { f with stage := .recording .poison }).anchorAppend 2 f.poison f.dom l fullMask
        (if f.poison then List.replicate 64 0 else f.bytes.map (fun b => b.getD 0)) (t.lineVersion l)) s)

/-- A redirect's next page (R148): the 64 buffered lines and their page parity go to the target on engine 3; each line is charged
redirect_cost. -/
def State.redirectPage (s : State) (m : Migration) : State :=
  let (j, s) := s.newJob .migratePage m.src m.page
  let data := m.pageLines.map (fun l => (s.heldSlot l (fun _ => true)).getD poisonSlot)
  let slots := data ++ pageParity data
  let s := match s.job j with | some x => s.setJob { x with entry := m.entry, node := m.node, phase := 2, progs := 68 } | none => s
  let s := match s.domOfPlot m.entry with
    | some d => (List.range 64).foldl (fun (t : State) _ => t.chargeFree d (t.fld (QS + 0x08) 15 8)) s
    | none => s
  let s := (s.countGlobal 0xC2 1).noteWrite m.tgt m.page
  (List.range 68).foldl (fun u k =>
    let (c, a) := u.slotAddr m.tgt m.page k
    u.submit c { MCmd.of .program a 0 3 (.job j k) with data := [slots.getD k erasedSlot], dst := m.tgt }) s

/-- Begin the copy of a migration's next page (R144): READs of its source slots; a stranded line is read from its place, and a line whose PROGRAM failed
(R154), or that a redirect still holds, comes from its frame. -/
def State.copyPage (s : State) (m : Migration) : State :=
  let (j, s) := s.newJob .migratePage m.src m.page
  let e := s.entry m.node m.entry
  let s := match s.job j with | some x => s.setJob { x with entry := m.entry, node := m.node } | none => s
  let t := m.charge s
  let want := (List.range (if m.node then 68 else 64)).filter (fun k => !s.memberOut m.src (pageMember m.page k))
  let line (k : Nat) : Nat := m.entry * 16384 + m.page * 64 + k
  let held (k : Nat) : Option (List Byte) := if m.node then none else s.heldSlot (line k) (fun f => f.failed || decide (m.kind = 5))
  let s := (List.range 64).foldl (fun (u : State) k =>
    match held k, u.job j with
    | some b, some x => u.setJob { x with slots := Tbl.put x.slots k b }
    | _, _ => u) s
  (want.filter (fun k => (held k).isNone)).foldl (fun (u : State) k =>
    match (if m.node then none else u.strandOf e (line k)) with
    | some q =>
      let (c, a) := u.strandAddr q
      let u := match u.job j with | some x => u.setJob { x with reads := x.reads + 1 } | none => u
      u.submit c { MCmd.of .read a 0x10 1 (.job j k) with tier := t }
    | none => u.jobRead j m.src m.page k 1 t m.node e) s

/-- The twin of a position in a node plot: where the other copy of its node lies, as a page and page slot (R129). -/
def nodeTwin (page sl : Nat) : Nat × Nat :=
  let m := pageMember page sl
  let q := 4 * page + sl / 17
  let (m', q') := if q < 512 then ((m + 8) % 17, q + 512) else ((m + 9) % 17, q - 512)
  let p' := q' / 4
  (p', (m' + 17 - p' % 17) % 17 + 17 * (q' % 4))

/-- READs of the other copies of missing node slots of a page job, as items 100 + slot (R119). -/
def State.twinReads (s : State) (j : Job) (missing : List Nat) (eng tier : Nat) : State :=
  let e := s.entry true j.entry
  (missing.filter (fun k => !s.memberOut j.plot (pageMember (nodeTwin j.page k).1 (nodeTwin j.page k).2))).foldl (fun (u : State) k =>
    u.jobReadAs j.id j.plot (nodeTwin j.page k).1 (nodeTwin j.page k).2 (100 + k) eng tier true e) (s.setJob { j with phase := 1 })

/-- Put the 68 slots of a copied page into the target on the fresh path, engine 1: each by COPY where its source lies on the same die and its READ decoded
with no corrected symbol (R70), else by PROGRAM. -/
def State.copyOut (s : State) (j : Job) (m : Migration) (slots : List (List Byte)) : State :=
  let t := m.charge s
  let s := s.setJob { j with phase := 2, progs := slots.length }
  (List.range slots.length).foldl (fun (u : State) k =>
    let (c, a) := u.slotAddr m.tgt m.page k
    let (c0, a0) := u.slotAddr j.plot m.page k
    let inDie : Bool := decide (k ∈ j.clean) && decide (c0 = c) && decide (addrDie a0 = addrDie a)
    let q := if inDie then { MCmd.of .copy a0 0 1 (.job j.id k) with copyTo := a } else MCmd.of .program a 0 1 (.job j.id k)
    u.submit c { q with data := [slots.getD k erasedSlot], dst := m.tgt, tier := t }) s

/-- The migration that a copy job serves. -/
def State.migOfJob (s : State) (j : Job) : Option Migration := s.tp.migs.find? (fun m => m.node = j.node ∧ m.entry = j.entry ∧ m.step = 2)

/-- The 64 data slots of a copied page, poison slots where nothing was recovered, and their parity (R105, R144). -/
def copiedPage (slot : Nat → Option (List Byte)) : List (List Byte) :=
  let data := (List.range 64).map (fun k => (slot k).getD poisonSlot)
  data ++ pageParity data

/-- A page copy has its reads back: missing data slots are recovered at step 4, or copied as poison slots (R144, R118, R120). A line in the stranded-line
area has no page code over it. -/
def State.copyRead (s : State) (j : Job) : State :=
  match s.migOfJob j with
  | none => s.dropJob j.id
  | some m =>
    let missing := (List.range (if m.node then 68 else 64)).filter (fun k => (Tbl.find j.slots k).isNone)
    let e := s.entry m.node m.entry
    let busy (t : State) : Bool := match t.job j.id with | some x => decide (0 < x.reads) | none => false
    if m.node then
      let t := s.twinReads j missing 1 (m.charge s)
      if j.phase = 0 ∧ missing ≠ [] ∧ busy t then t
      else
        let got := match t.job j.id with | some x => x.slots | none => j.slots
        s.copyOut j m ((List.range 68).map (fun k => (Tbl.find got k).getD ((Tbl.find got (100 + k)).getD poisonSlot)))
    else if missing = [] then s.copyOut j m (copiedPage (Tbl.find j.slots))
    else
      let t := if j.phase = 0 ∧ s.flag CD 3 ∧ ¬ s.marked j.plot j.page then
          (s.setJob { j with phase := 1 }).stepFourReads j.id j.plot j.page 1 (m.charge s) e [64, 65, 66, 67]
        else s
      if busy t then t
      else
        let j := (t.job j.id).getD j
        let stranded (k : Nat) : Bool := (t.strandOf e (m.entry * 16384 + m.page * 64 + k)).isSome
        let (got, t) := if j.phase = 1 then t.solve j (missing.headD 0) else (none, t)
        let slot (k : Nat) : Option (List Byte) := (Tbl.find j.slots k).or (if stranded k then none else got.map (fun f => f.getD k erasedSlot))
        let t := missing.foldl (fun (u : State) k =>
          match slot k with
          | some b => (u.noteRebuilt j.plot j.page k).rebuiltInPlace j.plot j.page k b
          | none => u.notePoison j.plot j.page k none) t
        t.copyOut j m (copiedPage slot)

/-- Step 2 goes on, if nothing holds it (R397 step 3). A redirect whose buffered lines an unclean loss has taken is copied from its source. -/
def State.copyOn (s : State) (m : Migration) : State :=
  if m.step ≠ 2 then s
  else if 256 ≤ m.page then s.setMig { m with step := 3 }
  else if (m.kind = 4 ∧ s.plotApplying m.entry) ∨ (Tbl.find s.tp.erasing m.tgt).isSome then s
  else if m.kind = 5 ∧ m.pageLines.all (fun l => (s.applyingFrame l).isSome) then
    let (ok, s) := s.redirectRecords m
    if ok then s.redirectPage m else s
  else
    let s := s.copyPage m
    match s.codes.jobs.getLast? with
    | some j => if j.kind = .migratePage ∧ j.reads = 0 then s.copyRead j else s
    | none => s

/-- Begin the copies that waited for applying frames, or for records. -/
def State.copyWaiting (s : State) : State :=
  s.tp.migs.foldl (fun t m =>
    if m.step = 2 ∧ ¬ t.codes.jobs.any (fun j => decide (j.kind = JobKind.migratePage) && j.node == m.node && decide (j.entry = m.entry)) then t.copyOn m else t) s

/-- A target slot of a copy has verified; with the last one the next page begins. -/
def State.copyVerified (s : State) (j : Job) : State :=
  let j := { j with progs := j.progs - 1 }
  if 0 < j.progs then s.setJob j
  else
    let s := s.dropJob j.id
    match s.migOfJob j with
    | none => s
    | some m =>
      let s := if m.kind = 3 then s.countGlobal 0xCC 68 else s
      let m := { m with page := m.page + 1 }
      (s.setMig m).copyOn m

/-- A target PROGRAM of a copy has failed its verify (Table 05.13). -/
def State.copyFailed (s : State) (j : Job) : State :=
  let s := s.dropJob j.id
  match s.migOfJob j with
  | none => s
  | some m => (s.retirePlot m.tgt 1).retarget m true

/-- Does a snapshot need a new node plot for a held plot (R398), and does it wait for one (R141)? -/
def SnapSt.nodesFull (x : SnapSt) : Bool := decide (32 * x.nodePlots.length ≤ x.held.length)
def State.saveWaits (s : State) (m : Migration) : Bool :=
  match s.domOfPlot m.entry with
  | none => false
  | some d => (s.snapsOf d).any (fun k => match Tbl.find s.sw.snaps k with
    | some x => x.nodesFull && s.mayAllocate true false && decide (s.ready = 0)
    | none => false)

/-- Save the 256 L0 nodes of a held plot into a snapshot node plot (R397 step 4, R398); refused under R142 the snapshot aborts. -/
def State.saveNodes (s : State) (m : Migration) : State :=
  match s.domOfPlot m.entry with
  | none => s.setMig { m with saved := true }
  | some d =>
    (s.snapsOf d).foldl (fun t k =>
      match Tbl.find t.sw.snaps k with
      | none => t
      | some x =>
        if x.nodesFull ∧ ¬ t.mayAllocate true false then t.endSnapshot k true
        else
          let (x, t) := if x.nodesFull then
              (match t.takeSpare false with
               | some (p, t) => ({ x with nodePlots := x.nodePlots ++ [p], recs := 0 }, t.journal { JRec.of 0x32 with dom := d, entry := k, value := p })
               | none => (x, t))
            else (x, t)
          let nodes := (List.range 256).foldl (fun (a : Tbl Node) i => Tbl.put a (256 * m.entry + i) (t.node 0 (256 * m.entry + i))) x.saved
          let x := { x with saved := nodes, recs := x.recs + 1, held := x.held ++ [(m.entry, m.src, (t.entry false m.entry).epoch)] }
          { t with sw := { t.sw with snaps := Tbl.put t.sw.snaps k x } }) (s.setMig { m with saved := true })

/-- Has every snapshot walker of the domain passed a plot (R397 step 5)? -/
def State.walkerPassed (s : State) (i : Nat) : Bool :=
  match s.domOfPlot i with
  | none => true
  | some d => (s.snapsOf d).all (fun k => match Tbl.find s.sw.snaps k with
    | some x => decide (i < s.fld (QD + d * 0x20 + 0xC) 23 0 + x.walker)
    | none => true)

/-- Record 0x02 of a migration (R133): its epoch is the hour at which the copy began; for a redirect, the hour of the switch. -/
def State.journalSwitch (s : State) (m : Migration) : State :=
  let e := s.flagsSoon m.node m.entry
  let f := ({ e with migrating := false, stranded := false, degraded := s.plotOut m.tgt, cow := if m.kind = 4 then false else e.cow } : MapEntry).flags
  (s.setMig { m with step := 4, saved := true }).journal { JRec.of 0x02 with
    kind := if m.retire ∧ m.kind ≠ 4 then 2 else m.kind
    node := m.node, entry := m.entry, plotA := m.src, plotB := m.tgt, gen := m.gen, flags := f, value := if m.kind = 5 then s.hour else m.hour }

/-- MIGRATION_MAP_SWITCH (R143 steps 3 and 4): every target slot verified and no dual apply in flight: record 0x02. -/
def execMigrationMapSwitch (entry : Nat) (node : Bool) (s : State) : Answer :=
  .next (match s.migrationOf node entry with
    | none => s
    | some m =>
      if m.step = 3 ∧ m.dual = 0 then
        if m.kind = 4 ∧ ¬ m.saved ∧ s.saveWaits m then s
        else
          let s := if m.kind = 4 ∧ ¬ m.saved then s.saveNodes m else s
          if m.kind = 4 ∧ ¬ s.walkerPassed entry then s else s.journalSwitch m
      else s)

/-- Is a READ of a physical plot under way? -/
def State.plotReads (s : State) (p : Nat) : Bool :=
  s.host.fetches.any (fun f => decide (f.phys = p)) || s.codes.jobs.any (fun j => decide (j.plot = p) && decide (0 < j.reads)) ||
  s.media.chans.any (fun c => (c.2.flight.map (·.cmd) ++ c.2.queue).any (fun m => m.op.reads && decide (m.dst = p) && decide (6168 ≤ p)))

/-- MIGRATION_SOURCE_ERASE (R143 step 5): after every read of the source has returned, and every program. A source that retires, or is held by a snapshot,
is not erased. -/
def execMigrationSourceErase (plot : Nat) (s : State) : Answer :=
  .next (match s.tp.migs.find? (fun m => m.src = plot ∧ m.step = 5 ∧ ¬ m.retire ∧ m.kind ≠ 4) with
    | some m => if s.plotReads plot ∨ s.plotWrites plot ∨ (Tbl.find s.tp.erasing plot).isSome then s else s.erasePlot plot (m.charge s)
    | none => s)

/-- SPARE_ERASE (R140): a spare awaiting erase, while fewer than ready_target are erased. -/
def execSpareErase (plot : Nat) (s : State) : Answer :=
  .next (
    if (s.plotRec plot).state = 1 ∧ (Tbl.find s.tp.erasing plot).isNone ∧ s.ready < s.fld (TP + 0x14) 15 0 ∧ ¬ s.plotWrites plot ∧
        ¬ s.tp.migs.any (fun m => m.src = plot ∧ m.step = 5) then
      if s.plotOut plot then s.retirePlot plot 3
      else s.erasePlot plot (if s.ready = 0 ∧ s.tp.migQueue ≠ [] then 1 else 0)
    else s)

/-- A log plot has been erased: its erase count goes up by record 0x07 (Table 05.5), and its region goes on (R136, R157). -/
def State.logErased (s : State) (p : Nat) : State :=
  let s := if 1288 ≤ p ∧ ringPlot s.log.room = p then { s with log := { s.log with room := s.log.room + 8192 } }
    else if 1280 ≤ p ∧ p < 1288 then { s with log := { s.log with dirRoom := s.log.dirRoom + 128 } }
    else if 1024 ≤ p ∧ p < 1280 then { s with tp := { s.tp with strandFill := Tbl.del s.tp.strandFill (p - 1024) } }
    else s
  s.journalPlot p (fun r => { r with programs := r.programs + 1 })

/-- A member of a plot under erase has been erased; with the last one the plot is an erased spare (record 0x03). -/
def State.eraseDone (s : State) (p : Nat) : State :=
  match Tbl.find s.tp.erasing p with
  | none => s
  | some n =>
    if 1 < n then { s with tp := { s.tp with erasing := Tbl.put s.tp.erasing p (n - 1) } }
    else
      let s := { s with tp := { s.tp with erasing := Tbl.del s.tp.erasing p } }
      if s.tp.migs.any (fun m => decide (m.tgt = p)) then s.copyWaiting
      else if p < 6168 then s.logErased p
      else if (s.recorderIdx p).isSome then s
      else if 2000000 ≤ (s.plotSoon p).cycles then s.retirePlot p 4
      else if s.plotOut p then s.retirePlot p 3
      else s.journal { JRec.of 0x03 with plotA := p }

/-- An erase has failed its verify (R155), or its channel has gone (R514): the plot retires. DESIGN CHOICE: a log plot, for which no other can stand in
(R128), is erased again, without the members that have gone. -/
def State.eraseFail (s : State) (p cause : Nat) : State :=
  if (Tbl.find s.tp.erasing p).isNone then s
  else if p < 6168 then (if cause = 3 then s.eraseDone p else s.erasePlot p 2)
  else
    let s := { s with tp := { s.tp with erasing := Tbl.del s.tp.erasing p } }
    match s.recorderIdx p with
    | some i => (s.recorderReplace i p cause).lifeUpdate
    | none => (s.retirePlot p cause).lifeUpdate

/-! ### Lost media (R155, R156) -/

/-- Mark an entry degraded by record 0x05 and request its retire migration. -/
def State.degrade (s : State) (node : Bool) (i : Nat) : State :=
  if (s.flagsSoon node i).degraded then s
  else (s.journalFlags node i (fun e => { e with degraded := true })).requestMigration 2 node i

/-- The spares that nothing has happened to since format and that have lost a member are listed, so that they can retire. -/
def State.listLost (s : State) : State :=
  (List.range (s.tp.s0 - s.tp.freshNext)).foldl (fun (t : State) i =>
    let p := Config.formatPlot t.usable 0 (t.tp.freshNext + i)
    if t.plotOut p then t.listSpare p else t) s

/-- A spare that has a member out of service is retired with cause 0x03 (R155). -/
def State.retireSpares (s : State) : State :=
  let s := s.listLost
  (s.tp.plots.filter (fun p => decide (p.2.state ≤ 1) && decide ((s.plotSoon p.1).state ≤ 1) && s.plotOut p.1)).foldl (fun (t : State) p => t.retirePlot p.1 3) s

/-- A die or channel has gone (R156; before recovery has ended, at its end): every data and node plot with a member there, ascending, data plots first, is degraded and its retire migration
requested; event 0x310A gives how many of them cannot be moved (R142). -/
def State.mediaLost (s : State) : State :=
  if ¬ s.wb.recovered then s else
  let lost (t : State) (node : Bool) (i : Nat) : Bool := t.plotOut (t.entry node i).phys
  let data := (List.range s.dataPlots).filter (lost s false)
  let nodes := (List.range s.nodePlots).filter (lost s true)
  let s := data.foldl (fun t i => t.degrade false i) s
  let s := nodes.foldl (fun t i => t.degrade true i) s
  let s := s.retireSpares
  let gone := countIf (fun (p : Nat × PlotRec) => decide (p.2.state ≤ 1) && decide ((s.plotSoon p.1).state = 5)) s.tp.plots
  let n := data.length + nodes.length - (s.spares - gone - s.floor)
  if n = 0 then s else s.event 0x310A 0 none n 0

/-! ### Refresh escalation (R181) -/

/-- Refresh classes on channel `c`: the highest of the queued and running refreshes with a member there (R181). -/
def State.escalClass (s : State) (c : Nat) : Nat :=
  let n := s.chanCount
  let on (p : Nat) : Bool := (List.range 17).any (fun k => decide (memberChan n p k = c))
  ((s.df.queue.filter (fun q => on q.1)).map (·.2) ++ (s.df.refreshing.filter (fun q => on q.1)).map (fun q => q.2.2)).foldl max 0

/-- MC_ARB_MAP of a refresh class (Table 06.2). -/
def escalMap (k : Nat) : Word := if 3 ≤ k then 0x00FA3468 else if k = 2 then 0x00FAC458 else 0x00FAC688

/-- Firmware holds each channel's MC_ARB_MAP at the value of its refreshes, and restores the default when none is urgent (R181). -/
def State.escalate (s : State) : State :=
  (List.range s.chanCount).foldl (fun t c =>
    let k := t.escalClass c
    let was := Tbl.get (fun _ => 0) t.qs.escal c
    let now := if 2 ≤ k then k else 0
    if now = was then t
    else { (t.setReg (MC + c * 0x1000 + 8) (escalMap now)) with qs := { t.qs with escal := Tbl.set (fun _ => 0) t.qs.escal c now } }) s

/-- The refresh of a physical plot has ended (R181, R183). -/
def State.refreshOver (s : State) (plot : Nat) : State :=
  State.escalate { s with df := { s.df with
    refreshing := s.df.refreshing.filter (fun x => ¬ x.1 = plot), refreshOn := Tbl.del s.df.refreshOn plot, overdueSeen := s.df.overdueSeen.filter (fun p => ¬ p = plot) } }

/-! ### Checkpoints (R138, R278) -/

/-- Physical plots that a program of a page of an entry goes to (R145): its plot, and the target of a migration that has passed it. -/
def State.pageTargets (s : State) (node : Bool) (i page : Nat) : List Nat :=
  (s.entry node i).phys :: (match s.migrationOf node i with
    | some m => if (m.step = 2 ∧ page < m.page) ∨ m.step = 3 then [m.tgt] else []
    | none => [])

/-- Page of copy `copy` of a node (R129). -/
def nodePage (num copy : Nat) : Nat := (512 * copy + num % 8704 / 17) / 4

/-- Program both copies of a node under a version (R275), on engine 2; copies on members out of service are left out. Answers how many
PROGRAMs that makes. -/
def State.nodePrograms (s : State) (why : Nat → Why) (level i : Nat) (n : Node) (v : Version) : Nat × State :=
  let num := nodeNumber s.usable level i
  let slot := nodeSlot s.gx.nodeGen level i n v
  let put (acc : Nat × State) (pc : Nat × Nat) : Nat × State :=
    let (c, a) := acc.2.nodeAddr pc.1 num pc.2
    if acc.2.dieOut c (addrDie a) then acc
    else (acc.1 + 1, acc.2.submit c { MCmd.of .program a 1 2 (why pc.2) with data := [slot], dst := pc.1, tier := 2 })
  let places : List (Nat × Nat) := [0, 1].flatMap (fun copy => (s.pageTargets true (num / 8704) (nodePage num copy)).map (fun p => (p, copy)))
  places.foldl put (0, s)

/-- A due advance of the node key generation takes place (Table 10.6): every L0 and L1 node is programmed under the new generation. -/
def State.advanceNodeKeys (s : State) : State :=
  if ¬ s.gx.nodeGenDue then s
  else
    let g := !s.gx.nodeGen
    let s := ({ s with gx := { s.gx with nodeGen := g, nodeGenDue := false } }).persistFld (GX + 0x18) 24 24 (if g then 1 else 0)
    let (j, s) := s.newJob .redirect 0 0
    let put (lv : Nat) (acc : Nat × State) (i : Nat) : Nat × State :=
      let (k, t) := acc.2.nodePrograms (fun copy => .job j copy) lv i (Tbl.get (acc.2.freshNode lv) (acc.2.gx.table lv) i) (acc.2.nodeVersion lv i)
      (acc.1 + k, t)
    let (k, s) := (List.range (levelCount s.usable 1)).foldl (put 1) ((List.range (levelCount s.usable 0)).foldl (put 0) (0, s))
    match s.job j with | some x => s.setJob { x with progs := k } | none => s

/-- A map entry as 64 bits (Table 05.3). -/
def MapEntry.word (e : MapEntry) : Nat := e.phys * 2 ^ 40 + e.epoch % 65536 * 2 ^ 24 + e.flags * 2 ^ 16 + e.generation % 256 * 2 ^ 8 + e.wearClass % 256

/-- Numbers as the 64-byte payloads of consecutive slots, eight to a slot. -/
def wordSlots : List Nat → List (List Byte)
  | a :: b :: c :: d :: e :: f :: g :: h :: rest => [a, b, c, d, e, f, g, h].flatMap (leBytes 8) :: wordSlots rest
  | [] => []
  | rest => [padLine (rest.flatMap (leBytes 8))]

/-- The payloads of a checkpoint copy (R138 step 2): its header, the data map, the node map and the plot table. DESIGN CHOICE: the header takes one slot. -/
def State.ckptPayload (s : State) (r : CkptRun) : List (List Byte) :=
  padLine (leBytes 8 r.s ++ leBytes 8 r.start ++ leBytes 2 s.usable) ::
  wordSlots ((List.range s.dataPlots).map (fun i => (s.entry false i).word) ++ (List.range s.nodePlots).map (fun i => (s.entry true i).word) ++
    (List.range s.physPlots).map (fun p => (s.plotRec p).word))

/-- Program a page of a checkpoint plot: data slots and parity, in the geometry of R103, on engine 1, uncharged (Table 11.3). -/
def State.ckptPage (s : State) (p page : Nat) (data : List (List Byte)) : State :=
  let full := data ++ List.replicate (64 - data.length) erasedSlot
  let slots := full ++ pageParity full
  (List.range 68).foldl (fun (t : State) k =>
    let (c, a) := t.slotAddr p page k
    if 64 ≤ k ∨ k < data.length then t.submit c { MCmd.of .program a 0 1 .log with data := [slots.getD k erasedSlot], dst := p, tier := 2 } else t) s

/-- Program the copy into its plots. DESIGN CHOICE: its slots are tagged as header slots of the journal ring are, under S and the slot's index. -/
def State.ckptPrograms (s : State) (r : CkptRun) : State :=
  let pay := s.ckptPayload r
  let slots := List.zipWith (fun (i : Nat) b => logSlot i r.s b false) (List.range pay.length) pay
  (List.range (ceilDiv slots.length 64)).foldl (fun (t : State) k =>
    t.ckptPage (r.own.getD (k / 256) 0) (k % 256) ((slots.drop (64 * k)).take 64)) s

/-- The nodes of the tree snapshot: every L2, L3 and L4 node as a kind 0b01 slot (R278). -/
def State.snapSlots (s : State) : List (List Byte) :=
  [2, 3, 4].flatMap (fun lv => (List.range (levelCount s.usable lv)).map (fun i => nodeSlot s.gx.nodeGen lv i (s.node lv i) (s.nodeVersion lv i)))

/-- What the copy holds as it is written. -/
def State.ckptNow (s : State) (r : CkptRun) (at_ : Nat) : Ckpt :=
  { s := r.s, start := r.start, done := 0, crc := 0, map := s.tp.map, nodeMap := s.tp.nodeMap, plots := s.tp.plots, own := r.own
    snapAt := at_, snapLen := r.snapLen
    bumps := s.gx.bumps, l2 := s.gx.l2, l3 := s.gx.l3, l4 := s.gx.l4, crown := s.gx.crown
    eff := s.df.eff, lastDrift := s.df.last, hourly := s.df.hourly, daily := s.df.daily }

/-- Step 2 of R138 and R278: the snapshot goes into the ring in log pages of its own, the copy into its plots. -/
def State.ckptWrite (s : State) (r : CkptRun) : State :=
  let s := s.ringClose
  let c := s.ckptNow r s.log.pos
  let s := (s.snapSlots.foldl State.ringAppend s).ringClose
  State.ckptPrograms { s with tp := { s.tp with ckptRun := some { r with copy := some c } } } r

/-- A checkpoint goes on: spares are taken as they are erased (R141), each by a record 0x07; with all of them in hand, every record up to S in effect and
room in the ring, the copy is written. -/
def State.ckptPump (s : State) : State :=
  match s.tp.ckptRun with
  | none => s
  | some r =>
    if r.copy.isSome then s
    else
      let (own, s) := (List.range (s.ckptPlots - r.own.length)).foldl (fun (p : List Nat × State) _ =>
        match p.2.takeSpare false with
        | some (q, t) => (p.1 ++ [q], t.journalPlot q (fun x => { x with state := 8 }))
        | none => p) (r.own, s)
      let r := { r with own := own }
      let s := { s with tp := { s.tp with ckptRun := some r } }
      if own.length < s.ckptPlots ∨ s.tp.unverified.any (fun x => decide (x.seq ≤ r.s)) then s
      else if s.log.room < s.log.pos + 64 + r.snapLen then s.ringErase
      else s.ckptWrite r

/-- Start a checkpoint (R138 steps 1 and 2): S, the spares of the copy and the advance of the upper tree (R278). -/
def State.startCheckpoint (s : State) : State :=
  if s.tp.ckptRun.isSome ∨ s.usable = 0 ∨ ¬ s.wb.recovered then s
  else
    let s := s.advanceNodeKeys
    let seq := match s.tp.unverified.find? (fun r => r.pos.isNone) with | some r => r.seq - 1 | none => s.tp.nextSeq - 1
    let all (level : Nat) (t : Tbl Node) : Tbl Node := t.map (fun (p : Nat × Node) =>
      (p.1, ({ major := nextMajor p.2.major
               minors := ((List.range 64).filter (fun c => decide (64 * p.1 + c < levelCount s.usable (level - 1)))).map (fun c => (c, (1 : BitVec 7))) } : Node)))
    let len := levelCount s.usable 2 + levelCount s.usable 3 + levelCount s.usable 4
    State.ckptPump { s with
      gx := { s.gx with l3 := all 3 s.gx.l3, l4 := all 4 s.gx.l4, crown := all 5 s.gx.crown, bumps := s.gx.bumps + 1 }
      tp := { s.tp with ckptRun := some { s := seq, start := s.tb.ztime, own := [], snapLen := len, copy := none } } }

/-- MAP_CHECKPOINT (R138): action 0x05. -/
def execMapCheckpoint (s : State) : Answer := s.beginAction 0x05 (fun n t => if t.tp.ckptRun.isSome ∨ t.usable = 0 ∨ ¬ t.wb.recovered then t.endEntry n else t.startCheckpoint)

/-- CHECKPOINT_JOURNAL_TRIGGER (R138, R136): the ring in use exceeds half the ring, or a record waits for a log plot that may not be erased. -/
def execCheckpointJournalTrigger (s : State) : Answer :=
  .next (if ringSlots < 2 * s.journalUse ∨ s.ringStuck then s.startCheckpoint else s)

/-- A checkpoint's 1,024-byte directory record (R138 step 4): S, start and completion ztimes, CRC-64, place and length of the tree snapshot, and as much of
the plot list as fits (DESIGN CHOICE: its layout). -/
def Ckpt.directory (c : Ckpt) (recorders : List Nat) : List Byte :=
  let b := leBytes 8 c.s ++ leBytes 8 c.start ++ leBytes 8 c.done ++ leBytes 8 c.crc.toNat ++ leBytes 8 (c.snapAt % ringSlots) ++ leBytes 8 c.snapLen ++
    (c.own ++ recorders).flatMap (leBytes 3)
  b.take 1024 ++ List.replicate (1024 - b.length) 0

/-- `n` pieces of `k` bytes. -/
def chunks (k n : Nat) (b : List Byte) : List (List Byte) := (List.range n).map (fun i => (b.drop (k * i)).take k)

/-- The next of the directory's log plots is erased when only one is left. -/
def State.directoryErase (s : State) : State :=
  let p := 1280 + s.log.dirRoom / 128 % 8
  if s.log.dir + 128 < s.log.dirRoom ∨ (Tbl.find s.tp.erasing p).isSome then s else s.erasePlot p 2

/-- Program a directory record into the next log page of the directory's log plots, and erase the next of these when only one is left. -/
def State.putDirectory (s : State) (c : Ckpt) : State :=
  let n := 64 * s.log.dir
  let slots := (chunks 64 16 (c.directory s.recorderPlots)).mapIdx (fun i b => logSlot (n + i) c.s b false)
  let s := s.putLogPages 1280 (n % 65536) slots
  State.directoryErase { s with log := { s.log with dir := s.log.dir + 1 } }

/-- Does a new copy replace copy A: the one with the lower S, A where neither exists (R138)? -/
def State.replacesA (s : State) : Bool :=
  let key (c : Option Ckpt) : Nat := match c with | some x => x.s + 1 | none => 0
  decide (key s.tp.ckptA ≤ key s.tp.ckptB)

/-- The copy is in place: the crown goes to the Seed store with S (R278), and the records that the older copy has are no longer needed. -/
def State.storeCkpt (s : State) (c : Ckpt) : State :=
  if s.replacesA then { s with tp := { s.tp with ckptA := some c, ckptRun := none }, sd := { s.sd with crownLostA := false } }
  else { s with tp := { s.tp with ckptB := some c, ckptRun := none }, sd := { s.sd with crownLostB := false } }

/-- The plots of a copy that has been replaced become spares awaiting erase, each by a record 0x07. -/
def State.freeCkpt (s : State) (old : Option Ckpt) : State :=
  match old with
  | some o => o.own.foldl (fun (t : State) p => t.journalPlot p (fun r => { r with state := 1 })) s
  | none => s

/-- Records that the older copy holds are forgotten. -/
def State.forgetRecords (s : State) : State :=
  { s with tp := { s.tp with verified := s.tp.verified.filter (fun r => decide (s.ckptS.2 < r.seq)) } }

/-- Steps 3 to 5 of R138: the directory record, the crown with S, record 0x09, and the plots of the copy replaced. -/
def State.closeCheckpoint (s : State) (c : Ckpt) : State :=
  let old := if s.replacesA then s.tp.ckptA else s.tp.ckptB
  let s := ((s.putDirectory c).storeCkpt c).journal { JRec.of 0x09 with value := s.tb.ztime }
  ((s.freeCkpt old).setReg64 (TP + 0x30) c.s).forgetRecords.ringPump.endAction 0x05

/-- Is every slot of the copy, and of its tree snapshot, verified? -/
def State.ckptVerified (s : State) (c : Ckpt) : Bool :=
  c.own.all (fun p => !s.plotWrites p) && (List.range (c.snapLen / 8192 + 2)).all (fun i => !s.plotWrites (ringPlot (c.snapAt + 8192 * i)))

/-- CHECKPOINT_COMPLETE (R138 steps 3 to 5, R278, R279): every slot has verified; `crc` is the CRC-64 of the copy. -/
def execCheckpointComplete (crc : DWord) (s : State) : Answer :=
  .next (match s.tp.ckptRun.bind (fun r => r.copy) with
    | none => s
    | some c =>
      if ¬ s.ckptVerified c ∨ s.log.dirRoom ≤ s.log.dir then s else s.closeCheckpoint { c with done := s.tb.ztime, crc := crc })

/-! ### What follows a record (R137) -/

/-- The frames of a logical plot that `ok` admits are freed, as places. -/
def State.freeFrames (s : State) (i : Nat) (ok : Frame → Bool) : State :=
  let gone := s.wb.frames.filter (fun (f : Nat × Frame) => ok f.2 && decide (linePlot (lineOf s.wb.salt (f.1 / 8) f.2.tag) = i))
  gone.foldl (fun (t : State) (f : Nat × Frame) => t.freeFrame (f.1 / 8) (f.1 % 8)) s

/-- A plot has become write-protected: its failed lines are discarded, with their cached copies (R160, R21), and life is recomputed (R162). -/
def State.protectedNow (s : State) (i : Nat) : State :=
  let s := (s.failedFrames i).foldl (fun (t : State) x => t.cacheDrop false x.1) s
  (s.freeFrames i (fun f => decide (f.state = .applying) && f.failed)).lifeUpdate

/-- A stranded line is indexed: the frame that it stood in retires (R158). -/
def State.strandLive (s : State) (r : JRec) : State :=
  let line := r.strandLine
  let set := lineSet s.wb.salt line
  let s := match s.wayOf line true with
    | some w => (match s.frame set w with
      | some f => if ¬ f.failed then s else if f.progs = 0 then s.freeFrame set w else s.setFrame set w { f with failed := false }
      | none => s)
    | none => s
  s.strandSweep

/-- A map switch has become durable (R143 step 4, R148, R158). -/
def State.switchLive (s : State) (m : Migration) : State :=
  let s := if m.node then s else s.freeFrames m.entry (fun f => decide (f.state = .applying) && (decide (m.kind = 5) || f.failed))
  let old (k : Nat) : Bool := !m.node && decide (m.kind ≠ 4) && decide (k / 256 = m.src)
  let s := { s with codes := { s.codes with deltas := s.codes.deltas.filter (fun x => !old x.1), marked := s.codes.marked.filter (fun k => !old k) } }
  let s := (s.refreshOver m.src).strandSweep
  if m.kind = 4 then { s with tp := { s.tp with migs := s.tp.migs.filter (fun x => ¬ (x.node = m.node ∧ x.entry = m.entry ∧ x.src = m.src)) } }
  else if m.retire then (s.setMig { m with step := 5 }).retirePlot m.src (if s.plotOut m.src then 3 else 1)
  else s.setMig { m with step := 5 }

/-- What follows a record that has verified. -/
def State.recLive (s : State) (r : JRec) : State :=
  match r.type with
  | 0x01 =>
    (match s.tp.migs.find? (fun m => m.node = r.node ∧ m.entry = r.entry ∧ m.step = 1 ∧ m.tgt = r.plotB) with
     | some m => let m := { m with step := 2, hour := s.hour, durable := some m.tgt }
                 (s.setMig m).copyOn m
     | none => s)
  | 0x02 =>
    let s := (s.countGlobal 0xCB 1)
    (match s.tp.migs.find? (fun m => m.node = r.node ∧ m.entry = r.entry ∧ m.step = 4) with
     | none => s
     | some m => s.switchLive m)
  | 0x05 => if ¬ r.node ∧ r.flags.testBit 6 then s.protectedNow r.entry else s
  | 0x08 => s.strandLive r
  | 0x21 =>
    (match s.wb.leaves.find? (fun x : Nat × Leaf => x.2.writing && decide (x.1 / 64 = r.entry)) with
     | some (n, l) => { s with wb := { s.wb with leaves := Tbl.put s.wb.leaves n { l with progs := l.progs - 1 } } }
     | none => s)
  | 0x03 | 0x04 =>
    (({ s with tp := { s.tp with migs := s.tp.migs.filter (fun m => ¬ (m.src = r.plotA ∧ m.step = 5)) } }).lifeUpdate).retargetWaiting
  | _ => s

/-- Gorse has already changed its nodes in Rick when it appends its records (R277). -/
def recInRick (t : Nat) : Bool := decide (0x21 ≤ t ∧ t ≤ 0x25) || decide (t = 0x31)

/-! ### Wear levelling (R150 to R153) -/

/-- Fold the pending programs and the hot list into the plot table by records 0x07 (R150 to R152). -/
def State.foldWear (s : State) : State :=
  let ps := (s.tp.wear.map (·.1) ++ s.tp.hotList.map (·.1)).eraseDups
  let s := ps.foldl (fun t p => t.journalPlot p (fun r => { r with
      programs := r.programs + Tbl.get (fun _ => 0) t.tp.wear p
      hot := min (2 ^ 20 - 1) (r.hot + Tbl.get (fun _ => 0) t.tp.hotList p) })) s
  { s with tp := { s.tp with wear := [], hotFilter := [], hotList := [] } }

/-- WEAR_LEVELLING_EVALUATION (R150 to R153, R163): action 0x0A. -/
def State.levelWear (s : State) : State :=
  let s := s.foldWear.lifeUpdate
  let mean := s.meanCycles
  let delta := s.fld (TP + 0x24) 31 16 * 1024
  let batch := s.fld (TP + 0x24) 15 8
  let data := (List.range s.dataPlots).map (fun i => (false, i, (s.plotSoon (s.entry false i).phys).cycles, (s.entry false i).phys))
  let nodes := (List.range s.nodePlots).map (fun i => (true, i, (s.plotSoon (s.entry true i).phys).cycles, (s.entry true i).phys))
  let hot := ((data ++ nodes).filter (fun x => decide (mean + delta < x.2.2.1))).mergeSort (fun x y => decide (y.2.2.1 ≤ x.2.2.1))
  let cold := data.filter (fun x => decide (x.2.2.1 + delta < mean) && !decide (x.2.2.2 ∈ s.tp.wearNotIdle))
  let s := ((hot ++ cold).take batch).foldl (fun t x => t.requestMigration 1 x.1 x.2.1) s
  { s with tp := { s.tp with wearNotIdle := [], sampledSince := 0 } }

def execWearLevellingEvaluation (s : State) : Answer := s.runAction 0x0A (fun _ t => t.levelWear)

end Sys2Proof.Machine
end

