-- ==== Sys2Proof/Machine/Drift.lean ====
section
/-! DEFINITION. Machine/Drift.lean: effective age (R165 to R172), learning of die coefficients (R176), refresh (R177 to R184), margin
reads and the rewrite queue (R185, R186) and scrub (R187 to R189). -/

namespace Sys2Proof.Machine

/-! ### Effective age -/

/-- Is a media die sensor of stack `c` broken (R427)? -/
def State.stackBroken (s : State) (c : Nat) : Bool :=
  (List.range 8).any (fun d => match Tbl.find s.th.sensors (0x200 + 8 * c + d) with | some x => x.broken | none => false)

/-- DF_GAP_TEMP, and CRIT of group 3, in degrees. -/
def State.gapTemp (s : State) : Int := codeTemp (s.fld (DF + 0x10) 7 0)
def State.critMedia (s : State) : Int := codeTemp (s.fld (TH + 0x28) 23 16)

/-- The stack temperature T of an update (R166). -/
def State.stackTemp (s : State) (c : Nat) : Int :=
  if c ∈ s.df.railsOff ∨ s.df.gapNext then s.gapTemp
  else
    let t := Tbl.find s.df.tMax c
    let crit := if s.stackBroken c ∨ c ∈ s.df.broke then some s.critMedia else none
    match t, crit with
    | some a, some b => max a b
    | some a, none => a
    | none, some b => max s.gapTemp b
    | none, none => s.gapTemp

/-- Acceleration factor of a temperature (R167). -/
def State.accel (s : State) (t : Int) : Nat := (s.reg (DF + 0x800 + ((max (-128) (min 127 t)) + 128).toNat * 4)).toNat

/-- Delta E of an interval of `sec` whole seconds (R165, R168). -/
def State.deltaE (s : State) (t : Int) (sec : Nat) : Nat :=
  let d := ceilDiv (s.accel t * sec) 3600
  if s.tb.driftUnlocked then d + ceilDiv d 16384 else d

/-- One update of every stack's effective clock (R165). A channel out of service advances at DF_GAP_TEMP (Table 06.4). -/
def State.ageUpdate (s : State) : State :=
  let sec := ceilDiv (s.tb.ztime - s.df.last) 1000000000
  let s' := (List.range s.chanCount).foldl (fun t c =>
    let temp := if s.chanState c = 7 ∨ s.chanState c = 8 then s.gapTemp else s.stackTemp c
    let d := s.deltaE temp sec
    { t with df := { t.df with
      eff := Tbl.set (fun _ => 0) t.df.eff c ((Tbl.get (fun _ => 0) t.df.eff c + d) % 2 ^ 64)
      deltaPerMin := Tbl.set (fun _ => 0) t.df.deltaPerMin c (if sec = 0 then 0 else ceilDiv (d * 60) sec) } }) s
  let was := s.df.railsOff ≠ []
  let s' := { s' with
    df := { s'.df with last := s.tb.ztime, gapNext := false, railsOff := [], tMax := [], broke := [] }
    tb := { s'.tb with driftUnlocked := decide (s.tbState ≠ 2) } }
  if was then s'.event 0x4106 0 none (sec / 3600) 0 else s'

/-- EFFECTIVE_AGE_UPDATE (R165): action 0x02. -/
def execEffectiveAgeUpdate (s : State) : Answer := s.runAction 0x02 (fun _ t => t.ageUpdate)

/-- A sample put into a ring: a slot that holds the same tag keeps the smaller value (R169). -/
def putSample (t : Tbl (Nat × Nat)) (k tag e : Nat) : Tbl (Nat × Nat) :=
  match Tbl.find t k with
  | some (tag', e') => Tbl.put t k (tag, if tag' = tag then min e e' else e)
  | none => Tbl.put t k (tag, e)

/-- HOUR_BOUNDARY (R169, R174): ztime has reached a whole hour by running, not by a step: every stack's sample is taken, at a multiple of 24 hours in the
daily ring as well, after an update of action 0x02 that falls in the same tick; and the older bank of the recent-write filter becomes the current one,
cleared. DESIGN CHOICE: in A3 and Off, and before recovery has ended, no sample is taken, as of an hour that a step passes. -/
def execHourBoundary (s : State) : Answer :=
  .next (
    if ¬ s.tb.hourDue ∨ s.tb.started.any (fun p => decide (p.2 = 2)) then s
    else
      let s := { s with tb := { s.tb with hourDue := false } }
      if 3 ≤ s.stillness ∨ ¬ s.wb.recovered then s
      else
        let h := s.tb.ztime / 3600000000000
        let s := (List.range s.chanCount).foldl (fun (t : State) c =>
          let e := t.effClock c
          let hourly := putSample t.df.hourly (histKey c (h % 1024)) h e
          let daily := if h % 24 = 0 then putSample t.df.daily (histKey c (h / 24 % 1366)) (h / 24) e else t.df.daily
          { t with df := { t.df with hourly := hourly, daily := daily } }) s
        { s with df := { s.df with old := s.df.cur, cur := [] } })

/-- Does R172 apply? -/
def State.ageUncertain (s : State) : Bool := !s.timeValid

/-- AGE_UNCERTAIN_ALERT (R172): every 24 h after cold power-on while time_valid is still 0. -/
def execAgeUncertainAlert (s : State) : Answer :=
  .next (if s.ageUncertain ∧ 86400000000 ≤ s.tb.tick ∧ s.tb.tick % 86400000000 = 0 then s.event 0x4103 0 none (s.tb.tick / 3600000000) 0 else s)

/-- The learned coefficient of a die after a READ response (R176). `k` is the ladder step of the read. -/
def State.learn (s : State) (c d k : Nat) (young : Bool) (dev : Int) : State :=
  if ¬ young ∧ k ≤ 1 ∧ dev.natAbs < 64 ∧ s.flag DF 0 ∧ ¬ s.ageUncertain then
    let v : Int := max (-4096) (min 4096 (s.kDie c d + dev))
    let s := { s with df := { s.df with kdie := Tbl.set (fun _ => (0 : Int)) s.df.kdie (8 * c + d) v } }
    if v = 4096 ∨ v = -4096 then s.eventOnce (8 * c + d) 0x4102 c none c d else s
  else s

/-! ### Refresh states (R177) -/

/-- L in units of E. -/
def State.driftLimit (s : State) : Nat := s.fld (DF + 8) 15 0 * 2 ^ 20

/-- Effective age of a physical plot with an epoch (R170): the largest of its 17 members. -/
def State.effAge (s : State) (p epoch : Nat) : Nat :=
  (List.range 17).foldl (fun m k =>
    let c := memberChan s.chanCount p k
    max m (s.effClock c - s.epochSample c epoch)) 0

/-- Refresh class of ages `x` and `w`: 0 none, 1 due, 2 urgent, 3 overdue. -/
def State.refreshClass (s : State) (x w : Nat) : Nat :=
  let l := s.driftLimit
  if l ≤ x ∨ 32768 ≤ w then 3
  else if 9 * l ≤ 10 * x ∨ 29492 ≤ w then 2
  else if l * s.fld (DF + 0x0C) 7 0 ≤ 100 * x ∨ 24576 ≤ w then 1
  else if s.ageUncertain ∧ l ≤ 2 * x then 1
  else 0

/-- Order of refresh: max(x / L, w / 32,768), as a whole number. -/
def State.refreshKey (s : State) (x w : Nat) : Nat := max (x * 32768) (w * s.driftLimit)

/-- Every plot that the refresh scan evaluates, with its epoch: map entries, snapshot records, recorder plots (R178). -/
def State.agingPlots (s : State) : List (Nat × Nat) :=
  (List.range s.dataPlots).map (fun i => ((s.entry false i).phys, (s.entry false i).epoch)) ++
  (List.range s.nodePlots).map (fun i => ((s.entry true i).phys, (s.entry true i).epoch)) ++
  s.sw.snaps.flatMap (fun x => x.2.held.map (fun h => (h.2.1, h.2.2))) ++ s.tp.recorders.map (fun x => x.2)

/-- The ztime at which a plot would become urgent at the present rates (R178); none if none of them would make it so. -/
def State.urgentAt (s : State) (p epoch : Nat) : Option Nat :=
  let u := ceilDiv (9 * s.driftLimit) 10
  let byWall := (s.tb.ztime / 3600000000000 + (29492 - s.plotAge epoch)) * 3600000000000
  let byAge := (List.range 17).filterMap (fun k =>
    let c := memberChan s.chanCount p k
    let d := Tbl.get (fun _ => 0) s.df.deltaPerMin c
    if d = 0 then none else some (s.tb.ztime + ceilDiv (u - (s.effClock c - s.epochSample c epoch)) d * 60000000000))
  some (byAge.foldl min byWall)

/-- Is a physical plot under migration as a source? -/
def State.migrating (s : State) (p : Nat) : Bool := s.tp.migs.any (fun m => decide (m.src = p) && decide (m.step < 5))

/-- The refresh of a plot counts as urgent from now on (R182): its commands that still wait are neither charged nor gated. -/
def State.freeRefresh (s : State) (p : Nat) : State :=
  let ids := (s.codes.jobs.filter (fun j => decide (j.plot = p) && decide (j.kind = .refreshPage ∨ j.kind = .migratePage))).map (fun j => j.id)
  let free (m : MCmd) : MCmd := match m.why with
    | .job id _ => if id ∈ ids then { m with tier := 2 } else m
    | .fetch _ _ | .apply _ _ | .frame _ _ | .node _ _ _ _ | .dual _ _ | .erase _ _ | .verify _ _ | .log | .recorder _ | .ctl => m
  { s with media := { s.media with chans := s.media.chans.map (fun (x : Nat × Chan) => (x.1, { x.2 with queue := x.2.queue.map free })) } }

/-- The refresh scan (R178, R183, R184). -/
def State.refreshScan (s : State) : State :=
  let all := s.agingPlots.map (fun p =>
    let x := s.effAge p.1 p.2
    let w := s.plotAge p.2
    (p.1, p.2, s.refreshClass x w, s.refreshKey x w))
  let at_ (k : Nat) : Nat := countIf (fun (y : Nat × Nat × Nat × Nat) => decide (k ≤ y.2.2.1)) all
  let s := ((s.setFld (DF + 0x18) 23 0 (at_ 1)).setFld (DF + 0x1C) 23 0 (at_ 2)).setFld (DF + 0x20) 23 0 (at_ 3)
  let next := if 0 < at_ 2 then some s.tb.ztime
    else all.foldl (fun (m : Option Nat) y => match m, s.urgentAt y.1 y.2.1 with | some a, some b => some (min a b) | none, b => b | a, none => a) none
  let s := s.setReg64 (DF + 0x30) (next.getD (2 ^ 64 - 1))
  let cls (p : Nat) : Option Nat := (all.find? (fun y => y.1 = p)).map (fun y => y.2.2.1)
  let s := { s with df := { s.df with
    queue := s.df.queue.map (fun q : Nat × Nat => (q.1, max q.2 ((cls q.1).getD q.2)))
    refreshing := s.df.refreshing.map (fun q : Nat × Nat × Nat => (q.1, q.2.1, max q.2.2 ((cls q.1).getD q.2.2))) } }
  let fresh := all.filter (fun y => decide (1 ≤ y.2.2.1) && !s.df.queue.any (fun q => q.1 = y.1) && !s.df.refreshing.any (fun q => q.1 = y.1) && !s.migrating y.1)
  let sorted := fresh.mergeSort (fun y z => decide (z.2.2.2 ≤ y.2.2.2))
  let q := s.df.queue ++ sorted.map (fun y => (y.1, y.2.2.1))
  let q := q.filter (fun y => y.2 = 3) ++ q.filter (fun y => ¬ y.2 = 3)
  let s := { s with df := { s.df with queue := q } }
  let newOver := (all.filter (fun (y : Nat × Nat × Nat × Nat) => decide (y.2.2.1 = 3) && !s.df.overdueSeen.contains y.1)).map (fun y => y.1)
  let s := (newOver.take (16 - countIf (fun (m : Nat × Nat × Nat) => decide (m.1 = 0x4101) && decide (m.2.2 = s.minute)) s.ev.marks)).foldl (fun (t : State) p =>
    t.eventOnce p 0x4101 0 none p 0) s
  let s := { s with df := { s.df with overdueSeen := newOver ++ s.df.overdueSeen } }
  let s := (s.df.refreshing.filter (fun (q : Nat × Nat × Nat) => decide (2 ≤ q.2.2))).foldl (fun (t : State) q => t.freeRefresh q.1) s
  let old := s.tp.strandHour.filter (fun x =>
    decide (24576 ≤ s.plotAge x.2) || (match Tbl.find s.tp.strandIdx x.1 with
      | some q => let c := (s.strandAddr q).1
                  decide (3 * s.driftLimit ≤ 4 * (s.effClock c - s.epochSample c x.2))
      | none => false))
  let s := old.foldl (fun t x => t.restrand x.1) s
  s.escalate

/-- REFRESH_SCAN (R178): action 0x09. -/
def execRefreshScan (s : State) : Answer := s.runAction 0x09 (fun _ t => t.refreshScan)

/-! ### Jobs over a whole page -/

/-- The write-back engine's view of a page: a delta of nothing; the delta entry of a page, put and taken out. -/
def zeroDelta : List (List Byte) := List.replicate 4 erasedSlot
def State.delta (s : State) (p page : Nat) : Option Delta := Tbl.find s.codes.deltas (p * 256 + page)
def State.setDelta (s : State) (p page : Nat) (d : Delta) : State :=
  { s with codes := { s.codes with deltas := Tbl.put s.codes.deltas (p * 256 + page) d } }
def State.delDelta (s : State) (p page : Nat) : State :=
  { s with codes := { s.codes with deltas := Tbl.del s.codes.deltas (p * 256 + page) } }

/-- The entry goes to the write-back engine and is zeroed (R108). -/
def Delta.toEngine (d : Delta) : Delta := { d with engine := some d.delta, delta := zeroDelta, count := 0 }

/-- The engine releases its copy: an entry that is still zero is freed, one in which deltas have arrived stays (R108). -/
def State.releaseDelta (s : State) (p page : Nat) : State :=
  match s.delta p page with
  | none => s
  | some d => (if d.count = 0 then s.delDelta p page else s.setDelta p page { d with engine := none, parity := [] }).countGlobal 0xC5 1

/-- Is a job that reads the page, for its content or for a step 4, still waiting for slots? The engine's copy is kept for it (R108, R113). -/
def State.pageReading (s : State) (p page : Nat) : Bool :=
  s.codes.jobs.any (fun j => decide (j.plot = p) && decide (j.page = page) && decide (0 < j.reads) && !decide (j.kind = .margin))

/-- Start a page job over all 68 slots of a page: READs of those on members in service. -/
def State.pageJob (s : State) (kind : JobKind) (p page eng charge : Nat) (node : Bool) (i : Nat) : Nat × State :=
  let (j, s) := s.newJob kind p page
  let s := match s.job j with | some x => s.setJob { x with entry := i, node := node } | none => s
  let e := s.entryOf p
  (j, ((List.range 68).filter (fun k => !s.memberOut p (pageMember page k))).foldl (fun (u : State) k => u.jobRead j p page k eng charge node e) s)

/-- Page slots of a job that did not decode and whose members are in service. -/
def State.pageMissing (s : State) (j : Job) : List Nat :=
  (List.range 68).filter (fun k => (Tbl.find j.slots k).isNone && !s.memberOut j.plot (pageMember j.page k))

/-- Recover the missing slots of a page job: the node twin, or step 4. Each comes with its slot as the media is to hold it, or none for poison. -/
def State.pageRecover (s : State) (j : Job) : List (Nat × Option (List Byte)) × State :=
  let missing := s.pageMissing j
  if missing = [] then ([], s)
  else if j.node then (missing.map (fun k => (k, Tbl.find j.slots (100 + k))), s)
  else if ¬ s.flag CD 3 then (missing.map (fun k => (k, none)), s)
  else
    let (got, s) := s.solve j (missing.headD 0)
    let held (full : List (List Byte)) (k : Nat) : List Byte :=
      let b := full.getD k erasedSlot
      if k < 64 then b else s.parityHeld j.plot j.page k b
    (missing.map (fun k => (k, got.map (fun full => held full k))), s)

/-- Events and counts of the lines of a page job recovered at step 4 and of those lost (R118, R120); a parity slot that is lost sends its page to
rebuild. -/
def State.noteRecovered (s : State) (j : Job) (rs : List (Nat × Option (List Byte))) : State :=
  if j.node then s
  else rs.foldl (fun (t : State) r =>
    match r.2 with
    | some _ => if r.1 < 64 then t.noteRebuilt j.plot j.page r.1 else t
    | none => (if r.1 < 64 then t.notePoison j.plot j.page r.1 none else t).markRebuild j.plot j.page r.1) s

/-- Program slots of a page job in place, on the overwrite path. -/
def State.pageProgram (s : State) (j : Job) (slots : List (Nat × List Byte)) (eng charge : Nat) : State :=
  let s := s.setJob { j with phase := 2, progs := slots.length }
  slots.foldl (fun u k =>
    let (c, a) := u.slotAddr j.plot j.page k.1
    u.submit c { MCmd.of .program a 1 eng (.job j.id k.1) with data := [k.2], dst := j.plot, tier := charge }) s

/-! ### In-place refresh (R180) -/

/-- Charge tier of the refresh of a plot: nothing once it is urgent (R182). -/
def State.refreshTier (s : State) (p : Nat) : Nat := if s.df.refreshing.any (fun r => decide (r.1 = p) && decide (2 ≤ r.2.2)) then 2 else 0

/-- Does a refresh leave a slot as it is: an apply has programmed it since the refresh began (R180), or it is a slot of a recorder plot that nothing has
been programmed into since its erase (R443)? -/
def State.refreshSkips (s : State) (j : Job) (k : Nat) (b : List Byte) : Bool :=
  decide ((j.plot, j.page, k) ∈ s.df.applied) || (s.tp.recorders.any (fun x : Nat × (Nat × Nat) => decide (x.2.1 = j.plot)) && decide (b = erasedSlot))

/-- The parity write-back of a page within its refresh (R180 step 1): the entry goes to the engine with the new parity slots. -/
def State.refreshParity (s : State) (j : Job) (now : List (Nat × List Byte)) : State :=
  match s.delta j.plot j.page with
  | none => s
  | some d => s.setDelta j.plot j.page { d.toEngine with parity := now }

/-- A refresh page has its slots: each is programmed unchanged, the parity slots brought up to date if the page is pending; a write-back that is under way
brings them up to date itself. -/
def State.refreshOut (s : State) (j : Job) : State :=
  let missing := s.pageMissing j
  if j.node ∧ j.phase = 0 ∧ missing ≠ [] then s.twinReads j missing 1 (s.refreshTier j.plot)
  else
    let (rs, s) := s.pageRecover j
    let s := s.noteRecovered j rs
    let read (k : Nat) : Option (List Byte) := (Tbl.find j.slots k).or ((rs.find? (fun r => r.1 = k)).bind (fun r =>
      match r.2 with | some b => some b | none => if j.node ∨ k < 64 then some poisonSlot else none))
    let entry := if j.node then none else s.delta j.plot j.page
    let busy : Bool := match entry with | some d => d.engine.isSome | none => false
    let slot (k : Nat) : Option (List Byte) :=
      if j.node ∨ k < 64 then read k
      else if busy then none
      else match entry with
        | some d => (read k).map (fun b => xorBytes b (d.delta.getD (k - 64) erasedSlot))
        | none => read k
    let out := (List.range 68).filterMap (fun k => (slot k).bind (fun b => if s.refreshSkips j k b then none else some (k, b)))
    let s := if busy then s else s.refreshParity j (out.filter (fun (x : Nat × List Byte) => 64 ≤ x.1))
    s.pageProgram j out 1 (s.refreshTier j.plot)

/-- Every parity slot of a page's write-back has verified, and no job still reads the page: the entry may be released (R108). -/
def State.parityOver (s : State) (p page : Nat) : Bool :=
  (match s.delta p page with | some d => d.engine.isSome | none => false) && !s.pageReading p page &&
  !s.codes.jobs.any (fun (x : Job) => decide (x.kind = .parityWb ∨ x.kind = .refreshPage) && decide (x.plot = p) && decide (x.page = page))

/-- A page of a refresh is done: its parity write-back releases the entry. -/
def State.refreshPageDone (s : State) (j : Job) : State :=
  let s := s.dropJob j.id
  if s.parityOver j.plot j.page then s.releaseDelta j.plot j.page else s

/-- Does an in-place refresh stop before its next page (R405, Table 15.1): that of a plot neither urgent nor overdue in A1, any in A2 and A3? -/
def State.refreshStops (s : State) (p : Nat) : Bool := decide (2 ≤ s.stillness) || (decide (s.stillness = 1) && decide (s.refreshTier p ≠ 2))

/-- Refresh the pages of a plot from `page` on, as far as nothing has to be waited for. -/
def State.refreshPages : Nat → State → Nat → Nat → Bool → Nat → State
  | 0, s, _, _, _, _ => s
  | n + 1, s, plot, page, node, i =>
    if 256 ≤ page then s
    else if s.refreshStops plot then { s with df := { s.df with refreshOn := Tbl.put s.df.refreshOn plot page } }
    else
      let (j, s) := s.pageJob .refreshPage plot page 1 (s.refreshTier plot) node i
      let go (t : State) : State := match t.job j with | some x => if x.reads = 0 ∧ x.phase < 2 then t.refreshOut x else t | none => t
      let s := go (go s)
      match s.job j with
      | some x => if x.reads = 0 ∧ x.progs = 0 then State.refreshPages n (s.refreshPageDone x) plot (page + 1) node i else s
      | none => s

/-- The slots of a refresh page are back. -/
def State.refreshRead (s : State) (j : Job) : State :=
  let s := s.refreshOut j
  match s.job j.id with
  | some x => if x.reads = 0 ∧ x.progs = 0 then State.refreshPages 256 (s.refreshPageDone x) j.plot (j.page + 1) j.node j.entry else s
  | none => s

/-- A slot of a refresh page has verified; with the last one the next page begins. -/
def State.refreshVerified (s : State) (j : Job) : State :=
  let s := s.countGlobal 0xCC 1
  let j := { j with progs := j.progs - 1 }
  if 0 < j.progs then s.setJob j
  else State.refreshPages 256 (s.refreshPageDone j) j.plot (j.page + 1) j.node j.entry

/-- Refresh a physical plot in place, from a page on (R180). -/
def State.refreshFrom (s : State) (plot page : Nat) : State :=
  let (node, i) := (s.ownerOf plot).getD (false, 0)
  State.refreshPages 256 { s with df := { s.df with refreshOn := Tbl.del s.df.refreshOn plot } } plot page node i

/-- Refresh a physical plot in place, from page 0. -/
def State.refreshInPlace (s : State) (plot : Nat) : State := s.refreshFrom plot 0

/-- The refresh of physical plot `plot`, queued with urgency `u`, begins: as a migration of kind 0x3 where spares allow and the plot is not held by a
snapshot, else in place from page 0 (R179, R180). -/
def State.beginRefresh (s : State) (plot u : Nat) : State :=
  let s := { s with df := { s.df with queue := s.df.queue.filter (fun x => ¬ x.1 = plot), refreshing := s.df.refreshing ++ [(plot, s.hour, u)] } }
  match s.ownerOf plot with
  | some (node, i) =>
    if s.fld (DF + 0x0C) 31 8 ≤ s.ready ∧ s.mayAllocate false false then (s.requestMigration 3 node i).escalate
    else (s.refreshInPlace plot).escalate
  | none => (s.refreshInPlace plot).escalate

/-- IN_PLACE_REFRESH (R179, R180; R405): a refresh that stands at a page goes on, or one from the queue begins. -/
def execInPlaceRefresh (plot : Nat) (s : State) : Answer :=
  .next (match s.df.queue.find? (fun q => q.1 = plot) with
    | none => (match Tbl.find s.df.refreshOn plot with
      | some page => if s.refreshStops plot then s else s.refreshFrom plot page
      | none => s)
    | some q => if 2 ≤ s.stillness ∨ (s.stillness = 1 ∧ q.2 < 2) then s else s.beginRefresh plot q.2)

/-- A held plot's new epoch goes into its snapshot record (R179). -/
def State.renewHeld (s : State) (plot epoch : Nat) : State :=
  let renew (x : SnapSt) : SnapSt :=
    { x with
      recs := if x.held.any (fun h : Nat × Nat × Nat => h.2.1 = plot) then x.recs + 1 else x.recs
      held := x.held.map (fun h : Nat × Nat × Nat => if h.2.1 = plot then (h.1, h.2.1, epoch) else h) }
  { s with sw := { s.sw with snaps := s.sw.snaps.map (fun (x : Nat × SnapSt) => (x.1, renew x.2)) } }

/-- The refresh `r` of a physical plot has ended: record 0x06 sets the epoch to the hour of the start (R180). -/
def State.endRefresh (s : State) (plot : Nat) (r : Nat × Nat × Nat) : State :=
  let s := { s with df := { s.df with applied := s.df.applied.filter (fun x => ¬ x.1 = plot) } }
  let s := match s.ownerOf plot with
    | some (node, i) => s.journal { JRec.of 0x06 with node := node, entry := i, plotA := plot, value := r.2.1 }
    | none =>
      let s := s.renewHeld plot r.2.1
      (match s.tp.recorders.find? (fun x : Nat × (Nat × Nat) => x.2.1 = plot) with
       | some x => s.journal { JRec.of 0x06 with gen := 1, entry := x.1, plotA := plot, value := r.2.1 }
       | none => s)
  s.refreshOver plot

/-- Has the refresh of a plot been asked for as a migration that has not started? -/
def State.refreshAsked (s : State) (p : Nat) : Bool := s.tp.migQueue.any (fun q => decide (q.1 = 3) && decide ((s.entry q.2.1 q.2.2).phys = p))

/-- IN_PLACE_REFRESH_COMPLETE (R180): the last page has verified. -/
def execInPlaceRefreshComplete (plot : Nat) (s : State) : Answer :=
  .next (match s.df.refreshing.find? (fun r => r.1 = plot) with
    | none => s
    | some r =>
      if s.codes.jobs.any (fun j => decide (j.kind = JobKind.refreshPage) && decide (j.plot = plot)) ∨ s.migrating plot ∨ (Tbl.find s.df.refreshOn plot).isSome ∨ s.refreshAsked plot then s
      else s.endRefresh plot r)

/-! ### The start of a migration (R142, R143, R147, R179) -/

/-- What becomes of a request that R142 refuses: a snapshot copy aborts its snapshot (R399); a refresh goes in place (R179, Table 06.4); a retire request
stays, while the plot's held lines become stranded (R156, R158, R159); a wear migration is dropped. -/
def State.migrationRefused (s : State) (kind : Nat) (node : Bool) (i : Nat) : State :=
  if kind = 2 then (if node then s else s.strandFrames i)
  else
    let s := { s with tp := { s.tp with migQueue := s.tp.migQueue.erase (kind, node, i) } }
    if kind = 4 then
      (match s.domOfPlot i with
       | some d => (s.snapsOf d).foldl (fun t k => t.endSnapshot k true) s
       | none => s)
    else if kind = 3 then s.refreshInPlace (s.entry node i).phys
    else s

/-- A request for a plot already under migration (R147): a retire request changes the target of a migration still before step 4, whose source then retires;
any other waits. -/
def State.requestBehind (s : State) (kind : Nat) (m : Migration) : State :=
  if kind = 2 ∧ m.step < 4 ∧ 0 < s.ready then
    State.retarget { s with tp := { s.tp with migQueue := s.tp.migQueue.erase (2, m.node, m.entry) } } { m with retire := true } (decide (m.step = 0))
  else s

/-- MIGRATION_START (R143, R147): a requested migration takes its target and step 1. In A1 no wear migration starts (R405), in A2 and A3 and on the way
there none. -/
def execMigrationStart (kind entry : Nat) (node : Bool) (s : State) : Answer :=
  .next (
    if (kind, node, entry) ∈ s.tp.migQueue ∧ s.stillness < 2 ∧ ¬ (kind = 1 ∧ s.stillness = 1) then
      match s.migrationOf node entry with
      | some m => s.requestBehind kind m
      | none =>
        if s.fld (TP + 0x28) 8 0 ≤ s.migsActive then s
        else if ¬ s.mayAllocate (decide (kind = 4)) false then s.migrationRefused kind node entry
        else
          let cold := decide (kind = 1) && decide ((s.plotRec (s.entry node entry).phys).cycles + 1 ≤ s.fld (TP + 0x48) 20 0)
          match s.takeSpare cold with
          | none => s
          | some (p, s) => s.beginMigration kind node entry p
    else s)

/-! ### Rewrite queue (R186) -/

/-- One slot is read through the ladder, to be programmed unchanged on engine 1 (R118, R186). A parity slot whose page is being written back is left to
that. -/
def State.rewriteSlot (s : State) (p page sl : Nat) : State :=
  let (node, i) := (s.ownerOf p).getD (false, 0)
  let busy : Bool := match s.delta p page with | some d => d.engine.isSome | none => false
  if s.memberOut p (pageMember page sl) ∨ (64 ≤ sl ∧ ¬ node ∧ busy) then s
  else
    let (j, s) := s.newJob .rewrite p page
    let s := match s.job j with | some x => s.setJob { x with entry := i, node := node, weak := [sl] } | none => s
    let s := s.jobRead j p page sl 1 0 node (s.entryOf p)
    match s.job j with
    | some x => if x.reads = 0 then s.dropJob j else s
    | none => s

/-- REWRITE_QUEUE_SERVICE: the oldest queued slot is taken (not in A1, A2 and A3, R405). -/
def execRewriteQueueService (s : State) : Answer :=
  .next (match s.df.rewrite with
    | [] => s
    | (p, page, sl) :: rest =>
      if 1 ≤ s.stillness then s else State.rewriteSlot { s with df := { s.df with rewrite := rest } } p page sl)

/-- A slot of the rewrite queue is programmed. -/
def State.rewriteOut (s : State) (j : Job) (sl : Nat) (b : List Byte) : State :=
  ((s.bump (DF + 0x28) 31 0 1).countGlobal 0xCF 1).pageProgram j [(sl, b)] 1 0

/-- A slot of the rewrite queue is lost: a line is programmed as a poison slot (R120); of a node slot, or a parity slot, there is nothing to program. -/
def State.rewriteLost (s : State) (j : Job) (sl : Nat) : State :=
  let s := s.noteRecovered j [(sl, none)]
  if j.node ∨ 64 ≤ sl then s.dropJob j.id else s.pageProgram j [(sl, poisonSlot)] 1 0

/-- A rewrite's step 4 has its reads (R116). -/
def State.rewriteSolve (s : State) (j : Job) (sl : Nat) : State :=
  let (got, s) := s.solve j sl
  match got with
  | some full =>
    let b := full.getD sl erasedSlot
    let held := if sl < 64 then b else s.parityHeld j.plot j.page sl b
    (s.noteRecovered j [(sl, some held)]).rewriteOut j sl held
  | none => s.rewriteLost j sl

/-- A rewrite's reads are back: programmed, or step 4 of its page is read first. -/
def State.rewriteRead (s : State) (j : Job) : State :=
  let sl := j.weak.headD 0
  match Tbl.find j.slots sl with
  | some b => s.rewriteOut j sl b
  | none =>
    if j.node then
      if j.phase = 0 then
        let t := s.twinReads j [sl] 1 0
        (match t.job j.id with
         | some x => if 0 < x.reads then t else (match Tbl.find x.slots (100 + sl) with | some b => t.rewriteOut x sl b | none => t.rewriteLost x sl)
         | none => t)
      else match Tbl.find j.slots (100 + sl) with
        | some b => s.rewriteOut j sl b
        | none => s.rewriteLost j sl
    else if j.phase = 0 then
      if s.marked j.plot j.page ∨ ¬ s.flag CD 3 then s.rewriteLost j sl
      else
        let t := (s.setJob { j with phase := 1 }).stepFourReads j.id j.plot j.page 1 0 (s.entryOf j.plot) ((List.range 68).filter (fun k => k ≠ sl))
        (match t.job j.id with | some x => if 0 < x.reads then t else t.rewriteSolve x sl | none => t)
    else s.rewriteSolve j sl

/-! ### Margin reads (R185) -/

/-- The next page of a margin sweep: MARGIN_READ at both offsets of every slot of the page. -/
def State.marginPage (s : State) (p page : Nat) : State :=
  let (j, s) := s.newJob .margin p page
  let (node, i) := (s.ownerOf p).getD (false, 0)
  let e := s.entryOf p
  let off := s.fld (DF + 0x14) 3 0
  let s := match s.job j with | some x => s.setJob { x with entry := i, node := node } | none => s
  ((List.range 68).filter (fun k => !s.memberOut p (pageMember page k))).foldl (fun u k =>
    let (c, a, set, _) := u.slotRead p page k node e
    let u := match u.job j with | some x => u.setJob { x with reads := x.reads + 2 } | none => u
    let u := u.submit c (MCmd.of .marginRead a (set + off * 16) 0 (.job j k))
    u.submit c (MCmd.of .marginRead a (set + (16 - off) % 16 * 16) 0 (.job j k))) s

/-- Go on with a margin sweep: the next plot that is neither queued for refresh nor under migration; at the end action 0x08 ends. -/
def State.marginOn : Nat → State → State
  | 0, s => s
  | n + 1, s =>
    match s.df.margin with
    | none => s
    | some [] => ({ s with df := { s.df with margin := none } }).endAction 0x08
    | some (p :: ps) =>
      let s := { s with df := { s.df with margin := some ps } }
      if s.df.queue.any (fun q => q.1 = p) ∨ s.df.refreshing.any (fun q => q.1 = p) ∨ s.migrating p then State.marginOn n s
      else s.marginPage p 0

/-- The plots of a margin sweep: sweep_plots * 256 data and node plots in descending order of age (R185). -/
def State.marginPlots (s : State) : List Nat :=
  let all := (List.range s.dataPlots).map (fun i => (s.entry false i)) ++ (List.range s.nodePlots).map (fun i => (s.entry true i))
  let keyed := all.map (fun e => (e.phys, s.refreshKey (s.effAge e.phys e.epoch) (s.plotAge e.epoch)))
  let order := (keyed.mergeSort (fun x y => decide (y.2 ≤ x.2))).map (fun (x : Nat × Nat) => x.1)
  order.take (s.fld (DF + 0x14) 31 16 * 256)

/-- MARGIN_READ_SWEEP (R185): action 0x08. -/
def execMarginReadSweep (s : State) : Answer :=
  s.beginAction 0x08 (fun n t =>
    if t.df.margin.isSome then t.endEntry n
    else State.marginOn (t.marginPlots.length + 1) { t with df := { t.df with margin := some t.marginPlots } })

/-- A margin read of a job's slot has come back with a count of weak cells. -/
def State.marginSlot (s : State) (j : Job) (sl weak : Nat) : State :=
  let s := s.countGlobal 0xCE 1
  let s := if s.fld (DF + 0x14) 15 8 < weak ∧ s.flag DF 3 then s.requeue j.plot j.page sl else s
  let j := { j with reads := j.reads - 1 }
  if 0 < j.reads then s.setJob j
  else
    let s := s.dropJob j.id
    if j.page < 255 then s.marginPage j.plot (j.page + 1)
    else match s.df.margin with
      | some l => State.marginOn (l.length + 1) s
      | none => s

/-! ### Scrub (R187 to R189) -/

/-- SCRUB_PASS_START (R187): action 0x07. -/
def execScrubPassStart (s : State) : Answer :=
  s.beginAction 0x07 (fun n t => if t.df.scrub.isSome then t.endEntry n else { t with df := { t.df with scrub := some (0, 0) } })

/-- Move the scrub cursor to the next page; the end of the pass counts it and ends action 0x07. -/
def State.scrubNext (s : State) (wholePlot : Bool) : State :=
  match s.df.scrub with
  | none => s
  | some (i, page) =>
    let (i, page) := if wholePlot ∨ 255 ≤ page then (i + 1, 0) else (i, page + 1)
    let total := s.dataPlots + s.nodePlots
    if total ≤ i then
      let s := { s with df := { s.df with scrub := none } }
      ((s.setFld (DF + 0x2C) 15 0 0).bump (DF + 0x2C) 31 16 1).endAction 0x07
    else
      ({ s with df := { s.df with scrub := some (i, page) } }).setFld (DF + 0x2C) 15 0 ((i * 256 + page) * 65536 / (total * 256))

/-- The column check (R188) of a page whose 68 slots all decoded: the page with every column of at most 2 symbol errors corrected, and whether every column
is a codeword then. -/
def columnCheck (slots : List (List Byte)) : List (List Byte) × Bool :=
  let cols := (List.range 80).map (fun n => slots.map (fun sl => (sl.getD n 0).toNat))
  let fixed := cols.map (fun w => if syndromes 4 w = [0, 0, 0, 0] then (w, true) else match decodeWord 4 w [] with | some v => (v, true) | none => (w, false))
  ((List.range 68).map (fun k => fixed.map (fun c => BitVec.ofNat 8 (c.1.getD k 0))), fixed.all (fun c => c.2))

/-- What a column check has found (R188): the slots of corrected columns are entered in the rewrite queue, with event 0x4105, and programmed as corrected
where they are codewords of the line code; a column beyond correction sends the page to rebuild. -/
def State.columnsFound (s : State) (j : Job) (slots good : List (List Byte)) (ok : Bool) : State :=
  let bad := (List.range 68).filter (fun k => good.getD k erasedSlot ≠ slots.getD k erasedSlot)
  let s := bad.foldl (fun (t : State) k =>
    let b := good.getD k erasedSlot
    let t := t.requeue j.plot j.page k
    if lineDecode b [] = some b then t.looseProgram j.plot j.page k b 1 else t) s
  let s := if bad = [] then s else s.event 0x4105 0 none j.plot (j.page * 256 + bad.headD 0)
  if ok then s else s.markRebuild j.plot j.page 0

/-- Does the column check cover a scrub page: a data page, not parity-pending, not marked, with DF_CTL.col_check_en 1 (R188)? -/
def State.columnsDue (s : State) (j : Job) : Bool :=
  !j.node && (s.delta j.plot j.page).isNone && !s.marked j.plot j.page && s.flag DF 2 && (List.range 68).all (fun k => (Tbl.find j.slots k).isSome)

/-- A scrub page has its slots back: one that failed step 3 is recovered by step 4 and rewritten (R188, R118, R120). -/
def State.scrubRead (s : State) (j : Job) : State :=
  let missing := s.pageMissing j
  if j.node ∧ j.phase = 0 ∧ missing ≠ [] then s.twinReads j missing 0 0
  else
    let due := s.columnsDue j
    let (rs, s) := s.pageRecover j
    let s := (s.dropJob j.id).noteRecovered j rs
    let s := rs.foldl (fun (t : State) r =>
      match r.2 with
      | some b => t.looseProgram j.plot j.page r.1 b 1
      | none => if j.node ∨ 64 ≤ r.1 then t else t.looseProgram j.plot j.page r.1 poisonSlot 1) s
    let s := if due then
        let slots := (List.range 68).map (fun k => (Tbl.find j.slots k).getD erasedSlot)
        let (good, ok) := columnCheck slots
        s.columnsFound j slots good ok
      else s
    s.scrubNext false

/-- The slots of the page at the scrub cursor are read on engine 0; a plot under migration or refresh is skipped (R187). -/
def State.scrubPage (s : State) (i page : Nat) : State :=
  let node := decide (s.dataPlots ≤ i)
  let k := if node then i - s.dataPlots else i
  let p := (s.entry node k).phys
  if s.migrating p ∨ s.df.refreshing.any (fun q => q.1 = p) then s.scrubNext true
  else
    let (j, s) := s.pageJob .scrubPage p page 0 0 node k
    let s := s.countGlobal 0xCD 68
    match s.job j with
    | some x => if x.reads = 0 then s.scrubRead x else s
    | none => s

/-- SCRUB_PACE (R187; not in A1, A2 and A3, R405). -/
def execScrubPace (s : State) : Answer :=
  .next (match s.df.scrub with
    | none => s
    | some (i, page) =>
      if 1 ≤ s.stillness ∨ s.codes.jobs.any (fun j => decide (j.kind = JobKind.scrubPage)) then s else s.scrubPage i page)

end Sys2Proof.Machine
end

