-- ==== Sys2Proof/Machine/Parity.lean ====
section
/-! DEFINITION. Machine/Parity.lean: the parity deltas of applies, their write-back, overruns and page rebuilds (04, R105 to R113). -/

namespace Sys2Proof.Machine

/-- A write-back has its parity slots: each is programmed as decoded xor the engine's copy; one in service that did not decode sends
the page to rebuild. -/
def State.parityRead (s : State) (j : Job) : State :=
  let live := [64, 65, 66, 67].filter (fun k => !s.memberOut j.plot (pageMember j.page k))
  match s.delta j.plot j.page with
  | none => s.dropJob j.id
  | some d =>
    if live.any (fun (k : Nat) => (Tbl.find j.slots k).isNone) then ((s.dropJob j.id).delDelta j.plot j.page).markRebuild j.plot j.page 64
    else
      let dl := d.engine.getD zeroDelta
      let now := live.map (fun k => (k, xorBytes ((Tbl.find j.slots k).getD erasedSlot) (dl.getD (k - 64) erasedSlot)))
      let s := (s.setDelta j.plot j.page { d with parity := now }).pageProgram { j with weak := [] } now 2 2
      if live = [] then s.dropJob j.id else s

/-- Start the write-back of a page's entry (R108): the entry goes to the engine and is zeroed; the parity slots on members in service
are read on engine 2. Nothing while one runs, while the page is marked for rebuild, or while a job programs the page's parity slots as it read them. DESIGN CHOICE: until a
delta arrives the zeroed entry keeps its first field, on which the sweep and the overrun count go on (R108, R110). -/
def State.startWriteback (s : State) (p page : Nat) : State :=
  match s.delta p page with
  | none => s
  | some d =>
    if d.engine.isSome ∨ s.marked p page ∨
        s.codes.jobs.any (fun j => decide (j.plot = p) && decide (j.page = page) && decide (j.kind = .refreshPage ∨ j.kind = .rewrite ∨ j.kind = .rebuild)) then s
    else
      let s := s.setDelta p page d.toEngine
      let (j, s) := s.newJob .parityWb p page
      let e := s.entryOf p
      let s := ([64, 65, 66, 67].filter (fun k => !s.memberOut p (pageMember page k))).foldl (fun (t : State) k => t.jobRead j p page k 2 2 false e) s
      match s.job j with
      | some x => if x.reads = 0 then s.parityRead x else s
      | none => s

/-- Start the write-back of the entry with the oldest first field among those not being written back. -/
def State.oldestWriteback (s : State) : State :=
  let l := s.codes.deltas.filter (fun (x : Nat × Delta) => x.2.engine.isNone)
  match l with
  | [] => s
  | x :: xs =>
    let y := xs.foldl (fun (b x : Nat × Delta) => if x.2.first < b.2.first then x else b) x
    s.startWriteback (y.1 / 256) (y.1 % 256)

/-- Record the parity delta of a data slot whose content goes from `old` to `new` (R106): nothing where they are equal or the page is
marked for rebuild. Above hiwater the oldest entry is written back (R109). -/
def State.recordDelta (s : State) (p page sl : Nat) (old new : List Byte) : State :=
  if old = new ∨ s.marked p page then s
  else
    let x := parityOf sl (xorBytes old new)
    let s := s.countGlobal 0xC4 1
    let s := match s.delta p page with
      | some d =>
        s.setDelta p page { d with delta := List.zipWith xorBytes d.delta x, count := satAdd d.count 1 (2 ^ 32 - 1), first := if d.count = 0 then s.tb.ztime else d.first }
      | none => s.setDelta p page { delta := x, count := 1, first := s.tb.ztime, engine := none, parity := [] }
    if s.fld (CD + 4) 23 16 * 256 < s.codes.deltas.length then s.oldestWriteback else s

/-- Would recording a delta for a page need an entry that may not be allocated now (R111, R203)? -/
def State.deltaWait (s : State) (p page : Nat) : Bool :=
  (s.delta p page).isNone && !s.marked p page && decide (min 65536 s.deltaLimit ≤ s.codes.deltas.length)

/-- PARITY_WRITE_BACK_SWEEP (R109): action 0x0B. -/
def execParityWriteBackSweep (s : State) : Answer :=
  s.runAction 0x0B (fun _ t =>
    (t.codes.deltas.filter (fun (x : Nat × Delta) => decide (t.fld (CD + 4) 15 0 * 500000 < t.tb.ztime - x.2.first))).foldl
      (fun u (x : Nat × Delta) => u.startWriteback (x.1 / 256) (x.1 % 256)) t)

/-- PARITY_ENTRY_AGE_TRIGGER (R109): an entry has reached 0.8 of the window, or the drain of an entry to A2 or A3
writes every entry back (Tables 15.4, 15.6). -/
def execParityEntryAgeTrigger (plot page : Nat) (s : State) : Answer :=
  .next (match s.delta plot page with
    | some d => if s.fld (CD + 4) 15 0 * 800000 ≤ s.tb.ztime - d.first ∨ s.entering then s.startWriteback plot page else s
    | none => s)

/-- PARITY_OVERRUN (R110): an entry is still present when its first field is a whole window old. -/
def execParityOverrun (plot page : Nat) (s : State) : Answer :=
  .next (match s.delta plot page with
    | some d =>
      if s.fld (CD + 4) 15 0 * 1000000 ≤ s.tb.ztime - d.first then (s.bump (CD + 0x3C) 31 0 1).eventOnce plot 0x2103 0 none plot (page * 256) else s
    | none => s)

/-- A parity PROGRAM of a write-back has failed its verify: the engine keeps its copy, which stands for the slot (R108, R113). -/
def State.parityKept (s : State) (j : Job) (item : Nat) : State := s.setJob { j with failed := item :: j.failed }

/-! ### Page rebuild (R112) -/

/-- A rebuild has its data slots: what did not decode becomes a poison slot (R120), and every parity slot in service is programmed. -/
def State.rebuildRead (s : State) (j : Job) : State :=
  let lost := (List.range 64).filter (fun k => (Tbl.find j.slots k).isNone)
  let (out, bad) := lost.partition (fun k => s.memberOut j.plot (pageMember j.page k))
  let s := out.foldl (fun (t : State) k => t.event 0x2102 0 none j.plot (j.page * 256 + k)) s
  let s := bad.foldl (fun (t : State) k => t.notePoison j.plot j.page k none) s
  let data := (List.range 64).map (fun k => (Tbl.find j.slots k).getD poisonSlot)
  let par := pageParity data
  let live := [64, 65, 66, 67].filter (fun k => !s.memberOut j.plot (pageMember j.page k))
  s.pageProgram j (bad.map (fun k => (k, poisonSlot)) ++ live.map (fun k => (k, par.getD (k - 64) erasedSlot))) 2 2

/-- Has an apply to the page a PROGRAM in flight? -/
def State.applyBusy (s : State) (plot page : Nat) : Bool :=
  s.wb.frames.any (fun f : Nat × Frame =>
    decide (f.2.state = .applying) && decide (0 < f.2.progs) &&
    (let line := lineOf s.wb.salt (f.1 / 8) f.2.tag
     decide (s.ownerOf plot = some (false, linePlot line)) && decide (linePage line = page)))

/-- The rebuild of a marked page begins: its delta entry and write-back are dropped, and the data slots on members in service are read on engine 2
(R112). -/
def State.beginRebuild (s : State) (plot page : Nat) : State :=
  let k := plot * 256 + page
  let s := { s with codes := { s.codes with marked := s.codes.marked.erase k, rebuilding := s.codes.rebuilding ++ [k] } }
  let s := s.delDelta plot page
  let s := { s with codes := { s.codes with jobs := s.codes.jobs.filter (fun j => ¬ (j.kind = JobKind.parityWb ∧ j.plot = plot ∧ j.page = page)) } }
  let (j, s) := s.newJob .rebuild plot page
  let s := match s.job j, s.ownerOf plot with | some x, some (node, i) => s.setJob { x with entry := i, node := node } | _, _ => s
  let e := s.entryOf plot
  let s := ((List.range 64).filter (fun k => !s.memberOut plot (pageMember page k))).foldl (fun (t : State) k => t.jobRead j plot page k 2 2 false e) s
  match s.job j with
  | some x => if x.reads = 0 then s.rebuildRead x else s
  | none => s

/-- PAGE_REBUILD_START (R112): once no apply to the marked page has a PROGRAM in flight. -/
def execPageRebuildStart (plot page : Nat) (s : State) : Answer :=
  .next (if plot * 256 + page ∈ s.codes.marked ∧ ¬ s.applyBusy plot page then s.beginRebuild plot page else s)

/-- The rebuild `j` is over: event 0x2105, and a mark that waited for room in the list is made. -/
def State.endRebuild (s : State) (j : Job) : State :=
  let s := s.dropJob j.id
  let s := { s with codes := { s.codes with rebuilding := s.codes.rebuilding.erase (j.plot * 256 + j.page) } }
  (((s.bump (CD + 0x38) 31 0 1).countGlobal 0xC6 1).event 0x2105 0 none j.plot (j.page * 256)).markNext

/-- PAGE_REBUILD_COMPLETE (R112): every slot of the rebuild has verified. -/
def execPageRebuildComplete (plot page : Nat) (s : State) : Answer :=
  .next (match s.codes.jobs.find? (fun j => decide (j.kind = JobKind.rebuild) && decide (j.plot = plot) && decide (j.page = page)) with
    | none => s
    | some j => if plot * 256 + page ∈ s.codes.rebuilding ∧ j.phase = 2 ∧ j.progs = 0 then s.endRebuild j else s)

end Sys2Proof.Machine
end

