-- ==== Sys2Proof/Machine/Tree.lean ====
section
/-! DEFINITION. Machine/Tree.lean: write-back of dirty counter leaves, regrafts, key rotation and the unclean sweep (10, R282 to R294;
07, R202). -/

namespace Sys2Proof.Machine

/-! ### Which engines run, and which pages are held -/

/-- Do parity and leaf write-back run: recovery complete, no flush, and not in A2, A3 or Off (Table 15.1); the drain of an entry to A2 or
A3 is their work (Tables 15.4, 15.6). -/
def State.writeEngines (s : State) : Bool := s.wb.recovered && !s.flag (WP + 0x2C) 0 && (decide (s.stillness < 2) || s.entering)

/-- Does a snapshot migration or a redirect have a logical plot (R397 step 2, Table 05.13)? -/
def State.plotTaken (s : State) (i : Nat) : Bool :=
  s.tp.migQueue.any (fun q => decide (q = (4, false, i))) ||
  (match s.migrationOf false i with
   | some m => decide (m.kind = 4 ∨ m.kind = 5)
   | none => false)

/-- Do programs of a page wait: its copy is in progress, a map switch is not yet durable, a job that programs slots of the page as it read them is under
way, or a step 4 of it is (R124)? A rotation job in phase 3 has not yet begun on its page. -/
def State.pageHeld (s : State) (node : Bool) (i page : Nat) : Bool :=
  (match s.migrationOf node i with
   | some m => (decide (m.step = 2) && decide (m.page = page)) || decide (m.step = 4)
   | none => false) ||
  s.codes.jobs.any (fun j => decide (j.plot = (s.entry node i).phys) && decide (j.page = page) &&
    (match j.kind with
     | .rotate => decide (j.phase < 3)
     | .refreshPage | .rewrite | .reconstruct _ | .scrubPage | .rebuild | .regraft _ _ | .redirect | .applyRead _ _ | .sweep _ => true
     | .migratePage => decide (j.phase = 1)
     | .parityWb | .scan _ | .margin | .restrand _ | .strand _ _ => false)) ||
  decide ((s.entry node i).phys * 256 + page ∈ s.codes.rebuilding)

/-- Does a line lie below a node that is being regrafted, and does a node lie below one (R285)? -/
def State.lineRegraft (s : State) (line : Nat) : Bool := s.gx.regrafts.any (fun r => decide (line / 64 ^ (r.level + 1) = r.index))
def State.underRegraft (s : State) (level i : Nat) : Bool :=
  s.gx.regrafts.any (fun r => decide (level < r.level) && decide (i / 64 ^ (r.level - level) = r.index))

/-! ### Node programs -/

/-- May the copies of a node be programmed now? -/
def State.nodeFree (s : State) (level i : Nat) : Bool :=
  let num := nodeNumber s.usable level i
  !(s.pageHeld true (num / 8704) (nodePage num 0)) && !(s.pageHeld true (num / 8704) (nodePage num 1))

/-! ### Leaf write-back (R283, R284) -/

/-- Advance minor `i` of a node `k` times. -/
def State.advanceBy (s : State) (level a i : Nat) : Nat → State
  | 0 => s
  | k + 1 => State.advanceBy (s.advanceMinor level a i) level a i k

/-- The counter of an upper node is at its end (Table 10.6): the node key generation is to advance. -/
def State.upperEnd (s : State) (level i : Nat) : State :=
  if majorEnd (s.node level i).major ∧ ¬ s.gx.nodeGenDue then
    ({ s with gx := { s.gx with nodeGenDue := true } }).event 0x810A 0 none (if s.gx.nodeGen then 1 else 0) 0
  else s

/-- Start the write-back of a dirty leaf (R283); `own`: it is the regraft of this very node that calls for it. It waits while a
write-back below its L1 parent or a regraft of a parent is in flight; a parent's minor at its end calls for that regraft. -/
def State.leafWriteBack (s : State) (n : Nat) (own : Bool) : State :=
  match Tbl.find s.wb.leaves n with
  | none => s
  | some l =>
    let p := n / 64
    let q := p / 64
    let k := if l.restored ∨ s.gx.sweep.isSome then 2 else 1
    if ¬ s.writeEngines ∨ l.writing ∨ s.wb.leaves.any (fun x : Nat × Leaf => x.2.writing && decide (x.1 / 64 = p)) ∨ s.underRegraft 0 n ∨
        (¬ own ∧ (s.regraftOf 0 n).isSome) ∨ ¬ s.nodeFree 0 n ∨ ¬ s.nodeFree 1 p then s
    else if 127 < ((s.node 1 p).minor (n % 64)).toNat + k then (s.upperEnd 1 p).startRegraft 1 p []
    else if 127 < ((s.node 2 q).minor (p % 64)).toNat + k then (s.upperEnd 2 q).startRegraft 2 q []
    else
      let s := s.advanceBy 1 p (n % 64) k
      let (a, s) := s.nodePrograms (fun c => .node n 0 n c) 0 n l.node (s.nodeVersion 0 n)
      let s := s.advanceBy 2 q (p % 64) k
      let (b, s) := s.nodePrograms (fun c => .node n 1 p c) 1 p (s.node 1 p) (s.nodeVersion 1 p)
      let u := s.node 2 q
      let s := s.journal { JRec.of 0x21 with kind := 1, entry := p, value := u.major.toNat, flags := (u.minor (p % 64)).toNat }
      let s := { s with wb := { s.wb with leaves := Tbl.put s.wb.leaves n { l with writing := true, progs := a + b + 1, changedAt := none } } }
      s.count 7 0x86 8 1

/-- One PROGRAM, or the record, of a leaf's write-back has verified. -/
def State.leafProgress (s : State) (n : Nat) : State :=
  match Tbl.find s.wb.leaves n with
  | some l => { s with wb := { s.wb with leaves := Tbl.put s.wb.leaves n { l with progs := l.progs - 1 } } }
  | none => s

/-! ### Programs of lines that keep their content (regraft, rotation) -/

/-- Must a job wait before it programs lines of a page: a delta would need an entry that may not be allocated (R111, R203)? -/
def State.pageFull (s : State) (i page : Nat) : Bool := (s.pageTargets false i page).any (fun p => s.deltaWait p page)

/-- Program a data slot of a line anew with its delta (R106, R145), for a line job on engine 2: poison marks the page for rebuild where the old content is
not known (R120); a stranded line goes to a new place of the area (R159). -/
def State.reprogram (s : State) (j line : Nat) (old : Option (List Byte)) (new : List Byte) (charge : Nat) : State :=
  let i := linePlot line
  let page := linePage line
  let sl := lineSlot line
  if (s.strandOf (s.entry false i) line).isSome then s.strand ((s.domOfPlot i).getD 0) line new
  else
    (s.pageTargets false i page).foldl (fun (t : State) p =>
      let out := t.memberOut p (pageMember page sl)
      let t := match old with
        | some b => t.recordDelta p page sl b new
        | none => if out then t else t.markRebuild p page sl
      if out then t
      else
        let (c, a) := t.slotAddr p page sl
        let t := match t.job j with | some x => t.setJob { x with progs := x.progs + 1 } | none => t
        t.submit c { MCmd.of .program a 1 2 (.job j sl) with data := [new], dst := p, tier := charge }) s

/-- READs of page slots of a line job: a stranded line from its place, the others from the page. -/
def State.lineReads (s : State) (j : Nat) (i page : Nat) (sls : List Nat) (eng charge : Nat) : State :=
  let e := s.entry false i
  sls.foldl (fun (t : State) k =>
    match t.strandOf e (i * 16384 + page * 64 + k) with
    | some q =>
      let (c, a) := t.strandAddr q
      let t := match t.job j with | some x => t.setJob { x with reads := x.reads + 1 } | none => t
      t.submit c { MCmd.of .read a 0x10 eng (.job j k) with tier := charge }
    | none => if t.memberOut e.phys (pageMember page k) then t else t.jobRead j e.phys page k eng charge false e) s

/-- Note what step 4 has made of the lines that a line job was missing (R118, R120), and give the slots. A stranded line has no step 4 (R119). -/
def State.lineEnd (s : State) (j : Job) (missing : List Nat) (full : Option (List (List Byte))) : (Nat → Option (List Byte)) × State :=
  let e := s.entry false j.entry
  let stranded (k : Nat) : Bool := (s.strandOf e (j.entry * 16384 + j.page * 64 + k)).isSome
  let slot (k : Nat) : Option (List Byte) := (Tbl.find j.slots k).or (if stranded k then none else full.map (fun f => f.getD k erasedSlot))
  (slot, missing.foldl (fun (t : State) k =>
    match slot k with
    | some _ => t.noteRebuilt j.plot j.page k
    | none => t.notePoison j.plot j.page k (t.domOfPlot j.entry)) s)

/-- The lines of a line job once its reads are back, step 4 having been tried for those missing. None: the other slots of the page have still to be read,
and the READs are on their way. -/
def State.lineSlots (s : State) (j : Job) (want : List Nat) (eng charge : Nat) : Option (Nat → Option (List Byte)) × State :=
  let missing := want.filter (fun k => (Tbl.find j.slots k).isNone)
  let finish (t : State) (x : Job) (full : Option (List (List Byte))) : Option (Nat → Option (List Byte)) × State :=
    let (slot, u) := t.lineEnd x missing full
    (some slot, u)
  if missing = [] then finish s j none
  else if j.phase = 0 ∧ s.flag CD 3 ∧ ¬ s.marked j.plot j.page then
    let s := (s.setJob { j with phase := 1 }).stepFourReads j.id j.plot j.page eng charge (s.entry false j.entry) ((List.range 68).filter (fun k => decide (k ∉ want)))
    match s.job j.id with
    | some x =>
      if 0 < x.reads then (none, s)
      else
        let (full, s) := s.solve x (missing.headD 0)
        finish s x full
    | none => (none, s)
  else if j.phase = 1 then
    let (full, s) := s.solve j (missing.headD 0)
    finish s j full
  else finish s j none

/-! ### Regraft (R285 to R287) -/

/-- Children of a node whose minor is not 0. -/
def Node.children (n : Node) : List Nat := (List.range 64).filter (fun c => n.minor c ≠ 0)

/-- Is the apply of a frame under way: begun, and its PROGRAMs not all verified? -/
def Frame.underWay (f : Frame) : Bool := decide (f.state = .applying) && decide (f.stage ≠ .idle)

/-- Is anything below a node still in flight, for which its regraft waits? -/
def State.busyBelow (s : State) (level i : Nat) : Bool :=
  s.wb.frames.any (fun f : Nat × Frame => f.2.underWay && decide (lineOf s.wb.salt (f.1 / 8) f.2.tag / 64 ^ (level + 1) = i)) ||
  s.wb.leaves.any (fun x : Nat × Leaf => x.2.writing && decide (x.1 / 64 ^ level = i)) ||
  s.gx.regrafts.any (fun r => decide (1 ≤ r.level) && decide (r.level < level) && decide (1 ≤ r.stage) && decide (r.index / 64 ^ (level - r.level) = i)) ||
  (decide (level = 0) && (s.pageHeld false (i / 256) (i % 256) || s.plotTaken (i / 256)))

/-- READs of one copy of child nodes; items are the children, plus 64 for copy 1. -/
def State.childReads (s : State) (j : Nat) (level i copy : Nat) (cs : List Nat) : State :=
  cs.foldl (fun (t : State) c =>
    let num := nodeNumber t.usable level (64 * i + c)
    let e := t.entry true (num / 8704)
    let (ch, a) := t.nodeAddr e.phys num copy
    if t.dieOut ch (addrDie a) then t
    else
      let (set, young) := t.predict ch (addrDie a) e.epoch e.wearClass false
      let t := match t.job j with | some x => t.setJob { x with reads := x.reads + 1 } | none => t
      t.submit ch { MCmd.of .read a (t.readParam set) 2 (.job j (c + 64 * copy)) with cls := 3, tier := 2, young := young }) s

/-- The children of a regraft of a node above L0 are back (R285): each is programmed under (m, 1); one with no copy that verifies makes
its subtree unverifiable. -/
def State.regraftNodes (s : State) (j : Job) (r : Regraft) : State :=
  let lv := r.level - 1
  let old := s.node r.level r.index
  let cs := old.children
  let good (c : Nat) : Option Node :=
    let v : Version := { major := old.major, minor := old.minor c }
    (((Tbl.find j.slots c).bind (s.verifyNode lv (64 * r.index + c) v))).or ((Tbl.find j.slots (c + 64)).bind (s.verifyNode lv (64 * r.index + c) v))
  let missing := cs.filter (fun c => (good c).isNone)
  let again := if j.phase = 0 ∧ missing ≠ [] then (s.setJob { j with phase := 1 }).childReads j.id lv r.index 1 missing else s
  let waiting : Bool := match again.job j.id with | some x => decide (0 < x.reads) | none => false
  if waiting then again
  else
    let s := s.setJob { j with phase := 2 }
    let s := missing.foldl (fun (t : State) c => t.loseSubtree lv (64 * r.index + c)) s
    let repaired := cs.filter (fun c => decide (c ∉ missing) && (Tbl.find j.slots (c + 64)).isSome)
    let s := repaired.foldl (fun (t : State) c => t.copyRepaired lv (64 * r.index + c)) s
    cs.foldl (fun (t : State) c =>
      match good c with
      | none => t
      | some y =>
        let (k, t) := t.nodePrograms (fun copy => .job j.id (c + 64 * copy)) lv (64 * r.index + c) y { major := r.major, minor := 1 }
        let t := match t.job j.id with | some x => t.setJob { x with progs := x.progs + k } | none => t
        (t.setNode lv (64 * r.index + c) y).count 7 0x88 8 1) s

/-- The lines of a regraft of an L0 node are back: each is programmed under (m, 1) with the same content; one that is poison, or does not
verify, or that the sweep named, is programmed as a poison slot. -/
def State.regraftLines (s : State) (j : Job) (r : Regraft) : State :=
  let old := s.node 0 r.index
  let cs := old.children
  let i := r.index / 256
  if s.pageFull i (r.index % 256) then s
  else
    let (got, s) := s.lineSlots j cs 2 2
    match got with
    | none => s
    | some slot =>
      let s := match s.job j.id with | some x => s.setJob { x with phase := 2 } | none => s
      let d := (s.domOfPlot i).getD 0
      cs.foldl (fun (t : State) c =>
        let line := 64 * r.index + c
        let e := t.entry false i
        let t := t.count 7 0x88 8 1
        match slot c with
        | none => t.reprogram j.id line none poisonSlot 2
        | some b =>
          match (if c ∈ r.bad then none else t.openData d line e { major := old.major, minor := old.minor c } b) with
          | some (plain, false) => t.reprogram j.id line (some b) (t.dataSlot d (t.applyGen d e) line { major := r.major, minor := 1 } plain) 2
          | some (_, true) => t.reprogram j.id line (some b) poisonSlot 2
          | none =>
            let t := if c ∈ r.bad then t.bump (GX + 0x30) 31 0 1 else t.badTag d line
            t.reprogram j.id line (some b) poisonSlot 2) s

/-- Every child of a regraft has been programmed: the node takes its new major and every nonzero minor 1; an L0 node goes to be written
back, an L1 node is programmed under an advanced L2 parent. -/
def State.regraftEnd (s : State) (r : Regraft) : State :=
  let n := s.node r.level r.index
  let m : Node := { major := r.major, minors := n.minors.map (fun p => (p.1, (1 : BitVec 7))) }
  let s := s.setRegraft { r with stage := 2 }
  if r.level = 0 then (s.dirtyLeaf r.index m).leafWriteBack r.index true
  else if r.level = 1 then
    let s := (s.setNode 1 r.index m).advanceMinor 2 (r.index / 64) (r.index % 64)
    let (j, s) := s.newJob (.regraft 1 r.index) 0 0
    let (k, s) := s.nodePrograms (fun copy => .job j copy) 1 r.index m (s.nodeVersion 1 r.index)
    let s := match s.job j with | some x => s.setJob { x with phase := 2, progs := k } | none => s
    let u := s.node 2 (r.index / 64)
    s.journal { JRec.of 0x21 with kind := 1, entry := r.index, value := u.major.toNat, flags := (u.minor (r.index % 64)).toNat }
  else s.setNode r.level r.index m

/-- Is a job of a regraft under way? -/
def State.regraftJob (s : State) (level i : Nat) : Bool := s.codes.jobs.any (fun j => decide (j.kind = .regraft level i))

/-- A regraft goes on if nothing holds it. -/
def State.regraftStep (s : State) (r : Regraft) : State :=
  if r.stage = 0 then
    if ¬ s.writeEngines ∨ s.busyBelow r.level r.index ∨ (r.level = 1 ∧ s.underRegraft 1 r.index) then s
    else if r.level = 0 ∧ (Tbl.find s.wb.leaves r.index).isSome then s.leafWriteBack r.index true
    else if r.level = 1 ∧ ((s.node 2 (r.index / 64)).minor (r.index % 64)).toNat = 127 then s.startRegraft 2 (r.index / 64) []
    else
      let s := (s.journal { JRec.of 0x22 with kind := r.level, entry := r.index, value := r.major.toNat }).setRegraft { r with stage := 1 }
      let cs := (s.node r.level r.index).children
      if r.level = 0 then
        let i := r.index / 256
        let (j, s) := s.newJob (.regraft 0 r.index) (s.entry false i).phys (r.index % 256)
        let s := match s.job j with | some x => s.setJob { x with entry := i } | none => s
        let s := s.lineReads j i (r.index % 256) cs 2 2
        match s.job j with
        | some x => if x.reads = 0 then s.regraftLines x r else s
        | none => s
      else
        let (j, s) := s.newJob (.regraft r.level r.index) 0 0
        let s := s.childReads j (r.level - 1) r.index 0 cs
        match s.job j with
        | some x => if x.reads = 0 then s.regraftNodes x r else s
        | none => s
  else if r.stage = 1 then
    let done := s.codes.jobs.filter (fun j => decide (j.kind = .regraft r.level r.index) && decide (j.phase = 2) && decide (j.progs = 0))
    let s := done.foldl (fun (t : State) j => t.dropJob j.id) s
    match s.codes.jobs.find? (fun j => decide (j.kind = .regraft r.level r.index)) with
    | some j => if r.level = 0 ∧ j.reads = 0 ∧ j.phase < 2 then s.regraftLines j r else s
    | none => if r.level = 0 ∧ (s.node 0 r.index).children.any (fun c => s.stranding (64 * r.index + c)) then s else s.regraftEnd r
  else
    let done := s.codes.jobs.filter (fun j => decide (j.kind = .regraft r.level r.index) && decide (j.progs = 0))
    let s := done.foldl (fun (t : State) j => t.dropJob j.id) s
    if r.level = 0 then s.leafWriteBack r.index true else s

/-- Every regraft goes on as far as it can. -/
def State.regraftTry (s : State) : State := s.gx.regrafts.foldl (fun (t : State) r => match t.regraftOf r.level r.index with | some x => t.regraftStep x | none => t) s

/-- A regraft whose node has been programmed ends: record 0x23, and what waited below the node goes on (R285). -/
def State.endRegraft (s : State) (r : Regraft) : State :=
  let s := s.journal { JRec.of 0x23 with kind := r.level, entry := r.index, value := r.major.toNat }
  let s := { s with gx := { s.gx with regrafts := s.gx.regrafts.filter (fun x => ¬ (x.level = r.level ∧ x.index = r.index)) } }
  s.showRegrafts.regraftTry

/-- REGRAFT_COMPLETE (R285): the node has been programmed. -/
def execRegraftComplete (level index : Nat) (s : State) : Answer :=
  let s := s.regraftTry
  .next (match s.regraftOf level index with
    | none => s
    | some r =>
      if r.level = level ∧ r.index = index ∧ r.stage = 2 ∧ ¬ s.regraftJob level index ∧ ¬ (level = 0 ∧ (Tbl.find s.wb.leaves index).isSome) then s.endRegraft r else s)

/-! ### Rows of the dirty-leaf store -/

/-- The dirty leaf with the oldest first change among those not being written back. -/
def State.oldestLeaf (s : State) : Option Nat :=
  match s.wb.leaves.filter (fun (x : Nat × Leaf) => !x.2.writing) with
  | [] => none
  | x :: xs => some (xs.foldl (fun (b y : Nat × Leaf) => if y.2.first < b.2.first then y else b) x).1

/-- Does something other than age call for the write-back of a leaf: occupancy (R202), write-through (R208), an anchor checkpoint (R217)? -/
def State.leafWanted (s : State) (n : Nat) : Bool :=
  (decide (s.fld (WP + 0x10) 23 16 * s.leafLimit < s.wb.leaves.length * 256) && decide (s.oldestLeaf = some n)) || s.writeThrough ||
  (s.wb.anchorRun.isSome && s.wb.anchors.any (fun a => decide (a.type ≠ 3) && decide (a.line / 64 = n)))

/-- DIRTY_LEAF_WRITE_BACK (R202, R283). -/
def execDirtyLeafWriteBack (node : Nat) (s : State) : Answer := .next (if s.leafWanted node ∨ s.entering then s.leafWriteBack node false else s)

/-- LEAF_AGE_EXPIRE (R202): the leaf's first change is max_age_ms old. -/
def execLeafAgeExpire (node : Nat) (s : State) : Answer :=
  .next (match Tbl.find s.wb.leaves node with
    | some l => if s.fld (WP + 0x10) 15 0 * 1000000 ≤ s.tb.ztime - l.first then s.leafWriteBack node false else s
    | none => s)

/-! ### Key rotation (R289 to R291) -/

/-- Plots of a domain's rotation still to rotate, as shown in GX_ROT_LEFT. -/
def State.rotShow (s : State) : State :=
  match s.gx.rotation with
  | none => (s.setReg (GX + 0x10) 0).setReg (GX + 0x14) 0 |>.setBit (GX + 4) 1 false
  | some r =>
    let all := s.domPlots r.dom
    let left := countIf (fun i => decide (r.next ≤ i)) all
    ((s.setReg (GX + 0x10) (BitVec.ofNat 32 (r.dom + (if r.forced then 2 ^ 12 else 0) + 2 ^ 13))).setFld (GX + 0x14) 23 0 left).setBit (GX + 4) 1 true

/-- What a forced rotation does first: the domain's snapshots are released, with event 0xC403 (R395), and it is a long operation (R364), unless
a Sanitize of its LD calls for it (R338). -/
def State.forceFirst (s : State) (d : Nat) : State :=
  let s := (s.snapsOf d).foldl (fun (t : State) k =>
    let tag := match Tbl.find t.sw.snaps k with | some x => x.ftag | none => 0
    (t.endSnapshot k false).event 0xC403 0 (some d) tag 0) s
  let l := s.ld (s.domLd d)
  if s.lark.longOp.isSome ∨ (l.bgOp = 0x4400 ∧ l.bgState = 1) then s else s.beginLong 0x0201 32 0xF d

/-- Begin the rotation of a domain from its present generation: new keys, record 0x25 (start). -/
def State.beginRotation (s : State) (d : Nat) (forced : Bool) : State :=
  let s := if forced then s.forceFirst d else s
  let g' := !s.domGen d
  let s := (s.makeKeys d g').persistFld (gxDom d) 30 30 1
  let s := s.journal { JRec.of 0x25 with dom := d, entry := if g' then 1 else 0, value := s.tb.ztime, flags := 1 }
  let s := { s with gx := { s.gx with rotation := some { dom := d, forced := forced, next := s.fld (QD + d * 0x20 + 0xC) 23 0, left := 0, target := g', stepAt := s.tb.ztime } } }
  let s := if forced then s.bump (GX + 0x38) 31 0 1 else s
  (s.event 0x8103 0 (some d) (if g' then 1 else 0) 1).rotShow

/-- Call for a rotation: at most one runs, a forced one waits behind it (R289). -/
def State.wantRotation (s : State) (d : Nat) (forced : Bool) : State :=
  match s.gx.rotation with
  | none => s.beginRotation d forced
  | some r => if r.dom = d ∨ d ∈ s.gx.rotWait then s else { s with gx := { s.gx with rotWait := s.gx.rotWait ++ [d] } }

/-- The last plot is done (R289 step 3): record 0x25 (complete), the domain's generation changes and the old one is zeroised. -/
def State.endRotation (s : State) (r : Rotation) : State :=
  let s := s.journal { JRec.of 0x25 with dom := r.dom, entry := if r.target then 1 else 0, value := s.tb.ztime, flags := 2 }
  let s := s.persist (gxDom r.dom) (putBits (putBits (s.reg (gxDom r.dom)) 30 30 0) 29 29 (if r.target then 1 else 0))
  let s := s.zeroKeys r.dom (!r.target)
  let s := (({ s with gx := { s.gx with rotation := none } }).event 0x8103 0 (some r.dom) (if r.target then 1 else 0) 3).rotShow
  match s.gx.rotWait with
  | [] => s
  | d :: ds => ({ s with gx := { s.gx with rotWait := ds } }).beginRotation d true

/-- L0 nodes of a page's plot whose major count is at its end are clear-re-seeded before the plot is rotated (Table 10.6). -/
def State.seedEnded (s : State) (i : Nat) : State :=
  (List.range 256).foldl (fun (t : State) k => if majorEnd (t.node 0 (256 * i + k)).major then t.clearSeed (256 * i + k) else t) s

/-- Lines of a page with a nonzero minor. -/
def State.pageLines (s : State) (i page : Nat) : List Nat := (s.node 0 (256 * i + page)).children

/-- A page of the rotation's plot is next: its job holds the page, and in phase 3 waits for the applies to it that are under way. -/
def State.rotatePage (s : State) (r : Rotation) (page : Nat) : State :=
  let (j, s) := s.newJob .rotate (s.entry false r.next).phys page
  match s.job j with | some x => s.setJob { x with entry := r.next, phase := 3 } | none => s

/-- Is an apply to a page under way? -/
def State.pageApplying (s : State) (i page : Nat) : Bool :=
  s.wb.frames.any (fun f : Nat × Frame => f.2.underWay &&
    (let line := lineOf s.wb.salt (f.1 / 8) f.2.tag
     decide (linePlot line = i) && decide (linePage line = page)))

/-- READs of the page's lines with nonzero minor, once no apply to it is under way. -/
def State.rotateReads (s : State) (j : Job) : State :=
  if s.pageApplying j.entry j.page then s
  else (s.setJob { j with phase := 0 }).lineReads j.id j.entry j.page (s.pageLines j.entry j.page) 2 0

/-- A record 0x05 of a data plot has not yet verified. -/
def State.flagsPending (s : State) : Bool := s.tp.unverified.any (fun r => decide (r.type = 5) && !r.node)

/-- Start the rotation's next plot, if the step has one left and nothing holds it: its rotating flag is set by record 0x05, and when that has verified its
first page is next. With no plot left, and the last record verified, the rotation ends. -/
def State.rotatePlot (s : State) : State :=
  match s.gx.rotation with
  | none => s
  | some r =>
    if s.codes.jobs.any (fun j => decide (j.kind = JobKind.rotate)) ∨ s.flagsPending then s
    else if ¬ r.next ∈ s.domPlots r.dom then s.endRotation r
    else if r.left = 0 ∨ (s.migrationOf false r.next).isSome ∨ ¬ s.writeEngines then s
    else if (s.entry false r.next).rotating then s.rotatePage r 0
    else (s.seedEnded r.next).journalFlags false r.next (fun e => { e with rotating := true })

/-- Must the lines of a rotation's page wait: a node above them is being regrafted, or a delta would need an entry (R111)? -/
def State.rotateWaits (s : State) (j : Job) : Bool :=
  s.lineRegraft (j.entry * 16384 + j.page * 64) || s.pageFull j.entry j.page || !s.writeEngines

/-- A page of a rotation has its lines: those under the old generation are programmed under the new one with the same version; a line that step 4 has
recovered under the new one is programmed as it is (R118), and one that is lost as a poison slot (R120). -/
def State.rotateLines (s : State) (j : Job) : State :=
  match s.gx.rotation with
  | none => s.dropJob j.id
  | some r =>
    let i := j.entry
    let cs := s.pageLines i j.page
    let (got, s) := s.lineSlots j cs 2 0
    match got with
    | none => s
    | some slot =>
      let s := match s.job j.id with | some x => s.setJob { x with phase := 2 } | none => s
      cs.foldl (fun (t : State) c =>
        let line := i * 16384 + j.page * 64 + c
        match slot c with
        | none => t.reprogram j.id line none poisonSlot 0
        | some b =>
          let recovered : Bool := (Tbl.find j.slots c).isNone
          if metaPoison (slotMeta b) ∨ metaKeyGen (slotMeta b) = r.target then (if recovered then t.reprogram j.id line (some b) b 0 else t)
          else
            let v := t.lineVersion line
            match t.openData r.dom line (t.entry false i) v b with
            | some (plain, false) => (t.reprogram j.id line (some b) (t.dataSlot r.dom r.target line v plain) 0).count 7 0x89 8 1
            | some (_, true) => t
            | none => t.badTag r.dom line) s

/-- A page of a rotation is programmed: the next page, or the plot's end by one record 0x05. -/
def State.rotateDone (s : State) (j : Job) : State :=
  let s := s.dropJob j.id
  match s.gx.rotation with
  | none => s
  | some r =>
    if j.page < 255 then s.rotatePage r (j.page + 1)
    else
      let s := s.journalFlags false j.entry (fun e => { e with rotating := false, keyGen := r.target })
      ({ s with gx := { s.gx with rotation := some { r with next := r.next + 1, left := r.left - 1 } } }).rotShow

/-- Is a line of a rotation's page still on its way into the stranded-line area? -/
def State.rotateStranding (s : State) (j : Job) : Bool := (s.pageLines j.entry j.page).any (fun c => s.stranding (j.entry * 16384 + j.page * 64 + c))

/-- A rotation goes on as far as it can without waiting for the media, in at most `n` moves. -/
def State.rotatePump : Nat → State → State
  | 0, s => s
  | n + 1, s =>
    match s.codes.jobs.find? (fun j => decide (j.kind = JobKind.rotate)) with
    | some j =>
      if 0 < j.reads ∨ 0 < j.progs then s
      else if j.phase = 3 then (if s.pageApplying j.entry j.page then s else State.rotatePump n (s.rotateReads j))
      else if j.phase < 2 then (if s.rotateWaits j then s else State.rotatePump n (s.rotateLines j))
      else if s.rotateStranding j then s
      else State.rotatePump n (s.rotateDone j)
    | none =>
      let t := s.rotatePlot
      if t.codes.jobs.any (fun j => decide (j.kind = JobKind.rotate)) then State.rotatePump n t else t

/-- Moves that a rotation can make at most before its step's plots are used up. -/
def State.rotateFuel (s : State) : Nat := match s.gx.rotation with | some r => 1200 * (r.left + 1) | none => 0

/-- A rotation advances by GX_CTL.rot_plots plots. -/
def State.rotateStep (s : State) : State :=
  match s.gx.rotation with
  | none => s
  | some r =>
    let s := { s with gx := { s.gx with rotation := some { r with left := r.left + s.fld GX 7 0 } } }
    State.rotatePump s.rotateFuel s

/-- KEY_ROTATION_STEP (R289): action 0x0C. -/
def execKeyRotationStep (s : State) : Answer := s.runAction 0x0C (fun _ t => t.rotateStep)

/-- Does an enabled entry carry an action? -/
def State.actionCarried (s : State) (a : Nat) : Bool := (List.range 64).any (fun n => s.schedEnabled n && decide (s.schedAction n = a))

/-- Does Lark run its firmware, with no control pause (R311, R369)? -/
def State.larkUp (s : State) : Bool := s.lark.fwRunning && !s.flag CP 28

/-- ROTATION_TIMER (R289): while no enabled entry carries action 0x0C, Lark advances a running rotation every 100 ms of ztime. -/
def execRotationTimer (s : State) : Answer :=
  .next (match s.gx.rotation with
    | none => s
    | some r =>
      if s.actionCarried 0x0C ∨ ¬ s.larkUp ∨ (r.stepAt ≤ s.tb.ztime ∧ s.tb.ztime < r.stepAt + 100000000) then s
      else State.rotateStep { s with gx := { s.gx with rotation := some { r with stepAt := s.tb.ztime } } })

/-! ### The unclean sweep (R294) -/

/-- The sweep passes an L0 node: the cursor goes on past those already swept; at the end event 0x810B. -/
def State.sweepPass (s : State) (n : Nat) : State :=
  let total := s.usable * 2 ^ 18
  match s.gx.sweep with
  | none => s
  | some k =>
    if k ≠ n then { s with gx := { s.gx with swept := if n ∈ s.gx.swept then s.gx.swept else n :: s.gx.swept } }
    else
      let next := (List.range s.gx.swept.length).foldl (fun (x : Nat) _ => if x ∈ s.gx.swept then x + 1 else x) (n + 1)
      let s := { s with gx := { s.gx with sweep := if next < total then some next else none, swept := s.gx.swept.filter (fun x => decide (next < x)) } }
      if next < total then s.setFld (GX + 4) 31 16 (next * 65536 / max 1 total) else ((s.setBit (GX + 4) 0 false).setFld (GX + 4) 31 16 0).event 0x810B 0 none 0 0

/-- The unclean sweep has checked L0 node `n` and its lines; `bad` lists the lines that failed. With any, the node is regrafted with those lines programmed
as poison slots at minor 1, and event 0x8107 once per domain per minute (R294). -/
def State.sweepNode (s : State) (n : Nat) (bad : List Nat) : State :=
  let i := n / 256
  let s := if bad = [] then s
    else
      let nd := s.node 0 n
      let raised := bad.foldl (fun (m : Node) c => if m.minor c = 0 then m.setMinor c 1 else m) nd
      let s := if raised = nd then s else s.dirtyLeaf n raised
      let d := s.domOfPlot i
      (s.startRegraft 0 n bad).eventOnce (d.getD 0xFFF) 0x8107 0 d (lineLo (64 * n + bad.headD 0)) (lineHi (64 * n + bad.headD 0))
  (s.sweepPass n).regraftTry

/-- READs of copy `copy` of the node and of its L1 parent for a sweep job: items 64 + copy and 66 + copy; a dirty leaf stands for its node. -/
def State.sweepReads (s : State) (j n copy : Nat) (wantParent wantNode : Bool) : State :=
  let read (t : State) (level i item : Nat) : State :=
    let num := nodeNumber t.usable level i
    let e := t.entry true (num / 8704)
    let (c, a) := t.nodeAddr e.phys num copy
    if t.dieOut c (addrDie a) then t
    else
      let (set, young) := t.predict c (addrDie a) e.epoch e.wearClass false
      let t := match t.job j with | some x => t.setJob { x with reads := x.reads + 1 } | none => t
      t.submit c { MCmd.of .read a (t.readParam set) 0 (.job j item) with young := young }
  let s := if wantParent then read s 1 (n / 64) (66 + copy) else s
  if wantNode ∧ (Tbl.find s.wb.leaves n).isNone then read s 0 n (64 + copy) else s

/-- A verified copy of a node sets it, and its parent's minor where it verified under the next one (R281). -/
def State.sweepSettle (s : State) (level i : Nat) (copies : List (List Byte)) : Bool × State :=
  let v := s.nodeVersion level i
  match copies.find? (fun b => (s.verifyNode level i v b).isSome) with
  | none => (false, s)
  | some b => (true, match s.verifyNode level i v b with | some nd => (s.raiseParent level i v b).setNode level i nd | none => s)

/-- Begin the sweep step of L0 node `n`: the first copies of it and of its parent are read on engine 0. -/
def State.sweepStart (s : State) (n : Nat) : State :=
  let i := n / 256
  let (j, s) := s.newJob (.sweep n) (s.entry false i).phys (n % 256)
  let s := match s.job j with | some x => s.setJob { x with entry := i, phase := 2 } | none => s
  s.sweepReads j n 0 true true

/-- The lines of a swept node are back: each is checked under R95 (R294 step 2). -/
def State.sweepLines (s : State) (j : Job) (n : Nat) : State :=
  let (got, s) := s.lineSlots j (List.range 64) 0 0
  match got with
  | none => s
  | some slot =>
    let d := (s.domOfPlot j.entry).getD 0
    let e := s.entry false j.entry
    let bad := (List.range 64).filter (fun c => match slot c with
      | none => true
      | some b => (s.openData d (64 * n + c) e (s.lineVersion (64 * n + c)) b).isNone)
    (s.dropJob j.id).sweepNode n bad

/-- The reads of a sweep's node and parent are back: a copy that verifies is taken, else the other copy is read; with none the subtree is unverifiable, and
the sweep passes it (Table 10.7). Then the node's lines are read. Phases 2 and 3: first and second copies; 0 and 1: lines. -/
def State.sweepRead (s : State) (j : Job) (n : Nat) : State :=
  if j.phase < 2 then s.sweepLines j n
  else
    let parent := [66, 67].filterMap (Tbl.find j.slots)
    let node := [64, 65].filterMap (Tbl.find j.slots)
    let (okP, s) := s.sweepSettle 1 (n / 64) parent
    let dirty : Bool := (Tbl.find s.wb.leaves n).isSome
    let (okN, s) := if okP ∧ ¬ dirty then s.sweepSettle 0 n node else (dirty, s)
    let again := if j.phase = 2 ∧ ¬ (okP ∧ okN) then (s.setJob { j with phase := 3 }).sweepReads j.id n 1 (!okP) (!okN) else s
    let waiting : Bool := match again.job j.id with | some x => decide (0 < x.reads) | none => false
    if waiting then again
    else if ¬ okP then ((s.dropJob j.id).loseSubtree 1 (n / 64)).sweepNode n []
    else if ¬ okN then ((s.dropJob j.id).loseSubtree 0 n).sweepNode n []
    else
      let s := (s.setJob { j with phase := 0, slots := j.slots.filter (fun x => decide (x.1 < 64)) }).lineReads j.id j.entry j.page (List.range 64) 0 0
      match s.job j.id with
      | some x => if x.reads = 0 then s.sweepLines x n else s
      | none => s

/-- The sweep step of an L0 node, unless it is under way or a node above is being regrafted. A step whose slots are all at hand ends at once. -/
def State.sweepStep (s : State) (n : Nat) : State :=
  if s.codes.jobs.any (fun j => decide (j.kind = .sweep n)) ∨ s.lineRegraft (64 * n) then s
  else
    let s := s.sweepStart n
    match s.codes.jobs.find? (fun j => decide (j.kind = .sweep n)) with
    | some j => if j.reads = 0 then s.sweepRead j n else s
    | none => s

/-- UNCLEAN_SWEEP_STEP (R294): the step of the next node in ascending L0 index begins; `perr` is what Rick found at its lookups (R263). -/
def execUncleanSweepStep (perr : Perr) (s : State) : Answer :=
  .next (match s.gx.sweep with
    | none => s
    | some n => (s.rickError perr (64 * n) ((s.domOfPlot (linePlot (64 * n))).getD 0)).sweepStep n)

/-- Has the sweep still to pass an L0 node? -/
def State.unswept (s : State) (n : Nat) : Bool := match s.gx.sweep with | some k => decide (k ≤ n) && !decide (n ∈ s.gx.swept) | none => false

/-! ### Poison re-seeds (R288) -/

/-- The page of an L0 node takes 64 poison slots and their parity: its delta and its marks are gone, because the new parity owes nothing to them. -/
def State.poisonPage (s : State) (n : Nat) : State :=
  let i := n / 256
  let page := n % 256
  let data := List.replicate 64 poisonSlot
  let slots := data ++ pageParity data
  (s.pageTargets false i page).foldl (fun (t : State) p =>
    let t := t.delDelta p page
    let t := { t with codes := { t.codes with marked := t.codes.marked.erase (p * 256 + page), jobs := t.codes.jobs.filter (fun j => ¬ (j.kind = JobKind.parityWb ∧ j.plot = p ∧ j.page = page)) } }
    let live := (List.range 68).filter (fun k => !t.memberOut p (pageMember page k))
    let (j, t) := t.newJob .redirect p page
    match t.job j with
    | some x => t.pageProgram { x with entry := i } (live.map (fun k => (k, slots.getD k erasedSlot))) 2 2
    | none => t) s

/-- A poison re-seed of an unverifiable subtree at the first host write below it (R288): new majors, poison slots in every line, and the upper nodes
programmed; the L0 nodes go to be written back. -/
def State.poisonReseed (s : State) (level i : Nat) : State :=
  if 2 ^ 24 - 1 ≤ s.counter 11 then s.poisonSeed level i
  else
    let s := s.poisonSeed level i
    let s := (List.range (64 ^ level)).foldl (fun (t : State) k => t.poisonPage (i * 64 ^ level + k)) s
    if level = 1 then
      let (j, s) := s.newJob .redirect 0 0
      let (k, s) := s.nodePrograms (fun copy => .job j copy) 1 i (s.node 1 i) (s.nodeVersion 1 i)
      match s.job j with | some x => s.setJob { x with progs := k } | none => s
    else s

end Sys2Proof.Machine
end

