-- ==== Sys2Proof/Machine/Apply.lean ====
section
/-! DEFINITION. Machine/Apply.lean: the apply engine (07, R198 to R200; 05, R145, R148, R154, R158 to R160), the anchor journal's records and
checkpoints (R215 to R217), and write-through (R208). -/

namespace Sys2Proof.Machine

/-! ### Discarded writes (R160) -/

/-- Is there no room for the leaf of an L0 node (R202, R203)? -/
def State.leafFull (s : State) (n : Nat) : Bool := (Tbl.find s.wb.leaves n).isNone && decide (min 262144 s.leafLimit ≤ s.wb.leaves.length)

/-- A line's next counter version (R282), whose minor is below 127. -/
def State.nextVersion (s : State) (line : Nat) : Version :=
  let nd := s.node 0 (line / 64)
  { major := nd.major, minor := nd.minor (line % 64) + 1 }

/-- The leaf entry of a line takes its next version. -/
def State.takeVersion (s : State) (line : Nat) : State :=
  let nd := s.node 0 (line / 64)
  s.dirtyLeaf (line / 64) (nd.setMinor (line % 64) (nd.minor (line % 64) + 1))

/-- A line whose minor is 127 (R282, Table 10.6): its L0 node is regrafted first; with the node's major count at its end a forced rotation of the domain
starts instead. -/
def State.minorEnd (s : State) (dom line : Nat) : State :=
  if majorEnd (s.node 0 (line / 64)).major then
    (if s.domValid dom ∧ ¬ s.quarantined dom then
      (match s.gx.rotation with
       | some r => if r.dom = dom ∨ dom ∈ s.gx.rotWait then s else (s.event 0x810A 0 (some dom) (if s.domGen dom then 1 else 0) 0).wantRotation dom true
       | none => (s.event 0x810A 0 (some dom) (if s.domGen dom then 1 else 0) 0).wantRotation dom true)
     else s)
  else (s.startRegraft 0 (line / 64) []).regraftTry

/-- A line discarded on a write-protected plot: its counter version advances as an apply would advance it (R160). What waits for a regraft or for a leaf
place is kept. -/
def State.discardAdvance (s : State) (dom line : Nat) : State :=
  if s.lineRegraft line ∨ s.leafFull (line / 64) ∨ s.unswept (line / 64) then { s with wb := { s.wb with discards := s.wb.discards ++ [(line, dom)] } }
  else if (s.lineVersion line).minor.toNat = 127 then
    State.minorEnd { s with wb := { s.wb with discards := s.wb.discards ++ [(line, dom)] } } dom line
  else s.takeVersion line

/-- The discarded lines that waited are tried again. -/
def State.discardPump (s : State) : State :=
  s.wb.discards.foldl (fun (t : State) (x : Nat × Nat) => t.discardAdvance x.2 x.1) { s with wb := { s.wb with discards := [] } }

/-! ### Frames that may be applied -/

/-- FRAME_SCAN (R198): holding frames whose hold time has passed become eligible, in the order of the scan. -/
def State.frameScan (s : State) : State :=
  let hold := ceilDiv (s.fld WP 15 0) 64
  let ripe (f : Frame) : Bool := decide (f.state = .holding) && decide (hold ≤ (s.stampNow + 128 - f.stamp % 128) % 128)
  s.wb.frames.foldl (fun (t : State) (x : Nat × Frame) =>
    if ripe x.2 then
      (t.setFrame (x.1 / 8) (x.1 % 8) { x.2 with state := .eligible, order := t.wb.order }) |> fun (u : State) => { u with wb := { u.wb with order := u.wb.order + 1 } }
    else t) s

def execFrameScan (s : State) : Answer := .next s.frameScan.discardPump

/-- Does a write wait for a frame of a set (R197)? -/
def State.setWanted (s : State) (set : Nat) : Bool :=
  s.host.reqs.any (fun r => decide (r.st = .setWait) && decide (lineSet s.wb.salt r.line = set))

/-- Is a logical plot under redirect (R148)? -/
def State.redirecting (s : State) (i : Nat) : Bool := match s.migrationOf false i with | some m => decide (m.kind = 5) | none => false

/-- Does a logical plot's entry wait for a change of its flags to take effect (R137)? -/
def State.flagsWait (s : State) (i : Nat) : Bool := s.tp.unverified.any (fun r => decide (r.type = 5) && !r.node && decide (r.entry = i))

/-- What an apply waits for that lies outside its own frame (R124, R137, R145, R199, R202, R282, R285, R294, R397). -/
def State.lineHeld (s : State) (f : Frame) (line : Nat) : Bool :=
  let i := linePlot line
  !s.writeEngines || decide (s.stillness = 2) || (f.state ≠ .applying && (s.applyingFrame line).isSome) || s.stranding line || s.lineRegraft line ||
  s.flagsWait i || s.pageHeld false i (linePage line) || (f.state ≠ .applying && s.plotTaken i) || s.unswept (line / 64) || s.leafFull (line / 64)

/-- Is the minor of a line at its end (R282)? -/
def State.minorFull (s : State) (line : Nat) : Bool := decide ((s.lineVersion line).minor.toNat = 127)

/-- May the apply of a frame's line not go on now? A write-protected plot has no delta and no record (R111, R160, R216). -/
def State.applyHeld (s : State) (f : Frame) (line : Nat) : Bool :=
  s.lineHeld f line || s.minorFull line ||
  (!(s.entry false (linePlot line)).writeProtect && (s.pageFull (linePlot line) (linePage line) || (f.anchor && !s.anchorRoom 1)))

/-- What a held apply sets going: the sweep step of its node (R294), a regraft or a forced rotation (R282). -/
def State.applyStart (s : State) (f : Frame) (line : Nat) : State :=
  if s.unswept (line / 64) then s.sweepStep (line / 64)
  else if ¬ s.lineHeld f line ∧ s.minorFull line then s.minorEnd f.dom line
  else s

/-- The frames with their lines. -/
def State.frameLines (s : State) : List (Nat × Frame) := s.wb.frames.map (fun (f : Nat × Frame) => (lineOf s.wb.salt (f.1 / 8) f.2.tag, f.2))

/-- Does a frame come before another: eligible before holding, and in the order of their state? -/
def Frame.before (x f : Frame) : Bool := if x.state = f.state then decide (x.order < f.order) else decide (x.state = .eligible)

/-- Does a frame come before all others that `among` admits, but those whose apply waits (R198)? -/
def State.frameFirst (s : State) (f : Frame) (among : Nat × Frame → Bool) : Bool :=
  s.frameLines.all (fun x => !(among x && x.2.before f) || s.applyHeld x.2 x.1)

/-- Is a frame to be applied (R198)? Eligible frames go in the order in which they became eligible, holding ones under pressure oldest first; the oldest
frame of a set that a write waits for (R197), the frames of write-through mode (R208), of an anchor checkpoint (R217) and of the drain to Off go at once. A
frame set to applying by a snapshot's first write goes on (R397), and so does one whose apply had to wait. -/
def State.mayApply (s : State) (set way : Nat) (f : Frame) : Bool :=
  let atOnce : Bool := s.writeThrough || decide (frameKey set way ∈ s.wb.anchorFrames) || (s.entering && decide (s.stillness = 3)) ||
    (s.setWanted set && s.frameFirst f (fun x => decide (lineSet s.wb.salt x.1 = set) && decide (x.2.state ≠ .applying)))
  match f.state with
  | .eligible => atOnce || s.frameFirst f (fun x => decide (x.2.state = .eligible))
  | .holding => atOnce || (s.wb.pressing && s.frameFirst f (fun x => decide (x.2.state = .holding)))
  | .applying => !f.failed && (match f.stage with
    | .idle | .recorded _ => true
    | .reading | .recording _ | .programming => false)

/-! ### Programs of an apply -/

/-- One PROGRAM of a frame's line in plot `p`, unless its member is out of service. -/
def State.putLine (s : State) (p line : Nat) (slot : List Byte) (why : Why) : Nat × State :=
  let page := linePage line
  let sl := lineSlot line
  if s.memberOut p (pageMember page sl) then (0, s)
  else
    let (c, a) := s.slotAddr p page sl
    let s := (s.noteWrite p page).noteHot p line
    let inPlace : Bool := s.df.refreshing.any (fun r => decide (r.1 = p))
    let s := { s with df := { s.df with
      rewrite := s.df.rewrite.filter (fun x => ¬ x = (p, page, sl))
      applied := if inPlace then (p, page, sl) :: s.df.applied else s.df.applied } }
    (1, s.submit c { MCmd.of .program a 1 3 why with data := [slot], dst := p })

/-- Issue the PROGRAMs of a frame's line, each with its delta in the same step (R106), to the plot and to the target of a migration that has passed its page
(R145). An old form that the ladder returned as poison sends the page to rebuild (R200). A stranded line goes to a new place of the stranded-line area
(R159). A line all of whose members are out of service leaves the buffer at once. `old` is none for a frame that recovery has restored (R221: no delta). -/
def State.programFrame (s : State) (set way : Nat) (f : Frame) (line : Nat) (old : Option StoredForm) : State :=
  let i := linePlot line
  let page := linePage line
  let e := s.entry false i
  let slot := s.frameSlot line f
  if (s.strandOf e line).isSome then (s.setFrame set way { f with stage := .programming, progs := 0, failed := true }).strand f.dom line slot
  else
    let targets := s.pageTargets false i page
    let s := targets.foldl (fun (t : State) p =>
      match old with
      | some (.slot b) => t.recordDelta p page (lineSlot line) b slot
      | some .poison => t.markRebuild p page (lineSlot line)
      | none => t) s
    let (n, s) := s.putLine e.phys line slot (.frame set way)
    let (m, s) := (targets.drop 1).foldl (fun (acc : Nat × State) p =>
      let (k, t) := acc.2.putLine p line slot (.dual set way)
      let t := match t.migrationOf false i with | some g => t.setMig { g with dual := g.dual + k } | none => t
      (acc.1 + k, t)) (0, s)
    if n + m = 0 then s.freeFrame set way else s.setFrame set way { f with stage := .programming, progs := n + m }

/-- The PROGRAMs of a frame follow now, or when what holds its page has ended: an APPLY of the frame tries again. -/
def State.programTry (s : State) (set way : Nat) (f : Frame) (line : Nat) (old : StoredForm) : State :=
  let i := linePlot line
  if s.pageHeld false i (linePage line) ∨ s.pageFull i (linePage line) ∨ s.stranding line then s.setFrame set way { f with stage := .recorded old }
  else s.programFrame set way f line (some old)

/-- The whole line of a frame at apply (R199, R200): its bytes and whether it is poison; unwritten bytes come from the stored form, which is
opened under the line's present version. -/
def State.wholeLine (s : State) (f : Frame) (line : Nat) (old : StoredForm) : (List Byte × Bool) × State :=
  let bytes := f.bytes
  let zeros := List.replicate 64 (0 : Byte)
  if f.poison then ((zeros, true), s)
  else if f.full then ((bytes.map (fun b => b.getD 0), false), s)
  else
    let s := s.countGlobal 0xC1 1
    match old with
    | .poison => ((zeros, true), s)
    | .slot b =>
      match s.openData f.dom line (s.entry false (linePlot line)) (s.lineVersion line) b with
      | some (plain, false) => ((overlay bytes plain, false), s)
      | some (_, true) => ((zeros, true), s)
      | none => ((zeros, true), s.badTag f.dom line)

/-- The frame with the whole line in both banks. -/
def Frame.whole (f : Frame) (plain : List Byte) (poison : Bool) : Frame :=
  { (if poison then f else Frame.withPositions f (plain.map some)) with state := .applying, poison := poison }

/-- The stored form is at hand, and nothing holds the apply: the line is merged and takes its next version, and its PROGRAMs follow, for an anchor line after
its record (R199, R216). -/
def State.applyMerge (s : State) (set way : Nat) (f : Frame) (line : Nat) (old : StoredForm) : State :=
  let ((plain, poison), s) := s.wholeLine f line old
  let v := s.nextVersion line
  let s := ((s.takeVersion line).countGlobal 0xC0 1).count 7 0x80 8 1
  let f := f.whole plain poison
  if f.anchor then
    (s.setFrame set way { f with stage := .recording old }).anchorAppend 2 poison f.dom line fullMask (if poison then List.replicate 64 0 else plain) v
  else s.programTry set way { f with stage := .recorded old } line old

/-- The stored-form read of a frame has ended: with its slot, or as poison. An apply that something has come to hold meanwhile starts over. -/
def State.applyOld (s : State) (set way : Nat) (old : StoredForm) : State :=
  match s.frame set way with
  | none => s
  | some f =>
    if f.state ≠ .applying ∨ f.stage ≠ .reading then s
    else
      let line := lineOf s.wb.salt set f.tag
      if s.applyHeld { f with state := .applying } line then (s.setFrame set way { f with stage := .idle }).applyStart f line
      else s.applyMerge set way f line old

/-- The ladder has returned a frame's stored form as poison (R120, R200). -/
def State.applyLost (s : State) (set way : Nat) : State :=
  match s.frame set way with
  | none => s
  | some f =>
    let line := lineOf s.wb.salt set f.tag
    let e := s.entry false (linePlot line)
    (s.notePoison e.phys (linePage line) (lineSlot line) (some f.dom)).applyOld set way .poison

/-- Step 4 of a stored-form read has its slots (R116, R118): the apply itself programs the line's slot. -/
def State.applySolved (s : State) (j : Job) (set way : Nat) : State :=
  let s := s.dropJob j.id
  match s.frame set way with
  | none => s
  | some f =>
    let line := lineOf s.wb.salt set f.tag
    let (got, s) := s.solve j (lineSlot line)
    match got with
    | some full => (s.noteRebuilt j.plot j.page (lineSlot line)).applyOld set way (.slot (full.getD (lineSlot line) erasedSlot))
    | none => s.applyLost set way

/-- Step 4 of a frame's stored-form read begins on engine 3, if it is enabled and the page's parity is usable (R114, R116, Table 04.4). -/
def State.applyFour (s : State) (set way line : Nat) : State :=
  let e := s.entry false (linePlot line)
  let page := linePage line
  if (s.strandOf e line).isSome ∨ ¬ s.flag CD 3 ∨ s.marked e.phys page then s.applyLost set way
  else
    let (j, s) := s.newJob (.applyRead set way) e.phys page
    let s := s.stepFourReads j e.phys page 3 2 e ((List.range 68).filter (fun k => k ≠ lineSlot line))
    match s.job j with
    | some x => if x.reads = 0 then s.applySolved x set way else s
    | none => s

/-- The READ of a frame's stored form (R199) on engine 3: a stranded line's from its place, a slot whose PROGRAM is in flight from that (R124); with its
member out of service the ladder starts at step 4 (R115). -/
def State.applyRead (s : State) (set way line : Nat) : State :=
  let e := s.entry false (linePlot line)
  let page := linePage line
  let sl := lineSlot line
  match s.strandOf e line with
  | some q =>
    let (c, a) := s.strandAddr q
    s.submit c { MCmd.of .read a 0x10 3 (.apply set way) with tier := 2, dst := 1024 + q / 4096 }
  | none =>
    if s.memberOut e.phys (pageMember page sl) then s.applyFour set way line
    else
      let (c, a, set', young) := s.slotRead e.phys page sl false e
      match s.programmed c a with
      | some b => s.applyOld set way (.slot b)
      | none => s.submit c { MCmd.of .read a (s.readParam set') 3 (.apply set way) with tier := 2, young := young, dst := e.phys }

/-- A frame on a write-protected plot is discarded with its line's cached copy; its counter version advances (R160, R21). -/
def State.applyDiscard (s : State) (set way line : Nat) : State :=
  (((s.takeVersion line).countGlobal 0xC0 1).freeFrame set way).cacheDrop false line

/-- An apply begins: the frame goes to applying, and its stored form is read. -/
def State.applyBegin (s : State) (set way : Nat) (f : Frame) (line : Nat) : State :=
  if (s.entry false (linePlot line)).writeProtect then s.applyDiscard set way line
  else (s.setFrame set way { f with state := .applying, stage := .reading, progs := 0 }).applyRead set way line

/-- APPLY of a frame that may be applied (R199): it begins, or goes on from its verified record. -/
def State.applyFrame (s : State) (set way : Nat) (f : Frame) (line : Nat) : State :=
  if s.redirecting (linePlot line) ∧ f.state = .applying then s
  else match f.stage with
    | .recorded old => s.programTry set way f line old
    | .idle | .reading | .recording _ | .programming =>
      if s.applyHeld f line then s.applyStart f line else s.applyBegin set way f line

/-- APPLY (R199): the frame at a set and way; `tables` and `perr` are what Rick found at the lookups of the
line's tables and on reading the frame (R263). -/
def execApply (set way : Nat) (tables perr : Perr) (s : State) : Answer :=
  below set 65536 s (below way 8 s (.next (match s.frame set way with
    | none => s
    | some f0 =>
      let line := lineOf s.wb.salt set f0.tag
      let s := (((s.rickError tables line f0.dom)).rickError perr line f0.dom).readFrame set way line
      match s.frame set way with
      | none => s
      | some f => if s.mayApply set way f then s.applyFrame set way f line else s)))

/-! ### Write-through (R208) -/

/-- Writes that wait for write-through: complete once nothing of the line is in the buffer, and its leaf and page delta are written back. -/
def State.throughCheck (s : State) : State :=
  s.host.reqs.foldl (fun (t : State) (r : Req) =>
    if r.st = .throughWait then
      let i := linePlot r.line
      let clear := (t.openFrame r.line).isNone && (t.applyingFrame r.line).isNone && (Tbl.find t.wb.leaves (r.line / 64)).isNone &&
        (t.delta (t.entry false i).phys (linePage r.line)).isNone
      if clear then t.completeWrite r (some r.dom) else t
    else t) s

/-- What waited for an apply, a write-back or a record goes on: regrafts, a rotation, copies, and writes in write-through mode. -/
def State.goOn (s : State) : State :=
  let s := s.regraftTry
  ((State.rotatePump s.rotateFuel s).copyWaiting).throughCheck

/-- A frame's last PROGRAM has verified: it is freed, and what waited for it goes on. -/
def State.frameDone (s : State) (set way : Nat) (f : Frame) : State :=
  let line := lineOf s.wb.salt set f.tag
  let s := s.freeFrame set way
  let s := if s.writeThrough ∨ (s.wb.anchorRun.isSome ∧ f.anchor) then
      (s.leafWriteBack (line / 64) false).startWriteback (s.entry false (linePlot line)).phys (linePage line)
    else s
  s.goOn

/-- PARITY_WRITEBACK_COMPLETE (R108): every parity slot in service has verified: the engine releases its copy, and an entry that is
still zero is freed; what waited for a free entry goes on (R111). -/
def execParityWritebackComplete (plot page : Nat) (s : State) : Answer :=
  .next (if s.parityOver plot page then (s.releaseDelta plot page).goOn else s)

/-- A PROGRAM of a frame has verified (R154, R145): `dual` for one to a migration's target `p`. -/
def State.frameVerified (s : State) (set way : Nat) (dual : Bool) (p : Nat) : State :=
  match s.frame set way with
  | none => s
  | some f =>
    let line := lineOf s.wb.salt set f.tag
    let s := if dual then (match s.migrationOf false (linePlot line) with
        | some m => if m.tgt = p then s.setMig { m with dual := m.dual - 1 } else s
        | none => s) else s
    let f := { f with progs := f.progs - 1 }
    if 0 < f.progs ∨ f.failed then s.setFrame set way f else s.frameDone set way f

/-- A PROGRAM of a frame has failed its verify: the plot is to be retired and the frame held (R154); with no target the line is stranded
(R158), or its plot write-protected and the frame discarded (R160). On a migration's source the migration goes on and the source
retires with it; on its target the target is retired (Table 05.13). -/
def State.frameFailed (s : State) (set way : Nat) (dual : Bool) (p : Nat) : State :=
  match s.frame set way with
  | none => s
  | some f =>
    let line := lineOf s.wb.salt set f.tag
    let i := linePlot line
    if dual then
      (match s.migrationOf false i with
       | some m => if m.tgt = p then ((s.retirePlot p 1).retarget m true).frameVerified set way false p else s.frameVerified set way false p
       | none => s.frameVerified set way false p)
    else
      let s := s.setFrame set way { f with progs := f.progs - 1, failed := true }
      match s.migrationOf false i with
      | some m => s.setMig { m with retire := true }
      | none =>
        if (s.entry false i).writeProtect then (s.freeFrame set way).cacheDrop false line
        else
          let (can, s) := s.programFailed false i
          if can then s else s.strand f.dom line (s.frameSlot line f)

/-! ### Plot redirect (R148) -/

/-- Does the buffer hold the line whole, covering all 64 bytes? -/
def State.lineInHand (s : State) (l : Nat) : Bool := match s.openFrame l with | some f => f.full | none => false

/-- May a full logical plot be redirected (R148)? -/
def State.mayRedirect (s : State) (plot : Nat) : Bool :=
  let lines := (List.range 16384).map (fun k => plot * 16384 + k)
  let nodes := (List.range 256).map (fun k => plot * 256 + k)
  let newLeaves := countIf (fun n => (Tbl.find s.wb.leaves n).isNone) nodes
  s.writeEngines && decide (s.stillness < 2) && decide (plot < s.dataPlots) && lines.all s.lineInHand && lines.all (fun l => (s.applyingFrame l).isNone) &&
  (s.migrationOf false plot).isNone && !(s.entry false plot).writeProtect && decide (s.migsActive < s.fld (TP + 0x28) 8 0) && s.mayAllocate false false &&
  decide (s.wb.leaves.length + newLeaves ≤ s.leafLimit) &&
  nodes.all (fun n => !s.gx.regrafts.any (fun r => decide (n / 64 ^ r.level = r.index)) && ((s.node 0 n).children.all (fun c => decide ((s.node 0 n).minor c ≠ 127)))) &&
  s.gx.sweep.isNone && (List.range 256).all (fun pg => !s.pageHeld false plot pg)

/-- A redirect into target `tgt`: every frame of the plot applies, every line takes its next version, and a migration of kind 0x5 begins (R148). -/
def State.redirect (s : State) (plot tgt : Nat) : State :=
  let ways := ((List.range 16384).map (fun k => plot * 16384 + k)).map (fun l => (l, s.wayOf l false))
  let s := ways.foldl (fun (t : State) (x : Nat × Option Nat) =>
    match x.2 with
    | none => t
    | some w =>
      let set := lineSet t.wb.salt x.1
      let t := t.readFrame set w x.1
      match t.frame set w with
      | some f => t.setFrame set w { f with state := .applying, progs := 0, stage := if f.anchor then .idle else .programming }
      | none => t) s
  let s := ((List.range 256).map (fun k => plot * 256 + k)).foldl (fun (t : State) n =>
    let nd := t.node 0 n
    t.dirtyLeaf n ((List.range 64).foldl (fun (m : Node) c => m.setMinor c (m.minor c + 1)) nd)) s
  ((s.beginMigration 5 false plot tgt).countGlobal 0xC0 16384).countGlobal 0xC3 1

/-- PLOT_REDIRECT (R148): the buffer holds all 16,384 lines of a logical plot, whole: a target is allocated, every line takes its next
version, and its lines are programmed page by page. -/
def execPlotRedirect (plot : Nat) (s : State) : Answer :=
  .next (
    if s.mayRedirect plot then
      match s.takeSpare false with
      | none => s
      | some (tgt, s) => s.redirect plot tgt
    else s)

/-! ### Anchor journal -/

/-- Start an anchor checkpoint (R217): X, and every anchor frame in use is to be applied. -/
def State.startAnchorCheckpoint (s : State) : State :=
  if s.wb.anchorRun.isSome ∨ ¬ s.wb.recovered then s
  else
    let x := match s.wb.anchors.find? (fun a => !a.verified) with | some a => a.seq - 1 | none => s.wb.anchorNext - 1
    let keys := (s.wb.frames.filter (fun (f : Nat × Frame) => f.2.anchor)).map (fun (f : Nat × Frame) => f.1)
    let s := { s with wb := { s.wb with anchorRun := some (x, s.tb.ztime), anchorFrames := keys, anchorSince := 0 } }
    s.wb.anchors.foldl (fun (t : State) (a : AnchorRec) =>
      if a.type ≠ 3 ∧ (t.openFrame a.line).isNone ∧ (t.applyingFrame a.line).isNone then
        (t.leafWriteBack (a.line / 64) false).startWriteback (t.entry false (linePlot a.line)).phys (linePage a.line)
      else t) s

/-- ANCHOR_JOURNAL_CHECKPOINT (R217): action 0x03. -/
def execAnchorJournalCheckpoint (s : State) : Answer :=
  s.beginAction 0x03 (fun n t => if t.wb.anchorRun.isSome ∨ ¬ t.wb.recovered then t.endEntry n else t.startAnchorCheckpoint)

/-- ANCHOR_COUNT_CHECKPOINT (R217): 32,768 records appended since the last checkpoint. -/
def execAnchorCountCheckpoint (s : State) : Answer := .next (if 32768 ≤ s.wb.anchorSince then s.startAnchorCheckpoint else s)

/-- Has an anchor record up to `x` still a dirty leaf or a delta entry from before `z` behind it (R217)? -/
def State.anchorPending (s : State) (x z : Nat) (a : AnchorRec) : Bool :=
  decide (a.seq ≤ x) && decide (a.type ≠ 3) &&
  ((match Tbl.find s.wb.leaves (a.line / 64) with | some l => decide (l.first ≤ z) | none => false) ||
   (match s.delta (s.entry false (linePlot a.line)).phys (linePage a.line) with | some d => d.engine.isSome || decide (d.first ≤ z) | none => false))

/-- Is the record of the running checkpoint appended? -/
def State.anchorClosing (s : State) : Bool := s.wb.anchors.any (fun a => decide (a.type = 3) && !a.verified)

/-- Steps 4 and 5 of R217: the parity slots of the open log page, and the record carrying X. -/
def State.closeAnchors (s : State) (x : Nat) : State :=
  (s.ringClose).anchorAppend 3 false 0 0 (BitVec.ofNat 64 x) [] { major := 0, minor := 0 }

/-- ANCHOR_CHECKPOINT_COMPLETE (R217): the frames of step 1 are applied, their leaves and deltas written back: the record carrying X is appended. -/
def execAnchorCheckpointComplete (s : State) : Answer :=
  .next (match s.wb.anchorRun with
    | none => s
    | some (x, z) => if s.wb.anchorFrames ≠ [] ∨ s.anchorClosing ∨ s.wb.anchors.any (s.anchorPending x z) then s else s.closeAnchors x)

/-- The checkpoint record has verified: records up to X are no longer needed, and their log plots may be reused (R136, R217). The record itself stays until
the next checkpoint's has verified (R218). -/
def State.anchorsClosed (s : State) : State :=
  match s.wb.anchorRun with
  | none => s
  | some (x, _) =>
    let s := { s with wb := { s.wb with anchors := s.wb.anchors.filter (fun b => decide (x < b.seq)), anchorRun := none, anchorX := x } }
    (State.ringPump (s.setReg64 (WP + 0x44) x)).endAction 0x03

/-! ### Leaf write-back's end -/

/-- LEAF_WRITE_BACK_COMPLETE (R283): the four programs and the record have verified: the place is freed unless the leaf changed meanwhile. -/
def execLeafWriteBackComplete (node : Nat) (s : State) : Answer :=
  .next (match Tbl.find s.wb.leaves node with
    | none => s
    | some l =>
      if l.writing ∧ l.progs = 0 then
        let s := match l.changedAt with
          | none => { s.setNode 0 node l.node with wb := { s.wb with leaves := Tbl.del s.wb.leaves node } }
          | some z => { s with wb := { s.wb with leaves := Tbl.put s.wb.leaves node { l with writing := false, restored := false, first := z, changedAt := none } } }
        s.goOn
      else s)

end Sys2Proof.Machine
end

