-- ==== Sys2Proof/Machine/Image.lean ====
section
/-! DEFINITION. Machine/Image.lean: the flush image and the tables save as they lie on the media (07, R213, R214, Table 07.3; 15, R411). -/

namespace Sys2Proof.Machine

/-! ### What an image holds (Table 07.3) -/

/-- What the image of a flush holds (Table 07.3); of an A3 entry, the same with nothing dirty left. -/
def State.image (s : State) (cause : Nat) : Image :=
  { seq := s.reg64 (WP + 0x30), areaB := !s.log.area.getD true, at_ := s.tb.ztime, cause := cause, f := s.wb.f, salt := s.wb.salt
    frames := s.wb.frames, leaves := s.wb.leaves
    deltas := s.codes.deltas.map (fun (x : Nat × Delta) =>
      (x.1, { x.2 with engine := none, parity := []
                       delta := match x.2.engine with | some e => List.zipWith xorBytes e x.2.delta | none => x.2.delta }))
    meter := s.mt, eff := s.df.eff, lastDrift := s.df.last, hourly := s.df.hourly, daily := s.df.daily
    rebuilds := (s.codes.marked ++ s.codes.rebuilding ++ s.codes.markWait.map (fun (x : Nat × Nat) => x.1)).eraseDups.take 65536
    jrnlSeq := s.tp.nextSeq - 1, ringPos := s.log.pos % ringSlots, anchorSeq := s.wb.anchorNext - 1, anchorX := s.wb.anchorX
    crown := s.gx.crown }

/-- A section padded to a page boundary: 64 payload slots of 64 bytes (R213). -/
def padPage (b : List Byte) : List Byte := b ++ List.replicate (4096 * ceilDiv b.length 4096 - b.length) 0

/-- A signed number as 8 bytes. -/
def intBytes (x : Int) : List Byte := leBytes 8 (BitVec.ofInt 64 x).toNat

/-- Section 0 (DESIGN CHOICE: the order and the widths of its fields), but for the section lengths. -/
def Image.control (i : Image) : List Byte :=
  [i.seq, i.at_, i.cause, i.salt, i.f, i.anchorSeq, i.anchorX, i.jrnlSeq, i.ringPos, i.lastDrift, i.meter.minutes].flatMap (leBytes 8) ++
  intBytes i.meter.firstMinute ++ leBytes 8 ((if i.meter.gap then 1 else 0) + (if i.meter.coalesced then 2 else 0) + (if i.meter.holdover then 4 else 0)) ++
  (List.range 3).flatMap (fun k => (Tbl.get (fun _ => (⟨0, []⟩ : Node)) i.crown k).bytes) ++
  (List.range 40).flatMap (fun c => leBytes 8 (Tbl.get (fun _ => 0) i.eff c)) ++
  (i.hourly ++ i.daily).flatMap (fun (x : Nat × (Nat × Nat)) => [x.1, x.2.1, x.2.2].flatMap (leBytes 8)) ++
  i.rebuilds.flatMap (leBytes 4)

/-- Section 1: the directory word of every frame. -/
def Image.directory (i : Image) : List Byte :=
  (List.range 524288).flatMap (fun k => leBytes 4 (match Tbl.find i.frames k with | some f => f.dirWord.toNat | none => 0))

/-- Section 2: the node number of every dirty-leaf place; DESIGN CHOICE: all ones for a place not in use. -/
def Image.leafIndex (i : Image) : List Byte :=
  i.leaves.flatMap (fun (x : Nat × Leaf) => leBytes 4 x.1) ++ List.replicate (4 * (262144 - i.leaves.length)) 0xFF

/-- Bytes 0 to 335 of a delta entry (Table 04.3). -/
def Delta.bytes (k : Nat) (d : Delta) : List Byte := d.delta.flatten ++ leBytes 4 k ++ leBytes 4 d.count ++ leBytes 8 d.first

/-- Per frame in use: its 64 resolved bytes, then the mask of those written. -/
def Frame.lineBytes (f : Frame) : List Byte :=
  let b := f.bytes
  b.map (fun x => x.getD 0) ++ leBytes 8 ((List.range 64).foldl (fun (m : Nat) n => if ((b.getD n none)).isSome then m + 2 ^ n else m) 0)

/-- A domain's place of a meter bank (DESIGN CHOICE: its layout). -/
def MeterAcc.bytes (a : MeterAcc) : List Byte :=
  [a.readLines, a.writeLines].flatMap (leBytes 8) ++ [a.shortfall, a.heldTicks, a.ladder, a.media, a.own, a.load, a.late, a.maxNs, a.geffMin].flatMap (leBytes 4) ++
  leBytes 12 ((if a.partialWin then 1 else 0) + (if a.scaled then 2 else 0) + (if a.quarantined then 4 else 0) + (if a.deleted then 8 else 0))

/-- Section 6: both meter banks (DESIGN CHOICE: of the closed one the records not yet emitted, as Table 17.5 lays them out). -/
def Image.banks (i : Image) : List Byte :=
  (List.range 4096).flatMap (fun d => match Tbl.find i.meter.open_ d with | some a => a.bytes | none => List.replicate 64 0) ++
  i.meter.closing.flatMap (fun u => u.2) ++ List.replicate (262144 - 64 * i.meter.closing.length) 0

/-- The sections in written order. -/
def Image.sections (i : Image) : List (List Byte) :=
  [i.control, i.directory, i.leafIndex, i.leaves.flatMap (fun (x : Nat × Leaf) => x.2.node.bytes), i.deltas.flatMap (fun (x : Nat × Delta) => x.2.bytes x.1),
   i.frames.flatMap (fun (x : Nat × Frame) => x.2.lineBytes), i.banks]

/-! ### Its slots (R213) -/

/-- A byte stream in page-aligned sections as the 64-byte payloads of consecutive data slots. -/
def payloads (sections : List (List Byte)) : List (List Byte) :=
  let b := sections.flatMap padPage
  (List.range (b.length / 64)).map (fun k => (b.drop (64 * k)).take 64)

/-- A payload slot under the image key of an image number: tweak and tag carry the slot's index within the area and that number (Table 10.3). -/
def imageSlot (seq idx : Nat) (payload : List Byte) : List Byte :=
  sealSlot (derivedSet labelImage seq) (tweakOf 2 seq 0 0 idx) payload 0x60

/-- The payload slots from index `at_` of an area. -/
def imageSlots (seq at_ : Nat) (sections : List (List Byte)) : List (List Byte) := (payloads sections).mapIdx (fun k b => imageSlot seq (at_ + k) b)

/-- The seal (R214): image number, section lengths and CRC-64 over all payload slots in order. -/
def sealOf (seq at_ : Nat) (sections : List (List Byte)) (slots : List (List Byte)) : List Byte :=
  imageSlot seq at_ (padLine (leBytes 8 seq ++ sections.flatMap (fun b => leBytes 6 b.length) ++ leBytes 8 (Config.crc64 slots.flatten).toNat))

/-- First log plot of a flush image area. -/
def areaBase (areaB : Bool) : Nat := if areaB then 512 else 0

/-- What the tables save holds (R411). DESIGN CHOICE: of the tables partition, what is not kept elsewhere: the log index of stranded lines and the wear cache;
then the meter banks. -/
def State.tablesSections (s : State) (i : Image) : List (List Byte) :=
  [(s.tp.strandIdx ++ s.tp.wear).flatMap (fun (x : Nat × Nat) => [x.1, x.2].flatMap (leBytes 8)), i.banks]

/-- Program a body and have its seal follow: (first index of the body, its slots, its seal). The seal is put out by `sealPump`. -/
def State.putBody (s : State) (i : Image) (at_ : Nat) (sections : List (List Byte)) : State :=
  let slots := imageSlots i.seq at_ sections
  let s := s.putLogPages (areaBase i.areaB) at_ slots
  { s with wb := { s.wb with sealing := some (at_ + slots.length, sealOf i.seq (at_ + slots.length) sections slots) } }

/-- Is a PROGRAM of a log-field slot still to verify? -/
def State.logWrites (s : State) : Bool :=
  s.media.chans.any (fun c => (c.2.flight.map (·.cmd) ++ c.2.queue).any (fun m => decide (m.op = .program) && decide (m.why = .log)))

/-- The writing of an image goes on once what is out has verified: the seal follows its body (R211 step 6), and a tables save its image (R411). -/
def State.sealPump (s : State) : State :=
  match s.wb.writing with
  | none => s
  | some i =>
    if s.logWrites then s
    else match s.wb.sealing with
      | some (n, slot) => ({ s with wb := { s.wb with sealing := none, sealed := s.wb.sealed + 1 } }).putLogPages (areaBase i.areaB) n [slot]
      | none =>
        if i.cause = 4 ∧ s.wb.sealed = 1 then s.putBody i (64 * ceilDiv ((payloads i.sections).length + 1) 64) (s.tablesSections i) else s

/-- Begin to write an image (R211, R213): into the area that does not hold the last restored one. -/
def State.writeImage (s : State) (cause : Nat) : State :=
  let i := s.image cause
  State.sealPump (State.putBody { s with wb := { s.wb with writing := some i, sealed := 0 } } i 0 i.sections)

/-- Is the image being written sealed, the tables save of an A3 entry too, and everything verified? -/
def State.imageSealed (s : State) : Bool :=
  match s.wb.writing with
  | none => false
  | some i => s.wb.sealing.isNone && !s.logWrites && decide (s.wb.sealed = (if i.cause = 4 then 2 else 1))

/-- The image is in place. -/
def State.takeImage (s : State) : State := { s with wb := { s.wb with image := s.wb.writing, writing := none, sealed := 0 } }

/-- The image and tables save that a flush or entry has begun are given up; DESIGN CHOICE: their area is erased again. -/
def State.dropImage (s : State) : State :=
  match s.wb.writing with
  | none => s
  | some i =>
    (List.range 512).foldl (fun (t : State) k => t.erasePlot (areaBase i.areaB + k) 2) { s with wb := { s.wb with writing := none, sealing := none, sealed := 0 } }

/-- The flush area that the next image takes is erased (step 7 of Table 07.6). -/
def State.eraseIdleArea (s : State) : State :=
  (List.range 512).foldl (fun (t : State) k => t.erasePlot (areaBase (!t.log.area.getD true) + k) 2) s

/-- Is a plot of the flush image areas still being erased? -/
def State.areaErasing (s : State) : Bool := s.tp.erasing.any (fun x => decide (x.1 < 1024))

end Sys2Proof.Machine
end

