-- ==== Sys2Proof/Machine/Hub.lean ====
section
/-! DEFINITION. Machine/Hub.lean: what the controller does with the responses of the hubs (03, Tables 03.6 and 03.7; the ladder of 04), with
channel resets (R87 to R90), lost channels (R514, R515) and bring-up (R86, R2, R26, R55). -/

namespace Sys2Proof.Machine

/-! ### Tags -/

/-- A response ends the command on a tag: the tag and its tokens are free (R66, R79). -/
def State.release (s : State) (c tag : Nat) : State :=
  s.setChan c { s.chan c with flight := (s.chan c).flight.filter (fun f => ¬ f.tag = tag) }

/-- RESUME to every suspended plane with no read queued or in flight (R78). -/
def State.resumePlanes (s : State) (c : Nat) : State :=
  (s.chan c).planes.foldl (fun (t : State) (p : Nat × Plane) =>
    match p.2.suspended with
    | none => t
    | some _ =>
      let x := t.chan c
      let reads := x.queue.any (fun m => m.op.reads && decide (planeKey m.addr = p.1)) || (x.onPlane p.1).any (fun f => f.cmd.op.reads)
      let sent := x.queue.any (fun m => decide (m.op = .resume) && decide (planeKey m.addr = p.1)) || x.flight.any (fun f => decide (f.cmd.op = .resume) && decide (planeKey f.cmd.addr = p.1))
      if reads ∨ sent then t else t.submit c (MCmd.of .resume (mediaAddr (p.1 / 16) (p.1 % 16) 0 0) 0 6 .ctl)) s

/-- An operation that was suspended has ended: its plane is no longer suspended. -/
def State.unsuspend (s : State) (c tag : Nat) : State :=
  let x := s.chan c
  (s.setChan c { x with planes := x.planes.map (fun (p : Nat × Plane) => if p.2.suspended = some tag then (p.1, { p.2 with suspended := none, suspendedAt := none }) else p) }).showSuspended c

/-! ### Page jobs (reads) -/

/-- A stranded line's slot is back, to be programmed into a new place (R184, R157); with the area full the old copy stays. A slot that does not decode is
moved as a poison slot (R119, R120). -/
def State.restranded (s : State) (line : Nat) (b : Option (List Byte)) : State :=
  let d := (s.domOfPlot (linePlot line)).getD 0
  match b, Tbl.find s.tp.strandIdx line with
  | some x, _ => (s.strandPut d line x).2
  | none, some q =>
    let s := (s.ladderCount (s.strandAddr q).1 5).event 0x2102 0 (some d) (s.entry false (linePlot line)).phys (linePage line * 256 + lineSlot line)
    (s.strandPut d line poisonSlot).2
  | none, none => s

/-- Go on with a job whose reads are all back. -/
def State.jobReady (s : State) (j : Job) (lat : Nat) : State :=
  match j.kind with
  | .parityWb => s.parityRead j
  | .rebuild => s.rebuildRead j
  | .refreshPage => s.refreshRead j
  | .migratePage => s.copyRead j
  | .rewrite => s.rewriteRead j
  | .reconstruct fid => s.reconDone j fid lat
  | .scrubPage => s.scrubRead j
  | .rotate => State.rotatePump s.rotateFuel s
  | .regraft level index =>
    (match s.regraftOf level index with
     | some r => if level = 0 then (s.regraftLines j r).regraftTry else (s.regraftNodes j r).regraftTry
     | none => s.dropJob j.id)
  | .restrand line => (s.dropJob j.id).restranded line (Tbl.find j.slots 0)
  | .applyRead set way => s.applySolved j set way
  | .sweep n => s.sweepRead j n
  | .strand _ _ | .scan _ | .margin | .redirect => s.dropJob j.id

/-- A job's read of an item has ended, with its decoded slot or without. -/
def State.jobItem (s : State) (id item : Nat) (b : Option (List Byte)) (lat : Nat) : State :=
  match s.job id with
  | none => s
  | some j =>
    let j := { j with reads := j.reads - 1, slots := match b with | some x => Tbl.put j.slots item x | none => j.slots }
    let s := s.setJob j
    if j.reads = 0 then s.jobReady j lat else s

/-- Is an item of a job a data slot of its page? -/
def Job.isLine (j : Job) (item : Nat) : Bool :=
  decide (item < 64) && !j.node &&
  (match j.kind with
   | .rebuild | .refreshPage | .migratePage | .rewrite | .reconstruct _ | .scrubPage | .rotate | .applyRead _ _ | .sweep _ => true
   | .regraft level _ => decide (level = 0)
   | .parityWb | .scan _ | .margin | .redirect | .restrand _ | .strand _ _ => false)

/-- A READ of a job has decoded with no corrected symbol: its slot may be copied inside its die (R70). -/
def State.jobClean (s : State) (id item c : Nat) (m : MCmd) : State :=
  match s.job id with
  | none => s
  | some j => if m.op = .read ∧ s.slotAddr j.plot j.page item = (c, m.addr) then s.setJob { j with clean := item :: j.clean } else s

/-- A line of a job has decoded at ladder step `k`: counted, and queued for rewrite after step 2 or 3 (R118) where its job does not program
the slot itself. -/
def State.jobDecoded (s : State) (id item c k : Nat) : State :=
  match s.job id with
  | none => s
  | some j =>
    if j.isLine item then
      let s := s.ladderCount c k
      let own : Bool := match j.kind with
        | .refreshPage | .rewrite => true
        | .parityWb | .rebuild | .migratePage | .reconstruct _ | .regraft _ _ | .scrubPage | .scan _ | .margin | .redirect | .restrand _ | .rotate
        | .applyRead _ _ | .strand _ _ | .sweep _ => false
      if 2 ≤ k ∧ s.flag CD 8 ∧ ¬ own then s.requeue j.plot j.page item else s
    else s

/-! ### Programs of jobs -/

/-- A PROGRAM of a job has verified. -/
def State.jobProgrammed (s : State) (id : Nat) : State :=
  match s.job id with
  | none => s
  | some j =>
    match j.kind with
    | .refreshPage => s.refreshVerified j
    | .migratePage => s.copyVerified j
    | .rebuild => s.setJob { j with progs := j.progs - 1 }
    | .regraft _ _ => (s.setJob { j with progs := j.progs - 1 }).regraftTry
    | .rotate => let s := s.setJob { j with progs := j.progs - 1 }
                 State.rotatePump s.rotateFuel s
    | .strand line place => if j.progs ≤ 1 then (s.dropJob id).strandPlaced line place else s.setJob { j with progs := j.progs - 1 }
    | .parityWb | .rewrite | .reconstruct _ | .scrubPage | .scan _ | .margin | .redirect | .restrand _ | .applyRead _ _ | .sweep _ =>
      if j.progs ≤ 1 then (s.dropJob id).goOn else s.setJob { j with progs := j.progs - 1 }

/-- The logical line of a data slot of an entry's plot, by page and page slot. -/
def lineAtSlot (i page sl : Nat) : Nat := i * 16384 + page * 64 + sl

/-- A PROGRAM of a job has failed its verify (R154): a copy's target is replaced; a stranded line goes to another place (R157); elsewhere the plot is to be
retired, and where it cannot be, a line is stranded (R158). A parity write-back keeps its copy (R108). The job then goes on. -/
def State.jobProgramFailed (s : State) (id item : Nat) (m : MCmd) : State :=
  match s.job id with
  | none => s
  | some j =>
    match j.kind with
    | .migratePage => s.copyFailed j
    | .strand line _ =>
      let again := (s.dropJob id).strand ((s.domOfPlot (linePlot line)).getD 0) line
      if item = 1 then again (m.data.headD poisonSlot)
      else match s.applyingFrame line with
        | some f => again (s.frameSlot line f)
        | none => s.dropJob id
    | .parityWb =>
      (match s.ownerOf m.dst with
       | some (node, i) => (s.programFailed node i).2.parityKept j item
       | none => s.parityKept j item)
    | .rebuild | .refreshPage | .rewrite | .reconstruct _ | .regraft _ _ | .scrubPage | .scan _ | .margin | .redirect | .restrand _ | .rotate | .applyRead _ _
    | .sweep _ =>
      match s.ownerOf m.dst with
      | none => s.jobProgrammed id
      | some (node, i) =>
        let (can, s) := s.programFailed node i
        let s := if can ∨ node ∨ 64 ≤ item then s
          else s.strand ((s.domOfPlot i).getD 0) (lineAtSlot i j.page item) (m.data.headD poisonSlot)
        s.jobProgrammed id

/-- A PROGRAM of a node's write-back has failed its verify: its plot is to be retired, and the copy is programmed again (R202: the place is
freed only after both copies verify); a copy on a member out of service counts no longer. -/
def State.nodeProgramFailed (s : State) (leaf level index copy : Nat) (m : MCmd) : State :=
  let num := nodeNumber s.usable level index
  let (_, s) := s.programFailed true (num / 8704)
  let p := (s.entry true (num / 8704)).phys
  let (c, a) := s.nodeAddr p num copy
  if s.dieOut c (addrDie a) then s.leafProgress leaf
  else s.submit c { m with addr := a, dst := p }

/-- A PROGRAM of a log-field or checkpoint slot has failed its verify: it is made again, unless its member has gone out of service. -/
def State.logFailed (s : State) (c : Nat) (m : MCmd) : State := if s.dieOut c (addrDie m.addr) then s else s.submit c m

/-- A PROGRAM or COPY has ended: verified, or failed. -/
def State.programEnded (s : State) (c : Nat) (m : MCmd) (ok : Bool) : State :=
  match m.why with
  | .frame set way => if ok then s.frameVerified set way false m.dst else (s.frameFailed set way false m.dst).lifeUpdate
  | .dual set way => if ok then s.frameVerified set way true m.dst else (s.frameFailed set way true m.dst).lifeUpdate
  | .node leaf level index copy => if ok then s.leafProgress leaf else (s.nodeProgramFailed leaf level index copy m).lifeUpdate
  | .job id item => if ok then s.jobProgrammed id else (s.jobProgramFailed id item m).lifeUpdate
  | .log => if ok then s.sealPump.ckptPump else s.logFailed c m
  | .recorder i => if ok then s else (s.recorderReplace i m.dst 1).lifeUpdate
  | .apply _ _ | .fetch _ _ | .erase _ _ | .verify _ _ | .ctl => s

/-! ### Verifying programs after a channel reset (R88) -/

/-- Media address of slot `k` that a PROGRAM or COPY writes. -/
def MCmd.target (m : MCmd) (k : Nat) : Nat := if m.op = .copy then m.copyTo else m.addr + k

/-- A slot of a verify has been found good, or its new program has ended: with the last one the command ends. -/
def State.verifyNext (s : State) (c tag : Nat) (ok : Bool) : State :=
  match (s.chan c).byTag tag with
  | none => s
  | some f => if ok ∧ (s.chan c).verifying tag then s else (s.release c tag).programEnded c f.cmd ok

/-- A verify READ has returned a slot that differs, or nothing: the slot is programmed again on the overwrite path. -/
def State.verifyMiss (s : State) (c tag k : Nat) : State :=
  match (s.chan c).byTag tag with
  | none => s
  | some f =>
    s.submit c { MCmd.of .program (f.cmd.target k) 1 f.cmd.eng (.verify tag k) with data := [f.cmd.data.getD k erasedSlot], dst := f.cmd.dst, tier := 2 }

/-- A verify READ has decoded a slot: all 80 bytes are compared. -/
def State.verifySlot (s : State) (c tag k : Nat) (b : List Byte) : State :=
  match (s.chan c).byTag tag with
  | none => s
  | some f => if f.cmd.data.getD k erasedSlot = b then s.verifyNext c tag true else s.verifyMiss c tag k

/-! ### Reads and the ladder (R114, R115) -/

/-- The stored form of a frame has decoded at ladder step `k`: counted (R114); its apply programs the slot itself (R118). -/
def State.applyDecoded (s : State) (set way c k : Nat) (b : List Byte) : State := (s.ladderCount c k).applyOld set way (.slot b)

/-- The stored form of a frame has not decoded by step 3. -/
def State.applyMissed (s : State) (set way : Nat) : State :=
  match s.frame set way with
  | some f => s.applyFour set way (lineOf s.wb.salt set f.tag)
  | none => s

/-- A read has decoded at ladder step `k`; `clean`: with no corrected symbol. -/
def State.readDecoded (s : State) (c : Nat) (m : MCmd) (k : Nat) (clean : Bool) (b : List Byte) (x : Meas) : State :=
  match m.why with
  | .fetch id role => s.fetchSlot id role c k b x
  | .job id item => ((if clean then s.jobClean id item c m else s).jobDecoded id item c k).jobItem id item (some b) x.latNs
  | .verify tag k' => s.verifySlot c tag k' b
  | .apply set way => s.applyDecoded set way c k b
  | .frame _ _ | .node _ _ _ _ | .dual _ _ | .erase _ _ | .log | .recorder _ | .ctl => s

/-- A read has not decoded by step 3; `out`: its die or channel is out of service. -/
def State.readMissed (s : State) (c : Nat) (m : MCmd) (out : Bool) (x : Meas) : State :=
  match m.why with
  | .fetch id role => s.fetchMiss id role c out x
  | .job id item => s.jobItem id item none x.latNs
  | .verify tag k => s.verifyMiss c tag k
  | .apply set way => s.applyMissed set way
  | .frame _ _ | .node _ _ _ _ | .dual _ _ | .erase _ _ | .log | .recorder _ | .ctl => s

/-- A ladder step of a read has not decoded: the next enabled step, at the head of its engine's queue (R233). -/
def State.nextStep (s : State) (c : Nat) (m : MCmd) (dev : Int) (x : Meas) : State :=
  let base := m.step / 4 * 4
  let at_ := m.step % 4
  let set := m.param % 16
  if at_ < 2 ∧ s.flag CD 1 ∧ m.op = .read then
    let set' := if dev < 0 then set - 1 else min 15 (set + 1)
    s.submitHead c { m with param := set' + 16, step := base + 2 }
  else if at_ < 3 ∧ s.flag CD 2 ∧ m.op = .read then s.submitHead c { m with op := .readSoft, param := set, step := base + 3 }
  else s.readMissed c m false x

/-! ### A die or a channel goes out of service -/

/-- A die has reported status 0x7: it is out of service and its plots are degraded (R115, R156). -/
def State.dieFailed (s : State) (c d : Nat) : State :=
  let x := s.chan c
  if x.diesFailed.testBit d then s
  else (s.setChan c { x with diesFailed := x.diesFailed ||| 2 ^ d }).mediaLost

/-- A command that a lost channel ends with status 0x6 (R514). -/
def State.ended (s : State) (c : Nat) (m : MCmd) : State :=
  match m.op with
  | .read | .readSoft => s.readMissed c m true { latNs := 0, loadCause := 0 }
  | .marginRead => (match m.why with
    | .job id item => (match s.job id with | some j => s.marginSlot j item 0 | none => s)
    | _ => s)
  | .program | .copy => s.programEnded c m false
  | .erase => (match m.why with | .erase p _ => s.eraseFail p 3 | _ => s)
  | .suspend | .resume | .status | .temp | .config => s

/-- End every command of a channel, in flight and queued. -/
def State.endAll (s : State) (c : Nat) : State :=
  let x := s.chan c
  let keep (m : MCmd) : Bool := match m.why with | .verify _ _ => false | _ => true
  let ms := (x.flight.map (fun f => f.cmd) ++ x.queue).filter keep
  let s := s.setChan c { x with flight := [], queue := [], planes := [] }
  ms.foldl (fun (t : State) m => t.ended c m) (s.showSuspended c)

/-- A channel enters FAILED (R90, R514), with event 0x1103 unless R2 puts it there. -/
def State.failChannel (s : State) (c : Nat) (event : Bool) : State :=
  if s.chanState c = 7 then s
  else
    let s := s.setChanState c 7
    let s := if event then s.event 0x1103 c none c 0 else s
    (s.mediaLost).endAll c

/-- The reads of a channel that its reset delays note cause 0x2 of Table 08.3 on their fetches (R91). -/
def State.delayReads (s : State) (c : Nat) : State :=
  let note (t : State) (id : Nat) : State := match t.fetch id with
    | some f => t.setFetch { f with cause := lowerCause 2 f.cause, reset := true }
    | none => t
  ((s.chan c).flight.map (fun f => f.cmd) ++ (s.chan c).queue).foldl (fun (t : State) (m : MCmd) =>
    match m.why with
    | .fetch id _ => note t id
    | .job id _ => (match t.job id with
      | some j => (match j.kind with
        | .reconstruct fid => note t fid
        | .parityWb | .rebuild | .refreshPage | .migratePage | .rewrite | .regraft _ _ | .scrubPage | .scan _ | .margin | .redirect | .restrand _ | .rotate
        | .applyRead _ _ | .strand _ _ | .sweep _ => t)
      | none => t)
    | .apply _ _ | .frame _ _ | .node _ _ _ _ | .dual _ _ | .erase _ _ | .verify _ _ | .log | .recorder _ | .ctl => t) s

/-- A trigger resets a channel in READY or RETRAIN (R87); the third reset in 60 s fails it (R90). -/
def State.triggerReset (s : State) (c cause : Nat) : State :=
  if ¬ s.resettable c then s
  else
    let third := s.thirdReset c
    let s := (s.delayReads c).resetChannel c cause
    if third then s.failChannel c true else s

/-- Status 0x7 of a die, and the channel reset when every die has failed (R87). -/
def State.dieStatus (s : State) (c d : Nat) : State :=
  let s := s.dieFailed c d
  if (s.chan c).diesFailed % 256 = 255 then s.triggerReset c 3 else s

/-- What every response row does at its end: RESUMEs that are due, pins that wait, and the disable that waits for the last command. -/
def State.settle (s : State) (c : Nat) : State :=
  State.maintPump (s.fld (RK + 0x38) 15 0 + 1) (s.resumePlanes c)

/-- Take the response to a command: `ops` are the commands it may answer; a response on a tag not in use is dropped. During a channel reset
the commands in flight keep their tags (R88), and no response acts. -/
def State.answered (s : State) (c tag : Nat) (ops : List MOp) (k : MCmd → State → State) : Answer :=
  below c 40 s (.next (
    if s.chanState c = 6 then s
    else match (s.chan c).byTag tag with
      | none => s
      | some f => if f.cmd.op ∈ ops then (k f.cmd ((s.unsuspend c tag).release c tag)).settle c else s))

/-- Count a READ whose die has performed the pilot re-sense (Table 17.11). -/
def State.resense (s : State) (c : Nat) (did : Bool) : State := if did then s.count (2 + c / 8) 0x65 (c % 8) 1 else s

/-- Does the READ of a slot teach its die's coefficient: is it a data slot or a counter-node slot (R176)? -/
def State.learnsFrom (s : State) (c a : Nat) : Bool :=
  let (p, _, sl) := s.placeAt c a
  let st := (s.plotRec p).state
  decide (6168 ≤ p) && (decide (st = 3) || (decide (st ≠ 8) && decide (sl < 64)))

/-- READ_RESPONSE (R114): decoded, or climbing the ladder. A qualifying response teaches its die's coefficient (R176). -/
def execReadResponse (chan tag : Nat) (st : HubStatus) (resensed : Bool) (dev : Int) (slot : List Byte) (m : Meas) (s : State) : Answer :=
  s.answered chan tag [.read] (fun q s =>
    match st with
    | .success =>
      let s := s.resense chan resensed
      let s := if s.learnsFrom chan q.addr then s.learn chan (addrDie q.addr) (q.step % 4) q.young dev else s
      (match lineDecode slot [] with
       | some b =>
         let k := if q.step % 4 = 0 then (if resensed then 1 else 0) else 2
         s.readDecoded chan q k (decide (b = slot)) b m
       | none => s.nextStep chan q dev m)
    | .dieFailed => (s.dieStatus chan (addrDie q.addr)).readMissed chan q true m
    | .aborted => if s.flag (WP + 0x2C) 0 then s else s.submitHead chan q
    | .planeSuspended | .standby | .programFailed | .eraseFailed | .addressError | .nothingToDo => s.nextStep chan q 0 m)

/-- READ_SOFT_RESPONSE (R114, step 3): decoded with the erasure map as flags. -/
def execReadSoftResponse (chan tag : Nat) (st : HubStatus) (slot : List Byte) (erasures : List Nat) (m : Meas) (s : State) : Answer :=
  s.answered chan tag [.readSoft] (fun q s =>
    match st with
    | .success =>
      (match lineDecode slot (erasures.filter (fun n => n < 80)) with
       | some b => s.readDecoded chan q 3 false b m
       | none => s.readMissed chan q false m)
    | .dieFailed => (s.dieStatus chan (addrDie q.addr)).readMissed chan q true m
    | .aborted => if s.flag (WP + 0x2C) 0 then s else s.submitHead chan q
    | .planeSuspended | .standby | .programFailed | .eraseFailed | .addressError | .nothingToDo => s.readMissed chan q false m)

/-- MARGIN_READ_RESPONSE (R185): the count of weak cells of a slot. -/
def execMarginReadResponse (chan tag : Nat) (st : HubStatus) (weak : Nat) (s : State) : Answer :=
  s.answered chan tag [.marginRead] (fun q s =>
    match q.why with
    | .job id item =>
      let s := if st = .dieFailed then s.dieStatus chan (addrDie q.addr) else s
      if (st = .aborted ∨ st = .planeSuspended ∨ st = .standby) ∧ ¬ s.flag (WP + 0x2C) 0 then s.submitHead chan q
      else (match s.job id with
        | some j => s.marginSlot j item (if st = .success then weak else 0)
        | none => s)
    | .fetch _ _ | .apply _ _ | .frame _ _ | .node _ _ _ _ | .dual _ _ | .erase _ _ | .verify _ _ | .log | .recorder _ | .ctl => s)

/-- The end of a PROGRAM or COPY by its status. -/
def State.programStatus (s : State) (c : Nat) (st : HubStatus) (q : MCmd) : State :=
  let done (t : State) (ok : Bool) : State :=
    match q.why with
    | .verify tag _ => t.verifyNext c tag ok
    | _ => t.programEnded c q ok
  match st with
  | .success => done s true
  | .aborted | .planeSuspended | .standby => s.submitHead c q
  | .dieFailed => done (s.dieStatus c (addrDie q.addr)) false
  | .programFailed => done (s.count (2 + c / 8) 0x76 (c % 8) 1) false
  | .eraseFailed | .addressError | .nothingToDo => done s false

/-- PROGRAM_RESPONSE (R154). -/
def execProgramResponse (chan tag : Nat) (st : HubStatus) (s : State) : Answer := s.answered chan tag [.program] (fun q s => s.programStatus chan st q)

/-- COPY_RESPONSE (R70): as a PROGRAM. -/
def execCopyResponse (chan tag : Nat) (st : HubStatus) (s : State) : Answer := s.answered chan tag [.copy] (fun q s => s.programStatus chan st q)

/-- ERASE_RESPONSE (R140, R155). An erase that a flush abandoned is redone by recovery (Table 07.4). -/
def execEraseResponse (chan tag : Nat) (st : HubStatus) (s : State) : Answer :=
  s.answered chan tag [.erase] (fun q s =>
    match q.why with
    | .erase p _ =>
      (match st with
       | .success => s.eraseDone p
       | .aborted | .planeSuspended | .standby => if s.flag (WP + 0x2C) 0 then s else s.submitHead chan q
       | .dieFailed => (s.dieStatus chan (addrDie q.addr)).eraseFail p 3
       | .eraseFailed => (s.count (2 + chan / 8) 0x77 (chan % 8) 1).eraseFail p 2
       | .programFailed | .addressError | .nothingToDo => s.eraseFail p 2)
    | .fetch _ _ | .job _ _ | .apply _ _ | .frame _ _ | .node _ _ _ _ | .dual _ _ | .verify _ _ | .log | .recorder _ | .ctl => s)

/-- SUSPEND_RESPONSE (R73, R74): the operation that the plane runs is suspended; status 0x5 changes nothing. -/
def execSuspendResponse (chan tag : Nat) (st : HubStatus) (s : State) : Answer :=
  s.answered chan tag [.suspend] (fun q s =>
    if st = .success then
      let x := s.chan chan
      let k := planeKey q.addr
      match x.running k with
      | some f =>
        if f.cmd.op.suspendable then ((s.setChan chan (x.setPlane k { x.plane k with suspended := some f.tag, suspendedAt := some s.tb.tick })).showSuspended chan).count (2 + chan / 8) 0x63 (chan % 8) 1 else s
      | none => s
    else if st = .dieFailed then s.dieStatus chan (addrDie q.addr) else s)

/-- RESUME_RESPONSE (R73): the operation goes on, as the controller has held since it sent the RESUME (Table 03.9). -/
def execResumeResponse (chan tag : Nat) (st : HubStatus) (s : State) : Answer :=
  s.answered chan tag [.resume] (fun q s => if st = .dieFailed then s.dieStatus chan (addrDie q.addr) else s)

/-- The reads still queued for a plane are left to wait behind the operation that a RESUME sets going again (R78). -/
def State.leaveWaiting (s : State) (c k : Nat) : State :=
  s.setChan c { s.chan c with queue := (s.chan c).queue.map (fun m => if m.op.reads && decide (planeKey m.addr = k) then { m with waits := true } else m) }

/-- SUSPEND_HOLD_TIMEOUT (R78): max_hold_us has passed: RESUME now, with event 0x1106; the reads still queued wait behind the operation. -/
def execSuspendHoldTimeout (chan die plane : Nat) (s : State) : Answer :=
  below chan 40 s (below die 8 s (below plane 16 s (.next (
    match ((s.chan chan).plane (16 * die + plane)).suspendedAt with
    | none => s
    | some t =>
      if s.tb.tick < t + s.fld (MC + chan * 0x1000 + 0x10) 15 8 then s
      else (((s.leaveWaiting chan (16 * die + plane)).submitHead chan (MCmd.of .resume (mediaAddr die plane 0 0) 0 6 .ctl)).count (2 + chan / 8) 0x64 (chan % 8) 1).event 0x1106 chan none chan (16 * die + plane)))))

/-! ### Replay after a channel reset (R88) -/

/-- Send the message of a command in flight again. -/
def State.resend (s : State) (c : Nat) (f : InFlight) : State :=
  let x := s.chan c
  s.setChan c { x with link := x.link.send (f.cmd.bytes f.tag) }

/-- The READ that verifies slot `k` of the PROGRAM or COPY on a tag (R88): its set and parameter byte as for any READ of the slot (R173, R174). Log-field
slots are read with set 0. -/
def State.verifyRead (s : State) (c : Nat) (f : InFlight) (k : Nat) : State :=
  let a := f.cmd.target k
  let param : Nat × Bool :=
    if f.cmd.dst < 6168 then (0x10, false)
    else
      let node := decide ((s.plotRec f.cmd.dst).state = 3)
      let e := s.entryOf f.cmd.dst
      let (set, young) := s.predict c (addrDie a) e.epoch e.wearClass (!node && s.filterHit f.cmd.dst (a % 1024 / 4))
      (s.readParam set, young)
  s.submitHead c { MCmd.of .read a param.1 f.cmd.eng (.verify f.tag k) with tier := 2, young := param.2 }

/-- What was in flight is replayed: reads and erases reissued, programs verified slot by slot. -/
def State.replayAll (s : State) (c : Nat) : State :=
  (s.chan c).flight.foldl (fun (t : State) (f : InFlight) =>
    match f.cmd.op with
    | .read | .readSoft | .marginRead | .erase => t.resend c f
    | .program | .copy =>
      if f.cmd.verifies then t.resend c f
      else (List.range (max 1 f.cmd.data.length)).foldl (fun (u : State) k => u.verifyRead c f k) t
    | .suspend | .resume | .status | .temp | .config => t) s

/-- Issue a control command outside the arbiter, during bring-up and after a channel reset. -/
def State.direct (s : State) (c : Nat) (m : MCmd) : State := s.launch c m

/-- A STATUS of every plane of a stack, one for each die. -/
def State.statusAll (s : State) (c : Nat) : State :=
  (List.range 8).foldl (fun (t : State) d => t.direct c (MCmd.of .status (mediaAddr d 0 0 0) 0 6 .ctl)) s

/-- CONFIG reads the identity register, with die and plane 0 (R516, Table 03.13 step 5). -/
def State.readIdentity (s : State) (c : Nat) : State := (s.setChanState c 3).direct c (MCmd.of .config 0 0 6 .ctl)

/-- The link of a channel reset has retrained (Table 03.14 steps 4 to 6): STATUS of every plane, READY, and the commands in flight are replayed. A channel
that had not been READY reads its identity again (R513). -/
def State.channelBack (s : State) (c : Nat) : State :=
  if (s.chan c).before = 3 then s.readIdentity c else (((s.delayReads c).statusAll c).setChanState c 4).replayAll c

/-- CHANNEL_RESET_COMPLETE (Table 03.14 steps 4 to 6, R88). -/
def execChannelResetComplete (chan : Nat) (s : State) : Answer :=
  below chan 40 s (.next (if s.chanState chan = 6 then (s.channelBack chan).resetDone 7 (s.fld (MC + chan * 0x1000 + 4) 23 16) else s))

/-- RETRAIN_TIMEOUT (R64, R87): the link has not retrained: channel reset with cause 0x02. -/
def execRetrainTimeout (chan : Nat) (s : State) : Answer :=
  below chan 40 s (.next (if s.chanState chan = 5 then s.triggerReset chan 2 else s))

/-- ARBITER_WATCHDOG (R85): a grant has been held for timeout_us without a handover (R82): channel reset with cause 0x01. -/
def execArbiterWatchdog (chan : Nat) (s : State) : Answer :=
  below chan 40 s (.next (match (s.chan chan).grant with
    | some (_, _, t) => if t + s.fld (MC + chan * 0x1000 + 0xC) 15 0 ≤ s.tb.tick then s.triggerReset chan 1 else s
    | none => s))

/-- DATA_TAG_TIMEOUT (R85): a data tag has been in use for 10 ms. -/
def execDataTagTimeout (chan tag : Nat) (s : State) : Answer :=
  below chan 40 s (.next (match (s.chan chan).byTag tag with
    | some f => if f.cmd.op.isData ∧ f.issued + 10000 ≤ s.tb.tick then s.triggerReset chan 1 else s
    | none => s))

/-- MC_CTL_RESET (R87): a write of 1 to MC_CTL.reset. -/
def execMcCtlReset (who : Requester) (chan : Nat) (s : State) : Answer :=
  below chan 40 s (.next (s.asWriter who (MC + chan * 0x1000) (fun t => t.triggerReset chan 4)))

/-! ### Groups, bring-up and identity -/

/-- Is a media group populated: does a rail channel of kind rail belong to shutdown group `g` + 1 (Table 15.10)? -/
def State.groupPopulated (s : State) (g : Nat) : Bool :=
  (List.range 24).any (fun n => decide (s.fld (SQ + 0x100 + n * 0x20) 31 30 = 1) && decide (s.fld (SQ + 0x100 + n * 0x20) 23 21 = g + 1))

/-- Populated channels. -/
def State.populated (s : State) : List Nat := ((List.range 5).filter s.groupPopulated).flatMap (fun g => (List.range 8).map (fun k => 8 * g + k))

/-- LNG_RST_N of a group driven. -/
def State.driveReset (s : State) (g : Nat) (high : Bool) : State :=
  let b : BitVec 5 := BitVec.ofNat 5 (2 ^ g)
  { s with pins := { s.pins with lngRstN := if high then s.pins.lngRstN ||| b else s.pins.lngRstN &&& ~~~b } }

/-- A channel in TRAIN, CONFIG or CHRESET whose LNG_RST_N goes low is in RESET: its hub has aborted every command, and its identity is read anew. -/
def State.heldInReset (s : State) (c : Nat) : State :=
  if s.chanState c = 2 ∨ s.chanState c = 3 ∨ s.chanState c = 6 then
    let s := (s.setChan c (s.chan c).aborted).setChanState c 1
    { s with media := { s.media with identified := s.media.identified.filter (fun k => ¬ k = c) } }
  else s

/-- A whole media group is brought up again after channel `chan` has not retrained (R89): LNG_RST_N low with event 0x1107, the other channels through
steps 1 to 3 of a channel reset of their own. -/
def State.groupReset (s : State) (chan : Nat) : State :=
  let g := chan / 8
  let s := (s.driveReset g false).event 0x1107 chan none g 0
  let s := ((List.range 8).filter (fun k => 8 * g + k ≠ chan)).foldl (fun (t : State) k => t.triggerReset (8 * g + k) 5) s
  (List.range 8).foldl (fun (t : State) k => t.heldInReset (8 * g + k)) s

/-- A channel leaves OFF, or goes to DISABLED where disable is 1 (R86 step 1, R515). -/
def State.leaveOff (s : State) (c : Nat) : State :=
  if s.chanState c = 0 then s.setChanState c (if s.flag (MC + c * 0x1000) 30 then 8 else 1) else s

/-- A channel trains once LNG_RST_N is high (R86 step 3). -/
def State.beginTrain (s : State) (c : Nat) : State := if s.chanState c = 1 then s.setChanState c 2 else s

/-- "A STATUS to each stack" (R82): one STATUS reports the planes of one die, so that eight are sent, one to each die; and only to a stack whose channel
is READY (DESIGN CHOICE). -/
def State.statusDies (s : State) (c : Nat) : State :=
  if s.chanState c = 4 then
    (List.range 8).foldl (fun (u : State) d => u.submit c (MCmd.of .status (mediaAddr d 0 0 0) 0 6 .ctl)) s
  else s

/-- GROUP_SIDEBAND_RESET (R89): the link has not retrained within 25 us of a channel reset: the whole group is brought up again, the others
after steps 1 to 3 of a channel reset of their own. -/
def execGroupSidebandReset (chan : Nat) (s : State) : Answer :=
  below chan 40 s (.next (
    if s.chanState chan = 6 then s.groupReset chan else s))

/-- GROUP_RAILS_GOOD (R86 step 1, R515): the channels leave OFF; one whose disable is 1 goes to DISABLED. -/
def execGroupRailsGood (group : Nat) (s : State) : Answer :=
  below group 5 s (.next (
    if s.groupPopulated group then (List.range 8).foldl (fun (t : State) k => t.leaveOff (8 * group + k)) (s.driveReset group false) else s))

/-- LNG_RST_RELEASE (R86 step 3); the sideband of an unpopulated group stays inactive (R28). -/
def execLngRstRelease (group : Nat) (s : State) : Answer :=
  below group 5 s (.next (
    if ¬ s.groupPopulated group then s else (List.range 8).foldl (fun (t : State) k => t.beginTrain (8 * group + k)) (s.driveReset group true)))

/-- CHANNEL_TRAINED (R86 step 5): flits flow and CONFIG reads the identity register with die and plane 0. -/
def execChannelTrained (chan : Nat) (s : State) : Answer :=
  below chan 40 s (.next (if s.chanState chan = 2 then s.readIdentity chan else s))

/-- Has a channel not reached READY since its group's rails came up: in RESET, TRAIN or CONFIG, or in a RETRAIN or CHRESET entered from CONFIG? -/
def State.comingUp (s : State) (c : Nat) : Bool :=
  decide (s.chanState c = 1 ∨ s.chanState c = 2 ∨ s.chanState c = 3) || (decide (s.chanState c = 5 ∨ s.chanState c = 6) && decide ((s.chan c).before = 3))

/-- BRING_UP_TIMEOUT (R86): not READY 10 ms after the rails were good. -/
def execBringUpTimeout (chan : Nat) (s : State) : Answer :=
  below chan 40 s (.next (if s.comingUp chan then s.failChannel chan true else s))

/-- Part of a channel's stack by its identity code: 1 ZL256, 2 ZL512, 0 unsupported. -/
def State.partOf (s : State) (c : Nat) : Nat :=
  if s.fld (MC + c * 0x1000 + 0x20) 15 0 = 0x4C01 then 1 else if s.fld (MC + c * 0x1000 + 0x20) 15 0 = 0x4C02 then 2 else 0

/-- Every populated channel goes to FAILED under R2 or R26, with event 0x1001 once; media status is not ready. -/
def State.mixed (s : State) (p0 p1 : Nat) : State :=
  if s.media.mixedReported then s
  else
    let s := ({ s with media := { s.media with mixedReported := true } }).event 0x1001 0 none p0 p1
    s.populated.foldl (fun (t : State) c => if t.chanState c = 8 then t else t.failChannel c false) s

/-- Is the population one of Table 01.5: the groups from CG0 on, at least three? -/
def State.populationOk (s : State) : Bool :=
  let gs := (List.range 5).filter s.groupPopulated
  decide (gs = List.range gs.length) && decide (3 ≤ gs.length)

/-- An identity has been read (R55, R2, R26). STATUS and TEMP of all dies follow. DESIGN CHOICE: the check of R2 runs over the channels whose identity has
been read so far, and its reference is the lowest-numbered of them. -/
def State.identify (s : State) (c : Nat) (v : Word) : State :=
  let s := s.setReg (MC + c * 0x1000 + 0x20) (BitVec.ofNat 32 (v.toNat % 2 ^ 20))
  if s.partOf c = 0 then (s.event 0x1002 c none c (bits v 15 0)).failChannel c true
  else
    let s := { s with media := { s.media with identified := (c :: s.media.identified.filter (fun k => ¬ k = c)).mergeSort (fun a b => decide (a ≤ b)) } }
    let first := s.media.identified.headD c
    let odd := s.media.identified.find? (fun k => s.partOf k ≠ s.partOf first)
    if ¬ s.populationOk then s.mixed 0xFFFF s.populated.length
    else match odd with
      | some k => s.mixed k (s.fld (MC + k * 0x1000 + 0x20) 15 0)
      | none =>
        let s := s.setReg (TP + 4) (BitVec.ofNat 32 (s.populated.length + s.partOf c * 64))
        (s.statusAll c).direct c (MCmd.of .temp 0 0 6 .ctl)

/-- A channel in CONFIG whose identity is good and whose STATUS and TEMP have come is READY (R86 step 6); what a group reset interrupted is
replayed. -/
def State.configDone (s : State) (c : Nat) : State :=
  if s.chanState c = 3 ∧ c ∈ s.media.identified ∧ (s.chan c).flight.all (fun f => f.cmd.op.isData) then
    (({ s with th := { s.th with tempTick := Tbl.put s.th.tempTick c s.tb.tick } }).setChanState c 4).replayAll c
  else s

/-- RETRAIN_COMPLETE (R64): back to READY, or to the CONFIG it left (R513). -/
def execRetrainComplete (chan : Nat) (s : State) : Answer :=
  below chan 40 s (.next (
    if s.chanState chan = 5 then
      let s := (s.setChan chan { s.chan chan with link := { (s.chan chan).link with replays := 0 } }).setChanState chan (s.chan chan).before
      s.configDone chan
    else s))

/-- CONFIG_RESPONSE (R516): the identity at bring-up; a standby write that the stack has taken (R409). -/
def execConfigResponse (chan tag : Nat) (st : HubStatus) (data : Word) (s : State) : Answer :=
  s.answered chan tag [.config] (fun q s =>
    if st = .success then
      (if q.param = 0 then s.identify chan data
       else if q.param = 0x90 then s.setChan chan { s.chan chan with standby := decide (q.dst = 1) }
       else s)
    else if st = .dieFailed then s.dieStatus chan (addrDie q.addr) else s)

/-- STATUS_RESPONSE (R92, R86): a die that answers 0x7 has failed. The 32-bit plane state changes nothing that the
controller tracks. -/
def execStatusResponse (chan tag : Nat) (st : HubStatus) (_planes : Word) (s : State) : Answer :=
  s.answered chan tag [.status] (fun q s =>
    let s := if st = .dieFailed then s.dieStatus chan (addrDie q.addr) else s
    s.configDone chan)

/-- TEMP_POLL (R82): every 1 ms the suspend and resume engine issues a TEMP to its stack; in A2 as R166 states. -/
def execTempPoll (chan : Nat) (s : State) : Answer :=
  below chan 40 s (.next (
    if s.chanState chan = 4 then
      s.submit chan (MCmd.of .temp 0 0 6 .ctl)
    else s))

/-- LNG_ALERT_FALL (R92): event 0x1105, and a STATUS to each stack of the group. -/
def execLngAlertFall (group : Nat) (s : State) : Answer :=
  below group 5 s (.next (
    ((List.range 8).map (fun k => 8 * group + k)).foldl State.statusDies (s.event 0x1105 group none group 0)))

/-! ### Disabling a channel (R515) -/

/-- MC_CTL.disable has been written: 1 asks for the disable, 0 cancels one not yet in effect. -/
def State.disableWritten (s : State) (c : Nat) (v : Bool) : State :=
  if s.chanState c = 7 ∨ s.chanState c = 8 then s else s.setChan c { s.chan c with disabling := v }

/-- MC_CTL_DISABLE (R515): a write to MC_CTL.disable, through the Seed store. -/
def execMcCtlDisable (who : Requester) (chan : Nat) (v : Bool) (s : State) : Answer :=
  below chan 40 s (.next (s.asWriter who (MC + chan * 0x1000) (fun t =>
    t.queueSeed (.register who (MC + chan * 0x1000) (putBits (t.reg (MC + chan * 0x1000)) 30 30 (if v then 1 else 0))))))

/-- CHANNEL_DISABLE_TAKES_EFFECT (R515, R514): the commands in flight have completed. -/
def execChannelDisableTakesEffect (chan : Nat) (s : State) : Answer :=
  below chan 40 s (.next (
    let x := s.chan chan
    if x.disabling ∧ x.flight = [] ∧ ¬ (s.chanState chan = 7 ∨ s.chanState chan = 8) then
      (((s.setChan chan { x with disabling := false }).setChanState chan 8).mediaLost).endAll chan
    else s))

/-! ### The arbiter map (R83, R84, R319) -/

/-- The escalation value that firmware holds on a channel, if a map of Table 06.2 is in force. -/
def State.mapHeld (s : State) (c : Nat) : Option Word :=
  match Tbl.find s.qs.escal c with
  | some k => if k = 0 then none else some (escalMap k)
  | none => none

/-- A write to MC_ARB_MAP: ignored as a whole, with event 0x1104, where two engines would take one input. -/
def State.arbMapWrite (s : State) (c : Nat) (v : Word) : State :=
  let o := MC + c * 0x1000 + 8
  if wholeOk o v then s.setReg o (plainWord o (s.reg o) v) else s.event 0x1104 c none c v.toNat

/-- MC_ARB_MAP_WRITE (R83, R84). -/
def execMcArbMapWrite (who : Requester) (chan : Nat) (v : Word) (s : State) : Answer :=
  below chan 40 s (.next (s.asWriter who (MC + chan * 0x1000 + 8) (fun t => t.arbMapWrite chan v)))

/-- ARB_MAP_REVERT (R319): firmware reverts a write made while an escalation map is in force, with event 0x9105. -/
def execArbMapRevert (chan : Nat) (s : State) : Answer :=
  below chan 40 s (.next (match s.mapHeld chan with
    | some w => if s.reg (MC + chan * 0x1000 + 8) = w then s else (s.setReg (MC + chan * 0x1000 + 8) w).event 0x9105 chan none chan 0
    | none => s))

end Sys2Proof.Machine
end

