-- ==== Sys2Proof/Machine/Reset.lean ====
section
/-! DEFINITION. Machine/Reset.lean: what each reset and power state does to a register by its keep class (R469, Table 18.2), and what
becomes of the engines' own state when the core rails go off. -/

namespace Sys2Proof.Machine

/-- Bits of the register at `o` whose keep class satisfies `k`. -/
def keepBits (k : Keep → Bool) (o : Nat) : Word :=
  assemble (fun f => if k f.keep then 2 ^ (f.hi + 1 - f.lo) - 1 else 0) (fieldsAt o)

/-- Return the fields of the register at `o` whose class satisfies `k` to their reset value. -/
def State.resetReg (s : State) (k : Keep → Bool) (o : Nat) : State :=
  s.setReg o ((s.reg o &&& ~~~ keepBits k o) ||| (resetWord o &&& keepBits k o))

/-- Return the fields of every register satisfying `at_` whose class satisfies `k` to their reset value. -/
def State.resetKeep (s : State) (k : Keep → Bool) (at_ : Nat → Bool) : State :=
  s.regs.foldl (fun (t : State) (e : Nat × Word) => if at_ e.1 then t.resetReg k e.1 else t) s

/-- The word that the place of the register at `o` holds for it: of a 64-bit quantity its half; the reset value where the place is unresolved. -/
def State.seedWord (s : State) (o : Nat) : Word :=
  match (s.seedPlace o).value with
  | some x => BitVec.ofNat 32 (if seedKey o = o then x else x / 2 ^ 32)
  | none => resetWord o

/-- Load the class P fields of the register at `o` from the Seed store (R474, R476). -/
def State.recallReg (s : State) (o : Nat) : State :=
  s.setReg o ((s.reg o &&& ~~~ persistMask o) ||| (s.seedWord o &&& persistMask o))

/-- Load every class P field from the Seed store. -/
def State.recallAll (s : State) : State :=
  (s.sd.slots.flatMap (fun x => if x.1 ∈ seedPairs then [x.1, x.1 + 4] else [x.1])).foldl State.recallReg ((s.regs.map (·.1)).foldl State.recallReg s)

/-- Class C and L fields, with the counters and windows of class C that stand outside the registers: the guard's and the domains' data
(Tables 08.6, 11.6), and the performance monitor (Table 17.15). -/
def State.resetCore (s : State) : State :=
  let s := s.resetKeep (fun k => decide (k = .c ∨ k = .l)) (fun _ => true)
  { s with qs := { s.qs with cnts := [], guardLatch := [], domLatch := [] }, pm := { vals := [], slots := [], armed := none } }

/-- Registers whose X fields live on in A3: those of the engines whose tables are retained or restored (R411, R413). -/
def keptInA3 (o : Nat) : Bool :=
  (decide (CD ≤ o) && decide (o < HI)) || (decide (EV ≤ o) && decide (o < PM)) || (decide (SD ≤ o)) || decide (o < MC)

/-! ### LDs (R465) -/

/-- An LD when Lark's local SRAM has been lost: event logs, poison list and background operation are gone (R335, R337). -/
def Ld.cleared (l : Ld) : Ld :=
  { l with logs := [], overflow := [], poison := [], poisonOvf := none, policy := 0, bgOp := 0, bgState := 0, scanHits := [], decoders := [], mse := false }

/-- An LD reset (R465): the LD's mailbox registers of class L, and no HDM decoder committed. Poison list and event logs are kept. The
response of a command taken from the LD's mailbox is discarded, and outbound DB3 is set (Table 13.11). -/
def State.resetLd (s : State) (i : Nat) : State :=
  let o := CP + 0x1000 + i * 0x40
  let s := s.resetKeep (fun k => decide (k = .l)) (fun r => decide (o ≤ r) && decide (r < o + 0x40))
  let s := s.setLd i { s.ld i with decoders := [], mse := false }
  match s.lark.taken with
  | some t => if t.mb = i then ({ s with lark := { s.lark with taken := some { t with lost := true } } }).setBit (o + 0x2C) 3 true else s
  | none => s

/-! ### Rails off -/

/-- What the Sward engine forgets: ports, sessions, messages under way (R467, R401). -/
def Sward.down (w : Sward) : Sward :=
  { w with ports := [], links := [], outstanding := [], early := [], ackWait := [], fwd := [], fwdSeen := [], held := [], armWait := [], sends := [], peerBusy := [], barrierArrived := []
           resyncUnacked := [], resyncLine := 0, ids := [], ext := [], whole := false, tree := [], lowUid := 0, rootPort := none
           peerNames := false, peerLeads := false, clash := false, resetting := false }

/-- Units of the tail window, and what is in the spool of the packet in emission, are lost with the core unless an image carries them (R451, R452). -/
def Meter.lost (m : Meter) : Meter :=
  let kept := m.units.take (m.units.length - m.tail)
  let part (u : Nat × List Byte) : Bool := decide (m.emitting = some u.1)
  let n := countIf part kept
  let gaps := m.gaps.filter (fun g => decide (m.spent ≤ g.1))
  { m with open_ := [], units := kept.filter (fun u => !part u), tail := 0, closing := [], newest := [], headPage := []
           gaps := if n = 0 then gaps else gaps ++ [(m.marked - n, n)]
           portCmd := none, portPos := 0, cut := false, coalescing := false
           coalesced := false, minutes := 1 }

/-- A snapshot after a loss of the core: recovery's replay sets or clears cow by its records, so no walker is under way; an end whose record
was not durable has not happened. -/
def SnapSt.afterLoss (out : List (Nat × Nat)) (k : Nat) (x : SnapSt) : SnapSt :=
  { x with walker := 2 ^ 24, ending := x.ending && !out.any (fun r => decide (r.1 = 0x33) && decide (r.2 % 256 = k)) }

/-- The open pages of the journal ring and of the stranded-line area are lost with the core. DESIGN CHOICE: the ring goes on at its next page. -/
def LogField.cut (l : LogField) : LogField := { l with pos := if l.page = [] then l.pos else 64 * ceilDiv l.pos 64, page := [], strandPage := [] }

/-- The engines' own state as the core rails go off: what Rick, Lark and the engines hold is lost. Kept are the media, the Seed store, the
always-on logic and its SRAM, and what the journal tells again: migrations, regrafts and rotations under way; in A3 (`a3`) the map and counter-tree partitions and the tables save as well (Table 15.1, R411). -/
def State.coreOff (s : State) (a3 : Bool) : State :=
  let s := { s with
    latches := [], holds := []
    tb := { s.tb with started := [] }
    tp := { s.tp with erasing := [], strandFill := if s.log.strandPage = [] then s.tp.strandFill else s.tp.strandFill.map (fun (x : Nat × Nat) => (x.1, 32 * ceilDiv x.2 32)), ckptRun := s.tp.ckptRun.map (fun (r : CkptRun) => { r with copy := none }) }
    log := s.log.cut
    media := { chans := if a3 then s.media.chans.foldl (fun t x => Tbl.set (fun _ => Chan.fresh) t x.1 { Chan.fresh with resets := x.2.resets }) [] else []
               identified := [], mixedReported := a3 && s.media.mixedReported }
    codes := { s.codes with deltas := [], rebuilding := [], jobs := [], marked := if a3 then s.codes.marked ++ s.codes.rebuilding else [],
                                  markWait := if a3 then s.codes.markWait else [] }
    host := { s.host with reqs := [], fetches := [], spdm := [], gpfWait := []
                          lds := s.host.lds.foldl (fun t x => Tbl.set (fun _ => Ld.fresh) t x.1 x.2.cleared) [] }
    rk := { s.rk with lines := [], plru := [], evb := [], aft := [], maint := none, commons := [], badBytes := [] }
    lark := { s.lark with taken := none, failRun := [], lockout := [], notices := [], kept := [], fwRunning := false }
    sw := { s.sw.down with snaps := if a3 then s.sw.snaps else (s.sw.snaps.filter (fun (x : Nat × SnapSt) => x.2.cut)).map (fun (x : Nat × SnapSt) =>
                             (x.1, SnapSt.afterLoss (s.tp.unverified.map (fun (r : JRec) => (r.type, r.entry))) x.1 x.2))
                           confirmed := [], bitmapLost := true, cuts := [], originators := [], reports := [], noCut := [], barrier := 0, lastKeepalive := 0, lastAck := 0 }
    qs := { buckets := [], cnts := [], guardLatch := [], domLatch := [], lvlSum := 0, lvlTicks := 0, lvlMean := 0, g := 0, gNew := 0, gUp := none, escal := [] }
    th := { sensors := [], rateHold := [], graceEnd := false, requestAt := 0, bgAt := 0, stepAt := 0, tempTick := [] }
    ev := { s.ev with latched := none }
    pins := { s.pins with lngRstN := 0, mtrCsHigh := true }
    wb := { s.wb with frames := [], dirCopy := [], leaves := [], pressing := false, fUp := none, anchorRun := none, anchorFrames := [], recovered := a3,
                      writing := none, sealing := none, sealed := 0, discards := [] } }
  if a3 then s
  else
    { s with
      tp := { s.tp with map := [], nodeMap := [], plots := [], migQueue := [], unverified := [], ckptRun := none
                        wear := [], hotFilter := [], hotList := [], wearNotIdle := [] }
      df := { s.df with eff := [], tMax := [], broke := [], hourly := [], daily := [], cur := [], old := [], queue := [], overdueSeen := []
                        refreshing := s.df.refreshing.filter (fun (r : Nat × Nat × Nat) => !s.refreshAsked r.1)
                        refreshOn := (s.df.refreshing.filter (fun (r : Nat × Nat × Nat) => !s.refreshAsked r.1 && !s.migrating r.1)).foldl (fun t r => Tbl.put t r.1 0) []
                        rewrite := [], scrub := none, margin := none, deltaPerMin := [], applied := [], gapNext := true }
      wb := { s.wb with anchors := s.wb.anchors.filter (fun (r : AnchorRec) => r.verified), tablesSaved := false, f := 0 }
      gx := { s.gx with keys := [], l2 := [], l3 := [], l4 := [], crown := [], regrafts := s.gx.regrafts.filter (fun (r : Regraft) => decide (0 < r.stage)), sweep := none, swept := []
                        unverifiable := [] }
      mt := s.mt.lost }

/-- Registers after the rails have gone off for A3 (`a3`) or Off: classes C and L, and class X of the engines that lost their state; the
fields of class P keep their values until recall loads them again (Table 18.2). A channel stays FAILED or DISABLED where no cold or warm reset
follows (`stay`), which alone ends it (R90, R515). -/
def State.regsOff (s : State) (a3 stay : Bool) : State :=
  let out := if stay then (List.range 40).filter (fun c => decide (s.chanState c = 7 ∨ s.chanState c = 8)) else []
  let t := s.resetCore.resetKeep (fun k => decide (k = .x)) (fun o => !(a3 && keptInA3 o))
  out.foldl (fun (t : State) c => t.setChanState c (s.chanState c)) t

/-- Registers of a cold power-on or a cold restart before recall: everything but class P, and TH_STATUS.trip_latched (R463, R468). The
schedule is to be loaded (R53). -/
def State.regsCold (s : State) : State :=
  let trip := s.flag (TH + 4) 31
  let s := (s.resetCore.resetKeep (fun k => decide (k ≠ .p)) (fun _ => true)).setBit (TH + 4) 31 trip
  { s with lark := { s.lark with scheduled := false } }

/-- The time base as a cold power-on starts it (R40). -/
def TimeBase.cold (t : TimeBase) (save : Nat) : TimeBase :=
  { t with ztime := save, tick := 0, slewFrac := 0, absorb := none, agree := none, edgeTick := none, edgeUsed := false, edgeGoal := 0
           fabricTick := none, inPhase := 0, lockedUs := 0, ppsSince := none, fabricSince := none, primarySeen := false, wasLocked := false
           ignoring := false, minuteUnlocked := true, driftUnlocked := true, hourDue := false, leapArmed := 0, leapAt := 0, leapTaken := false, stale := [0], started := [], deferred := []
           lastSave := save }

end Sys2Proof.Machine
end

