-- ==== Sys2Proof/Machine/Fabric.lean ====
section
/-! DEFINITION. Machine/Fabric.lean: Sward ports, formation and routing (R371 to R380), the forming of a mirrored pair (R383, R384, R388, R390)
and the installing of armed cuts (R394). -/

namespace Sys2Proof.Machine

/-! ### Routing tables (R379), as the root computes them from the link reports of all nodes -/

/-- This node's UID as a number. -/
def ownUid : Nat := Config.uid.toNat

/-- Neighbours of the nodes `front` not met before, level by level: UID and distance; at most `n` levels. -/
def bfsLevels (links : List LinkRep) : Nat → Nat → List DWord → List (DWord × Nat) → List (DWord × Nat)
  | 0, _, _, seen => seen
  | n + 1, k, front, seen =>
    let next := ((front.flatMap (fun u => (links.filter (fun (l : LinkRep) => l.uidA = u)).map (fun (l : LinkRep) => l.uidB))).filter
      (fun v => !seen.any (fun x => decide (x.1 = v)))).eraseDups
    if next = [] then seen else bfsLevels links n (k + 1) next (seen ++ next.map (fun v => (v, k)))

/-- Distance of every node from the root. -/
def levelsFrom (links : List LinkRep) (root : DWord) : List (DWord × Nat) := bfsLevels links 256 1 [root] [(root, 0)]

/-- A value by UID; 0 where there is none. -/
def byUid (t : List (DWord × Nat)) (u : DWord) : Nat := ((t.find? (fun x => decide (x.1 = u))).map (fun x => x.2)).getD 0

/-- Is a link up from `a` to `b`: toward the end nearer the root, and toward the lower node ID between ends equally near? -/
def upLink (lv ids : List (DWord × Nat)) (a b : DWord) : Bool :=
  decide (byUid lv b < byUid lv a) || (decide (byUid lv b = byUid lv a) && decide (byUid ids b < byUid ids a))

/-- Distances along paths that take no up link after a down link: nodes with whether the path may still go up, level by level. -/
def legalLevels (links : List LinkRep) (up : DWord → DWord → Bool) : Nat → Nat → List (DWord × Bool) → List ((DWord × Bool) × Nat) → List ((DWord × Bool) × Nat)
  | 0, _, _, seen => seen
  | n + 1, k, front, seen =>
    let next := ((front.flatMap (fun x => (links.filter (fun (l : LinkRep) => decide (l.uidA = x.1) && (x.2 || !up l.uidA l.uidB))).map
      (fun (l : LinkRep) => (l.uidB, x.2 && up l.uidA l.uidB)))).filter (fun v => !seen.any (fun x => decide (x.1 = v)))).eraseDups
    if next = [] then seen else legalLevels links up n (k + 1) next (seen ++ next.map (fun v => (v, k)))

/-- Length of the shortest legal path to a node, from the state after a first link. -/
def legalDist (t : List ((DWord × Bool) × Nat)) (v : DWord) : Option Nat :=
  ((t.filter (fun x => decide (x.1.1 = v))).map (fun x => x.2)).foldl (fun (m : Option Nat) k => some (match m with | some y => min y k | none => k)) none

/-- The routing table of node `u`: for each other node the first links of shortest legal paths, the lowest port primary and the next one
alternate (DESIGN CHOICE: the spec does not say which of several is which). -/
def routesOf (links : List LinkRep) (lv ids : List (DWord × Nat)) (u : DWord) : List (Nat × Word) :=
  let up := upLink lv ids
  let outs := (List.range 8).filterMap (fun p => (links.find? (fun (l : LinkRep) => decide (l.uidA = u) && decide (l.portA = p))).map
    (fun (l : LinkRep) => (p, legalLevels links up 512 2 [(l.uidB, up u l.uidB)] [((l.uidB, up u l.uidB), 1)])))
  (ids.filter (fun x => decide (x.1 ≠ u))).filterMap (fun x =>
    let ds := outs.filterMap (fun o => (legalDist o.2 x.1).map (fun k => (o.1, k)))
    match (ds.map (fun d => d.2)).min? with
    | none => none
    | some k =>
      let ps := (ds.filter (fun d => decide (d.2 = k))).map (fun d => d.1)
      some (x.2, BitVec.ofNat 32 (ps.headD 0 + 8 + (if 2 ≤ ps.length then (ps.getD 1 0) * 16 + 128 else 0) + min k 15 * 256)))

/-- Nodes met along port `p` from node to node. -/
def ringWalk (links : List LinkRep) (p : Nat) : Nat → DWord → List DWord → List DWord
  | 0, _, seen => seen
  | n + 1, u, seen =>
    match links.find? (fun (l : LinkRep) => decide (l.uidA = u) && decide (l.portA = p)) with
    | some l => if l.uidB ∈ seen then seen else ringWalk links p n l.uidB (seen ++ [l.uidB])
    | none => seen

/-- Extents of the torus in nodes, dimensions X, Y and Z. -/
def torusExt (links : List LinkRep) (root : DWord) : List Nat :=
  (List.range 3).map (fun k => (ringWalk links (2 * k + 1) 256 root (ringWalk links (2 * k) 256 root [root])).length)

/-- D: half extents summed, and 1 for a mirrored pair alone. -/
def diameterOf (ext : List Nat) (nodes : Nat) : Nat :=
  let d := (ext.map (fun x => x / 2)).sum
  if d = 0 ∧ nodes = 2 then 1 else d

/-- Is every link of the torus up? -/
def torusWhole (links : List LinkRep) (ext : List Nat) (nodes : Nat) : Bool :=
  decide (countIf (fun (l : LinkRep) => decide (l.portA < 6)) links = 2 * nodes * countIf (fun x => decide (1 < x)) ext)

/-- Ports of a node to its children in the spanning tree: each node's parent is its neighbour nearest the root with the lowest ID. -/
def treePorts (links : List LinkRep) (lv ids : List (DWord × Nat)) (u : DWord) : List Nat :=
  let parent (v : DWord) : Option LinkRep :=
    (links.filter (fun (l : LinkRep) => decide (l.uidA = v) && decide (byUid lv l.uidB + 1 = byUid lv v))).foldl
      (fun (m : Option LinkRep) l => match m with
        | some x => if byUid ids l.uidB < byUid ids x.uidB then some l else some x
        | none => some l) none
  (List.range 8).filter (fun p => links.any (fun (l : LinkRep) => decide (l.uidA = u) && decide (l.portA = p) &&
    (match parent l.uidB with
     | some x => decide (x.uidB = u) && decide (x.portB = p)
     | none => false)))

/-- Give node IDs (R377, R378): the root 0, nodes still present their own, the others the lowest free in ascending UID order; at most 256 nodes. -/
def assignIds (root : DWord) (uids : List DWord) (old : List (DWord × Nat)) : List (DWord × Nat) :=
  let others := (uids.eraseDups.filter (fun u => ¬ u = root)).mergeSort (fun a b => decide (a.toNat ≤ b.toNat))
  let others := others.take 255
  let kept := old.filter (fun x => decide (x.1 ∈ others) && decide (x.2 ≠ 0))
  (others.filter (fun u => !kept.any (fun x => decide (x.1 = u)))).foldl (fun (t : List (DWord × Nat)) u =>
    t ++ [(u, ((List.range 256).find? (fun i => !t.any (fun x => decide (x.2 = i)))).getD 255)]) ((root, 0) :: kept)

/-! ### Ports -/

/-- Ports that carry traffic. -/
def State.swPorts (s : State) : List Nat := (List.range 8).filter (fun p => s.swUp p)

/-- SW_STATUS.state: 0 off, 1 forming, 2 formed, 3 fabric reset. -/
def State.swState (s : State) : Nat := s.fld (SW + 8) 31 29

/-- UID of the partner that this member names. -/
def State.partnerUid (s : State) : Nat := s.reg64 (SW + 0x14)
/-- Node ID of the partner, once it has one. -/
def State.partnerNode (s : State) : Option Nat :=
  if s.partnerUid = 0 then none else (s.sw.ids.find? (fun x => decide (x.1.toNat = s.partnerUid))).map (fun x => x.2)

/-- SW_MIRROR.leader, and its state set. -/
def State.leads (s : State) : Bool := s.flag (SW + 0x1C) 27
def State.setMirror (s : State) (x : Nat) : State := s.setFld (SW + 0x1C) 31 28 x

/-- Send the hello of a port (R376). -/
def State.sendHello (s : State) (p : Nat) : State :=
  s.sendOn p 2 msgHello [ownUid, p, s.fld SW 15 0, s.partnerUid, if s.leads ∧ 2 ≤ s.mirrorState then 1 else 0]

/-- Flood the lowest UID known (R377). -/
def State.flood (s : State) (ps : List Nat) : State := ps.foldl (fun (t : State) p => t.sendOn p 2 msgFlood [t.sw.lowUid.toNat]) s

/-- The links of this node. -/
def State.ownLinks (s : State) : List LinkRep :=
  s.swPorts.map (fun p => (⟨Config.uid, p, (s.swPort p).peerUid, (s.swPort p).peerPort⟩ : LinkRep))

/-! ### Mirrored pairs -/

/-- Valid mirrored domains of this node. -/
def State.mirroredDoms (s : State) : List Nat := (List.range 4096).filter (fun d => s.domValid d && s.domMirror d)

/-- Tell the partner of a mirrored domain by Mirror bind (R384). -/
def State.sendBind (s : State) (n d : Nat) (answer : Bool) : State :=
  s.sendPeer n 0x0711 [d, s.domSize d, if answer then 1 else 0, if s.leads ∧ 2 ≤ s.mirrorState then 1 else 0]

/-- Mark every plot of a domain dirty. -/
def State.dirtyDomain (s : State) (d : Nat) : State :=
  (List.range (s.domSize d)).foldl (fun (t : State) i => t.setDirty (t.domPool d + i) true) s

/-- Dirty plots of mirrored domains. -/
def State.dirtyMirrored (s : State) : List Nat :=
  let ds := s.mirroredDoms
  (s.dirtyFrom 0).filter (fun p => ds.any (fun d => decide (s.domPool d ≤ p) && decide (p < s.domPool d + s.domSize d)))

/-- The leader has copied everything: MIRRORED, with event 0xC202 after a resync (R390). -/
def State.resyncEnd (s : State) : State :=
  let was := s.mirrorState
  let s := (s.setMirror 2).setFld (SW + 0x1C) 15 0 0
  if was = 5 then s.event 0xC202 (s.fld (SW + 0x1C) 23 16) none (s.fld (SW + 0x1C) 23 16) 0 else s

/-- The pair has re-formed: the leader enters RESYNC, in full where the bitmap was lost (R389, R390). -/
def State.startResync (s : State) : State :=
  let s := if s.sw.bitmapLost then s.mirroredDoms.foldl (fun (t : State) d => t.dirtyDomain d) ({ s with sw := { s.sw with bitmapLost := false } }) else s
  if s.dirtyMirrored = [] then (if s.mirrorState = 3 then (s.setMirror 5).resyncEnd else s.resyncEnd)
  else ({ s with sw := { s.sw with resyncLine := 0 } }).setMirror 5

/-- Form the pair if each member names the other and a route joins them (R383). Two leaders do not re-form it: event 0xC204 (R388), and what the
leader resyncs after the other's demotion is everything. -/
def State.pairTry (s : State) : State :=
  if s.partnerUid = 0 then s
  else
    let s := if s.mirrorState = 0 then s.setMirror 1 else s
    match s.partnerNode with
    | none => s
    | some n =>
      if (s.routeOf n).isNone then s
      else if ¬ s.sw.peerNames then s.mirroredDoms.foldl (fun (t : State) d => t.sendBind n d false) s
      else
        let s := s.setFld (SW + 0x1C) 23 16 n
        let st := s.mirrorState
        if st = 2 ∨ st = 5 then s
        else if s.leads ∧ 3 ≤ st ∧ s.sw.peerLeads then
          if s.sw.clash then s else ({ s with sw := { s.sw with clash := true, bitmapLost := true } }).event 0xC204 n none n 0
        else
          let lead : Bool := if st = 3 then true else if st = 4 ∨ s.sw.peerLeads then false else decide (ownUid < s.partnerUid)
          let s := s.setBit (SW + 0x1C) 27 lead
          let s := { s with sw := { s.sw with lastKeepalive := s.tb.tick, clash := false } }
          let s := if lead then s.startResync
            else ({ s with sw := { s.sw with nextSeq := 0 } }).setMirror (if st = 4 ∨ s.mirroredDoms ≠ [] then 5 else 2)
          s.mirroredDoms.foldl (fun (t : State) d => t.sendBind n d false) s

/-! ### Armed cuts (R394) -/

/-- Domains of this node that a cut names: all valid ones where it names none. -/
def State.cutDoms (s : State) (c : CutSpec) : List Nat :=
  if c.pairs = [] then (List.range 4096).filter (fun d => s.domValid d)
  else (c.pairs.filter (fun x => decide (x.1 = s.nodeId) && s.domValid x.2)).map (fun x => x.2)

/-- May this node not take a snapshot of these domains (R395): one is in a snapshot or under key rotation, or more than the free slots are named? -/
def State.cutRefused (s : State) (ds : List Nat) : Bool :=
  ds.any (fun d => s.sw.snaps.any (fun x => decide (x.2.dom = d)) || (match s.gx.rotation with | some r => decide (r.dom = d) | none => false)) ||
    decide (8 < s.sw.snaps.length + ds.length)

/-- End the snapshots that carry a fabric tag (R399). -/
def State.releaseTag (s : State) (tag : Nat) : State :=
  ((s.sw.snaps.filter (fun x => decide (x.2.ftag = tag))).map (fun x => x.1)).foldl (fun (t : State) k => t.endSnapshot k false) s

/-- Take a disarm: the cut with this tag goes while T is more than 1 ms away. -/
def State.disarm (s : State) (tag : Nat) : State :=
  match s.sw.cuts.find? (fun x => decide (x.2.ftag = tag)) with
  | some (n, c) =>
    if s.tb.ztime + 1000000 < c.at_ then
      let s := (s.setReg (schedOff n) (BitVec.ofNat 32 (s.fld (schedOff n) 23 16 * 2 ^ 16))).setDue n never
      { s with sw := { s.sw with cuts := Tbl.del s.sw.cuts n, originators := Tbl.del s.sw.originators n } }
    else s
  | none => { s with sw := { s.sw with noCut := s.sw.noCut.filter (fun x => ¬ (x.2.2 = tag ∧ s.tb.ztime + 1000000 < x.1)) } }

/-- This node does not make a cut: its Cut report follows after T (R394). -/
def State.noCut (s : State) (c : CutSpec) (o : Nat) : State := { s with sw := { s.sw with noCut := s.sw.noCut ++ [(c.at_, o, c.ftag)] } }

/-- Install an armed cut in the first free entry of 56 to 63, or take its disarm or an immediate release (R394, R399). -/
def State.installCut (s : State) (c : CutSpec) (o : Nat) : State :=
  match c.op with
  | .disarm => s.disarm c.ftag
  | .snapshot | .reset | .release =>
    if c.op = CutOp.release ∧ c.at_ = 0 then s.releaseTag c.ftag
    else if c.op = CutOp.snapshot ∧ (s.cutDoms c = [] ∨ s.cutRefused (s.cutDoms c)) then s.noCut c o
    else match ((List.range 8).map (fun i => 56 + i)).find? (fun n => !s.schedEnabled n && decide (s.schedAction n = 0)) with
      | none => s.noCut c o
      | some n =>
        let s := s.setReg (schedOff n) (BitVec.ofNat 32 (2 ^ 31 + 2 ^ 30 + s.fld (schedOff n) 23 16 * 2 ^ 16 + (if c.op = CutOp.reset then 0x0E else 0x0D)))
        let s := (s.setReg (schedOff n + 8) 1).setReg64 (schedOff n + 0x10) c.at_
        { s.setDue n c.at_ with sw := { s.sw with cuts := Tbl.put s.sw.cuts n c, originators := Tbl.put s.sw.originators n o } }

/-! ### Formation -/

/-- The fabric is declared formed here (R377): IDs, tables and what else the root's message gives; Arms that waited are installed. -/
def State.formed (s : State) (id nodesM1 : Nat) (ext : List Nat) (whole : Bool) (tree : List Nat) (ids : List (DWord × Nat)) (rows : List (Nat × Word)) : State :=
  let s := (List.range 256).foldl (fun (t : State) n => t.setReg (SW + 0x400 + 4 * n) 0) s
  let s := (rows.filter (fun r => decide (r.1 < 256))).foldl (fun (t : State) r => t.setReg (SW + 0x400 + 4 * r.1) (r.2 &&& 0xFFF)) s
  let s := ((s.setFld (SW + 8) 7 0 id).setFld (SW + 8) 15 8 nodesM1).setFld (SW + 8) 19 16 (diameterOf ext (nodesM1 + 1))
  let s := (s.setFld (SW + 8) 31 29 2).setBit (SW + 8) 28 (decide (id = 0))
  let s := if s.sw.resetting then ({ s with sw := { s.sw with resetting := false } }).resetDone 8 0 else s
  let s := { s with sw := { s.sw with ids := ids, ext := ext, whole := whole, tree := tree } }
  let s := s.swPorts.foldl (fun (t : State) p => t.setFld (portOff p) 15 8 (byUid ids (t.swPort p).peerUid)) s
  let waiting := s.sw.armWait
  let s := waiting.foldl (fun (t : State) (x : CutSpec × Nat) => t.installCut x.1 x.2) { s with sw := { s.sw with armWait := [] } }
  s.pairTry

/-- A port carries nothing any more; it is held down (`hold`), or has lost its link. -/
def State.swClose (s : State) (p : Nat) (hold : Bool) : State :=
  let s := (s.setFld (portOff p) 1 0 0).setFld (portOff p) 18 8 0
  { s with sw := { s.sw with ports := Tbl.del s.sw.ports p, held := if hold then s.sw.held.filter (fun x => ¬ x = p) ++ [p] else s.sw.held.filter (fun x => ¬ x = p) } }

/-- The root has the reports of all nodes: every link has been reported from its other end. It computes IDs and tables, sends every node its
own, and forms (R377, R379). A neighbour beyond the 256th in UID order gets none: its link is held down, with event 0xC104. -/
def State.formTry (s : State) : State :=
  if s.swState ≠ 1 ∨ s.sw.lowUid ≠ Config.uid then s
  else
    let links := (s.sw.links.filter (fun (l : LinkRep) => ¬ l.uidA = Config.uid)) ++ s.ownLinks
    if ¬ links.all (fun (l : LinkRep) => links.any (fun (x : LinkRep) => decide (x.uidA = l.uidB) && decide (x.portA = l.portB))) then s
    else
      let ids := assignIds Config.uid (links.map (fun (l : LinkRep) => l.uidA)) s.sw.ids
      let has (u : DWord) : Bool := ids.any (fun x => decide (x.1 = u))
      let out := s.swPorts.filter (fun p => !has (s.swPort p).peerUid)
      let s := out.foldl (fun (t : State) p => ((t.swClose p true).event 0xC104 p none p 0)) s
      let links := links.filter (fun (l : LinkRep) => has l.uidA && has l.uidB)
      let lv := levelsFrom links Config.uid
      let ext := torusExt links Config.uid
      let whole := torusWhole links ext ids.length
      let s := s.formed 0 (ids.length - 1) ext whole (treePorts links lv ids Config.uid) ids (routesOf links lv ids Config.uid)
      (ids.filter (fun x => decide (x.2 ≠ 0))).foldl (fun (t : State) x =>
        t.sendTo x.2 2 msgRouting (x.2 :: (ids.length - 1) :: ext ++ (routesOf links lv ids x.1).flatMap (fun r => [r.1, r.2.toNat]))) s

/-- Form, or re-form, the fabric after a change of links (R377, R378): the lowest UID known is this node's own again. A barrier in progress fails
(R393). -/
def State.reform (s : State) : State :=
  if ¬ s.flag SW 31 then s
  else
    let s := (s.setFld (SW + 8) 31 29 1).setReg64 (SW + 0xC) ownUid
    let s := { s with sw := { s.sw with lowUid := Config.uid, rootPort := none, links := [], barrierArrived := [], barrier := if s.sw.barrier = 1 then 3 else s.sw.barrier
                                        sends := s.sw.sends.filter (fun (x : Sending) => ¬ x.msg = 0x0715) } }
    (s.flood s.swPorts).formTry

/-- A port goes down, or (`hold`) is held down: until its link is lost, or SW_CFG, the partner's name or a fabric reset may have removed the
reason (DESIGN CHOICE: the spec does not say how long). -/
def State.swDown (s : State) (p : Nat) (hold : Bool) : State :=
  let was := s.swUp p
  let s := s.swClose p hold
  if was then s.reform else s

/-- No port is held down any more. -/
def State.swFree (s : State) : State := { s with sw := { s.sw with held := [] } }

/-- A Sward port retrains: counted; its message to the other end. -/
def State.swRetrain (s : State) (p : Nat) : State :=
  let s := (s.bump (portOff p) 31 24 1).bump (SW + 0x800) 31 0 1
  (s.setSwPort p { s.swPort p with replays := 8 }).sendOn p 2 msgRetrain []

/-- A write of SW_CFG has taken effect (Table 14.8): ports no longer enabled go down; with fabric_en 1 the secure links exchange hellos, with 0 the
fabric is off. -/
def State.fabricCfg (s : State) (old : Word) : State :=
  let gone := (List.range 8).filter (fun p => !s.flag SW (16 + p) && s.flag (portOff p) 0)
  let s := (gone.foldl (fun (t : State) p => t.swDown p false) s).swFree
  if ¬ s.flag SW 31 then
    let s := (s.setFld (SW + 8) 31 0 0).setReg64 (SW + 0xC) 0
    let s := (List.range 256).foldl (fun (t : State) n => t.setReg (SW + 0x400 + 4 * n) 0) s
    { s with sw := { s.sw with ports := s.sw.ports.map (fun (x : Nat × SwPort) => (x.1, { x.2 with helloOk := false })) } }
  else if bits old 31 31 = 0 ∨ bits old 15 0 ≠ s.fld SW 15 0 then
    let s := ((List.range 8).filter (fun p => s.flag (portOff p) 1)).foldl (fun (t : State) p => t.sendHello p) s
    s.reform
  else s

end Sys2Proof.Machine
end

