-- ==== Sys2Proof/Machine/Flush.lean ====
section
/-! DEFINITION. Machine/Flush.lean: the start of a flush (R211, Table 07.4 steps 1 to 3) and the abort of an entry to A2 or A3 (R407). -/

namespace Sys2Proof.Machine

/-- Is a flush running (WP_STATUS.flushing)? -/
def State.flushing (s : State) : Bool := s.flag (WP + 0x2C) 0

/-- The transition in progress ends in state `x` (Table 15.15). -/
def State.arrive (s : State) (x : Nat) : State :=
  let was := s.power
  ((((s.setFld PW 11 8 was).setFld PW 3 0 x).setBit PW 7 false).setFld PW 27 24 0).setFld PW 19 16 0

/-- A transition to state `x` starts, at step `k` of its table. -/
def State.depart (s : State) (x k : Nat) : State := ((s.setBit PW 7 true).setFld PW 27 24 x).setFld PW 19 16 k

/-- Put every stack of a READY channel into standby, or take it out (R409): CONFIG writes to hub register 0x10. -/
def State.setStandby (s : State) (v : Bool) : State :=
  (List.range 40).foldl (fun (t : State) c =>
    if t.chanState c = 4 ∧ (t.chan c).standby ≠ v then
      t.submit c { MCmd.of .config 0 0x90 6 .ctl with dst := if v then 1 else 0 }
    else t) s

/-- An entry to A2 or A3 meets an abort condition of Table 15.3: back to A0 (R407). Past the drain of an entry to A3 the
rails are on their way down and the entry completes (R408). -/
def State.abortEntry (s : State) (code : Nat) : State :=
  if ¬ s.entering ∨ s.fld (SQ + 4) 3 0 ≠ 2 then s
  else
    let tgt := s.fld PW 27 24
    let s := ((s.setBit PW 7 false).setFld PW 27 24 0).setFld PW 19 16 0
    let s := if tgt = 2 then s.bump (PW + 0x18) 15 8 1 else s.bump (PW + 0x18) 23 16 1
    let s := s.setReg (PW + 0x1C) (BitVec.ofNat 32 (tgt + 16 + code * 256))
    (s.dropImage.event 0xD103 0 none tgt code).setStandby false

/-- Plane aborts and RESUMEs of step 3 (R75): every plane that runs, or holds suspended, an ERASE, READ_SOFT or MARGIN_READ is aborted;
every plane whose suspended operation is a PROGRAM or COPY is resumed. -/
def State.planeAborts (s : State) (c : Nat) : State :=
  let x := s.chan c
  let bad (f : InFlight) : Bool := decide (f.cmd.op = .erase ∨ f.cmd.op = .readSoft ∨ f.cmd.op = .marginRead)
  let keys := ((x.flight.filter bad).map (fun f => planeKey f.cmd.addr)).eraseDups
  let held := (x.planes.filter (fun (p : Nat × Plane) => match p.2.suspended with
    | some t => (match x.byTag t with | some f => decide (f.cmd.op = .program ∨ f.cmd.op = .copy) | none => false)
    | none => false)).map (·.1)
  let at_ (k : Nat) : Nat := mediaAddr (k / 16) (k % 16) 0 0
  let s := keys.foldl (fun (t : State) k => t.submit c { MCmd.of .config (at_ k) 0x91 6 .ctl with dst := 1 }) s
  held.foldl (fun (t : State) k => t.submit c (MCmd.of .resume (at_ k) 0 6 .ctl)) s

/-- The background engines and the apply engine stop: their commands not yet issued are withdrawn, but for those of the log field. -/
def State.stopEngines (s : State) (c : Nat) : State :=
  let x := s.chan c
  s.setChan c { x with queue := x.queue.filter (fun m => decide (4 ≤ m.eng) || m.why.isLog) }

/-- The hold-up test load goes off and the result is discarded (R209, Table 07.7). -/
def State.dropHuTest (s : State) : State :=
  match s.pw.huTest with
  | none => s
  | some _ =>
    let n := s.fld (WP + 0x1C) 7 3
    let s := { s with pw := { s.pw with huTest := none }, pins := { s.pins with sqEn := s.pins.sqEn &&& ~~~ BitVec.ofNat 24 (2 ^ n) } }
    (s.setBit (WP + 0x2C) 3 false).endAction 0x06

/-- Would a trigger of R211 start a flush: recovery complete (R220), no flush yet, the image of an entry to A3 not sealed (R412), and the
state A0, A1 or A2 with every rail on? -/
def State.mayFlush (s : State) : Bool :=
  s.wb.recovered && !s.flushing && !s.wb.tablesSaved && decide (s.power ≤ 2) && decide (s.fld (SQ + 4) 3 0 = 2)

/-- An apply that has not come to its PROGRAMs as the apply engine stops (DEDUCED from R221, by which a frame restored in state applying needs no stored-form
read and no delta): the frame is eligible again. What a later frame of the line holds is laid over it. -/
def State.applyBack (s : State) (set way : Nat) (f : Frame) : State :=
  let line := lineOf s.wb.salt set f.tag
  let f := { f with state := .eligible, stage := .idle, progs := 0, failed := false }
  match s.wayOf line false with
  | none => (s.setFrame set way { f with order := s.wb.order }) |> fun (u : State) => { u with wb := { u.wb with order := u.wb.order + 1 } }
  | some w =>
    match s.frame set w with
    | none => s
    | some g =>
      let under := f.bytes
      let both := List.zipWith (fun (x y : Option Byte) => x.or y) g.bytes under
      (s.setFrame set w { (g.withPositions both) with poison := g.poison || (f.poison && !g.full) }).freeFrame set way

/-- Is a redirect of a logical plot under way whose record 0x01 is durable (R148)? -/
def State.redirectDurable (s : State) (i : Nat) : Bool :=
  match s.migrationOf false i with | some m => decide (m.kind = 5) && m.durable.isSome | none => false

/-- The apply engine stops (Table 07.4 step 2): what has its PROGRAMs out, or goes to the target of a redirect, stays applying. -/
def State.stopApply (s : State) : State :=
  s.wb.frames.foldl (fun (t : State) (x : Nat × Frame) =>
    let i := linePlot (lineOf t.wb.salt (x.1 / 8) x.2.tag)
    if x.2.state ≠ .applying ∨ t.redirectDurable i ∨ (x.2.stage = .programming ∧ ¬ t.redirecting i) then t
    else t.applyBack (x.1 / 8) (x.1 % 8) x.2) s

/-- Start a flush (R211, Table 07.4): an entry to A2 or A3 ends with code 0x02; writes not yet merged are dropped without completion; apply,
background engines and the test load stop; ztime is saved; planes are freed for the image; wear records are folded (R150) and the image programs start. -/
def State.startFlush (s : State) (cause : Nat) : State :=
  if ¬ s.mayFlush then s
  else
    let s := s.ringPage.abortEntry 2
    let s := s.setBit (WP + 0x2C) 0 true
    let s := { s with host := { s.host with reqs := s.host.reqs.filter (fun r => !r.write) } }
    let s := (s.dropHuTest).saveTimeUp
    let s := (List.range 40).foldl (fun (t : State) c => if t.chanState c = 4 then (t.stopEngines c).planeAborts c else t) s
    let s := if s.power = 2 then s.setStandby false else s
    s.stopApply.foldWear.writeImage cause

end Sys2Proof.Machine
end

