-- ==== Sys2Proof/Machine/Rails.lean ====
section
/-! DEFINITION. Machine/Rails.lean: the rail sequencer (R419 to R424), what follows when the rails are off or on, and the fault line. -/

namespace Sys2Proof.Machine

/-! ### Rail channels -/

/-- Registers of rail channel `n`. -/
def railOff (n : Nat) : Nat := SQ + 0x100 + n * 0x20

def State.railKind (s : State) (n : Nat) : Nat := s.fld (railOff n) 31 30
def State.upStep (s : State) (n : Nat) : Nat := s.fld (railOff n) 29 27
def State.downStep (s : State) (n : Nat) : Nat := s.fld (railOff n) 26 24
def State.railGroup (s : State) (n : Nat) : Nat := s.fld (railOff n) 23 21
def State.keepA3 (s : State) (n : Nat) : Bool := s.flag (railOff n) 20
def State.shutMode (s : State) (n : Nat) : Nat := s.fld (railOff n) 16 15

/-- SQ_CH_STAT.state: 0 off, 1 enabling, 2 on, 3 disabling, 4 faulted, 5 retry wait. -/
def State.railState (s : State) (n : Nat) : Nat := s.fld (railOff n + 0x10) 15 12
def State.setRail (s : State) (n x : Nat) : State :=
  { s.setFld (railOff n + 0x10) 15 12 x with pw := { s.pw with chanTick := Tbl.put s.pw.chanTick n s.tb.tick } }

/-- Have `t` us passed since a channel last changed its state? -/
def State.railFor (s : State) (n t : Nat) : Bool := decide ((Tbl.find s.pw.chanTick n).getD 0 + t ≤ s.tb.tick)

/-- Channels of kind rail, ascending. -/
def State.rails (s : State) : List Nat := (List.range 24).filter (fun n => s.railKind n = 1)

/-- Is SQ_EN of a channel high? -/
def State.railEn (s : State) (n : Nat) : Bool := s.pins.sqEn.toNat.testBit n

/-- Drive SQ_EN of a channel. -/
def State.driveEn (s : State) (n : Nat) (v : Bool) : State :=
  let m := BitVec.ofNat 24 (2 ^ n)
  { s with pins := { s.pins with sqEn := if v then s.pins.sqEn ||| m else s.pins.sqEn &&& ~~~ m } }

/-- Enable a rail channel (R419). -/
def State.railUp (s : State) (n : Nat) : State := (s.driveEn n true).setRail n 1

/-- Disable a rail channel (R420). -/
def State.railDown (s : State) (n : Nat) : State := (s.driveEn n false).setRail n 3

/-- A channel is on: SQ_PG high, and past settle. -/
def State.railGood (s : State) (n : Nat) : State :=
  let s := { s with pins := { s.pins with sqPg := s.pins.sqPg ||| BitVec.ofNat 24 (2 ^ n) } }
  (s.setBit (railOff n + 0x10) 24 true).setRail n 2

/-- SQ_STATUS.state: 0 off, 1 power-up, 2 on, 3 power-down, 4 min_off wait, 5 holding. -/
def State.sqState (s : State) : Nat := s.fld (SQ + 4) 3 0
def State.setSq (s : State) (x : Nat) : State := s.setFld (SQ + 4) 3 0 x
def State.sqStep (s : State) : Nat := s.fld (SQ + 4) 6 4
def State.setStep (s : State) (k : Nat) : State := s.setFld (SQ + 4) 6 4 k

/-- Is the target of the transition in progress `x`? -/
def State.heading (s : State) (x : Nat) : Bool := s.flag PW 7 && decide (s.fld PW 27 24 = x)

/-- Does a channel stay on through the shutdown in progress (entry to A3)? -/
def State.railKept (s : State) (n : Nat) : Bool := s.heading 3 && s.keepA3 n

/-- The settings of host links that take effect at a reset: every LD's configuration, the ports' modes and, at a cold reset, the owner port
(R324, R330, Table 12.6). -/
def State.loadLinks (s : State) (cold : Bool) : State :=
  let lds := (List.range 32).foldl (fun (t : Tbl Word) i => Tbl.set (fun _ => 0) t i (s.reg (HI + 0x40 + 4 * i))) []
  { s with host := { s.host with ldCfg := lds, portCfg := [s.reg (HI + 4), s.reg (HI + 8)], ownerPort := if cold then s.fld HI 0 0 else s.host.ownerPort } }

/-- Every sequenced rail is on after a power-up that ends in A0: the part is in A0 (the exit from A3 goes on to its end first, Table 15.7),
and the reset that the power-up belongs to is recorded (R462, R463, R212); the partitions of Rick take effect (R246). -/
def State.poweredUp (s : State) : State :=
  let s := s.setSq 2
  if s.power = 3 then s.setFld PW 19 16 3
  else
    let s := s.arrive 0
    let s := s.partition
    let after := s.pw.after
    let s := s.loadLinks (match after with | .coldOn | .coldRestart _ => true | .stay | .powerUp | .warm _ | .faultWait => false)
    let s := { s with pw := { s.pw with after := .stay } }
    match after with
    | .coldRestart c =>
      let s := if c = 1 then s.event 0x510A 0 none 0 0 else s
      (s.event 0xD302 0 none c 0).resetDone 2 c
    | .warm c => ((s.bump (GLB + 0x108) 7 0 1).event 0xD301 0 none c 0).resetDone 3 c
    | .coldOn => s.resetDone 1 0
    | .powerUp => s
    | .stay => s
    | .faultWait => s

/-! ### Power-up (R419) -/

/-- Channels that a power-up enables at step `k`: not yet on, and not of a group that is shut down (Table 15.11). -/
def State.toEnable (s : State) (k : Nat) : List Nat :=
  s.rails.filter (fun n => decide (s.upStep n = k) && decide (s.railState n ≠ 2) && !decide (s.railGroup n ∈ s.pw.groupsDown))

/-- Go on with a power-up at the first step from `k` that has something to enable; past the last, every rail is on. -/
def State.upFrom (s : State) (k : Nat) : State :=
  match (List.range 8).find? (fun j => decide (k ≤ j) && decide (s.toEnable j ≠ [])) with
  | none => s.poweredUp
  | some j =>
    let s := s.setStep j
    (s.toEnable j).foldl State.railUp s

/-- Is FAULT_N high? -/
def State.faultHigh (s : State) : Bool := !s.pins.faultIn && !s.pins.faultDrive

/-- Begin a power-up, if the fault line allows it (R419) and no trip is latched (R434). -/
def State.beginUp (s : State) : State :=
  if s.flag (TH + 4) 31 ∨ (s.flag SQ 18 ∧ ¬ s.faultHigh) then s
  else if s.sqState = 0 then (s.setSq 1).upFrom 0
  else s

/-- Start the recall that precedes every power-up but that from A3 (R474). -/
def State.beginRecall (s : State) : State := s.setBit SD 31 false

/-- A power-up that is pending begins with recall, once min_off has passed. A cold restart resets the always-on logic first (R463); a
power-up after an external fault needs auto_on (R422). -/
def State.tryPowerUp (s : State) : State :=
  if s.sqState ≠ 0 ∨ s.flag (TH + 4) 31 then s
  else
    match s.pw.after with
    | .stay => s
    | .powerUp | .coldOn | .warm _ => (s.depart 0 1).beginRecall
    | .faultWait => if s.flag SQ 20 ∧ s.faultHigh then (s.depart 0 1).beginRecall else s
    | .coldRestart c =>
      let s := s.regsCold
      let s := { s with
        tb := s.tb.cold (s.reg64 (TB + 0x28))
        df := { s.df with gapNext := true }
        pw := { after := .coldRestart c, retries := [], lowRun := [], highRun := [], wakeLatched := false, groupsDown := []
                huTest := none, huLow := 0, huHigh := 0, huTrend := none, huDue := none, faultHold := s.pw.faultHold, since := 0, chanTick := [], offTick := 0, faultTick := 0 }
        th := { s.th with sensors := [] }
        host := { s.host with corrected := 0 }
        rk := { s.rk with corrected := 0, dirLost := false } }
      ((s.setFld PW 3 0 4).depart 0 1).beginRecall

/-! ### Shutdown (R420) -/

/-- Every link that is up goes down: event 0xA102 for each, and nothing further completes on it (R326). -/
def State.linksDown (s : State) : State :=
  (List.range 8).foldl (fun (t : State) l =>
    let o := HI + 0x10 + l * 4
    if t.flag o 31 then ((t.setReg o 0).event 0xA102 (l / 4) none (l / 4 + 2 * (l % 4)) 0) else t) s

/-- The rails are off for A3: a wake latched during the entry starts the exit at once, with event 0xD104 (R408). -/
def State.inA3 (s : State) : State :=
  let s := (s.setSq 0).arrive 3
  if s.pw.wakeLatched then
    let s := s.event 0xD104 0 none (s.reg (PW + 0x10)).toNat 0
    let s := { s with pw := { s.pw with wakeLatched := false } }
    (s.depart 0 1).beginUp
  else s

/-- Let go of FAULT_N. -/
def State.releaseFault (s : State) : State :=
  let s := s.setBit (SQ + 4) 9 false
  { s with pins := { s.pins with faultDrive := false } }

/-- The wait of min_off begins (R422, R423). -/
def State.waitOff (s : State) : State := { s.setSq 4 with pw := { s.pw with offTick := s.tb.tick } }

/-- The rails are off for Off: the wait of min_off begins (R423), and FAULT_N goes high unless its hold time still runs. -/
def State.inOff (s : State) : State :=
  let s := if s.power = 4 then s else s.arrive 4
  let s := if s.pins.faultDrive ∧ ¬ s.pw.faultHold then s.releaseFault else s
  s.waitOff

/-- The rails that a shutdown takes down are all off. A group shut down stays so, and its channels FAILED, until a cold or warm reset (R90, R421); DEDUCED: an Off that
no reset asked for is none. -/
def State.railsOff (s : State) : State :=
  let a3 := s.heading 3
  let s := s.linksDown
  let s := { s with df := { s.df with railsOff := List.range 40 } }
  let s := s.coreOff a3
  let stay := a3 || (match s.pw.after with | .stay | .powerUp | .faultWait => true | .coldOn | .coldRestart _ | .warm _ => false)
  let s := s.regsOff a3 stay
  let s := { s with pw := { s.pw with groupsDown := if stay then s.pw.groupsDown else [], lowRun := [], highRun := [], huTest := none } }
  if a3 then s.inA3 else s.inOff

/-- Enabled rail channels that a shutdown still has to take down at step `k`. -/
def State.toDisable (s : State) (k : Nat) : List Nat :=
  s.rails.filter (fun n => s.railEn n && decide (s.downStep n = k) && !s.railKept n)

/-- Go on with a shutdown at the highest step with an enabled channel; with none, the rails are off. -/
def State.downOn (s : State) : State :=
  match (List.range 8).reverse.find? (fun j => decide (s.toDisable j ≠ [])) with
  | none => s.railsOff
  | some j => (s.toDisable j).foldl State.railDown ((s.setSq 3).setStep j)

/-- Begin a shutdown now, with no flush: toward Off, or toward A3 where the entry to A3 asks for it. -/
def State.shutNow (s : State) : State :=
  if s.sqState = 3 ∨ s.sqState = 4 ∨ s.sqState = 5 then s else s.downOn

/-- Enter Off (R414): with a flush where R211, R220 and R412 leave one, else the rails go down at once; during a power-up the step in
progress settles first (Table 15.13). What follows is `after`. -/
def State.enterOff (s : State) (after : AfterOff) : State :=
  let s := { s with pw := { s.pw with after := after } }
  if s.power = 4 ∧ ¬ s.flag PW 7 then s
  else
    let s := s.saveTimeUp.ringPage
    if s.flushing then s.depart 4 1
    else if s.mayFlush then (s.startFlush (if s.flag (TH + 4) 31 then 3 else 2)).depart 4 1
    else if s.sqState = 1 then (s.depart 4 1).event 0xD106 0 none 0 0
    else (s.depart 4 1).shutNow

/-- Shut every rail down at once, with no flush. -/
def State.cutOff (s : State) (after : AfterOff) : State :=
  let s := { (s.setBit (WP + 0x2C) 0 false) with pw := { s.pw with after := after } }
  if s.power = 4 ∧ ¬ s.flag PW 7 then s else (s.saveTimeUp.ringPage.depart 4 1).shutNow

/-! ### Faults (R421, R422) -/

/-- Drive FAULT_N low (R422). -/
def State.driveFault (s : State) : State :=
  { (s.setBit (SQ + 4) 9 true) with pins := { s.pins with faultDrive := true }, pw := { s.pw with faultHold := true, faultTick := s.tb.tick } }

/-- A system reset (reaction 0b11). Event 0xD204 carries the channel in [4:0] and flush_ok in [8]. -/
def State.systemReset (s : State) (n : Nat) : State :=
  let ok := s.flag (railOff n) 19
  let s := (s.driveFault).event 0xD204 n none (n + if ok then 256 else 0) 0
  let s := s.ringPage
  if ok then s.enterOff (.coldRestart 2) else s.cutOff (.coldRestart 2)

/-- Disable the channels of a group at its highest step with an enabled channel. -/
def State.groupDownOn (s : State) (g : Nat) : State :=
  let on_ := s.rails.filter (fun n => s.railEn n && decide (s.railGroup n = g))
  match (List.range 8).reverse.find? (fun j => on_.any (fun n => decide (s.downStep n = j))) with
  | none => s
  | some j => (on_.filter (fun n => s.downStep n = j)).foldl State.railDown s

/-- Channels of the media group whose rails are those of shutdown group `g` (Table 15.10). -/
def groupChannels (g : Nat) : List Nat :=
  if 1 ≤ g ∧ g ≤ 5 then (List.range 8).map (fun k => 8 * (g - 1) + k) else []

/-- The interval's stack temperature of a group whose media rail goes off is DF_GAP_TEMP (R166). -/
def State.noteRailOff (s : State) (n : Nat) : State :=
  { s with df := { s.df with railsOff := (s.df.railsOff ++ groupChannels (s.railGroup n)).eraseDups } }

/-- A group shutdown (reaction 0b10): group 0 is a system reset; a media group's channels enter FAILED. -/
def State.groupDown (s : State) (n : Nat) : State :=
  let g := s.railGroup n
  if g = 0 then s.systemReset n
  else
    let s := s.event 0xD203 n none n 0
    let s := { s with pw := { s.pw with groupsDown := if g ∈ s.pw.groupsDown then s.pw.groupsDown else g :: s.pw.groupsDown } }
    let s := (s.groupDownOn g).noteRailOff n
    let s := (groupChannels g).foldl (fun (t : State) c => t.failChannel c true) s
    if s.flag SQ 19 then s.driveFault else s

/-- A rail channel has faulted (R421): event 0xD201, the abort of an entry to A2 or A3 (Table 15.3), and the channel's reaction. -/
def State.railFault (s : State) (n cause : Nat) : State :=
  let s := (s.bump (railOff n + 0x10) 23 16 1).setRail n 4
  let s := (s.event 0xD201 n none n cause).abortEntry 9
  match s.fld (railOff n) 18 17 with
  | 0 => s
  | 1 =>
    let used := ((Tbl.find s.pw.retries n).getD []).filter (fun t => s.tb.tick - t < 60000000)
    if used.length < s.fld (railOff n) 14 12 then
      let s := { s with pw := { s.pw with retries := Tbl.put s.pw.retries n (s.tb.tick :: used) } }
      (((s.driveEn n false).setRail n 5).noteRailOff n).event 0xD202 n none n 0
    else s.groupDown n
  | 2 => s.groupDown n
  | _ => s.systemReset n

/-! ### The commands -/

/-- Does a channel meet what ends its step: SQ_PG high, which the command says, and where on_thr is nonzero its sense reading? -/
def State.senseGood (s : State) (n : Nat) : Bool :=
  let thr := s.fld (railOff n + 0x0C) 27 16
  decide (thr = 0) || decide (thr ≤ s.fld (railOff n + 0x10) 11 0)

/-- RAIL_STEP_GOOD (R419): every channel of the step is good and settled; the next step begins, or the shutdown that waited for it. With
every rail on, a retried channel is good again. -/
def execRailStepGood (s : State) : Answer :=
  let ns := s.rails.filter (fun n => s.railState n = 1)
  .next (
    if s.sqState = 1 then
      (if s.rails.any (fun n => decide (s.upStep n = s.sqStep) && decide (s.railState n = 5)) ∨ ¬ ns.all s.senseGood then s
       else
         let s := ns.foldl State.railGood s
         if s.heading 4 then s.downOn else s.upFrom (s.sqStep + 1))
    else if s.sqState = 2 ∧ ns.all s.senseGood then ns.foldl State.railGood s
    else s)

/-- PG_TIMEOUT (R419): a channel is not good within pg_timeout. -/
def execPgTimeout (sq : Nat) (s : State) : Answer :=
  below sq 24 s (.next (
    if s.railKind sq = 1 ∧ s.railState sq = 1 ∧ s.railFor sq (100 * s.fld (railOff sq + 4) 7 0) then s.railFault sq 4 else s))

/-- SHUTDOWN_STEP_DONE (R420): every channel of the step has finished its wait; the next lower step, of the shutdown or of a group. -/
def execShutdownStepDone (s : State) : Answer :=
  .next (
    if s.rails.any (fun n => decide (s.railState n = 3)) then s
    else if s.sqState = 3 then s.downOn
    else s.pw.groupsDown.foldl State.groupDownOn s)

/-- Has off_timeout passed for a channel being shut down, and does a channel of mode 0b10 hold the shutdown (Table 15.12)? -/
def State.offExpired (s : State) (n : Nat) : Bool := decide (s.railState n = 3) && s.railFor n (100 * s.fld (railOff n + 4) 23 16)
def State.railHolds (s : State) (n : Nat) : Bool := s.offExpired n && decide (s.shutMode n = 2)

/-- A disabled channel has finished its wait. -/
def State.railEnded (s : State) (n : Nat) : State :=
  let s := { s with pins := { s.pins with sqPg := s.pins.sqPg &&& ~~~ BitVec.ofNat 24 (2 ^ n) } }
  let s := (s.setBit (railOff n + 0x10) 24 false).setRail n 0
  if s.sqState = 5 ∧ ¬ s.rails.any s.railHolds then s.setSq 3 else s

/-- OFF_TIMEOUT_EXPIRE (R420, Table 15.12): off_timeout has passed for a channel being shut down. -/
def execOffTimeoutExpire (sq : Nat) (s : State) : Answer :=
  below sq 24 s (.next (
    if s.railKind sq = 1 ∧ s.offExpired sq then
      (match s.shutMode sq with
       | 0 => s
       | 1 => s.railEnded sq
       | 2 => (if s.sqState = 3 then s.setSq 5 else s).event 0xD206 sq none sq 0
       | _ => (s.railEnded sq).event 0xD206 sq none sq 0)
    else s))

/-- A conversion of HOLDUP_SNS: SQ_HOLDUP, and how long V has stayed within 1% (R209). -/
def State.holdupSample (s : State) (code : Nat) : State :=
  let s := s.setReg (SQ + 8) (BitVec.ofNat 32 (code % 4096))
  let lo := min s.pw.huLow code
  let hi := max s.pw.huHigh code
  if s.pw.huTrend.isSome ∧ 100 * (hi - lo) ≤ hi then { s with pw := { s.pw with huLow := lo, huHigh := hi } }
  else { s with pw := { s.pw with huLow := code, huHigh := code, huTrend := some (s.tb.tick, code) } }

/-- A conversion of a rail channel's sense input (R421): three in a row out of range fault a channel that is on; below off_thr it ends
the wait of a channel being shut down by threshold. -/
def State.railSample (s : State) (n code : Nat) : State :=
  let o := railOff n
  let s := s.setFld (o + 0x10) 11 0 code
  if s.railState n = 3 then
    (if s.shutMode n ≠ 1 ∧ code < s.fld (o + 0x0C) 11 0 then s.railEnded n else s)
  else if s.railState n = 2 then
    let uv := s.fld (o + 8) 27 16
    let ov := s.fld (o + 8) 11 0
    let l := if uv ≠ 0 ∧ code < uv then Tbl.get (fun _ => 0) s.pw.lowRun n + 1 else 0
    let h := if ov < 0xFFF ∧ ov < code then Tbl.get (fun _ => 0) s.pw.highRun n + 1 else 0
    let s := { s with pw := { s.pw with lowRun := Tbl.set (fun _ => 0) s.pw.lowRun n (l % 3), highRun := Tbl.set (fun _ => 0) s.pw.highRun n (h % 3) } }
    if l = 3 then s.railFault n 2 else if h = 3 then s.railFault n 3 else s
  else s

/-- ADC_CONVERSION (R421): input 24 is HOLDUP_SNS, the others the sense inputs of the rail channels. -/
def execAdcConversion (input code : Nat) (s : State) : Answer :=
  below input 25 s (.next (
    if input = 24 then s.holdupSample (code % 4096)
    else if s.railKind input = 1 then s.railSample input (code % 4096) else s))

/-- PG_LOW_FAULT (R421): SQ_PG of a settled channel has been low for 10 us. -/
def execPgLowFault (sq : Nat) (s : State) : Answer :=
  below sq 24 s (.next (
    if s.railKind sq = 1 ∧ s.railState sq = 2 then
      let s := { s with pins := { s.pins with sqPg := s.pins.sqPg &&& ~~~ BitVec.ofNat 24 (2 ^ sq) } }
      (s.setBit (railOff sq + 0x10) 24 false).railFault sq 1
    else s))

/-- RAIL_RETRY_EXPIRE (R421): after retry_ms the channel is enabled as at power-up. -/
def execRailRetryExpire (sq : Nat) (s : State) : Answer :=
  below sq 24 s (.next (
    if s.railState sq = 5 ∧ (s.sqState = 1 ∨ s.sqState = 2) ∧ s.railFor sq (1000 * s.fld (railOff sq + 4) 31 24) then s.railUp sq else s))

/-- MIN_OFF_EXPIRE (R423): the wait after a shutdown has ended; a pending power-up may start. -/
def execMinOffExpire (s : State) : Answer :=
  .next (if s.sqState = 4 ∧ s.pw.offTick + 10000 * s.fld SQ 7 0 ≤ s.tb.tick then (s.setSq 0).tryPowerUp else s)

/-- FAULT_N_EXTERNAL (R422): FAULT_N low for 2 us while the part does not drive it. -/
def execFaultNExternal (s : State) : Answer :=
  .next (
    if s.pins.faultDrive then s
    else
      let s := { s with pins := { s.pins with faultIn := true } }
      let s := s.event 0xD205 0 none 0 0
      match s.fld SQ 17 16 with
      | 1 => if s.power = 4 ∧ ¬ s.flag PW 7 then s else s.enterOff .faultWait
      | 2 => if s.power = 4 ∧ ¬ s.flag PW 7 then s else s.cutOff .faultWait
      | _ => s)

/-- FAULT_N_RELEASE (R419, R422): FAULT_N high for 2 us. A power-up that waits for it begins; after an external fault the part waits
min_off from here. -/
def execFaultNRelease (s : State) : Answer :=
  let s := { s with pins := { s.pins with faultIn := false } }
  .next (
    if s.sqState = 0 then
      (if s.pw.after = .faultWait ∧ s.power = 4 ∧ ¬ s.flag PW 7 then s.waitOff
       else if s.recalled ∧ s.heading 0 then s.beginUp
       else s)
    else s)

/-- FAULT_HOLD_EXPIRE (R422): fault_hold_ms has passed; the line is released once the rails that the fault took down are off. -/
def execFaultHoldExpire (s : State) : Answer :=
  .next (
    if s.pins.faultDrive ∧ s.pw.faultTick + 1000 * s.fld SQ 15 8 ≤ s.tb.tick then
      let s := { s with pw := { s.pw with faultHold := false } }
      let off := if s.sqState = 2 then s.rails.all (fun n => !decide (s.railGroup n ∈ s.pw.groupsDown) || decide (s.railState n = 0))
        else s.rails.all (fun n => !s.railEn n && decide (s.railState n ≠ 3))
      if off then s.releaseFault else s
    else s)

end Sys2Proof.Machine
end

