-- ==== Sys2Proof/Machine/HoldUp.lean ====
section
/-! DEFINITION. Machine/HoldUp.lean: hold-up energy, the hold-up test, the end of a flush and global persistent flush (R204 to R214). -/

namespace Sys2Proof.Machine

/-! ### Energy (R206, R207) -/

/-- Bank voltage in mV at full scale of HOLDUP_SNS, by WP_HU_CTL.div (R490). -/
def State.huScale (s : State) : Nat := 28800 + 14400 * s.fld (WP + 0x1C) 2 1

/-- Channels in service. -/
def State.channelsIn (s : State) : Nat := countIf s.inService (List.range 40)

/-- 4096^2 (V^2 - vmin^2) in mV^2 for a bank voltage of conversion `code`; 0 below vmin. -/
def State.huSquares (s : State) (code : Nat) : Nat :=
  (code * s.huScale) ^ 2 - (s.fld (WP + 0x18) 31 16 * 4096) ^ 2

/-- e of R207 in 10^-12 J, times 512 * 4096^2. -/
def State.huEnergy (s : State) (code : Nat) : Nat := (s.reg (WP + 0x20)).toNat % 2 ^ 24 * s.huSquares code * s.fld (WP + 0x18) 15 8

/-- The hold-up factor that the present voltage gives (R207): exact arithmetic, floored once. -/
def State.huFactor (s : State) : Nat :=
  let n := s.channelsIn
  let num := s.huEnergy (s.fld (SQ + 8) 11 0) * s.fld (WP + 0x1C) 31 24 * (750000000 * n)
  let den := 512 * 4096 ^ 2 * 256 * 150 * 10 ^ 12
  let f : Int := (256 * ((num : Int) - den * (37500 * n + 7340032))) / (den * 76546048)
  (max 0 (min 256 f)).toNat

/-- E_need in nJ of a flush that writes `d` bytes (R206): 150 W for 50 us + d / R, with R = 0.75 GB/s per channel in service. -/
def State.eNeed (s : State) (d : Nat) : Nat := 7500000 + ceilDiv (200 * d) s.channelsIn

/-- What the GPF DVSEC reports of phase 2 (R205): its duration in us, and its power in mW. -/
def gpfPhase2 : Nat × Nat := (10, 140000)

/-- C_full in uF at voltage conversion `code` (R210): the capacitance whose energy is 256 / k times E_need of the largest flush, rounded up;
a bank below vmin gives no such capacitance. -/
def State.huFull (s : State) (code : Nat) : Nat :=
  let n := s.channelsIn
  let d := n * s.fld (WP + 0x1C) 31 24 * s.fld (WP + 0x18) 15 8 * s.huSquares code
  if d = 0 then 2 ^ 24 else ceilDiv (131072 * (37500 * n + 83886080) * 200000 * 4096 ^ 2) d

/-- The factor in force becomes `f`: event 0x5103, and write-through mode at 0 (R208). DESIGN CHOICE: event 0x5104 carries 1 on entry and 0 on exit. DEDUCED:
writes that waited for write-through complete when the mode ends. -/
def State.setFactor (s : State) (f : Nat) : State :=
  let was := s.wb.f
  let s := { s with wb := { s.wb with f := f } }
  let s := s.setFld (WP + 0x28) 24 16 f
  let s := if f = was then s else s.eventOnce 0 0x5103 0 none f 0
  let wt := decide (f = 0)
  if wt = s.writeThrough then s
  else
    let s := (s.setBit (WP + 0x2C) 1 wt).event 0x5104 0 none (if wt then 1 else 0) 0
    if wt then s
    else s.host.reqs.foldl (fun (t : State) (r : Req) => if r.st = .throughWait then t.completeWrite r (some r.dom) else t) s

/-- HOLD_UP_FACTOR_UPDATE (R207): every 1 ms. A lower factor at once; a higher one once it has held for 100 ms. DESIGN CHOICE: an energy above 65,535 mJ, which
its field of WP_HU_STAT cannot hold, reads as 65,535. -/
def execHoldUpFactorUpdate (s : State) : Answer :=
  let s := s.setFld (WP + 0x28) 15 0 (min 65535 (s.huEnergy (s.fld (SQ + 8) 11 0) / (512 * 4096 ^ 2) / 10 ^ 9))
  let f := s.huFactor
  .next (
    if f ≤ s.wb.f then ({ s with wb := { s.wb with fUp := none } }).setFactor f
    else match s.wb.fUp with
      | none => { s with wb := { s.wb with fUp := some (f, s.tb.tick) } }
      | some (g, t) =>
        let g := min f g
        if 100000 ≤ s.tb.tick - t then ({ s with wb := { s.wb with fUp := none } }).setFactor g
        else { s with wb := { s.wb with fUp := some (g, t) } })

/-! ### The hold-up test (R209) -/

/-- The sequencer channel that switches the test load. -/
def State.testSq (s : State) : Nat := s.fld (WP + 0x1C) 7 3

/-- Has V stayed within 1% for the previous second? -/
def State.huStable (s : State) : Bool :=
  match s.pw.huTrend with
  | some (t, _) => decide (1000000 ≤ s.tb.tick - t)
  | none => false

/-- Start a hold-up test, if it may run: V1 is recorded and the load goes on, where its channel is a switch. -/
def State.startHuTest (s : State) : State :=
  if s.flag (WP + 0x1C) 0 ∧ s.huStable ∧ s.pw.huTest.isNone ∧ s.wb.recovered ∧ ¬ s.flushing ∧ s.stillness = 0 then
    let s := { s with pw := { s.pw with huTest := some { v1 := s.fld (SQ + 8) 11 0, start := s.tb.tick }, huDue := none } }
    (if s.railKind s.testSq = 2 then s.driveEn s.testSq true else s).setBit (WP + 0x2C) 3 true
  else s

/-- The test is over: load off, and action 0x06 ends. -/
def State.endHuTest (s : State) : State :=
  let s := { s with pw := { s.pw with huTest := none } }
  ((if s.railKind s.testSq = 2 then s.driveEn s.testSq false else s).setBit (WP + 0x2C) 3 false).endAction 0x06

/-- A failed test: C is 0, and a new test is due 60 s later. -/
def State.failHuTest (s : State) (c : Nat) : State :=
  let s := ((s.endHuTest).setBit (WP + 0x2C) 2 true).persist (WP + 0x20) 0
  let s := { s with pw := { s.pw with huDue := some (s.tb.tick + 60000000) } }
  s.event 0x5106 0 none c 0

/-- A test has measured `c`: it succeeds within one quarter to four times C_ref, which the first success sets. DESIGN CHOICE: a capacitance wider than 24 bits
is kept modulo 2^24. -/
def State.passHuTest (s : State) (v1 c : Nat) : State :=
  let ref := s.fld (WP + 0x24) 23 0
  if ref ≠ 0 ∧ (4 * c < ref ∨ 4 * ref < c) then s.failHuTest c
  else
    let s := ((s.endHuTest).setBit (WP + 0x2C) 2 false).persist (WP + 0x20) (BitVec.ofNat 32 (c % 2 ^ 24))
    let s := if ref = 0 then s.persist (WP + 0x24) (BitVec.ofNat 32 (c % 2 ^ 24)) else s
    { s with wb := { s.wb with whCm := c, cRefFull := s.huFull v1 } }

/-- HOLD_UP_TEST (R209): at a due instant of action 0x06, and 10 s after recovery completes. -/
def execHoldUpTest (s : State) : Answer :=
  match s.takeAction 0x06 with
  | some (n, t) =>
    let u := t.startHuTest
    .next (if u.pw.huTest.isSome ∧ t.pw.huTest.isNone then u else u.endEntry n)
  | none =>
    .next (match s.pw.huDue with
      | some d => if d ≤ s.tb.tick then s.startHuTest else s
      | none => s)

/-- HOLD_UP_RETEST (R209): 60 s after a failed test. -/
def execHoldUpRetest (s : State) : Answer :=
  .next (match s.pw.huDue with
    | some d => if d ≤ s.tb.tick ∧ s.flag (WP + 0x2C) 2 then s.startHuTest else s
    | none => s)

/-- HOLD_UP_TEST_SAMPLE (R209): every 10 us of a test; at the drop, C := test_ma * dt / (V1 - V). A bank at 0 V gives no quotient: an open
value. -/
def execHoldUpTestSample (s : State) : Answer :=
  .next (match s.pw.huTest with
    | none => s
    | some h =>
      let v := s.fld (SQ + 8) 11 0
      if v * 1024 ≤ h.v1 * (1024 - s.fld (WP + 0x1C) 23 16) then
        let ma := 10 * s.fld (WP + 0x18) 7 0
        if h.v1 ≤ v then (let (x, s) := s.draw; s.passHuTest h.v1 x.toNat)
        else s.passHuTest h.v1 (ma * (s.tb.tick - h.start) * 4096 / ((h.v1 - v) * s.huScale))
      else s)

/-- HOLD_UP_TEST_TIMEOUT (R209): test_max_ms has passed before the drop. Event 0x5106 carries C = 0, since none was measured. -/
def execHoldUpTestTimeout (s : State) : Answer :=
  .next (match s.pw.huTest with
    | none => s
    | some h => if s.fld (WP + 0x1C) 15 8 * 1000 ≤ s.tb.tick - h.start then s.failHuTest 0 else s)

/-! ### The flush (R211 to R214) -/

/-- PWR_FAIL (R211, R212): PWR_FAIL_N low for 2 us. In A3 and Off, and in an exit from A3, the flush is already complete and the shutdown
starts at once (R412); before recovery completes nothing is flushed (R220). -/
def execPwrFail (s : State) : Answer :=
  let s := { s with pins := { s.pins with pwrFailLow := true } }
  .next (
    if s.flushing then s
    else if s.mayFlush then s.startFlush 1
    else if (s.power = 3 ∨ s.wb.tablesSaved) ∧ s.sqState ≠ 0 ∨ s.power = 3 then (s.depart 4 1).shutNow
    else s)

/-- PWR_FAIL_RETURN (R212): PWR_FAIL_N high again; during a flush a cold restart follows its end. -/
def execPwrFailReturn (s : State) : Answer :=
  let s := { s with pins := { s.pins with pwrFailLow := false } }
  .next (if s.flushing then { s with pw := { s.pw with after := .coldRestart 1 } } else s)

/-- FLUSH_SEALED (R212, R214): the seal has verified, `durUs` after the trigger with `bytes` written; the shutdown sequence starts. -/
def execFlushSealed (durUs bytes : Nat) (s : State) : Answer :=
  .next (
    if s.flushing ∧ s.imageSealed then
      let s := s.takeImage.setReg (WP + 0x38) (BitVec.ofNat 32 (min 65535 durUs + min 65535 (ceilDiv bytes 65536) * 65536))
      let s := s.setBit (WP + 0x2C) 0 false
      (s.depart 4 6).shutNow
    else s)

/-! ### Global persistent flush (R205) -/

/-- GPF_PHASE1 (R205): no work, answered. During a flush nothing is answered (Table 07.7). -/
def execGpfPhase1 (port : Nat) (s : State) : Answer :=
  below port 2 s (.next (if s.flushing then s else s.emit (.gpf port 1)))

/-- GPF_PHASE2 (R205): answered once every write received on the port before it has completed. -/
def execGpfPhase2 (port : Nat) (s : State) : Answer :=
  below port 2 s (.next (
    if s.flushing then s
    else ({ s with host := { s.host with gpfWait := s.host.gpfWait ++ [(port, s.host.nextReq)] } }).gpfCheck))

end Sys2Proof.Machine
end

