-- ==== Sys2Proof/Machine/Recovery.lean ====
section
/-! DEFINITION. Machine/Recovery.lean: recovery (R217 to R222, R139, R280, Tables 05.10 and 07.6). -/

namespace Sys2Proof.Machine

/-! ### The map base (Table 05.10) -/

/-- Load a checkpoint copy: map, node map, plot table, and the pinned levels of the tree (R280). -/
def State.loadCkpt (s : State) (c : Ckpt) : State :=
  let s := { s with
    tp := { s.tp with map := c.map, nodeMap := c.nodeMap, plots := c.plots }
    gx := { s.gx with l2 := c.l2, l3 := c.l3, l4 := c.l4, crown := c.crown, bumps := c.bumps } }
  s.setReg64 (TP + 0x30) c.s

/-- Replay every verified record with seq above `n`, in seq order (R139, R280). -/
def State.replayJournal (s : State) (n : Nat) : State :=
  (s.tp.verified.reverse.filter (fun r => decide (n < r.seq))).foldl State.recEffect s

/-- Of two map results, entry by entry: where they differ, the higher generation modulo 256, and the base's on equal generations. An entry
that neither lists is as format left it. -/
def mergeMaps (fresh : Nat → MapEntry) (base other : Tbl MapEntry) : Tbl MapEntry :=
  let keys := (base.map (·.1) ++ other.map (·.1)).eraseDups
  keys.foldl (fun t k =>
    let a := (Tbl.find base k).getD (fresh k)
    let b := (Tbl.find other k).getD (fresh k)
    let newer := decide (0 < (b.generation + 256 - a.generation) % 256) && decide ((b.generation + 256 - a.generation) % 256 < 128)
    Tbl.put t k (if newer then b else a)) []

/-- The map base is selected and the journal replayed. False: no valid copy. -/
def State.mapBase (s : State) (f : RecoveryFinding) : Bool × State :=
  let a := if f.ckptA ∧ ¬ s.sd.crownLostA then s.tp.ckptA else none
  let b := if f.ckptB ∧ ¬ s.sd.crownLostB then s.tp.ckptB else none
  let one (t : State) (c : Ckpt) : State := (t.loadCkpt c).replayJournal c.s
  match a, b with
  | none, none => (false, s)
  | some x, none =>
    (true, one (match s.tp.ckptB with | some y => if x.s ≤ y.s then s.event 0x3103 0 none 0 0 else s | none => s) x)
  | none, some y =>
    (true, one (match s.tp.ckptA with | some x => if y.s ≤ x.s then s.event 0x3103 0 none 0 0 else s | none => s) y)
  | some x, some y =>
    if x.s ≠ y.s then (true, one s (if x.s < y.s then y else x))
    else if x.map = y.map ∧ x.nodeMap = y.nodeMap ∧ x.plots = y.plots then (true, one s x)
    else
      let base := if x.done ≤ y.done then x else y
      let other := if x.done ≤ y.done then y else x
      let s1 := one s base
      let s2 := one s other
      let s1 := { s1 with tp := { s1.tp with
        map := mergeMaps (s1.freshEntry false) s1.tp.map s2.tp.map
        nodeMap := mergeMaps (s1.freshEntry true) s1.tp.nodeMap s2.tp.nodeMap } }
      (true, s1.event 0x3105 0 none 0 0)

/-- The next journal sequence number is one above the last record found. -/
def State.lastSeq (s : State) : Nat :=
  (s.tp.verified.map (fun r => r.seq)).foldl max (max (match s.tp.ckptA with | some c => c.s | none => 0) (match s.tp.ckptB with | some c => c.s | none => 0))

/-! ### Steps 4 to 7 of Table 07.6 -/

/-- E, its last update and both rings, from the newer of the flush image and the checkpoint copies that carry them; the first update after this charges at
DF_GAP_TEMP (R171). -/
def State.restoreDrift (s : State) (clean : Bool) : State :=
  let put (t : State) (e : Tbl Nat) (z : Nat) (h d : Tbl (Nat × Nat)) : State := { t with df := { t.df with eff := e, last := z, hourly := h, daily := d, gapNext := true } }
  let s := match s.tp.ckptA with | some c => put s c.eff c.lastDrift c.hourly c.daily | none => s
  let s := match s.tp.ckptB with | some c => if s.df.last ≤ c.lastDrift ∨ s.tp.ckptA.isNone then put s c.eff c.lastDrift c.hourly c.daily else s | none => s
  match s.wb.image with
  | some i => if clean ∧ s.df.last ≤ i.lastDrift then put s i.eff i.lastDrift i.hourly i.daily else s
  | none => s

/-- Step 4: the image is restored (R214, R517, R451). -/
def State.restoreImage (s : State) (i : Image) : State :=
  let mt : Meter := { i.meter with next := s.mt.next, covered := s.mt.covered, portCmd := none, portPos := 0, cut := false, coalesced := true }
  let s := { s with
    wb := { s.wb.withFrames i.frames with salt := i.salt, leaves := i.leaves.map (fun (x : Nat × Leaf) => (x.1, { x.2 with restored := true, writing := false, progs := 0, changedAt := none })) }
    codes := { s.codes with deltas := i.deltas, marked := i.rebuilds, markWait := [] }
    log := { s.log with area := some i.areaB }
    mt := mt }
  s.event 0x5101 0 none i.seq (i.seq / 2 ^ 32)

/-- A new salt, where no frame was restored (R192). -/
def State.newSalt (s : State) : State :=
  if s.wb.frames = [] then (let (x, s) := s.draw; { s with wb := { s.wb with salt := x.toNat % 2 ^ 38 } }) else s

/-- The first meter window after an unclean loss starts at recovery with gap set (R452). -/
def State.meterGap (s : State) : State :=
  let s := { s with mt := { s.mt with open_ := [], firstMinute := s.utcMinute, minutes := 1, gap := true, coalesced := false, holdover := false } }
  s.event 0xF204 0 none s.tb.ztime (s.tb.ztime / 2 ^ 32)

/-- Free every frame of a line. -/
def State.freeLine (s : State) (line : Nat) : State :=
  let set := lineSet s.wb.salt line
  let s := match s.wayOf line true with | some w => s.freeFrame set w | none => s
  match s.wayOf line false with | some w => s.freeFrame set w | none => s

/-- Replay one anchor record (R218); `bad`: its data slot cannot be decoded. -/
def State.replayAnchor (s : State) (bad : List Nat) (r : AnchorRec) : State :=
  let lost := decide (r.seq ∈ bad)
  let i := linePlot r.line
  let s := if lost then s.event 0x5108 0 (some r.dom) (lineLo r.line) (lineHi r.line) else s
  if r.type = 3 then s
  else
    let s := s.markRebuild (s.entry false i).phys (linePage r.line) (lineSlot r.line)
    if r.type = 2 then
      let s := s.freeLine r.line
      let s := s.mergeWrite r.line r.dom r.data fullMask (r.poison || lost) true
      let s := match s.wayOf r.line false with
        | some w => (match s.frame (lineSet s.wb.salt r.line) w with
          | some f => s.setFrame (lineSet s.wb.salt r.line) w { f with state := .applying, stage := .programming }
          | none => s)
        | none => s
      let n := s.node 0 (r.line / 64)
      let s := s.dirtyLeaf (r.line / 64) { (n.setMinor (r.line % 64) r.ver.minor) with major := r.ver.major }
      { s with wb := { s.wb with leaves := s.wb.leaves.map (fun (x : Nat × Leaf) => if x.1 = r.line / 64 then (x.1, { x.2 with restored := true }) else x) } }
    else s.mergeWrite r.line r.dom r.data (if lost then fullMask else r.mask) (r.poison || lost) true

/-- Step 5: the anchor scan (R218). After a clean loss it rebuilds the log index only. -/
def State.anchorScan (s : State) (clean : Bool) (bad : List Nat) : State :=
  let rs := s.wb.anchors.filter (fun r => decide (s.wb.anchorX < r.seq))
  let s := if clean then s else rs.foldl (fun t r => t.replayAnchor bad r) s
  let s := { s with wb := { s.wb with anchorNext := (s.wb.anchors.map (fun (r : AnchorRec) => r.seq)).foldl max s.wb.anchorX + 1 } }
  s.event 0x5107 0 none rs.length 0

/-- Step 6 for one migration (Table 05.12), by its newest durable record 0x01: none, and it never was; before the map switch it restarts at step 2 with its
target erased anew, or waits for a target where that one has been given up. -/
def Migration.restart (s : State) (m : Migration) : Option Migration :=
  if 5 ≤ m.step then some m
  else m.durable.map (fun p =>
    if (s.plotRec p).state = 7 then { m with tgt := p, step := 2, page := 0, dual := 0, hour := s.hour } else { m with step := 0, page := 0, dual := 0 })

/-- Step 6: pending migrations are resolved; each that restarts records event 0x3102. -/
def State.restartMigrations (s : State) : State :=
  let s := { s with tp := { s.tp with migs := s.tp.migs.filterMap (Migration.restart s) } }
  (s.tp.migs.filter (fun m => decide (m.step < 5))).foldl (fun (t : State) m => t.event 0x3102 0 none m.src m.tgt) s

/-- A spare taken before the loss, whose record was not durable, is listed as the spare that it is. -/
def State.listSpares (s : State) : State := (List.range s.tp.freshNext).foldl (fun (t : State) i => t.listSpare (Config.formatPlot t.usable 0 i)) s

/-- Plots that nothing names any more: targets and checkpoint plots of work that was lost. -/
def State.loosePlots (s : State) : List Nat :=
  let own := (match s.tp.ckptA with | some c => c.own | none => []) ++ (match s.tp.ckptB with | some c => c.own | none => [])
  (s.tp.plots.filter (fun (x : Nat × PlotRec) =>
    (decide (x.2.state = 7) && !s.tp.migs.any (fun m => decide (0 < m.step) && decide (m.tgt = x.1))) ||
    (decide (x.2.state = 8) && !decide (x.1 ∈ own) && !decide (x.1 ∈ s.recorderPlots)))).map (fun x => x.1)

/-- Spares that nothing has happened to since format. -/
def State.freshSpares (s : State) : List Nat :=
  ((List.range (s.tp.s0 - s.tp.freshNext)).map (fun i => Config.formatPlot s.usable 0 (s.tp.freshNext + i))).filter (fun p => (Tbl.find s.tp.plots p).isNone)

/-- Step 7: registers of keep class X are recomputed: spare counts, life, the time of the newest copy. -/
def State.recomputeX (s : State) : State :=
  let pool := s.tp.plots.filter (fun p => decide (6168 ≤ p.1))
  let s := s.setSpares (s.freshSpares.length + countIf (fun p => decide (p.2.state ≤ 1)) pool)
  let s := s.setReady (countIf (fun p => !s.plotOut p) s.freshSpares + countIf (fun p => decide (p.2.state = 0) && !s.plotOut p.1) pool)
  let s := (s.setReg64 (WP + 0x3C) (s.wb.anchorNext - 1)).setReg64 (WP + 0x44) s.wb.anchorX
  s.lifeUpdate

/-! ### The commands -/

/-- Has every populated channel reached READY or FAILED (R219), or been disabled (R515)? -/
def State.channelsSettled (s : State) : Bool :=
  s.populated.all (fun c => decide (s.chanState c = 4 ∨ s.chanState c = 7 ∨ s.chanState c = 8))

/-- WP_STATUS.rec_step. -/
def State.recStep (s : State) : Nat := s.fld (WP + 0x2C) 11 8

/-- An unclean loss (R222): event 0x5102, and the dirty shutdown count. -/
def State.uncleanLoss (s : State) : State :=
  let s := (s.setBit (WP + 0x2C) 4 true).persist (HI + 0xC0) (s.reg (HI + 0xC0) + 1)
  s.event 0x5102 0 none 0 0

/-- RECOVERY (R219): steps 1 to 6 of Table 07.6 and the start of step 7, which ends as the idle flush area has been erased, once every populated channel has settled; never after a mixed or refused population (R2, R26). `f` is what the media and the Seed store give. With
no valid checkpoint copy no map is built, and recovery stays at step 2 (Table 05.10, Table 10.7). -/
def execRecovery (f : RecoveryFinding) (s : State) : Answer :=
  .next (
    if s.wb.recovered ∨ ¬ s.recStep = 0 ∨ ¬ s.power = 0 ∨ ¬ s.sqState = 2 ∨ s.flag PW 7 ∨ ¬ s.channelsSettled ∨ s.media.mixedReported then s
    else
      let found := match s.wb.image with | some i => f.image && decide (i.seq = s.reg64 (WP + 0x30)) | none => false
      let s := if found then s.setBit (WP + 0x2C) 4 false else s.uncleanLoss
      let copies := s.tp.ckptA.isSome || s.tp.ckptB.isSome
      let (ok, s) := s.mapBase f
      if ¬ ok then
        let s := (s.event 0x3106 0 none 0 0).setFld (WP + 0x2C) 11 8 2
        if copies then ((s.setBit (GX + 4) 2 true).alarmPending 0xFFF).event 0x8109 0 none 0 0 else s
      else
        let s := { s with tp := { s.tp with nextSeq := s.lastSeq + 1, unverified := [] } }
        let s := match s.wb.image with
          | some i => if found then s.restoreImage i else s.meterGap
          | none => s.meterGap
        let s := if f.gorseRecords then s
          else (s.alarmPending 0xFFF).event 0x8108 0 none 0 0
        let s := if found ∧ f.gorseRecords then s else { s with gx := { s.gx with sweep := some 0 } }
        let s := (s.restoreDrift found).newSalt
        let s := s.anchorScan found f.badAnchors
        let s := s.restartMigrations.listSpares.eraseIdleArea
        s.recomputeX.setFld (WP + 0x2C) 11 8 7)

/-- Program the frames restored as applying (R221): under the leaf version restored for their lines, with no read and no delta; but for those of a redirect,
which its copy programs, and on a write-protected plot. -/
def State.reapply (s : State) : State :=
  s.wb.frames.foldl (fun (t : State) (x : Nat × Frame) =>
    let line := lineOf t.wb.salt (x.1 / 8) x.2.tag
    let i := linePlot line
    if x.2.state ≠ .applying ∨ t.redirecting i then t
    else if (t.entry false i).writeProtect then (t.freeFrame (x.1 / 8) (x.1 % 8)).cacheDrop false line
    else t.programFrame (x.1 / 8) (x.1 % 8) { x.2 with progs := 0, failed := false } line none) s

/-- Erases that were interrupted, and what else the plot table has still to be told: targets of copies that start over, sources after their map switch, spares
and checkpoint plots of work that was lost, and the log plots to be reused (Tables 05.12 and 07.6 step 6). -/
def State.redoErases (s : State) : State :=
  let s := s.loosePlots.foldl (fun (t : State) p => t.journalPlot p (fun r => { r with state := 1 })) s
  let s := s.tp.migs.foldl (fun (t : State) m =>
    if m.step = 2 then t.erasePlot m.tgt 0
    else if m.step = 5 then
      (if m.retire then (if (t.plotRec m.src).state = 5 then t else t.retirePlot m.src (if t.plotOut m.src then 3 else 1)) else t.erasePlot m.src (m.charge t))
    else t) s
  s.ringPump.strandSweep.directoryErase

/-- Retire migrations of degraded plots and of plots with stranded lines are asked for again (R156, R159). -/
def State.askRetires (s : State) : State :=
  let ask (node : Bool) (n : Nat) (t : State) : State := (List.range n).foldl (fun (t : State) i =>
    let e := t.entry node i
    if (e.degraded ∨ e.stranded) ∧ (t.migrationOf node i).isNone then t.requestMigration 2 node i else t) t
  ask true s.nodePlots (ask false s.dataPlots s)

/-- In-place refreshes that the loss cut off start over at page 0, with the old epoch until they end (Table 06.4). -/
def State.redoRefreshes (s : State) : State :=
  let s := { s with df := { s.df with
    refreshing := s.df.refreshing.map (fun (r : Nat × Nat × Nat) => if (Tbl.find s.df.refreshOn r.1).isSome then (r.1, s.hour, r.2.2) else r) } }
  (s.df.refreshOn.map (fun (x : Nat × Nat) => x.1)).foldl (fun (t : State) p => (t.event 0x4108 0 none p 0).refreshInPlace p) s

/-- Engines start, and what recovery found unfinished goes on: applies, erases, migrations, refreshes, regrafts; the sweep and scrub of
an unclean loss; the hold-up test due in 10 s (R209, R222, R287, R294). -/
def State.startEngines (s : State) : State :=
  let s := { s with wb := { s.wb with
    recovered := true
    leaves := s.wb.leaves.map (fun (x : Nat × Leaf) => if x.2.restored then (x.1, { x.2 with first := s.tb.ztime }) else x) } }
  let s := { s with pw := { s.pw with huDue := some (s.tb.tick + 10000000) } }
  let s := if s.flag (WP + 0x2C) 4 then { s with df := { s.df with scrub := some (0, 0) } } else s
  let s := s.reapply.redoErases.askRetires.redoRefreshes
  let s := if s.populated.any (fun c => !s.inService c) then s.mediaLost else s.retireSpares
  s.retargetWaiting.regraftTry.copyWaiting

/-- RECOVERY_COMPLETE (R220, R219): WP_FLUSH_EXPECT is set to the next image number, R25 ends, and the engines start; `ms` is the time since
the trigger. -/
def execRecoveryComplete (ms : Nat) (s : State) : Answer :=
  .next (
    if s.recStep = 7 ∧ ¬ s.areaErasing ∧ ¬ s.wb.recovered ∧ s.power = 0 ∧ ¬ s.flag PW 7 then
      let s := s.persist64 (WP + 0x30) (s.reg64 (WP + 0x30) + 1)
      let s := (s.setFld (WP + 0x2C) 11 8 0).setReg (WP + 0x50) (BitVec.ofNat 32 (min 65535 ms))
      let s := if 400 < ms then s.event 0x5109 0 none ms 0 else s
      s.startEngines
    else s)

end Sys2Proof.Machine
end

