-- ==== Sys2Proof/Machine/Regul.lean ====
section
/-! DEFINITION. Machine/Regul.lean: regulators, levels, the best-effort window and the guaranteeable capacity G (R304 to R318, R321). -/

namespace Sys2Proof.Machine

/-- Valid domains, ascending. -/
def State.validDoms (s : State) : List Nat :=
  s.regs.filterMap (fun (e : Nat × Word) =>
    if QD ≤ e.1 ∧ e.1 < QD + 0x20000 ∧ (e.1 - QD) % 0x20 = 0 ∧ bits e.2 31 31 = 1 then some ((e.1 - QD) / 0x20) else none)

/-! ### Levels (R307) -/

/-- Is a read held because its tier is at its quota (R317)? -/
def State.heldByQuota (s : State) (c : Nat) (m : MCmd) : Bool :=
  let host (e : Nat) : Bool := decide (e = 7 ∨ e = 5 ∨ e = 4)
  m.op.reads && host m.eng &&
  decide (s.fld (QS + 0x50) (8 * m.tier + 7) (8 * m.tier) ≤ countIf (fun (f : InFlight) => decide (f.cmd.tier = m.tier) && host f.cmd.eng) (s.chan c).flight)

/-- Level of a channel: data tags in use and reads held, at most 256. -/
def State.chanLevel (s : State) (c : Nat) : Nat :=
  let x := s.chan c
  min 256 (countIf (fun (f : InFlight) => f.cmd.op.isData) x.flight + countIf (fun m => s.heldByClass c m || s.heldByQuota c m) x.queue)

/-- Level of a channel group: the mean over its channels in service, at most 255. -/
def State.levelOfGroup (s : State) (g : Nat) : Nat :=
  let cs := ((List.range 8).map (fun k => 8 * g + k)).filter s.inService
  if cs = [] then 0 else min 255 ((cs.map s.chanLevel).sum / cs.length)

/-- The levels of the tick (R307): QS_GROUP_LVL, QS_STATUS.level and devload, and what R309 averages. -/
def State.levelUpdate (s : State) : State :=
  let ls := (List.range 5).map s.levelOfGroup
  let l := ls.foldl max 0
  let s := s.setReg (QS + 0x54) (BitVec.ofNat 32 (ls.getD 0 0 + ls.getD 1 0 * 2 ^ 8 + ls.getD 2 0 * 2 ^ 16 + ls.getD 3 0 * 2 ^ 24))
  let s := s.setReg (QS + 0x58) (BitVec.ofNat 32 (ls.getD 4 0))
  let s := (s.setFld (QS + 0x1C) 31 24 l).setFld (QS + 0x1C) 15 14 (s.devloadOf l)
  { s with qs := { s.qs with lvlSum := s.qs.lvlSum + l, lvlTicks := s.qs.lvlTicks + 1 } }

/-! ### Capacity (R310, R311) -/

/-- H in eighths of a channel. -/
def State.capH (s : State) : Nat :=
  ((List.range 40).map (fun c =>
    if s.inService c then (match Tbl.get (fun _ => 0) s.qs.escal c with | 0 => 8 | 2 => 4 | 3 => 0 | _ => 8) else 0)).sum

/-- H * ch_units * (8 - step) * min(beff, bcfg), and 64 * bcfg * 100: the common parts of R311 and R318. -/
def State.capTop (s : State) : Nat := s.capH * s.fld (QS + 4) 7 0 * (8 - s.fld (QS + 0x1C) 10 8) * min s.budget (s.fld (WP + 4) 13 0)
def State.capDiv (s : State) : Nat := 64 * s.fld (WP + 4) 13 0 * 100

/-- G (R311). -/
def State.capG (s : State) : Nat := s.capTop * (100 - s.fld (QS + 0) 15 8) / s.capDiv

/-- Refill of the background bucket per tick (R318). -/
def State.bgRefill (s : State) : Nat := 4 * s.capTop * s.fld (QS + 0) 15 8 / s.capDiv

/-! ### Scaling (R314, R315) -/

/-- Guarantees of the valid domains of a tier. -/
def State.tierSum (s : State) (t : Nat) : Nat := ((s.validDoms.filter (fun d => s.domTier d = t)).map s.domG).sum

/-- All guarantees committed. -/
def State.committed (s : State) : Nat := (s.validDoms.map s.domG).sum

/-- The factor of a tier with guarantees `sum` under excess `x`, and the excess left. -/
def tierFactor (sum x : Nat) : Nat × Nat :=
  if sum = 0 then (256, x) else if sum ≤ x then (0, x - sum) else (256 * (sum - x) / sum, 0)

/-- f(0) to f(3) under the G in force. -/
def State.factors (s : State) : List Nat :=
  let x := s.committed - s.qs.g
  let (f3, x) := tierFactor (s.tierSum 3) x
  let (f2, x) := tierFactor (s.tierSum 2) x
  let (f1, x) := tierFactor (s.tierSum 1) x
  let (f0, _) := tierFactor (s.tierSum 0) x
  [f0, f1, f2, f3]

/-- Scale by tier (R314): QS_SCALE, QS_STATUS.scaled, QS_G; a change records event 0x9102 (R315). The open meter window notes the lowest geff
and that it was scaled. -/
def State.rescale (s : State) : State :=
  let fs := s.factors
  let was := (List.range 4).map s.scale
  let s := (List.range 4).foldl (fun (t : State) k => t.setFld (QS + 0x30 + 4 * k) 8 0 (fs.getD k 256)) s
  let s := s.setBit (QS + 0x1C) 0 (fs.any (fun f => decide (f < 256)))
  let s := (s.setFld (QS + 0x20) 11 0 s.qs.g).setFld (QS + 0x20) 27 16 s.committed
  let s := s.validDoms.foldl (fun (t : State) d => t.meter d (fun a => { a with geffMin := min a.geffMin (t.geff d), scaled := a.scaled || decide (t.geff d < t.domG d) })) s
  if fs = was then s
  else
    let p0 := ((List.range 4).map (fun k => min 255 (fs.getD k 256) * 2 ^ (8 * k))).sum
    let mask := ((List.range 4).map (fun k => if fs.getD k 256 = 256 then 2 ^ k else 0)).sum
    s.eventOnce 0 0x9102 0 none p0 (s.qs.g % 4096 + mask * 4096)

/-- Put a G into force. -/
def State.putG (s : State) (g : Nat) : State := ({ s with qs := { s.qs with g := g, gUp := none } }).rescale

/-- Recompute G (R311, R315): before recovery ends it takes effect at once; later a lower one waits for the next window and a higher one
for 100 ms. -/
def State.recomputeG (s : State) : State :=
  let h := s.capH
  let g := s.capG
  let s : State := s.setFld (QS + 0x24) 8 0 h
  let s : State := { s with qs := { s.qs with gNew := g } }
  if ¬ s.wb.recovered then s.putG g
  else if g ≤ s.qs.g then { s with qs := { s.qs with gUp := none } }
  else match s.qs.gUp with
    | some (v, t) => if v = g then s else { s with qs := { s.qs with gUp := some (g, if v = g then t else s.tb.tick) } }
    | none => { s with qs := { s.qs with gUp := some (g, s.tb.tick) } }

/-- G_RECOMPUTE (R311): Lark, within 1 ms of a change. -/
def execGRecompute (s : State) : Answer := .next (if s.larkUp then s.recomputeG else s)

/-- G_RAISE_TAKES_EFFECT (R315): a higher G has held for 100 ms. -/
def execGRaiseTakesEffect (s : State) : Answer :=
  .next (match s.qs.gUp with
    | some (g, t) => if t + 100000 ≤ s.tb.tick ∧ s.qs.gNew = g ∧ s.qs.g < g ∧ s.lark.fwRunning then s.putG g else s
    | none => s)

/-! ### The tick (R304, R316, R318) -/

/-- Refill of one domain's buckets. -/
def State.refillDom (s : State) (d : Nat) : State :=
  let b := s.bucket d
  let depth : Int := 256 * max (s.fld (QD + d * 0x20 + 0x10) 31 16) 1
  let ceil := s.fld (QD + d * 0x20 + 0x14) 15 0
  let r := s.fld (QS + 0x40 + 4 * s.domTier d) 15 0
  let add := if ceil = 0xFFFF then r else min r (4 * ceil)
  let n : Bucket := { gb := min depth (b.gb + 4 * s.geff d), bb := if s.flag QS 1 then min (4 * (s.fld (QS + 0x14) 15 0 : Int)) (b.bb + add) else b.bb }
  s.setBucket d n

/-- Has a domain a held request? With reg_en 0 nothing is held (R306). -/
def State.holdsReq (s : State) (d : Nat) : Bool := s.flag QS 0 && s.host.reqs.any (fun r => decide (r.dom = d) && decide (r.st = .held))

/-- A tick with a held request (R316). -/
def State.heldTick (s : State) (d : Nat) : State :=
  let k := s.domG d - s.geff d
  let s := s.updCnt d (fun c => { c with heldTicks := (c.heldTicks + 1) % 2 ^ 64, shortfall := (c.shortfall + k) % 2 ^ 64 })
  s.meter d (fun a => { a with heldTicks := a.heldTicks + 1, shortfall := a.shortfall + k })

/-- REGULATOR_REFILL (R304): one tick of the regulators, levels, background bucket and occupancy counts. -/
def execRegulatorRefill (s : State) : Answer :=
  let s := s.validDoms.foldl State.refillDom s
  let s := s.levelUpdate
  let k := s.bgRefill
  let s := s.setBg (min (1000 * (k : Int)) (s.bgBal + k))
  let held := s.validDoms.filter s.holdsReq
  let s := held.foldl State.heldTick s
  let s := ((s.countGlobal 0xC7 s.framesInUse).countGlobal 0xC8 s.wb.leaves.length).countGlobal 0xC9 s.codes.deltas.length
  .next ((s.countGlobal 0xCA s.tokensHeld).countGlobal 0xD5 held.length)

/-! ### The best-effort window (R309, R432) -/

/-- Best-effort rate of a tier. -/
def State.beRate (s : State) (t : Nat) : Nat := s.fld (QS + 0x40 + 4 * t) 15 0
def State.setBeRate (s : State) (t x : Nat) : State := s.setFld (QS + 0x40 + 4 * t) 15 0 x

/-- Adjust the rates to the mean level of the window, then to the thermal step. -/
def State.beAdjust (s : State) : State :=
  let sum := s.qs.lvlSum
  let n := s.qs.lvlTicks
  let s := { s with qs := { s.qs with lvlMean := sum / n, lvlSum := 0, lvlTicks := 0 } }
  let rmax := s.fld (QS + 0x14) 31 16
  let s :=
    if (List.range 4).any (fun t => decide (s.scale t < 256)) then (List.range 4).foldl (fun (t : State) k => t.setBeRate k 0) s
    else if n = 0 ∨ sum < s.fld (QS + 0x10) 7 0 * n then
      (List.range 4).foldl (fun (t : State) k => t.setBeRate k (min rmax (t.beRate k + t.fld (QS + 0x10) 23 16))) s
    else if s.fld (QS + 0x10) 15 8 * n < sum then
      (match [3, 2, 1, 0].find? (fun t => s.beRate t ≠ 0) with
       | some t => s.setBeRate t (s.beRate t / 2)
       | none => s)
    else s
  let step := s.fld (QS + 0x1C) 10 8
  if step = 0 then s
  else (List.range 4).foldl (fun (t : State) k => t.setBeRate k (min (t.beRate k) (rmax * (8 - step) / 8))) s

/-- BEST_EFFORT_WINDOW (R309, R315): action 0x04. With Lark in control reset r, f(t) and geff keep their values (R22, R320). -/
def execBestEffortWindow (s : State) : Answer :=
  s.runAction 0x04 (fun _ t => if ¬ t.lark.fwRunning then t else (if t.qs.gNew < t.qs.g then t.putG t.qs.gNew else t).beAdjust)

/-! ### QS_DOM_SEL (R321) -/

/-- Latch the counters and balances of the selected domain. -/
def State.domSel (s : State) (v : Word) : State :=
  let s := s.setReg (QS + 0x60) (plainWord (QS + 0x60) (s.reg (QS + 0x60)) v)
  let d := bits v 11 0
  let c := s.cnt d
  let two (x : Nat) : List Word := [BitVec.ofNat 32 x, BitVec.ofNat 32 (x / 2 ^ 32)]
  let b := s.bucket d
  let ws := two c.readLines ++ two c.writeLines ++ two c.charged ++ two c.shortfall ++ two c.heldTicks ++
    [BitVec.ofNat 32 (twos 32 b.gb), BitVec.ofNat 32 (twos 32 b.bb)]
  { s with qs := { s.qs with domLatch := ws } }

/-- QS_DOM_SEL_WRITE (R321). -/
def execQsDomSelWrite (who : Requester) (v : Word) (s : State) : Answer := .next (s.asWriter who (QS + 0x60) (fun t => t.domSel v))

end Sys2Proof.Machine
end

