-- ==== Sys2Proof/Machine/Power.lean ====
section
/-! DEFINITION. Machine/Power.lean: power states (R403 to R414), cold and requested resets (R460 to R463), recall and the writes of the
Seed store (R472 to R482). -/

namespace Sys2Proof.Machine

/-! ### PW_WAKE_AT (R406) -/

/-- All ones: no instant. -/
def noInstant : Nat := 2 ^ 64 - 1

/-- An instant less wake_lead_min; all ones stays. -/
def State.wakeLess (s : State) (x : Nat) : Nat := if x = noInstant then x else x - s.fld (PW + 4) 15 0 * 60000000000

/-- Is PW_WAKE_AT fixed, as it is from entry to A3 on? -/
def State.wakeFixed (s : State) : Bool := decide (s.power = 3) || s.heading 3

/-- PW_WAKE_AT. -/
def State.wakeAt (s : State) : Nat := if s.wakeFixed then s.reg64 (PW + 8) else s.wakeLess (s.reg64 (DF + 0x30))

/-- The instant at which a plot would become urgent if the E of every stack grew at DF_AF[DF_GAP_TEMP]. -/
def State.gapUrgent (s : State) : Nat :=
  let u := ceilDiv (9 * s.driftLimit) 10
  let d := s.accel s.gapTemp
  s.agingPlots.foldl (fun m (p : Nat × Nat) =>
    let wall := (s.tb.ztime / 3600000000000 + (29492 - s.plotAge p.2)) * 3600000000000
    let t := if d = 0 then wall else min wall (s.tb.ztime + ceilDiv ((u - s.effAge p.1 p.2) * 3600) d * 1000000000)
    min m t) noInstant

/-! ### Refusals (Table 15.3) -/

/-- The code that refuses a request for A1, A2 or A3 (`x`) now, 0 none: the first that holds in the order of Table 15.3. -/
def State.refuseCode (s : State) (x : Nat) : Nat :=
  if s.power ≠ 0 ∨ s.flag PW 7 then 1
  else if ¬ s.wb.recovered ∨ s.flushing ∨ s.writeThrough then 2
  else if 0 < s.fld (DF + 0x1C) 23 0 ∨ 0 < s.fld (DF + 0x20) 23 0 ∨ s.wakeAt < s.tb.ztime + 600000000000 then 3
  else if s.lark.longOp.isSome ∨ s.flag CP 28 then 4
  else if 2 ≤ x ∧ (s.gx.sweep.isSome ∨ s.gx.rotation.isSome) then 5
  else if 2 ≤ x ∧ (s.flag SW 31 ∨ s.reg64 (SW + 0x14) ≠ 0) then 6
  else if x = 3 ∧ (List.range 32).any (fun i => (s.ld i).mse) then 7
  else if 2 ≤ x ∧ (0 < s.fld (QS + 0x1C) 10 8 ∨ s.flag (QS + 0x1C) 1) then 8
  else if 2 ≤ x ∧ (s.pw.groupsDown ≠ [] ∨ s.rails.any (fun n => decide (s.railState n = 4))) then 9
  else 0

/-- A request for state `x` is refused with a code (R404). -/
def State.refusePower (s : State) (x code : Nat) : State :=
  ((s.bump (PW + 0x14) (8 * x - 1) (8 * x - 8) 1).setReg (PW + 0x1C) (BitVec.ofNat 32 (x + code * 256))).event 0xD102 0 none x code

/-! ### Entry and exit (Tables 15.4 to 15.7) -/

/-- The drain of an entry to A2 or A3: every delta entry and every dirty leaf that may go is written back. -/
def State.drainNow (s : State) : State :=
  let s := s.codes.deltas.foldl (fun (t : State) (x : Nat × Delta) => t.startWriteback (x.1 / 256) (x.1 % 256)) s
  s.wb.leaves.foldl (fun (t : State) (x : Nat × Leaf) => t.leafWriteBack x.1 false) s

/-- Enter A1 at once, or begin the entry to A2 or A3 (R406, Tables 15.4 and 15.6). -/
def State.enterState (s : State) (x : Nat) : State :=
  if x = 1 then s.arrive 1
  else
    let at_ := s.wakeLess (min (s.reg64 (DF + 0x30)) s.gapUrgent)
    let s := { s.depart x 2 with pw := { s.pw with since := s.tb.tick } }
    (if x = 3 then s.setReg64 (PW + 8) at_ else s).drainNow

/-- Leave A1 at once, or begin the exit from A2 or A3. -/
def State.startExit (s : State) : State :=
  if s.power = 1 then s.arrive 0
  else if s.power = 2 then (s.depart 0 2).setStandby false
  else if s.power = 3 then (s.depart 0 1).beginUp
  else s

/-- A wake with source `b` of PW_WAKE_SRC (R408, Table 15.2): latched during an entry, else the exit starts. -/
def State.wake (s : State) (b : Nat) : State :=
  if s.entering then
    let s := (s.setBit (PW + 0x10) b true).setBit (PW + 0x10) 8 true
    { s with pw := { s.pw with wakeLatched := true } }
  else if s.flushing ∨ s.flag PW 7 ∨ s.power = 0 ∨ 4 ≤ s.power ∨ (s.power = 1 ∧ 2 ≤ b) then s
  else (s.setBit (PW + 0x10) b true).startExit

/-- An entry has ended: a wake latched during it starts the exit at once, with event 0xD104 (R408). -/
def State.latchedExit (s : State) : State :=
  if s.pw.wakeLatched then
    let s := s.event 0xD104 0 none (s.reg (PW + 0x10)).toNat 0
    ({ s with pw := { s.pw with wakeLatched := false } }).startExit
  else s

/-- A request for A0 (R404, R415, Table 15.13): nothing in A0; a wake; in Off, or on the way there, the power-up that follows. -/
def State.requestOn (s : State) : State :=
  if s.power = 4 ∨ s.heading 4 then
    (if s.heading 0 then s
     else
       let s := if s.pw.after = .stay ∨ s.pw.after = .faultWait then { s with pw := { s.pw with after := .powerUp } } else s
       s.tryPowerUp)
  else s.wake 0

/-- A state request (R404) for target `x`: the status that answers it, and what follows. -/
def State.requestState (s : State) (x : Nat) : Nat × State :=
  if x = 0 then (0, s.requestOn)
  else if x = 4 then (0, s.enterOff .stay)
  else if 4 < x then (3, s)
  else if s.refuseCode x = 0 then (0, s.enterState x)
  else (4, s.refusePower x (s.refuseCode x))

/-- Does the always-on sideband responder answer: in A3 and Off (R415)? -/
def State.responderUp (s : State) : Bool := decide (3 ≤ s.power)

/-- A transaction of the sideband responder (R415, R434, R474): target A0 or Off is acknowledged, every other is not, nor is any while a
trip is latched or recall runs. -/
def State.sideband (s : State) (x : Nat) : State :=
  if ¬ s.responderUp then s
  else if (x ≠ 0 ∧ x ≠ 4) ∨ s.flag (TH + 4) 31 ∨ (s.power = 4 ∧ s.heading 0 ∧ ¬ s.recalled) then s.emit (.sideband false)
  else ((s.requestState x).2).emit (.sideband true)

/-- SIDEBAND_POWER_REQUEST (R415). -/
def execSidebandPowerRequest (target : Nat) (s : State) : Answer := .next (s.sideband target)

/-- WAKE_TIMER (R406): ztime has reached PW_WAKE_AT. -/
def execWakeTimer (s : State) : Answer :=
  .next (if s.wakeAt ≤ s.tb.ztime ∧ s.wakeAt ≠ noInstant then s.wake 1 else s)

/-- Is nothing left of what a drain writes back? -/
def State.drained (s : State) : Bool := decide (s.codes.deltas = []) && decide (s.wb.leaves = []) && decide (s.gx.regrafts = []) && decide (s.wb.discards = [])

/-- Is a PROGRAM, ERASE or COPY command in flight? -/
def State.programsOut (s : State) : Bool := s.media.chans.any (fun c => c.2.flight.any (fun f => f.cmd.op.writes))

/-- Is one queued? -/
def State.programsQueued (s : State) : Bool := s.media.chans.any (fun c => c.2.queue.any (fun m => m.op.writes))

/-- Is everything at rest that an entry to A2 or A3 brings to its end (R405, R411): what a drain writes back, migrations under way, jobs, and PROGRAM, ERASE and
COPY commands? -/
def State.atRest (s : State) : Bool :=
  s.drained && decide (s.tp.migs = []) && decide (s.codes.jobs = []) && !s.programsOut && !s.programsQueued

/-- Is every stack of a READY channel in standby (`v`), or out of it? -/
def State.standbyAll (s : State) (v : Bool) : Bool := (List.range 40).all (fun c => !decide (s.chanState c = 4) || (s.chan c).standby == v)

/-- A2_DRAIN_COMPLETE (R409, Table 15.4): with the drain ended and no read under way every stack is set to standby, from where on requests wait; once all are, the
part is in A2. -/
def execA2DrainComplete (s : State) : Answer :=
  .next (
    if ¬ (s.entering ∧ s.heading 2 ∧ s.atRest ∧ s.host.fetches = []) then s
    else if s.standbyAll true then (s.arrive 2).latchedExit
    else (s.setFld PW 19 16 4).setStandby true)

/-- Has the drain of an entry to A3 ended (R411)? -/
def State.a3Drained (s : State) : Bool := s.entering && s.heading 3 && decide (s.sqState = 2) && s.atRest && decide (s.wb.frames = [])

/-- The image and the tables save of an entry to A3 are sealed: ztime is saved, and the links and rails go down (Table 15.6 steps 3 and 4). -/
def State.a3Down (s : State) : State :=
  let s := s.takeImage
  let s := { s with wb := { s.wb with tablesSaved := true } }
  ((s.saveTimeUp).depart 3 4).linksDown.downOn

/-- A3_DRAIN_COMPLETE (R411, Table 15.6): with the drain ended the image and the tables save are written; once both are sealed and verified, the links and
rails go down. -/
def execA3DrainComplete (s : State) : Answer :=
  .next (if ¬ s.a3Drained then s else if s.wb.writing.isNone then s.writeImage 4 else if s.imageSealed then s.a3Down else s)

/-- DRAIN_TIMEOUT (R407): the drain has not completed within drain_ms. -/
def execDrainTimeout (s : State) : Answer :=
  .next (if s.entering ∧ s.pw.since + 1000 * s.fld (PW + 4) 23 16 ≤ s.tb.tick then s.abortEntry 2 else s)

/-- A2_EXIT_COMPLETE (R409, Table 15.5 step 3): every stack is out of standby. -/
def execA2ExitComplete (s : State) : Answer :=
  .next (
    if s.power = 2 ∧ s.heading 0 ∧ s.standbyAll false then s.arrive 0
    else s)

/-- The tables partition as recovery rebuilds it (R413): wear counts, hot lines and the recent-write filter start empty, and the drift
history comes from the image or a checkpoint copy. -/
def State.rebuildTables (s : State) : State :=
  let s := { s with
    tp := { s.tp with wear := [], hotFilter := [], hotList := [], wearNotIdle := [] }
    df := { s.df with cur := [], old := [], deltaPerMin := [] } }
  (s.restoreDrift true).event 0xD105 0 none 0 0

/-- The image and the tables save of the entry are restored in an exit from A3, or the tables rebuilt where the save is invalid (R413); the area of the
next image begins to be erased (Table 15.7 steps 6 to 8). -/
def State.a3Restore (s : State) (tablesValid : Bool) : State :=
  let s := if tablesValid then s else s.rebuildTables
  let s := { s with log := { s.log with area := (s.wb.image.map (fun (i : Image) => i.areaB)).or s.log.area } }
  (s.setFld PW 19 16 8).eraseIdleArea

/-- The end of an exit from A3: WP_FLUSH_EXPECT advances, the engines start, and the part is in A0 (Table 15.7 step 9). -/
def State.a3End (s : State) : State :=
  let s := { s with wb := { s.wb with tablesSaved := false } }
  let s := s.persist64 (WP + 0x30) (s.reg64 (WP + 0x30) + 1)
  let s := s.recomputeX.arrive 0
  let s := ({ s with qs := { s.qs with gNew := s.capG } }).putG s.capG
  s.copyWaiting

/-- A3_EXIT_COMPLETE (R413, Table 15.7): with every channel settled the save is restored; once the idle flush area is erased, the exit ends. -/
def execA3ExitComplete (tablesValid : Bool) (s : State) : Answer :=
  .next (
    if ¬ (s.power = 3 ∧ s.heading 0 ∧ s.sqState = 2 ∧ s.channelsSettled) then s
    else if s.fld PW 19 16 ≠ 8 then s.a3Restore tablesValid
    else if s.areaErasing then s
    else s.a3End)

/-! ### The always-on supply and cold power-on (R460, R468, R486) -/

/-- Operation ends at once (R486): the core, the always-on logic and its SRAM lose what they hold; the media and the Seed store keep. -/
def State.supplyLost (s : State) : State :=
  let s := s.coreOff false
  let s := s.regsCold
  { s with
    tb := s.tb.cold (s.reg64 (TB + 0x28))
    df := { s.df with gapNext := true, railsOff := List.range 40 }
    ev := { s.ev with staging := [], lostSince := 0, lastRing := none, marks := [], next := 256 * ceilDiv s.ev.covered 256 }
    mt := { s.mt with next := 256 * ceilDiv s.mt.covered 256 }
    pw := { after := .stay, retries := [], lowRun := [], highRun := [], wakeLatched := false, groupsDown := [], huTest := none
            huLow := 0, huHigh := 0, huTrend := none, huDue := none, faultHold := false, since := 0, chanTick := [], offTick := 0, faultTick := 0 }
    host := { s.host with corrected := 0 }
    rk := { s.rk with corrected := 0, dirLost := false }
    sd := { s.sd with queue := [] }
    pins := { s.pins with sqEn := 0, sqPg := 0, faultDrive := false, strap := 0 } }

/-- VDD_AON_LOW (R486): VDD_AON has fallen below 0.65 V. -/
def execVddAonLow (s : State) : Answer := .next (s.supplyLost.setFld PW 3 0 4)

/-- VDD_AON_REMOVED (R468): below 0.30 V for 10 ms: the thermal latch ends. -/
def execVddAonRemoved (s : State) : Answer :=
  let s := s.setBit (TH + 4) 31 false
  .next { s with pins := { s.pins with thermtripLow := false } }

/-- COLD_POWER_ON (R460): the always-on logic starts, recall begins, and the power-up follows unless a trip is latched (R434). -/
def execColdPowerOn (s : State) : Answer :=
  let s := s.supplyLost.setFld PW 3 0 4
  .next (({ s with pw := { s.pw with after := .coldOn } }).tryPowerUp)

/-- STRAP_LATCH (R493): STRAP[7:0] are latched at cold power-on and cold restart, before recall ends; what recall will find is noted; the debug ports close unless
STRAP[6] is high (R340). -/
def execStrapLatch (at_ : PowerUpSight) (s : State) : Answer :=
  .next (
    if s.power = 4 ∧ s.heading 0 ∧ ¬ s.recalled then
      let s := { s with pins := { s.pins with strap := at_.strap }, sd := { s.sd with unread := at_.unread } }
      let s := (s.setReg (GLB + 8) (BitVec.ofNat 32 at_.strap.toNat)).setBit CP 27 (at_.strap.toNat.testBit 7)
      if at_.strap.toNat.testBit 6 then s else s.emit .jtagOff
    else s)

/-! ### Recall (R474, R476, R479, R482) -/

/-- An authority that nothing has set. -/
def Authority.absent : Authority := { key := none, groups := 0, lds := 0, locked := false }

/-- The record of authority `a`. -/
def State.auth (s : State) (a : Nat) : Authority := (Tbl.find s.lark.auths a).getD Authority.absent

/-- Set the lock of an authority, in CP_STATUS.locked as well. -/
def State.setLock (s : State) (a : Nat) (v : Bool) : State :=
  let s := { s with lark := { s.lark with auths := Tbl.put s.lark.auths a { s.auth a with locked := v } } }
  s.persist CP (putBits (s.reg CP) a a (if v then 1 else 0))

/-- Numbers taken from a counter whose recall moved it on go on from its value (R479, R482): event numbers of place 9, packet numbers of place 10. -/
def State.numbersFrom (s : State) (q : Nat) : State :=
  let v := s.counter q
  if q = 9 then { s with ev := { s.ev with next := max s.ev.next v, covered := v } }
  else if q = 10 then { s with mt := { s.mt with next := max s.mt.next v, covered := v } }
  else s

/-- Resolve a spread counter at recall (R479, R482, Table 18.4). -/
def State.recallCounter (s : State) (q : Nat) : State :=
  let p := s.spread q
  if p.validA ∧ p.validB ∧ p.seqA = p.seqB ∧ p.baseA ≠ p.baseB then
    ((s.setSpread q { p with baseA := max p.baseA p.baseB + 1920, seqA := p.seqA + 1, tally := 0 }).numbersFrom q).event 0xF302 0 none (s.place q) 0
  else if ¬ p.validA ∧ ¬ p.validB then
    let place := s.place q
    let s := s.setSpread q { p with lost := true }
    let s := if q = 9 ∨ q = 10 then (match s.freePlace with
      | some f => (s.moveCounter q f (2 ^ 62 + s.tb.ztime)).numbersFrom q
      | none => s) else s
    let s := s.event 0xF305 0 none place 0
    if q = 9 ∨ q = 10 then s else if q ≤ 8 then s.setLock q true
    else if q = 11 then s.setSpread 11 { p with lost := true, baseA := 2 ^ 24 - 1, seqA := p.seqA, validA := true, tally := 0 }
    else match s.freePlace with
      | some f => s.moveCounter q f (2 ^ 62 + s.tb.ztime)
      | none => s
  else s

/-! ### Uncorrectable pages (Table 18.4) -/

/-- The page whose content lies on page `p`: its own, or that of the page relocated to it (R475); none of a page that has been given up. -/
def State.contentOf (s : State) (p : Nat) : Option Nat :=
  if 8042 ≤ p then (s.sd.pagesRelocated.find? (fun x => x.2 = p)).map (fun x => x.1)
  else if (Tbl.find s.sd.pagesRelocated p).isSome then none
  else some p

/-- The page of slot `i` of the place at `k`. -/
def State.slotPage (s : State) (k i : Nat) : Nat := placePage (s.regPlace k + (if k ∈ seedPairs then i / 2 else 0))

/-- The slots on page `p` are invalid; event 0xF303 for a register whose place nothing resolves any more. -/
def State.loseSlots (s : State) (p : Nat) : State :=
  s.sd.slots.foldl (fun (t : State) (x : Nat × Tbl (List Byte)) =>
    let left := x.2.map (fun (y : Nat × List Byte) => if s.slotPage x.1 y.1 = p then (y.1, []) else y)
    if left = x.2 then t
    else
      let t := { t with sd := { t.sd with slots := Tbl.put t.sd.slots x.1 left } }
      if (seedResolve left).value.isNone ∧ (seedResolve x.2).value.isSome then t.event 0xF303 0 none x.1 0 else t) s

/-- Every key blob that touches page `q` of its region is absent: event 0x810C with domain and generation (R267). -/
def State.loseBlobs (s : State) (q : Nat) : State :=
  (s.sd.keyBlobs.filter (fun x => decide (x.1 * 104 / 256 ≤ q) && decide (q ≤ (x.1 * 104 + 103) / 256))).foldl (fun (t : State) x =>
    State.event { t with sd := { t.sd with keyBlobs := Tbl.del t.sd.keyBlobs x.1 } } 0x810C 0 (some (x.1 / 2)) (x.1 / 2) (x.1 % 2)) s

/-- Every authority whose wrapped key touches page `q` of its region is absent and locked. -/
def State.loseAuthorities (s : State) (q : Nat) : State :=
  ((List.range 9).filter (fun a => a * 40 / 256 ≤ q ∧ q ≤ (a * 40 + 39) / 256)).foldl (fun (t : State) a =>
    State.setLock { t with lark := { t.lark with auths := Tbl.put t.lark.auths a Authority.absent } } a true) s

/-- A slot of spread-counter place `q` is lost with its page (`b`: page b), and with page a the tally, whose cells then count as set (DESIGN CHOICE: R479
gives no value to a tally that cannot be read, and none may be given out twice). -/
def State.loseSpread (s : State) (q : Nat) (b : Bool) : State :=
  let p := s.rawPlace q
  let x : Spread := if b then { p with validB := false } else { p with validA := false, tally := if p.inUse then 1920 else p.tally }
  { s with sd := { s.sd with spread := Tbl.set (fun _ => Spread.fresh) s.sd.spread q x } }

/-- The event records on ring page `q` are lost. -/
def State.loseRing (s : State) (q : Nat) : State :=
  { s with ev := { s.ev with ring := s.ev.ring.mapIdx (fun i (l : List EventRec) => if (s.ev.ringAt - 1 - i) % 512 = q then [] else l) } }

/-- What an uncorrectable page takes with it (Table 18.4). -/
def State.losePage (s : State) (page : Nat) : State :=
  match s.contentOf page with
  | none => s
  | some p =>
    if 8192 ≤ page then s
    else
      let s := s.bump (SD + 0x14) 31 16 1
      if p < 64 then s.event 0xF307 0 none page 0
      else if p < 3776 then s.loseSlots p
      else if p < 7104 then s.loseBlobs (p - 3776)
      else if p < 7106 then s.loseAuthorities (p - 7104)
      else if p < 7138 then s.loseSpread (p - 7106) false
      else if p < 7170 then s.loseSpread (p - 7138) true
      else if p < 7186 then { s with sd := { s.sd with crownLostA := true } }
      else if p < 7202 then { s with sd := { s.sd with crownLostB := true } }
      else if p < 7266 then { s with sd := { s.sd with profileLost := true } }
      else if p < 7274 then { s with sd := { s.sd with schedule := none } }
      else if p < 7786 then s.loseRing (p - 7274)
      else State.event { s with sd := { s.sd with ownerData := s.sd.ownerData.filter (fun x => ¬ x.1 / 256 = p - 7786) } } 0xF307 0 none page 0

/-- Slots whose write was cut off, or whose page is gone. -/
def State.badSlots (s : State) : Nat := (s.sd.slots.map (fun x => countIf (fun (y : Nat × List Byte) => (slotOpen y.2).isNone) x.2)).sum

/-! ### The end of recall -/

/-- The wrapped key sets of the Seed store go back to key SRAM (R267). -/
def State.recallKeys (s : State) : State := { s with gx := { s.gx with keys := s.sd.keyBlobs } }

/-- Event 0xF303 for every register two of whose valid slots clash (R476). -/
def State.seedClashes (s : State) : State :=
  (s.sd.slots.filter (fun x => (seedResolve x.2).clash)).foldl (fun (t : State) x => t.event 0xF303 0 none x.1 0) s

/-- Recall has ended: every class P field and counter is loaded (R474), and the SD registers are recomputed. A ztime that has reached the saved one moves it
on, since TB_ZTIME_SAVE always holds a ztime not yet passed (R54). -/
def State.recallEnd (s : State) : State :=
  let s := State.recallAll { s.sd.unread.foldl State.losePage s with sd := { (s.sd.unread.foldl State.losePage s).sd with unread := [] } }
  let s := if s.reg64 (TB + 0x28) ≤ s.tb.ztime then s.saveTime else s
  let s := (List.range 13).foldl State.recallCounter s
  let s := s.seedClashes.recallKeys
  let s := s.setFld (SD + 4) 14 0 s.sd.frozen.length
  let s := s.setFld (SD + 0x0C) 17 0 ((s.sd.slots.map (fun x => (seedResolve x.2).count)).foldl max 0)
  let s := (s.setFld SD 7 0 s.sd.reserveUsed).bump (SD + 0x14) 15 0 s.badSlots
  s.setBit SD 31 true

/-- SEED_RECALL_COMPLETE (R474): configuration and register accesses open, and the rails follow unless the fault line holds them back. -/
def execSeedRecallComplete (s : State) : Answer :=
  .next (if s.power = 4 ∧ s.heading 0 ∧ ¬ s.recalled then s.recallEnd.beginUp else s)

/-! ### Requested resets (R460, R462, R463) -/

/-- A warm reset (R462): a request for Off, then one for A0. In Off nothing starts one. `src`: 1 PERST, 2 requested. -/
def State.warmReset (s : State) (src : Nat) : State := if s.power = 4 then s else s.enterOff (.warm src)

/-- A cold restart that was asked for (R463). -/
def State.coldRestart (s : State) : State := if s.power = 4 then s else s.cutOff (.coldRestart 3)

/-- GLB_RST_WARM (R462): GLB_RST_CTL.warm has been written. -/
def execGlbRstWarm (s : State) : Answer := .next (s.warmReset 2)

/-- GLB_RST_COLD (R463): GLB_RST_CTL.cold has been written. -/
def execGlbRstCold (s : State) : Answer := .next s.coldRestart

/-! ### Seed store writes (R473 to R477) -/

/-- What a write of class P fields of the register at `o` sets going. -/
def State.persistDone (s : State) (o : Nat) (old : Word) : State :=
  if MC ≤ o ∧ o < MC + 40 * 0x1000 ∧ (o - MC) % 0x1000 = 0 ∧ bits old 30 30 ≠ bits (s.reg o) 30 30 then
    s.disableWritten ((o - MC) / 0x1000) (s.flag o 30)
  else if o = SW then s.fabricCfg old
  else s

/-- Put the class P fields of a write of `v` into the register at `o`. -/
def State.seedRegister (s : State) (o : Nat) (v : Word) : State :=
  let old := s.reg o
  (s.persist o (persistWord o old v)).persistDone o old

/-- The write at the front of the Seed store queue has verified in every page part (R473). -/
def State.seedWrite (s : State) (w : SeedWrite) : State :=
  match w with
  | .register _ o v => s.seedRegister o v
  | .pair _ o lo hi => s.persistPair o (persistWord o (s.reg o) lo) (persistWord (o + 4) (s.reg (o + 4)) hi)
  | .ownerData o bytes => { s with sd := { s.sd with ownerData := Memory.writeBytes s.sd.ownerData o bytes } }

/-- SEED_WRITE_COMPLETE (R473): the oldest write takes effect. -/
def execSeedWriteComplete (s : State) : Answer :=
  .next (match s.sd.queue with
    | [] => s
    | w :: rest =>
      let s := { s with sd := { s.sd with queue := rest } }
      (s.setBit SD 29 (decide (rest ≠ []))).seedWrite w)

/-- What a page that shows a weak bit becomes (R475). -/
def State.pageFound (s : State) (x : Nat × PageFinding) : State :=
  if 8192 ≤ x.1 then s
  else match x.2 with
    | .rewritten => s.bump (SD + 0x10) 15 0 1
    | .rewriteFailed =>
      if s.sd.reserveUsed < 150 then
        let new := 8042 + s.sd.reserveUsed
        let s := { s with sd := { s.sd with reserveUsed := s.sd.reserveUsed + 1, pagesRelocated := Tbl.put s.sd.pagesRelocated x.1 new } }
        ((s.bump (SD + 0x10) 31 16 1).setFld SD 7 0 s.sd.reserveUsed).event 0xF306 0 none x.1 new
      else s.event 0xF307 0 none x.1 0

/-- SEED_STORE_MARGIN_READ (R475): action 0x0F; `pages` are those that a strict read found weak. -/
def execSeedStoreMarginRead (pages : List (Nat × PageFinding)) (s : State) : Answer :=
  s.runAction 0x0F (fun _ t => pages.foldl State.pageFound t)

/-- The bytes of a torn write at offset `o` of the owner data area (R473): the first `written` page parts are new, each byte of the next is
old where `oldMask` has its bit, the rest are old. Bytes are numbered by their place in their page; the area starts a page. -/
def tornBytes (m : Memory) (o written oldMask : Nat) (bytes : List Byte) : Memory :=
  ((List.range bytes.length).zip bytes).foldl (fun (t : Memory) (x : Nat × Byte) =>
    let a := o + x.1
    let part := a / 256 - o / 256
    if part < written ∨ (part = written ∧ ¬ oldMask.testBit (a % 256)) then Memory.write t a x.2 else t) m

/-- The slot that a write of the register at `k` would write, and its bytes. -/
def State.slotDue (s : State) (k : Nat) (v : Nat) : Nat × List Byte :=
  let c := (s.seedPlace k).count
  ((c + 1) % 4, seedSlot (decide (k ∈ seedPairs)) v (c + 1))

/-- A slot write of value `v` for the register at `k` is cut off (R473): each byte is new, or old where `oldMask` has its bit by its place in the page. A
slot left part new, part old fails its CRC (Table 18.6). -/
def State.tearSlot (s : State) (k v written oldMask : Nat) : State :=
  if ¬ s.seedOpen k then s
  else
    let (i, new) := s.slotDue k v
    let here := Tbl.get (fun _ => []) s.sd.slots k
    let old := Tbl.find here i
    let at_ := 32 * (s.regPlace k % 8) + i * new.length
    let isOld (j : Nat) : Bool := decide (written = 0) && oldMask.testBit ((at_ + j) % 256)
    let ns := List.range new.length
    if ns.all isOld then s
    else
      let b : List Byte := if ns.all (fun j => !isOld j || decide (old.bind (fun o => o[j]?) = new[j]?)) then new else []
      { s with sd := { s.sd with slots := Tbl.put s.sd.slots k (Tbl.put here i b) } }

/-- The value of a slot write of `v` to the register at `o`. -/
def State.slotValue (s : State) (o : Nat) (v : Word) : Nat := (persistWord o (s.reg o) v &&& persistMask o).toNat

/-- VDD_NV_LOSS (R473, Table 18.6): the write in progress is cut off. A torn slot fails its CRC and the slot before it stays in force; owner data is left as
R473 says; writes not yet begun never were. -/
def execVddNvLoss (written oldMask : Nat) (s : State) : Answer :=
  .next (match s.sd.queue with
    | [] => s
    | w :: _ =>
      let s := ({ s with sd := { s.sd with queue := [] } }).setBit SD 29 false
      match w with
      | .register _ o v => s.tearSlot (seedKey o) (if seedKey o = o then s.slotValue o v else (s.reg (seedKey o)).toNat + s.slotValue o v * 2 ^ 32) written oldMask
      | .pair _ o lo hi => s.tearSlot o (s.slotValue o lo + s.slotValue (o + 4) hi * 2 ^ 32) written oldMask
      | .ownerData o bytes => { s with sd := { s.sd with ownerData := tornBytes s.sd.ownerData o written oldMask bytes } })

end Sys2Proof.Machine
end

