-- ==== Sys2Proof/Machine/Thermal.lean ====
section
/-! DEFINITION. Machine/Thermal.lean: sensors, group levels, background and host throttling, trips (R425 to R435) and body bias (R417). -/

namespace Sys2Proof.Machine

/-! ### Sensors and groups (Table 16.1) -/

/-- Group of a sensor. Sensors go by their IDs of Table 16.1, but for the remote diodes, 0x400 and 0x401 here: the table gives ID 0x300 and
0x301 to them and to dies 0 and 1 of the stack on MC32 as well. -/
def sensorGroup (i : Nat) : Nat :=
  if i < 24 then 0 else if i < 32 then 1 else if i < 0x200 then 2 else if i < 0x400 then 3 else if i = 0x400 then 4 else 5

/-- The ID that registers and events show. -/
def sensorId (i : Nat) : Nat := if i < 0x400 then i else i - 0x100

/-- Channel of a stack sensor. -/
def sensorChan (i : Nat) : Nat := if i < 0x200 then i - 0x100 else (i - 0x200) / 8

/-- Is a sensor absent (R426): of a stack out of service, or masked? -/
def State.sensorAbsent (s : State) (i : Nat) : Bool :=
  if i < 32 then s.flag (TH + 0x60) i
  else if i < 0x400 then
    let c := sensorChan i
    !s.inService c || (if c < 32 then s.flag (TH + 0x64) c else s.flag (TH + 0x68) (c - 32))
  else s.flag (TH + 0x68) (8 + (i - 0x400))

/-- Thresholds of a group: `k` 1 WARN, 2 THROTTLE, 3 CRIT, 4 TRIP. -/
def State.threshold (s : State) (g k : Nat) : Int := codeTemp (s.fld (TH + 0x10 + 8 * g) (8 * k - 1) (8 * k - 8))

def State.rateLimit (s : State) (g : Nat) : Nat := s.fld (TH + 0x14 + 8 * g) 7 0
def State.hysteresis (s : State) (g : Nat) : Int := s.fld (TH + 0x14 + 8 * g) 11 8
def State.groupOn (s : State) (g : Nat) : Bool := s.flag (TH + 0x14 + 8 * g) 16

/-- A sensor that has not been read. -/
def Sensor.fresh (t : Nat) (x : Int) : Sensor := { reading := x, broken := false, goodSince := t, changedAt := t, window := [(t, x)], tripRun := 0 }

def State.sensor (s : State) (i : Nat) : Option Sensor := Tbl.find s.th.sensors i
def State.setSensor (s : State) (i : Nat) (x : Sensor) : State := { s with th := { s.th with sensors := Tbl.put s.th.sensors i x } }

/-- Changes of a sensor since tick `t`, with the value that it held then. -/
def Sensor.since (x : Sensor) (t : Nat) : List Int :=
  let recent := x.window.takeWhile (fun (w : Nat × Int) => decide (t ≤ w.1))
  (recent ++ ((x.window.drop recent.length).take 1)).map (fun (w : Nat × Int) => w.2)

/-- Take in a reading. -/
def State.sense (s : State) (i : Nat) (v : Int) : State :=
  let t := s.tb.tick
  match s.sensor i with
  | none => s.setSensor i (Sensor.fresh t v)
  | some x =>
    if x.reading = v then s
    else
      let keep := x.window.takeWhile (fun (w : Nat × Int) => decide (t - 10000000 ≤ w.1))
      let keep := keep ++ ((x.window.drop keep.length).take 1)
      s.setSensor i { x with reading := v, changedAt := t, window := (t, v) :: keep }

/-- Sensors compared with sensor `i` for R427 (implausible): the others of its die or stack. -/
def comparedWith (i : Nat) : List Nat :=
  let all := if i < 24 then List.range 24
    else if i < 32 then (List.range 4).map (fun k => 24 + 4 * ((i - 24) / 4) + k)
    else if 0x200 ≤ i ∧ i < 0x400 then (List.range 8).map (fun k => 0x200 + 8 * ((i - 0x200) / 8) + k)
    else []
  all.filter (fun k => k ≠ i)

/-- Twice the median of a sorted list. -/
def twiceMedian (l : List Int) : Int :=
  let n := l.length
  l.getD (n / 2) 0 + l.getD ((n - 1) / 2) 0

/-- Is the reading implausible (R427)? -/
def State.implausible (s : State) (i : Nat) (v : Int) : Bool :=
  let others := (comparedWith i).filterMap (fun k => match s.sensor k with
    | some x => if x.broken ∨ s.sensorAbsent k then none else some x.reading
    | none => none)
  decide (3 ≤ others.length) && decide (40 < (2 * v - twiceMedian (others.mergeSort (fun a b => decide (a ≤ b)))).natAbs)

/-- Is the reading stuck (R427): unchanged for 10 s while another valid sensor of the group has changed by 3 °C or more? -/
def State.stuck (s : State) (i : Nat) (x : Sensor) : Bool :=
  let g := sensorGroup i
  let t0 := s.tb.tick - 10000000
  decide (10000000 ≤ s.tb.tick - x.changedAt) && !(decide (s.power = 2) && (decide (g = 2) || decide (g = 3))) &&
  s.th.sensors.any (fun (y : Nat × Sensor) =>
    decide (y.1 ≠ i) && decide (sensorGroup y.1 = g) && !y.2.broken && !s.sensorAbsent y.1 &&
    (let vs := y.2.since t0
     decide (3 ≤ vs.foldl max y.2.reading - vs.foldl min y.2.reading)))

/-- TH_BROKEN0 to TH_BROKEN2 from the sensors. -/
def State.showBroken (s : State) : State :=
  let bad (i : Nat) : Bool := match s.sensor i with | some x => x.broken && !s.sensorAbsent i | none => false
  let stack (c : Nat) : Bool := bad (0x100 + c) || (List.range 8).any (fun d => bad (0x200 + 8 * c + d))
  let word (n : Nat) (p : Nat → Bool) : Word := BitVec.ofNat 32 ((List.range n).foldl (fun a k => if p k then a + 2 ^ k else a) 0)
  ((s.setReg (TH + 0x70) (word 32 bad)).setReg (TH + 0x74) (word 32 stack)).setReg (TH + 0x78)
    (word 10 (fun k => if k < 8 then stack (32 + k) else bad (0x400 + k - 8)))

/-- Judge a sensor (R427): `bad` where it is open, short or missing. It is valid again after 1 s without any condition. -/
def State.judge (s : State) (i : Nat) (bad : Bool) : State :=
  match s.sensor i with
  | none => s
  | some x =>
    let cond := bad || s.stuck i x || s.implausible i x.reading
    let t := s.tb.tick
    let now := if cond then true else x.broken && decide (t - x.goodSince < 1000000)
    let s := s.setSensor i { x with broken := now, goodSince := if cond then t else x.goodSince }
    let s := if now ∧ sensorGroup i = 3 then
        (let c := sensorChan i
         { s with df := { s.df with broke := if c ∈ s.df.broke then s.df.broke else c :: s.df.broke } })
      else s
    if cond ∧ ¬ x.broken then (s.bump (TH + 0x104) 31 16 1).event 0xE105 (sensorGroup i) none (sensorId i) (tempCode x.reading) else s

/-! ### Levels (R428, R429) -/

/-- What a sensor counts as: its reading, or CRIT of its group while it is broken. -/
def State.counted (s : State) (i : Nat) (x : Sensor) : Int := if x.broken then s.threshold (sensorGroup i) 3 else x.reading

/-- Sensors of a group that take part, with what they count as. -/
def State.groupReadings (s : State) (g : Nat) : List (Nat × Int) :=
  s.th.sensors.filterMap (fun (y : Nat × Sensor) =>
    if sensorGroup y.1 = g ∧ ¬ s.sensorAbsent y.1 then some (y.1, s.counted y.1 y.2) else none)

/-- The level of a group now, by its readings, the level it leaves only below the hysteresis, and its rate hold. -/
def State.groupLevel (s : State) (g : Nat) : Nat :=
  if ¬ s.groupOn g then 0
  else
    let was := s.fld (TH + 8) (4 * g + 2) (4 * g)
    let rs := (s.groupReadings g).map (fun (r : Nat × Int) => r.2)
    let on_ (k : Nat) : Bool := rs.any (fun r => decide (s.threshold g k ≤ r) || (decide (k ≤ was) && decide (s.threshold g k - s.hysteresis g ≤ r)))
    let k := if on_ 4 then 4 else if on_ 3 then 3 else if on_ 2 then 2 else if on_ 1 then 1 else 0
    if (Tbl.find s.th.rateHold g).isSome then max k 2 else k

/-- Highest group level in TH_STATUS. -/
def State.thLevel (s : State) : Nat := s.fld (TH + 4) 2 0

/-- The thermal step, mirrored in TH_STATUS, with event 0xE106 on a change. -/
def State.thStep (s : State) : Nat := s.fld (QS + 0x1C) 10 8
def State.setThStep (s : State) (k : Nat) : State :=
  let s := { s with th := { s.th with stepAt := s.tb.tick } }
  if k = s.thStep then s else ((s.setFld (QS + 0x1C) 10 8 k).setFld (TH + 4) 26 24 k).event 0xE106 0 none k 0

/-- thermal_request and its mirror. -/
def State.thRequest (s : State) : Bool := s.flag (QS + 0x1C) 1
def State.setThRequest (s : State) (v : Bool) : State := (s.setBit (QS + 0x1C) 1 v).setBit (TH + 4) 30 v

/-- Background level b. -/
def State.bgLevel (s : State) : Nat := s.fld (TH + 4) 22 20
def State.setBgLevel (s : State) (b : Nat) : State := { s.setFld (TH + 4) 22 20 (min 7 b) with th := { s.th with bgAt := s.tb.tick } }

/-- The grace time ends, and the step begins to rise (R431, Table 16.3). -/
def State.endGrace (s : State) : State :=
  if s.th.graceEnd then s
  else ({ s with th := { s.th with graceEnd := true } }).setThStep (min 7 (s.thStep + 1))

/-- What the highest group level asks of hosts and background engines as it becomes `k` (R430, R431). -/
def State.throttle (s : State) (k : Nat) : State :=
  let was := s.thLevel
  let s := if decide (2 ≤ was) ≠ decide (2 ≤ k) then { s with th := { s.th with stepAt := s.tb.tick, bgAt := s.tb.tick } } else s
  let s := if 3 ≤ k then s.setBgLevel 7 else if 2 ≤ k ∧ was < 2 then s.setBgLevel (s.bgLevel + 1) else s
  let s := if 2 ≤ k ∧ ¬ s.thRequest then
      ({ s with th := { s.th with graceEnd := false, requestAt := s.tb.tick } }).setThRequest true
    else s
  let s := if 3 ≤ k then s.endGrace else s
  if k < 2 ∧ s.thRequest ∧ s.thStep = 0 then s.setThRequest false else s

/-- Recompute the level and TH_GRP_MAX of every group, and act on the highest (R428 to R431). -/
def State.thermalUpdate (s : State) : State :=
  let s := (List.range 6).foldl (fun (t : State) g =>
    let k := t.groupLevel g
    let top := (t.groupReadings g).foldl (fun (b : Option (Nat × Int)) r => match b with
      | some x => if x.2 < r.2 then some r else some x
      | none => some r) none
    let t := t.setFld (TH + 8) (4 * g + 2) (4 * g) k
    match top with
    | some r => t.setReg (TH + 0x40 + 4 * g) (BitVec.ofNat 32 (tempCode r.2 + sensorId r.1 * 65536))
    | none => t.setReg (TH + 0x40 + 4 * g) 0) s
  let lv (g : Nat) : Nat := s.fld (TH + 8) (4 * g + 2) (4 * g)
  let k := ((List.range 6).map lv).foldl max 0
  let was := s.thLevel
  let s := (s.throttle k).setBit (TH + 4) 29 (decide (3 ≤ k))
  let s := s.setFld (TH + 4) 2 0 k
  if k = was then s
  else
    let s := s.emit (.msix 5)
    let g := ((List.range 6).find? (fun g => decide (lv g = k))).getD 0
    let code := if k = 1 then 0xE101 else if k = 2 then 0xE102 else if k = 3 then 0xE103 else 0
    if code = 0 then s else s.event code g none (s.fld (TH + 0x40 + 4 * g) 25 16) (s.fld (TH + 0x40 + 4 * g) 7 0)

/-- The rate limit of a sensor's group (R428); not in A2 for groups 2 and 3 (R435). -/
def State.rateCheck (s : State) (i : Nat) : State :=
  let g := sensorGroup i
  match s.sensor i with
  | none => s
  | some x =>
    let low := (x.since (s.tb.tick - 100000)).foldl min x.reading
    if s.groupOn g ∧ 0 < s.rateLimit g ∧ ¬ x.broken ∧ ¬ s.sensorAbsent i ∧ ¬ (s.power = 2 ∧ (g = 2 ∨ g = 3)) ∧ (s.rateLimit g : Int) < x.reading - low then
      let held := (Tbl.find s.th.rateHold g).isSome
      let s := { s with th := { s.th with rateHold := Tbl.put s.th.rateHold g (s.tb.tick + 1000000) } }
      if held then s else (s.bump (TH + 0x104) 15 0 1).event 0xE104 (sensorGroup i) none (sensorId i) (tempCode x.reading)
    else s

/-! ### Trips (R416, R433 to R435) -/

/-- A trip by sensor `i` at reading `v`, or by a comparator (none). A comparator gives no reading, so that field is a free value. -/
def State.trip (s : State) (cause : Option (Nat × Int)) : State :=
  if s.flag (TH + 4) 31 then s
  else
    let (log, s) := match cause with
      | some (i, v) => (sensorId i + tempCode v * 65536, s)
      | none => (let (x, t) := s.draw; (0x7FF + x.toNat % 256 * 65536, t))
    let s := s.persist (TH + 0x100) (BitVec.ofNat 32 log)
    let s := s.event (if cause.isSome then 0xE201 else 0xE202) 0 none log 0
    let s := { s.ringPage with pins := { s.ringPage.pins with thermtripLow := true } }
    let s := s.abortEntry 8
    let sound := cause.isSome && decide (s.power ≤ 2) && decide (s.pw.groupsDown = []) && !s.rails.any (fun n => decide (s.railState n = 4 ∨ s.railState n = 5))
    let s := s.setBit (TH + 4) 31 true
    if cause.isSome ∧ s.flushing then s.enterOff .stay
      else if sound then s.enterOff .stay
      else s.cutOff .stay

/-- Does a sensor read at or above TRIP for the second time in a row? -/
def State.tripCheck (s : State) (i : Nat) : State :=
  match s.sensor i with
  | none => s
  | some x =>
    let g := sensorGroup i
    if s.groupOn g ∧ ¬ x.broken ∧ ¬ s.sensorAbsent i ∧ s.threshold g 4 ≤ x.reading then
      let s := s.setSensor i { x with tripRun := min 2 (x.tripRun + 1) }
      if 1 ≤ x.tripRun then s.trip (some (i, x.reading)) else s
    else s.setSensor i { x with tripRun := 0 }

/-! ### Readings -/

/-- Sensors that are absent take no part: what was read of them is forgotten. -/
def State.dropAbsent (s : State) : State :=
  { s with th := { s.th with sensors := s.th.sensors.filter (fun (y : Nat × Sensor) => !s.sensorAbsent y.1) } }

/-- TH_TS of an on-die sensor. -/
def State.showTs (s : State) (i : Nat) : State :=
  match s.sensor i with
  | some x => s.setReg (TH + 0x80 + 4 * i) (BitVec.ofNat 32 (tempCode x.reading + if x.broken then 0 else 256))
  | none => s.setReg (TH + 0x80 + 4 * i) 0

/-- A batch of readings (sensor ID, reading, open or short): taken in, judged, checked for rate, and acted on; a trip last. -/
def State.readings (s : State) (rs : List (Nat × Int × Bool)) : State :=
  let s := s.dropAbsent
  let rs := rs.filter (fun (r : Nat × Int × Bool) => !s.sensorAbsent r.1)
  let s := rs.foldl (fun (t : State) r => t.sense r.1 r.2.1) s
  let s := rs.foldl (fun (t : State) r => t.judge r.1 r.2.2) s
  let s := rs.foldl (fun (t : State) r => t.rateCheck r.1) s
  let s := (s.showBroken).thermalUpdate
  rs.foldl (fun (t : State) r => t.tripCheck r.1) s

/-- ONDIE_SENSOR_READ (R425): every 100 us, TS00 to TS31 in order. The core's sensors are read while the core runs. -/
def execOndieSensorRead (readings : List (Int × Bool)) (s : State) : Answer :=
  .next (
    if 3 ≤ s.power then s
    else
      let rs := ((List.range 32).zip readings).map (fun (x : Nat × (Int × Bool)) => (x.1, x.2.1, x.2.2))
      (List.range 32).foldl State.showTs (s.readings rs))

/-- REMOTE_DIODE_READ (R425): every 10 ms. -/
def execRemoteDiodeRead (diode : Nat) (reading : Int) (openShort : Bool) (s : State) : Answer :=
  below diode 2 s (.next (if 3 ≤ s.power then s else s.readings [(0x400 + diode, reading, openShort)]))

/-- AON_SENSOR_READ (R435): in A3 and Off, TS24 to TS31 every 10 ms; what it can do is trip. -/
def execAonSensorRead (readings : List Int) (s : State) : Answer :=
  .next (
    if s.power < 3 then s
    else
      let rs := ((List.range 8).zip readings).map (fun (x : Nat × Int) => (24 + x.1, x.2))
      let rs := rs.filter (fun (x : Nat × Int) => !s.sensorAbsent x.1)
      let s := rs.foldl (fun (t : State) x => t.sense x.1 x.2) s
      rs.foldl (fun (t : State) x => t.tripCheck x.1) s)

/-- TEMP_RESPONSE (R166, R425): die and hub temperatures of a stack, as signed bytes; −128 and 127 are open or short. -/
def execTempResponse (chan tag : Nat) (st : HubStatus) (dies : List Int) (hub : Int) (s : State) : Answer :=
  s.answered chan tag [.temp] (fun q s =>
    if st = .dieFailed then s.dieStatus chan (addrDie q.addr)
    else if st = .success then
      let edge (v : Int) : Bool := decide (v ≤ -128) || decide (127 ≤ v)
      let ds := (List.range 8).zip dies
      let s := { s with th := { s.th with tempTick := Tbl.put s.th.tempTick chan s.tb.tick } }
      let s := s.readings ((0x100 + chan, hub, edge hub) :: ds.map (fun (x : Nat × Int) => (0x200 + 8 * chan + x.1, x.2, edge x.2)))
      let good := ds.filter (fun (x : Nat × Int) => match s.sensor (0x200 + 8 * chan + x.1) with | some y => !y.broken | none => false)
      let s := good.foldl (fun (t : State) x => { t with df := { t.df with
        tMax := Tbl.put t.df.tMax chan (match Tbl.find t.df.tMax chan with | some m => max m x.2 | none => x.2) } }) s
      s.configDone chan
    else s.configDone chan)

/-- TEMP_MISSING_TIMEOUT (R427): no TEMP response for 10 ms, in A2 for 2 minutes: the stack's nine sensors are broken. -/
def execTempMissingTimeout (chan : Nat) (s : State) : Answer :=
  below chan 40 s (.next (
    let ids := (0x100 + chan) :: (List.range 8).map (fun d => 0x200 + 8 * chan + d)
    let last := (Tbl.find s.th.tempTick chan).getD 0
    if 3 ≤ s.power ∨ s.sensorAbsent (0x100 + chan) ∨ s.tb.tick < last + (if s.power = 2 then 120000000 else 10000) then s
    else
      let s := ids.foldl (fun (t : State) i => (if (t.sensor i).isNone then t.setSensor i (Sensor.fresh t.tb.tick 0) else t).judge i true) s
      (s.showBroken).thermalUpdate))

/-- RATE_HOLD_EXPIRE (R428): 1 s after the last violation. -/
def execRateHoldExpire (group : Nat) (s : State) : Answer :=
  below group 6 s (.next (
    match Tbl.find s.th.rateHold group with
    | some t => if t ≤ s.tb.tick then ({ s with th := { s.th with rateHold := Tbl.del s.th.rateHold group } }).thermalUpdate else s
    | none => s))

/-- BG_LEVEL_TIMER (R430): every 100 ms at THROTTLE, every 1 s below it. -/
def execBgLevelTimer (s : State) : Answer :=
  .next (
    if 3 ≤ s.thLevel then s.setBgLevel 7
    else if s.tb.tick < s.th.bgAt + (if s.thLevel = 2 then 100000 else 1000000) then s
    else if s.thLevel = 2 then s.setBgLevel (s.bgLevel + 1) else s.setBgLevel (s.bgLevel - 1))

/-- GRACE_EXPIRE (R431): grace_ms after thermal_request rose. -/
def execGraceExpire (s : State) : Answer :=
  .next (if s.thRequest ∧ 2 ≤ s.thLevel ∧ s.th.requestAt + s.fld TH 23 16 * 10000 ≤ s.tb.tick then s.endGrace else s)

/-- STEP_RISE_TIMER (R431). -/
def execStepRiseTimer (s : State) : Answer :=
  .next (
    if 2 ≤ s.thLevel ∧ s.th.graceEnd ∧ s.th.stepAt + s.fld TH 15 8 * 10000 ≤ s.tb.tick then s.setThStep (min 7 (s.thStep + 1)) else s)

/-- STEP_FALL_TIMER (R431): thermal_request falls with the step at 0. -/
def execStepFallTimer (s : State) : Answer :=
  .next (
    if s.thLevel < 2 ∧ s.th.stepAt + s.fld TH 7 0 * 100000 ≤ s.tb.tick then
      let s := s.setThStep (s.thStep - 1)
      if s.thStep = 0 ∧ s.thRequest then s.setThRequest false else s
    else s)

/-- COMPARATOR_TRIP (R433): an analog comparator fires. -/
def execComparatorTrip (s : State) : Answer := .next (s.trip none)

/-! ### Body bias (R417) -/

/-- Highest valid reading among sensors `a` to `b - 1`. -/
def State.highest (s : State) (a b : Nat) : Option Int :=
  s.th.sensors.foldl (fun (m : Option Int) (y : Nat × Sensor) =>
    if a ≤ y.1 ∧ y.1 < b ∧ ¬ y.2.broken ∧ ¬ s.sensorAbsent y.1 then some (match m with | some x => max x y.2.reading | none => y.2.reading) else m) none

/-- The band at reading `v` from band `was` (0 cold, 1 normal, 2 hot): it changes only 5 °C past its boundary. -/
def nextBand (was : Nat) (v : Int) : Nat :=
  if was = 0 then (if 115 ≤ v then 2 else if 5 ≤ v then 1 else 0)
  else if was = 1 then (if v ≤ -5 then 0 else if 115 ≤ v then 2 else 1)
  else (if v ≤ -5 then 0 else if v ≤ 105 then 1 else 2)

/-- Core body bias of a state and band, in 5 mV (Table 15.8). -/
def biasTarget (power band : Nat) : Int :=
  if power ≤ 1 then (if band = 0 then 10 else if band = 1 then 0 else -10)
  else (if band = 0 then 0 else if band = 1 then -20 else -30)

/-- BIAS_STEP (R417): bands and SRAM assist, and one step of 25 mV of the core bias toward its target; in A3 the retained partitions have
their source bias. -/
def execBiasStep (s : State) : Answer :=
  .next (
    if s.power = 3 then s.setFld (PW + 0x20) 23 16 30
    else if s.power = 4 then s
    else
      let s := s.setFld (PW + 0x20) 23 16 0
      let core := match s.highest 0 24 with | some v => nextBand (s.fld (PW + 0x20) 9 8) v | none => s.fld (PW + 0x20) 9 8
      let wasRam := if s.flag (PW + 0x20) 10 then 0 else if s.flag (PW + 0x20) 11 then 2 else 1
      let ram := match s.highest 24 32 with | some v => nextBand wasRam v | none => wasRam
      let s := ((s.setFld (PW + 0x20) 9 8 core).setBit (PW + 0x20) 10 (decide (ram = 0))).setBit (PW + 0x20) 11 (decide (ram = 2))
      let now := signed 8 (s.fld (PW + 0x20) 7 0)
      let goal := biasTarget s.power core
      let next := if now < goal then min goal (now + 5) else max goal (now - 5)
      s.setFld (PW + 0x20) 7 0 (twos 8 next))

end Sys2Proof.Machine
end

