-- ==== Sys2Proof/Machine/Link.lean ====
section
/-! DEFINITION. Machine/Link.lean: the receiving side of the flit link (R59, R60, R62): flits are accepted in sequence, their payloads form the
stream of messages, and a message takes effect when the flit with its last byte is accepted. -/

namespace Sys2Proof.Machine

/-- The length of a message from a stack by its first byte (Tables 03.4, 03.6): a response by its opcode, ACK, else a one-byte pad. An opcode that no
stack sends is passed over as a pad (DESIGN CHOICE: the spec gives it no length). -/
def messageLen (op : Nat) : Nat :=
  if op = 0x81 then 84 else if op = 0x82 then 94 else if op = 0x83 ∨ op = 0x89 ∨ op = 0x8B then 8 else if op = 0x8A then 16
  else if 0x84 ≤ op ∧ op ≤ 0x88 then 4 else if op = 0x7E then 3 else 1

/-- Response status (Table 03.7); a reserved code names no outcome. -/
def statusOf (code : Nat) : Option HubStatus :=
  [HubStatus.success, .programFailed, .eraseFailed, .addressError, .planeSuspended, .nothingToDo, .aborted, .dieFailed, .standby][code]?

/-- The state that a response row answers with. -/
def Answer.after (a : Answer) (s : State) : State :=
  match a with
  | .next t => t
  | .fault _ | .refused _ => s

/-- The flagged bytes of a READ_SOFT response's erasure map: bit n flags byte n (Table 03.4). -/
def erasureMap (b : List Byte) : List Nat := (List.range 80).filter (fun n => (b.getD (n / 8) 0).toNat.testBit (n % 8))

/-- A message from the stack of channel `c` takes effect (R60): an ACK, or a response as its own row has it. A response of a reserved status is dropped.
The latency of what it delivers is an open value of the part's own clocking. -/
def State.chanMessage (s : State) (c : Nat) (b : List Byte) : State :=
  let op := (b.getD 0 0).toNat
  let tag := (b.getD 1 0).toNat
  if op = 0x7E then s.ackTaken c tag ((b.getD 2 0).toNat.testBit 0)
  else match (if op < 0x81 ∨ 0x8B < op then none else statusOf ((b.getD 2 0).toNat % 16)) with
    | none => s
    | some st =>
      let (v, s) := s.draw
      let m : Meas := { latNs := v.toNat % 2 ^ 32, loadCause := 0 }
      let word : Word := BitVec.ofNat 32 (leNat ((b.drop 4).take 4))
      let temps := (b.drop 4).map (fun x => signed 8 x.toNat)
      Answer.after (
        if op = 0x81 then execReadResponse c tag st ((b.getD 2 0).toNat.testBit 4) (signed 8 (b.getD 3 0).toNat) (b.drop 4) m s
        else if op = 0x82 then execReadSoftResponse c tag st ((b.drop 4).take 80) (erasureMap (b.drop 84)) m s
        else if op = 0x83 then execMarginReadResponse c tag st (leNat ((b.drop 4).take 2)) s
        else if op = 0x84 then execProgramResponse c tag st s
        else if op = 0x85 then execEraseResponse c tag st s
        else if op = 0x86 then execSuspendResponse c tag st s
        else if op = 0x87 then execResumeResponse c tag st s
        else if op = 0x88 then execCopyResponse c tag st s
        else if op = 0x89 then execStatusResponse c tag st word s
        else if op = 0x8A then execTempResponse c tag st (temps.take 8) (temps.getD 8 0) s
        else execConfigResponse c tag st word s) s

/-- Take the whole messages off the received stream, oldest first, at most `n` (R60). -/
def State.deframe (c : Nat) : Nat → State → State
  | 0, s => s
  | n + 1, s =>
    let r := (s.chan c).link.rxBytes
    let len := messageLen (r.getD 0 0).toNat
    if r = [] ∨ r.length < len then s
    else
      let s := s.setChan c { s.chan c with link := { (s.chan c).link with rxBytes := r.drop len } }
      State.deframe c n (s.chanMessage c (r.take len))

/-- The link once the flit it expects has been accepted (R59, R62). -/
def Link.accepted (l : Link) (flit : List Byte) : Link :=
  { l with rxSeq := (l.rxSeq + 1) % 256, rxPending := l.rxPending + 1, rxBytes := l.rxBytes ++ flit.take 29 }

/-- Is a received flit intact: 32 bytes with a good CRC (Table 03.3)? -/
def flitIntact (flit : List Byte) : Bool := decide (flit.length = 32) && decide (leNat (flit.drop 30) = crc16 0x8BB7 (flit.take 30))

/-- FLIT_RECEIVE (R59, R60, R62): the expected flit with a good CRC is accepted, and the messages it completes take effect; every other is discarded, and
an ACK asks for a replay. -/
def execFlitReceive (chan : Nat) (flit : List Byte) (s : State) : Answer :=
  below chan 40 s (.next (
    let x := s.chan chan
    if flitIntact flit ∧ (flit.getD 29 0).toNat = x.link.rxSeq then
      let l := x.link.accepted flit
      let s := s.setChan chan { x with link := if 16 ≤ l.rxPending then l.ack false else l }
      State.deframe chan l.rxBytes.length s
    else
      let s := if flitIntact flit then s else (s.bump (MC + chan * 0x1000 + 0x18) 15 0 1).count (2 + chan / 8) 0x66 (chan % 8) 1
      s.sendAck chan true))

end Sys2Proof.Machine
end

