-- ==== Sys2Proof/Machine/Admit.lean ====
section
/-! DEFINITION. Machine/Admit.lean: admission of host requests (R305), reads at the lookups (R15, R224 to R228), writes at the merge (R193,
R197, R397), and the mirror stream of mirrored domains and live migrations (R385 to R387). -/

namespace Sys2Proof.Machine

/-! ### Merging -/

/-- A write enters the banks (R193), every cached copy of its line (R252) and, for an anchor domain, the anchor journal (R215). Answers the
sequence number of its anchor record, 0 for none. -/
def State.holdWrite (s : State) (dom line : Nat) (data : List Byte) (mask : BitVec 64) (poison anchor : Bool) : Nat × State :=
  let s := (s.gx.unverifiable.filter (fun p => decide (line / 64 ^ (p.1 + 1) = p.2))).foldl (fun (t : State) p => t.poisonReseed p.1 p.2) s
  let s := s.mergeWrite line dom data mask poison anchor
  let bad : Bool := match s.openFrame line with | some f => f.poison | none => false
  let s := if bad then s.cacheDrop false line else s.cacheWrite line data mask
  if anchor then
    let bytes := (List.range 64).map (fun i => if mask.getLsbD i then data.getD i 0 else 0)
    let q := s.wb.anchorNext
    (q, s.anchorAppend 1 poison dom line mask bytes ⟨0, 0⟩)
  else (0, s)

/-- A write to a write-protected plot is discarded: no cached copy of its line stays (R21), and its counter advances as by an apply (R160). -/
def State.discardWrite (s : State) (dom line : Nat) : State := (s.cacheDrop false line).discardAdvance dom line

/-- Is a plot held by a snapshot of its domain (R397): cow set, or not yet passed by the walker; and no copy of it under way? `id` is the
number of the request, which counts from the cut on. -/
def State.heldPlot (s : State) (dom i id : Nat) : Bool :=
  let pool := s.domPool dom
  !s.plotTaken i &&
  s.sw.snaps.any (fun x => decide (x.2.dom = dom) && !x.2.ending && decide (x.2.since ≤ id) &&
    ((s.entry false i).cow || decide (pool + x.2.walker ≤ i)))

/-- Is record 0x31 of a cut of the domain not yet verified (R396)? -/
def State.cutOpen (s : State) (dom id : Nat) : Bool :=
  s.sw.snaps.any (fun x => decide (x.2.dom = dom) && !x.2.ending && !x.2.cut && decide (x.2.since ≤ id))

/-- Open frames of a plot, with their lines, in line order. -/
def State.plotOpen (s : State) (i : Nat) : List (Nat × Nat) :=
  let fs := (s.wb.frames.filter (fun f => decide (f.2.state ≠ .applying) && decide (linePlot (lineOf s.wb.salt (f.1 / 8) f.2.tag) = i))).map
    (fun (f : Nat × Frame) => (lineOf s.wb.salt (f.1 / 8) f.2.tag, f.1))
  fs.mergeSort (fun a b => decide (a.1 ≤ b.1))

/-- The first write to a held plot (R397 steps 1 and 2): the plot's frames are set applying and a kind 4 migration is called for. True: a line
has a frame applying and another open, so that the write waits for the first to end. -/
def State.firstWrite (s : State) (i : Nat) : Bool × State :=
  let fs := s.plotOpen i
  if fs.any (fun f => (s.applyingFrame f.1).isSome) then (true, s)
  else
    let s := fs.foldl (fun (t : State) (f : Nat × Nat) =>
      match t.frame (f.2 / 8) (f.2 % 8) with
      | some x => t.setFrame (f.2 / 8) (f.2 % 8) { x with state := .applying, progs := 0 }
      | none => t) s
    (false, s.requestMigration 4 false i)

/-- What keeps a write from merging: 0 nothing, 1 its set, 2 the dirty limit (R197), 3 a cut, a held plot or the anchor journal. What the
first write to a held plot sets going comes with the answer. -/
def State.mergeBar (s : State) (dom line id : Nat) (anchor : Bool) : Nat × State :=
  if s.cutOpen dom id then (3, s)
  else
    let (again, s) := if s.heldPlot dom (linePlot line) id then s.firstWrite (linePlot line) else (false, s)
    if again ∨ (anchor ∧ ¬ s.anchorRoom 1) then (3, s) else (s.mergeWait line, s)

/-- Does an earlier write to the same line still wait to merge? -/
def State.lineQueued (s : State) (line id : Nat) : Bool :=
  s.host.reqs.any (fun r => r.write && decide (r.line = line) && decide (r.id < id) && decide (r.st = .setWait ∨ r.st = .limitWait ∨ r.st = .cutWait))

/-- A merged write completes, or waits for its anchor record (R215) or for write-through (R208). -/
def State.finishWrite (s : State) (r : Req) (anchor : Nat) : State :=
  if 0 < anchor then s.setReq { r with st := .anchorWait anchor }
  else if s.writeThrough then (s.setReq { r with st := .throughWait }).throughCheck
  else s.completeWrite r (some r.dom)

/-- The record of a write that the follower forwards to the leader (R385), and its sending. -/
def State.emitForward (s : State) (r : Req) : State :=
  if (s.routeOf (s.mirrorPeer r.dom)).isSome then
    (s.emit (.mirror ⟨(if s.migFollows r.dom then migBase else 0) + r.id, r.dom, r.line, r.mask, r.data, r.poison⟩ 0)).count 9 0xB0 8 1
  else s

/-- Forward a write to the leader (R385); it waits for the record of its number. -/
def State.forwardWrite (s : State) (r : Req) : State :=
  let s := { s with sw := { s.sw with lastAck := if s.host.reqs.any (fun q => decide (q.st = ReqState.mirrorWait 0)) then s.sw.lastAck else s.tb.tick } }
  ((s.setReq { r with st := .mirrorWait 0 }).setSends (s.mirrorPeer r.dom) (forwardMsg r.id) 1).emitForward r

/-- Send the mirror record of a write that the leader has merged or discarded; the write waits for its acknowledgement, and for anchor record `a`. -/
def State.leadWrite (s : State) (r : Req) (a : Nat) : State :=
  let (q, s) := s.mirrorOut ⟨0, r.dom, r.line, r.mask, r.data, r.poison⟩ 0
  s.setReq { r with st := if 0 < a then .bothWait a q else .mirrorWait q }

/-- Merge an admitted write that nothing holds back (R20, R215, R385, R387). -/
def State.mergeNow (s : State) (r : Req) : State :=
  match s.mirrorRole r.dom with
  | .isolated => ((s.mergeWrite r.line r.dom r.data 0 true r.anchor).cacheDrop false r.line).completeWrite r (some r.dom)
  | .leader =>
    let (a, s) := s.holdWrite r.dom r.line r.data r.mask r.poison r.anchor
    s.leadWrite r a
  | .follower _ => s.forwardWrite r
  | .degraded =>
    let (a, s) := s.holdWrite r.dom r.line r.data r.mask r.poison r.anchor
    (s.setDirty (linePlot r.line) true).finishWrite r a
  | .alone | .unconfirmed =>
    let (a, s) := s.holdWrite r.dom r.line r.data r.mask r.poison r.anchor
    s.finishWrite r a

/-- An admitted write at the merge: it is discarded (R20: R160, R293, and below an unverifiable node at the crown epoch's end, Table 10.6), merges, or
waits; the waits of R197 are counted as they begin. -/
def State.mergeTry (s : State) (r : Req) : State :=
  if s.quarantined r.dom then s.completeWrite r (some r.dom)
  else if (s.entry false (linePlot r.line)).writeProtect then
    let s := s.discardWrite r.dom r.line
    match s.mirrorRole r.dom with
    | .leader => s.leadWrite r 0
    | .degraded => (s.setDirty (linePlot r.line) true).completeWrite r (some r.dom)
    | .alone | .unconfirmed | .isolated | .follower _ => s.completeWrite r (some r.dom)
  else if s.unverifiable r.line ∧ 2 ^ 24 - 1 ≤ s.counter 11 then (s.event 0x8105 0 none (r.line / 64) 0).completeWrite r (some r.dom)
  else if s.lineQueued r.line r.id then s.setReq { r with st := .cutWait }
  else
    let (b, s) := s.mergeBar r.dom r.line r.id r.anchor
    if b = 0 then s.mergeNow r
    else if b = 1 then
      let s := s.setReq { r with st := .setWait }
      if r.st = .setWait then s else (s.bump (WP + 0x4C) 15 0 1).count 8 0x9D 8 1
    else if b = 2 then
      let s := s.setReq { r with st := .limitWait }
      if r.st = .limitWait then s else (s.bump (WP + 0x4C) 31 16 1).count 8 0x9E 8 1
    else s.setReq { r with st := .cutWait }

/-- Try the waiting writes that satisfy a test again, oldest first. -/
def State.retryWrites (s : State) (p : Req → Bool) : State :=
  (s.host.reqs.filter (fun r => decide (r.st = .setWait ∨ r.st = .limitWait ∨ r.st = .cutWait) && p r)).foldl (fun (t : State) (r : Req) => t.mergeTry r) s

/-! ### The mirror stream at the follower -/

/-- The stream's next number to merge at this follower; 0 takes the first record that comes (the spec does not say how the follower learns
where the leader's sequence stands). -/
def State.mirrorNext (s : State) (q : Nat) : Nat := if migBase ≤ q then s.sw.migSeq else s.sw.nextSeq

/-- Merge a record in its turn (R385): into both banks, with its acknowledgement, which for an anchor domain waits for the anchor record. A
write that this member forwarded completes. -/
def State.mirrorMerge (s : State) (r : MirrorRec) : State :=
  let (a, s) := if (s.entry false (linePlot r.line)).writeProtect then (0, s.discardWrite r.dom r.line)
    else if s.quarantined r.dom then (0, s) else s.holdWrite r.dom r.line r.data r.mask r.poison (s.domAnchor r.dom)
  let s := s.count 9 0xBA 8 1
  let s := if migBase ≤ r.seq then { s with sw := { s.sw with migSeq := r.seq + 1 } }
    else ({ s with sw := { s.sw with nextSeq := r.seq + 1 } }).setReg64 (SW + 0x20) r.seq
  let s := if a = 0 then s.mirrorAckOut r.seq else { s with sw := { s.sw with ackWait := s.sw.ackWait ++ [(a, r.seq)] } }
  match s.host.reqs.find? (fun (q : Req) => decide (q.st = .mirrorWait 0) && decide (q.dom = r.dom) && decide (q.line = r.line) && decide (q.mask = r.mask) &&
      decide (q.data = r.data) && q.poison == r.poison) with
  | some q =>
    let s := ({ s with sw := { s.sw with lastAck := s.tb.tick } }).setSends (s.mirrorPeer r.dom) (forwardMsg q.id) 0
    if 0 < a then s.setReq { q with st := .bothWait a r.seq } else s.finishWrite q 0
  | none => s

/-- Merge the records that have their turn, at most `n`: one that has to wait for room stays. -/
def State.mirrorPump : Nat → State → State
  | 0, s => s
  | n + 1, s =>
    match s.sw.early.find? (fun r => decide (s.mirrorNext r.seq = r.seq ∨ s.mirrorNext r.seq = 0)) with
    | none => s
    | some r =>
      let (b, s) := s.mergeBar r.dom r.line s.host.nextReq (s.domAnchor r.dom)
      if b ≠ 0 then s
      else State.mirrorPump n (({ s with sw := { s.sw with early := s.sw.early.filter (fun x => ¬ x.seq = r.seq) } }).mirrorMerge r)

/-- A write that the follower forwarded merges at the leader, which orders it (R385). For an anchor domain the follower hears of the leader's
anchor record by an acknowledgement. -/
def State.forwardMerge (s : State) (r : MirrorRec) : State :=
  let (a, s) := if (s.entry false (linePlot r.line)).writeProtect then (0, s.discardWrite r.dom r.line)
    else if s.quarantined r.dom then (0, s) else s.holdWrite r.dom r.line r.data r.mask r.poison (s.domAnchor r.dom)
  let (q, s) := s.mirrorOut r 0
  if 0 < a then { s with sw := { s.sw with ackWait := s.sw.ackWait ++ [(a, q)] } } else s

/-- Merge the forwarded writes in the order in which they came, at most `n`, up to one that has to wait. -/
def State.forwardPump : Nat → State → State
  | 0, s => s
  | n + 1, s =>
    match s.sw.fwd with
    | [] => s
    | r :: rest =>
      let (b, s) := s.mergeBar r.dom r.line s.host.nextReq (s.domAnchor r.dom)
      if b ≠ 0 then s else State.forwardPump n (({ s with sw := { s.sw with fwd := rest } }).forwardMerge r)

/-- Forwarded writes and mirror records that can merge do so. -/
def State.streamPump (s : State) : State :=
  let s := State.forwardPump s.sw.fwd.length s
  State.mirrorPump s.sw.early.length s

/-- Everything that waits to merge is tried again. -/
def State.retryAll (s : State) : State :=
  (s.retryWrites (fun _ => true)).streamPump

/-! ### Requests that no domain serves (R301) -/

/-- A request that resolves to no domain completes: a read with poison, a write discarded; event 0x9101 at most once per LD per minute. -/
def State.unresolved (s : State) (r : Req) : State :=
  let s := (s.eventOnce r.ld 0x9101 0 none r.ld (r.dpa / 2 ^ 20)).count r.port 0x1B 8 1
  if r.write then s.completeWrite r none else s.respond r none (List.replicate 64 0) true

/-! ### Admission (R305) -/

/-- Does an admitted read have to wait for a write before it (R242, R386)? -/
def State.readWaits (s : State) (r : Req) : Bool :=
  s.host.reqs.any (fun w => w.write && decide (w.line = r.line) && decide (w.id < r.id) &&
    (decide (w.st = .mirrorWait 0) || (decide (w.port = r.port) && decide (w.st = .setWait ∨ w.st = .limitWait ∨ w.st = .cutWait))))

/-- An admitted read: served by the buffer or the cache, attached to a fetch of its line, or fetched (R15, R16, R224, R225, R228). -/
def State.admitRead (s : State) (r : Req) (cause : Nat) (m : Meas) : State :=
  let d := r.dom
  let cls := r.cls
  let zeros := List.replicate 64 (0 : Byte)
  let cause := lowerCause cause m.loadCause
  let done (t : State) (data : List Byte) (poison : Bool) : State := t.completeRead r data poison cls cause m.latNs 0 false
  let serves : Bool := match s.mirrorRole d with
    | .isolated | .follower false => false
    | .alone | .unconfirmed | .degraded | .leader | .follower true => true
  let s := s.readLine r.line
  let view := s.bufferView r.line
  if s.quarantined d ∨ ¬ serves then done s zeros true
  else if view.any (fun v => v.2) then done s zeros true
  else if view.any bufferFull then done s ((view.map bufferBytes).getD zeros) false
  else
    let (hit, s) := s.lookup false r.line r.tier
    match hit with
    | some data => done s data false
    | none =>
      let s := s.setReq { r with st := .fetching }
      match s.host.fetches.find? (fun f => decide (f.line = r.line) && (match f.use with | .held | .pinNode _ => false | .host | .pin | .sward | .scan _ => true)) with
      | some f => s.setFetch { f with reqs := f.reqs ++ [r.id] }
      | none => s.fetchNow .host r.line d cls r.tier (if cls = 0 then 7 else 5) cause [r.id]

/-- An admitted write: discarded (R293), forwarded to the leader (R385), or at the merge. -/
def State.admitWrite (s : State) (r : Req) : State :=
  let s := s.meter r.dom (fun a => { a with writeLines := a.writeLines + 1 })
  let s := s.updCnt r.dom (fun c => { c with writeLines := (c.writeLines + 1) % 2 ^ 64 })
  let o := QS + 0xA8 + r.tier * 0x10
  let s := s.setReg64 o ((s.reg64 o + 1) % 2 ^ 64)
  if s.quarantined r.dom then s.completeWrite r (some r.dom)
  else match s.mirrorRole r.dom with
    | .follower _ => s.forwardWrite r
    | .alone | .unconfirmed | .isolated | .degraded | .leader => s.mergeTry r

/-- The charge of a host request (Table 11.3), by the values under which it resolved (R302). -/
def State.requestCost (s : State) (r : Req) : Nat := 4 + (if r.write ∧ r.anchor then s.fld (QS + 8) 23 16 else 0)

/-- The bucket test of R305: the buckets after the charge, or none where the request is held. -/
def State.admitTest (s : State) (d c : Nat) : Option Bucket :=
  let b := s.bucket d
  if ¬ s.flag QS 0 ∨ 0 ≤ b.gb then some { b with gb := satBal (b.gb - c) }
  else if s.flag QS 1 ∧ 0 ≤ b.bb then some { b with bb := satBal (b.bb - c) }
  else none

/-- Do the ports serve requests: recovery complete, and neither in A2, A3 or Off, nor at the last step into A2, nor on the way out of them (R25, R409)? -/
def State.serving (s : State) : Bool := s.wb.recovered && decide (s.power < 2) && !(s.heading 2 && decide (s.fld PW 19 16 = 4))

/-- Do they take writes too: not in a flush (R211)? -/
def State.admitting (s : State) : Bool := s.serving && !s.flushing

/-- ADMIT_REQUEST (R305): the oldest request of domain `dom` not yet admitted is charged and admitted, or it and every later one is held. A read
behind a write to its line that waits is not examined yet (R242). `perr`: what Rick found at the lookups (R263). -/
def execAdmitRequest (dom : Nat) (perr : Perr) (m : Meas) (s : State) : Answer :=
  below dom 4096 s (.next (
    if ¬ s.serving then s
    else
      let s := if s.admitting then s.retryWrites (fun r => decide (r.dom = dom)) else s
      let open_ (r : Req) : Bool := decide (r.dom = dom) && (s.admitting || !r.write) && decide (r.st = .arrived ∨ r.st = .held)
      match s.host.reqs.find? open_ with
      | none => s
      | some r =>
        if s.mirrorRole dom = .unconfirmed then s.unresolved r
        else if ¬ r.write ∧ s.readWaits r then s
        else
          let c := s.requestCost r
          match s.admitTest dom c with
          | none =>
            { s with host := { s.host with reqs := s.host.reqs.map (fun x => if open_ x then { x with st := .held, wasHeld := true } else x) } }
          | some b =>
            let s := (s.setBucket dom b).charged dom c
            let s := if perr = .none then s else s.rickError perr r.line dom
            if r.write then s.admitWrite r else s.admitRead r (perrCause perr) m))

/-- WRITE_SET_WAIT_RESUME (R197): writes that wait for a frame of a set, or for the dirty limit, merge once there is room. -/
def execWriteSetWaitResume (set : Nat) (s : State) : Answer :=
  below set 65536 s (.next (
    if ¬ s.admitting then s
    else
      (s.retryWrites (fun r => decide (r.st = .limitWait) || decide (lineSet s.wb.salt r.line = set))).streamPump))

/-! ### Records that writes wait for -/

/-- The apply record of a line has verified: its PROGRAMs follow; a redirect's go with their page (R148, R216). -/
def State.applyRecorded (s : State) (line : Nat) : State :=
  let set := lineSet s.wb.salt line
  match s.wayOf line true with
  | none => s
  | some w =>
    match s.frame set w with
    | none => s
    | some f =>
      match f.stage with
      | .recording old =>
        let s := s.setFrame set w { f with stage := .recorded old }
        if s.redirecting (linePlot line) then s.copyWaiting else s.programTry set w { f with stage := .recorded old } line old
      | .idle | .reading | .recorded _ | .programming => s

/-- What follows the anchor record `a`: the completions and mirror acknowledgements that waited for it (R215, R385), and by its type an apply's PROGRAMs or
the end of an anchor checkpoint (R216, R217). -/
def State.anchorLive (s : State) (a : AnchorRec) : State :=
  let s := { s with wb := { s.wb with anchors := s.wb.anchors.map (fun (x : AnchorRec) => if x.seq = a.seq then { x with verified := true } else x) } }
  let s := s.host.reqs.foldl (fun (t : State) (r : Req) =>
    match r.st with
    | .anchorWait q => if q = a.seq then t.completeWrite r (some r.dom) else t
    | .bothWait q m => if q = a.seq then t.setReq { r with st := .mirrorWait m } else t
    | .arrived | .held | .setWait | .limitWait | .fetching | .mirrorWait _ | .throughWait | .cutWait => t) s
  let acks := s.sw.ackWait.filter (fun x => decide (x.1 = a.seq))
  let s := acks.foldl (fun (t : State) (x : Nat × Nat) => t.mirrorAckOut x.2) { s with sw := { s.sw with ackWait := s.sw.ackWait.filter (fun x => ¬ x.1 = a.seq) } }
  let s := if a.type = 2 then s.applyRecorded a.line else if a.type = 3 then s.anchorsClosed else s
  if s.admitting then (s.retryWrites (fun r => r.anchor)).streamPump else s

/-- ANCHOR_RECORD_VERIFIED (R215, R216): the slots of an anchor record have been programmed and verified. -/
def execAnchorRecordVerified (seq : Nat) (s : State) : Answer :=
  .next (match s.wb.anchors.find? (fun a => a.seq = seq ∧ ¬ a.verified) with
    | none => s
    | some a => if s.anchorDone a then s.anchorLive a else s)

/-- The slot of an ended snapshot is free once its record 0x33 has verified and the walker has passed the domain. -/
def State.snapGone (s : State) (k : Nat) : State :=
  match Tbl.find s.sw.snaps k with
  | none => s
  | some x =>
    if x.ending ∧ s.domSize x.dom ≤ x.walker ∧ ¬ s.tp.unverified.any (fun r => decide (r.type = 0x33) && decide (r.entry % 256 = k)) then
      { s with sw := { s.sw with snaps := Tbl.del s.sw.snaps k } }
    else s

/-- Event 0x3107: a record 0x08 makes a line a stranded one that was none before (R158). -/
def State.strandEvent (s : State) (r : JRec) : State :=
  if r.type = 8 ∧ (Tbl.find s.tp.strandIdx r.strandLine).isNone then
    s.event 0x3107 0 (s.domOfPlot r.entry) (lineLo r.strandLine) (lineHi r.strandLine)
  else s

/-- A verified record takes effect (R137), with what follows it; writes that waited for a cut's record 0x31 merge (R396). -/
def State.recordVerified (s : State) (r : JRec) : State :=
  let s := s.strandEvent r
  let s := if recInRick r.type then s else s.recEffect r
  let s := if r.type = 0x31 then
      (match Tbl.find s.sw.snaps r.entry with
       | some x => { s with sw := { s.sw with snaps := Tbl.put s.sw.snaps r.entry { x with cut := true } } }
       | none => s)
    else s
  let s := s.recLive r
  let s := if r.type = 0x33 then s.snapGone (r.entry % 256) else s
  let s := s.recorderAllot.ckptPump.goOn
  if r.type = 0x31 ∧ s.admitting then s.retryWrites (fun (q : Req) => decide (q.dom = r.dom)) else s

/-- Has the oldest record not yet verified been programmed and verified in the ring? -/
def State.recordDone (s : State) (r : JRec) : Bool := match r.pos with | some p => s.ringDone p | none => false

/-- MAP_JOURNAL_VERIFIED (R137): the oldest record not yet verified has been programmed and verified: its change takes effect. -/
def execMapJournalVerified (s : State) : Answer :=
  .next (match s.tp.unverified with
    | [] => s
    | r :: rest =>
      if s.recordDone r then State.recordVerified { s with tp := { s.tp with unverified := rest, verified := r :: s.tp.verified } } r else s)

end Sys2Proof.Machine
end

