-- ==== Sys2Proof/Machine/Host.lean ====
section
/-! DEFINITION. Machine/Host.lean: CXL.mem requests as they arrive (R301, R323, R241), host links (R324 to R326), their resets (R461, R464,
R465), IDE and SPDM (R297, R298). -/

namespace Sys2Proof.Machine

/-! ### Links and LDs in force -/

/-- HI_LINK_STAT of a link. -/
def linkOff (port link : Nat) : Nat := HI + 0x10 + (4 * port + link) * 4
def State.linkUp (s : State) (port link : Nat) : Bool := s.flag (linkOff port link) 31

/-- Configuration in force of LD `i` (R330): its HI_LD_CFG as of the last reset of its link. -/
def State.ldCfgOf (s : State) (i : Nat) : Word := Tbl.get (fun _ => 0) s.host.ldCfg i

/-- LDs of a link in force. -/
def State.ldsOf (s : State) (port link : Nat) : List Nat :=
  (List.range 16).filterMap (fun k =>
    let w := s.ldCfgOf (16 * port + k)
    if bits w 31 31 = 1 ∧ bits w 26 25 = link then some (16 * port + k) else none)

/-- Mode of a port in force (R324): how many links it has. -/
def State.portLinks (s : State) (port : Nat) : Nat := 2 ^ min 2 (bits (s.host.portCfg.getD port 0x50) 1 0)

/-- Is PERST of a port low? -/
def State.perstLow (s : State) (port : Nat) : Bool := if port = 0 then s.pins.perstLow0 else s.pins.perstLow1

/-! ### HDM decoders (R332) -/

/-- Offset of a host address in the device's part of a decoder's range, if the decoder reaches it. -/
def Hdm.offset (d : Hdm) (hpa : Nat) : Option Nat :=
  let o := hpa - d.base
  let chunk := o / d.gran
  if hpa < d.base ∨ d.size ≤ o ∨ chunk % d.ways ≠ d.pos then none else some (chunk / d.ways * d.gran + o % d.gran)

/-- The DPA of a host address under the committed decoders of an LD, the first of them starting at DPA `b`: each takes its skip and then its share of its
range. A CXL.mem command comes with the DPA so found; an address that no decoder reaches is never presented. -/
def hdmDpa : List Hdm → Nat → Nat → Option Nat
  | [], _, _ => none
  | d :: ds, b, hpa =>
    match d.offset hpa with
    | some o => some (b + d.skip + o)
    | none => hdmDpa ds (b + d.skip + d.size / d.ways) hpa

/-! ### Arrival of CXL.mem requests -/

/-- May requests to a domain's range be resolved (R333): static capacity, or an extent that the host has accepted and not released? -/
def State.extentOpen (s : State) (ld d : Nat) : Bool :=
  decide (s.fld (QD + d * 0x20 + 8) 23 0 ≤ bits (s.ldCfgOf ld) 15 0 * 256) || (s.ld ld).extents.any (fun e => decide (e.dom = d) && decide (e.st = 1))

/-- The domain that a DPA of an LD resolves to (R301). -/
def State.resolveDom (s : State) (ld dpa : Nat) : Option Nat :=
  s.validDoms.find? (fun d => decide (s.domLd d = ld) && decide (s.fld (QD + d * 0x20 + 4) 23 0 ≤ dpa / 2 ^ 20) &&
    decide (dpa / 2 ^ 20 < s.fld (QD + d * 0x20 + 8) 23 0) && s.extentOpen ld d)

/-- Requests that a port holds (R241). -/
def State.portHolds (s : State) (port : Nat) : Nat := countIf (fun (r : Req) => decide (r.port = port)) s.host.reqs

/-- A CXL.mem request wakes the part from A2 (Table 15.2). -/
def State.memWake (s : State) : State := if s.power = 2 then s.wake 3 else s

/-- A read or write arrives (R15, R25, R241, R301): until recovery completes it completes with poison; one that no domain serves completes
at once; the others are held by the port. On a link that is down, or a port without credit, nothing arrives, and in a flush no
write is accepted (Table 07.4). -/
def State.memArrive (s : State) (port link ld tag dpa : Nat) (write : Bool) (data : List Byte) (mask : BitVec 64) (poison : Bool) : State :=
  if ¬ s.linkUp port link ∨ 4096 ≤ s.portHolds port ∨ (write ∧ s.flushing) then s
  else
    let s := s.count port (if write then 0x11 else 0x10) 8 1
    let s := if write ∧ mask ≠ fullMask then s.count port 0x12 8 1 else s
    let s := if write then s.count port 0x14 8 1 else s
    let woke := decide (s.power = 2)
    let s := s.memWake
    let r : Req := { id := s.host.nextReq, port := port, link := link, ld := ld, tag := tag, dpa := dpa, write := write, data := data, mask := mask
                     poison := poison, dom := 0, line := 0, cls := 0, tier := 0, anchor := false, st := .arrived, wasHeld := false, woke := woke }
    let s := { s with host := { s.host with nextReq := r.id + 1 } }
    if ¬ s.wb.recovered then (if write then s.completeWrite r none else s.respond r none (List.replicate 64 0) true)
    else
      match s.resolveDom ld dpa with
      | none => s.unresolved r
      | some d =>
        if s.mirrorRole d = .unconfirmed then s.unresolved r
        else
          let plot := s.domPool d + (dpa / 2 ^ 20 - s.fld (QD + d * 0x20 + 4) 23 0)
          let r := { r with dom := d, line := plot * 16384 + dpa % 2 ^ 20 / 64, cls := s.domClass d, tier := s.domTier d, anchor := s.domAnchor d }
          let s := { s with host := { s.host with reqs := s.host.reqs ++ [r] } }
          if s.portHolds port = 4096 then s.eventOnce port 0x6103 port none port 0 else s

/-- MEM_RD (R15). -/
def execMemRd (port link ld tag dpa : Nat) (s : State) : Answer :=
  below port 2 s (below link 4 s (below ld 32 s (.next (s.memArrive port link ld tag dpa false [] 0 false))))

/-- MEM_RD_DATA (R323): served as MemRd. -/
def execMemRdData (port link ld tag dpa : Nat) (s : State) : Answer :=
  below port 2 s (below link 4 s (below ld 32 s (.next (s.memArrive port link ld tag dpa false [] 0 false))))

/-- MEM_WR (R20): a full line. -/
def execMemWr (port link ld tag dpa : Nat) (data : List Byte) (poison : Bool) (s : State) : Answer :=
  below port 2 s (below link 4 s (below ld 32 s (.next (s.memArrive port link ld tag dpa true data fullMask poison))))

/-- MEM_WR_PTL (R101): enables only the bytes of its mask. -/
def execMemWrPtl (port link ld tag dpa : Nat) (data : List Byte) (mask : BitVec 64) (poison : Bool) (s : State) : Answer :=
  below port 2 s (below link 4 s (below ld 32 s (.next (s.memArrive port link ld tag dpa true data mask poison))))

/-- A request that changes nothing completes with Cmp (R323). -/
def State.memCmpOnly (s : State) (port link tag : Nat) : State :=
  if ¬ s.linkUp port link then s
  else
    let s := s.memWake
    let dl := s.devload none false
    (s.emit (.memCmp port tag dl)).count port (0x20 + dl) 8 1

/-- MEM_INV (R323). -/
def execMemInv (port link ld tag _dpa : Nat) (s : State) : Answer :=
  below port 2 s (below link 4 s (below ld 32 s (.next (s.memCmpOnly port link tag))))

/-- MEM_INV_NT (R323). -/
def execMemInvNt (port link ld tag _dpa : Nat) (s : State) : Answer :=
  below port 2 s (below link 4 s (below ld 32 s (.next (s.memCmpOnly port link tag))))

/-- MEM_SPEC_RD (R323): dropped; it wakes the part from A2 as every CXL.mem request does. -/
def execMemSpecRd (port link ld _tag _dpa : Nat) (s : State) : Answer :=
  below port 2 s (below link 4 s (below ld 32 s (.next (if s.linkUp port link then s.memWake else s))))

/-- MEM_UNEXPECTED_OPCODE (R323): a link protocol error. -/
def execMemUnexpectedOpcode (port link _tag opcode : Nat) (s : State) : Answer :=
  below port 2 s (below link 4 s (.next (if s.linkUp port link then s.memWake.emit (.linkProtocolError port link opcode) else s)))

/-! ### Links up and down -/

/-- What was in flight on a link is over (R326): nothing further completes on it. Writes merged stay; everything else is dropped. -/
def State.dropLink (s : State) (port link : Nat) : State :=
  let gone (r : Req) : Bool := decide (r.port = port) && decide (r.link = link)
  let ids := (s.host.reqs.filter gone).map (fun (r : Req) => r.id)
  let s := { s with host := { s.host with reqs := s.host.reqs.filter (fun r => !gone r)
                                          fetches := s.host.fetches.map (fun (f : Fetch) => { f with reqs := f.reqs.filter (fun i => ! ids.contains i) }) } }
  s.gpfCheck

/-- A link goes down: event 0xA102. -/
def State.linkFalls (s : State) (port link : Nat) : State :=
  if s.linkUp port link then ((s.setReg (linkOff port link) 0).dropLink port link).event 0xA102 port none (port + 2 * link) 0 else s.dropLink port link

/-- HOST_LINK_UP (R325): a link that exists under R324, of a port whose PERST is high, trains; event 0xA101 where it is reduced. Until recovery
completes, media status is not ready (R25, Table 12.5). -/
def execHostLinkUp (port link width rate : Nat) (flit256 : Bool) (s : State) : Answer :=
  below port 2 s (below link 4 s (below width 17 s (below rate 6 s (.next (
    if s.portLinks port ≤ link ∨ s.perstLow port ∨ 2 < s.power then s
    else
      let cfg := s.host.portCfg.getD port 0x50
      let w := 16 / s.portLinks port
      let lds := s.ldsOf port link
      let owner := decide (s.host.ownerPort = port) && decide (link = 0)
      let v := 2 ^ 31 + width * 2 ^ 16 + rate * 2 ^ 8 + (if flit256 then 16 else 0) + (if 2 ≤ lds.length then 2 else 0) + (if owner then 1 else 0)
      let s := s.setReg (linkOff port link) (BitVec.ofNat 32 v)
      let s := if width < w ∨ rate < bits cfg 6 4 then s.event 0xA101 port none (port + 2 * link) (width + rate * 2 ^ 8) else s
      if s.wb.recovered then s else lds.foldl (fun (t : State) i => t.cxlRecord i 0 0 0) s)))))

/-- HOST_LINK_DOWN (R326). -/
def execHostLinkDown (port link : Nat) (s : State) : Answer := below port 2 s (below link 4 s (.next (s.linkFalls port link)))

/-! ### Port resets (R461, R464) -/

/-- One link of a port reset: requests end, IDE insecure, its LDs reset, and the configuration of the LDs that name it taken over (R330). -/
def State.resetLink (s : State) (port link : Nat) : State :=
  let s := s.linkFalls port link
  let s := (s.ldsOf port link).foldl (fun (t : State) i => t.resetLd i) s
  let lds := (List.range 16).foldl (fun (t : Tbl Word) k =>
    let i := 16 * port + k
    let w := s.reg (HI + 0x40 + 4 * i)
    if bits w 26 25 = link then Tbl.set (fun _ => 0) t i w else t) s.host.ldCfg
  { s with host := { s.host with ldCfg := lds } }

/-- A port reset (R464) of a whole port, or of one link: event 0xA105, GLB_RST_CNT and GLB_RST_STAT. -/
def State.portReset (s : State) (port : Nat) (link : Option Nat) : State :=
  let (s, p0) : State × Nat := match link with
    | some k => (s.resetLink port k, port + 2 * k)
    | none => ((List.range (s.portLinks port)).foldl (fun (t : State) k => t.resetLink port k) s, port + 8)
  ((s.event 0xA105 port none p0 0).bump (GLB + 0x108) 23 16 1).resetDone 4 p0

/-- HOT_RESET (R464). -/
def execHotReset (port link : Nat) (s : State) : Answer :=
  below port 2 s (below link 4 s (.next (if s.linkUp port link then s.portReset port (some link) else s)))

/-- LINK_DISABLE_RECEIVED (R464). -/
def execLinkDisableReceived (port link : Nat) (s : State) : Answer :=
  below port 2 s (below link 4 s (.next (if s.linkUp port link then s.portReset port (some link) else s)))

/-- Is the warm condition of R461 met with these levels? -/
def State.warmPerst (s : State) (port : Nat) : Bool :=
  if s.flag (GLB + 0x100) 0 then decide (port = s.host.ownerPort) && s.perstLow port else s.pins.perstLow0 && s.pins.perstLow1

/-- Have the PERSTs on which the warm condition stands been low, together, for 100 µs? -/
def State.warmPerstHeld (s : State) (port : Nat) : Bool :=
  let held (at_ : Nat) : Bool := decide (100 ≤ s.tb.tick - at_)
  if s.flag (GLB + 0x100) 0 then held (if port = 0 then s.pins.perstAt0 else s.pins.perstAt1) else held s.pins.perstAt0 && held s.pins.perstAt1

/-- PERST_ASSERT (R461): a wake in A2 and A3 while perst_wake is 1, but not in A3 where it meets the warm condition. -/
def execPerstAssert (port : Nat) (s : State) : Answer :=
  below port 2 s (.next (
    let s := if s.perstLow port then s
      else { s with pins := if port = 0 then { s.pins with perstLow0 := true, perstAt0 := s.tb.tick } else { s.pins with perstLow1 := true, perstAt1 := s.tb.tick } }
    if s.flag (PW + 4) 24 ∧ ¬ (s.power = 3 ∧ s.warmPerst port) then s.wake 2 else s))

/-- PERST_LOW_100US (R461): a warm reset, or a port reset. In Off PERST is ignored. -/
def execPerstLow100us (port : Nat) (s : State) : Answer :=
  below port 2 s (.next (
    if ¬ s.perstLow port ∨ s.power = 4 ∨ s.tb.tick - (if port = 0 then s.pins.perstAt0 else s.pins.perstAt1) < 100 then s
    else if s.warmPerst port ∧ s.warmPerstHeld port then s.warmReset 1
    else s.portReset port none))

/-- PERST_RELEASE (R464): PERST rises; the links of the port may train again. -/
def execPerstRelease (port : Nat) (s : State) : Answer :=
  below port 2 s (.next { s with pins := if port = 0 then { s.pins with perstLow0 := false } else { s.pins with perstLow1 := false } })

/-! ### LD resets (R465) -/

/-- An LD reset of a kind: event 0xA106, GLB_RST_CNT and GLB_RST_STAT. -/
def State.ldReset (s : State) (i kind : Nat) : State :=
  (((s.resetLd i).event 0xA106 i none i kind).bump (GLB + 0x108) 31 24 1).resetDone 5 (i % 256)

/-- Is an LD present? -/
def State.ldThere (s : State) (i : Nat) : Bool := decide (bits (s.ldCfgOf i) 31 31 = 1)

/-- FUNCTION_LEVEL_RESET (R465). -/
def execFunctionLevelReset (ld : Nat) (s : State) : Answer := below ld 32 s (.next (if s.ldThere ld then s.ldReset ld 1 else s))

/-- CXL_RESET (R465). -/
def execCxlReset (ld : Nat) (s : State) : Answer := below ld 32 s (.next (if s.ldThere ld then s.ldReset ld 2 else s))

/-- FM_API_LD_RESET (R465). -/
def execFmApiLdReset (ld : Nat) (s : State) : Answer := below ld 32 s (.next (if s.ldThere ld then s.ldReset ld 3 else s))

/-! ### SPDM and IDE (R297, R298) -/

/-- An SPDM connection: 0 and 1 the DOE of HP0 and HP1, 2 MCTP. -/
def Spdm.fresh : Spdm := { phase := 0, session := 0 }
def State.spdm (s : State) (c : Nat) : Spdm := Tbl.get (fun _ => Spdm.fresh) s.host.spdm c
def State.setSpdm (s : State) (c : Nat) (x : Spdm) : State := { s with host := { s.host with spdm := Tbl.set (fun _ => Spdm.fresh) s.host.spdm c x } }

/-- Answer an SPDM request: allowed (`ok`) with response `code`, else the ERROR response UnexpectedRequest, as SPDM 1.2 orders requests
(PRESUMED: the spec names the standard). -/
def State.spdmAnswer (s : State) (c : Nat) (ok : Bool) (code : Nat) (k : State → List Byte × State) : State :=
  if ok then
    let (b, s) := k s
    s.emit (.spdm c code b)
  else s.emit (.spdm c 0x7F [0x04])

/-- A signature or other value that the part draws: free bytes. -/
def State.drawBytes : Nat → State → List Byte × State
  | 0, s => ([], s)
  | n + 1, s =>
    let (v, s) := s.draw
    let (l, s) := State.drawBytes n s
    (leBytes 8 v.toNat ++ l, s)

/-- The certificate chain of a slot: slot 0 the device identity chain, 1 to 7 as installed. -/
def State.chainOf (s : State) (slot : Nat) : List Byte := if slot = 0 then Config.attestationBytes 0 else (Tbl.find s.gx.chains slot).getD []

/-- SPDM_GET_VERSION: 1.2; the connection starts anew. -/
def execSpdmGetVersion (conn : Nat) (s : State) : Answer :=
  below conn 3 s (.next (s.spdmAnswer conn true 0x04 (fun t => ([0x12], t.setSpdm conn { phase := 1, session := 0 }))))

/-- SPDM_GET_CAPABILITIES. -/
def execSpdmGetCapabilities (conn : Nat) (s : State) : Answer :=
  below conn 3 s (.next (s.spdmAnswer conn (decide ((s.spdm conn).phase = 1)) 0x61 (fun t => (Config.attestationBytes 16, t.setSpdm conn { t.spdm conn with phase := 2 }))))

/-- SPDM_NEGOTIATE_ALGORITHMS: P-384 (bit 7), SHA-384 (bit 1), ECDHE P-384 (bit 4), AES-256-GCM (bit 1), as SPDM 1.2 numbers them. -/
def execSpdmNegotiateAlgorithms (conn : Nat) (s : State) : Answer :=
  below conn 3 s (.next (s.spdmAnswer conn (decide ((s.spdm conn).phase = 2)) 0x63 (fun t => ([0x80, 0x02, 0x10, 0x02], t.setSpdm conn { t.spdm conn with phase := 3 }))))

/-- Has a connection negotiated? -/
def State.spdmReady (s : State) (c : Nat) : Bool := decide ((s.spdm c).phase = 3)

/-- SPDM_GET_DIGESTS: the slots that hold a chain, and the digest of each. -/
def execSpdmGetDigests (conn : Nat) (s : State) : Answer :=
  below conn 3 s (.next (s.spdmAnswer conn (s.spdmReady conn) 0x01 (fun t =>
    let slots := 0 :: t.gx.chains.map (·.1)
    (BitVec.ofNat 8 ((slots.map (fun k => 2 ^ k)).sum) :: slots.flatMap (fun k => Config.sha384 (t.chainOf k)), t))))

/-- Is there a certificate chain in a slot? Slot 0 holds the part's own. -/
def State.hasChain (s : State) (slot : Nat) : Bool := decide (slot < 8) && (decide (slot = 0) || (Tbl.find s.gx.chains slot).isSome)

/-- Answer an SPDM request that names a slot: one without a chain is answered InvalidRequest. -/
def State.spdmSlot (s : State) (c slot code : Nat) (k : State → List Byte × State) : State :=
  if s.spdmReady c ∧ ¬ s.hasChain slot then s.emit (.spdm c 0x7F [0x01]) else s.spdmAnswer c (s.spdmReady c) code k

/-- SPDM_GET_CERTIFICATE: the chain of a slot. -/
def execSpdmGetCertificate (conn slot : Nat) (s : State) : Answer := below conn 3 s (.next (s.spdmSlot conn slot 0x02 (fun t => (t.chainOf slot, t))))

/-- SPDM_CHALLENGE: signed; the signature is a free value. -/
def execSpdmChallenge (conn slot : Nat) (s : State) : Answer :=
  below conn 3 s (.next (s.spdmSlot conn slot 0x03 (fun t =>
    let (sig, t) := State.drawBytes 12 t
    (Config.sha384 (t.chainOf slot) ++ sig, t))))

/-- A number in an image's header, little-endian. -/
def ImageSlot.word (x : ImageSlot) (at_ n : Nat) : Nat := leNat (x.bytes.readBytes at_ n)

/-- Fields of an image's header (Table 13.2). -/
def ImageSlot.version (x : ImageSlot) : Nat := x.word 4 4
def ImageSlot.svn (x : ImageSlot) : Nat := x.word 8 2
def ImageSlot.handoff (x : ImageSlot) : Nat := x.word 10 2
def ImageSlot.handoffMin (x : ImageSlot) : Nat := x.word 12 2

/-- An image slot's bytes up to its length (Table 13.2). -/
def imageBytes (x : ImageSlot) : List Byte := x.bytes.readBytes 0 (512 + leNat (x.bytes.readBytes 16 4))

/-- A measurement (R298): 1 boot ROM, 2 running image, 3 inactive image, 4 every class P setting, 5 fuses. -/
def State.measurement (s : State) (i : Nat) : List Byte :=
  let b := s.flag CP 24
  match i with
  | 2 => Config.sha384 (imageBytes (if b then s.lark.slotB else s.lark.slotA))
  | 3 => Config.sha384 (imageBytes (if b then s.lark.slotA else s.lark.slotB))
  | 4 => Config.sha384 (s.sd.slots.flatMap (fun x => leBytes 4 x.1 ++ leBytes 8 ((seedResolve x.2).value.getD 0)))
  | n => Config.sha384 (Config.attestationBytes n)

/-- SPDM_GET_MEASUREMENTS: one index, or all for index 0xFF; index 0 asks for their number. -/
def execSpdmGetMeasurements (conn index : Nat) (s : State) : Answer :=
  below conn 3 s (.next (
    if s.spdmReady conn ∧ 5 < index ∧ index ≠ 0xFF then s.emit (.spdm conn 0x7F [0x01])
    else s.spdmAnswer conn (s.spdmReady conn) 0x60 (fun t =>
      (if index = 0 then [5] else if index = 0xFF then (List.range 5).flatMap (fun k => t.measurement (k + 1)) else t.measurement index, t))))

/-- SPDM_KEY_EXCHANGE: a session begins. -/
def execSpdmKeyExchange (conn slot : Nat) (s : State) : Answer :=
  below conn 3 s (.next (s.spdmSlot conn slot 0x64 (fun t =>
    let (x, t) := State.drawBytes 24 t
    (x, t.setSpdm conn { t.spdm conn with session := 1 }))))

/-- SPDM_FINISH: the handshake ends; one that does not verify ends the session with a DecryptError. -/
def execSpdmFinish (conn : Nat) (verified : Bool) (s : State) : Answer :=
  below conn 3 s (.next (
    if (s.spdm conn).session = 1 ∧ ¬ verified then (s.setSpdm conn { s.spdm conn with session := 0 }).emit (.spdm conn 0x7F [0x06])
    else s.spdmAnswer conn (decide ((s.spdm conn).session = 1)) 0x65 (fun t => ([], t.setSpdm conn { t.spdm conn with session := 2 }))))

/-- Is a secured session established? -/
def State.spdmSecure (s : State) (c : Nat) : Bool := decide ((s.spdm c).session = 2)

/-- SPDM_KEY_UPDATE. -/
def execSpdmKeyUpdate (conn : Nat) (s : State) : Answer := below conn 3 s (.next (s.spdmAnswer conn (s.spdmSecure conn) 0x69 (fun t => ([], t))))

/-- SPDM_HEARTBEAT. -/
def execSpdmHeartbeat (conn : Nat) (s : State) : Answer := below conn 3 s (.next (s.spdmAnswer conn (s.spdmSecure conn) 0x68 (fun t => ([], t))))

/-- SPDM_END_SESSION. -/
def execSpdmEndSession (conn : Nat) (s : State) : Answer :=
  below conn 3 s (.next (s.spdmAnswer conn (s.spdmSecure conn) 0x6C (fun t => ([], t.setSpdm conn { t.spdm conn with session := 0 }))))

/-- SPDM_GET_CSR: the request is signed; its bytes are a free value. -/
def execSpdmGetCsr (conn : Nat) (s : State) : Answer := below conn 3 s (.next (s.spdmAnswer conn (s.spdmReady conn) 0x6D (State.drawBytes 12)))

/-- SPDM_SET_CERTIFICATE: slots 1 to 7, inside a session that the owner has authorised. -/
def execSpdmSetCertificate (conn slot : Nat) (chain : List Byte) (ownerAuthorised : Bool) (s : State) : Answer :=
  below conn 3 s (.next (
    if s.spdmSecure conn ∧ ownerAuthorised ∧ 0 < slot ∧ slot < 8 then
      (({ s with gx := { s.gx with chains := Tbl.put s.gx.chains slot chain } }).emit (.spdm conn 0x6E [])).swFree
    else s.emit (.spdm conn 0x7F [if s.spdmSecure conn then 0x01 else 0x04])))

/-- IDE_KM_KEY_PROGRAM (R297): over a secured session on the port's DOE, the link's stream becomes secure. -/
def execIdeKmKeyProgram (port link : Nat) (s : State) : Answer :=
  below port 2 s (below link 4 s (.next (if s.spdmSecure port ∧ s.linkUp port link then s.setBit (linkOff port link) 3 true else s)))

/-- IDE_INTEGRITY_FAILURE (R297): the stream goes insecure, event 0x810D, counted; the owner's IDE vector and that of the link's LDs. -/
def execIdeIntegrityFailure (port link : Nat) (s : State) : Answer :=
  below port 2 s (below link 4 s (.next (
    if s.linkUp port link ∧ s.flag (linkOff port link) 3 then
      let s := (s.setBit (linkOff port link) 3 false).bump (GX + 0x3C) 31 0 1
      let s := (s.event 0x810D (4 * port + link) none (4 * port + link) 0).emit (.msix 7)
      (s.ldsOf port link).foldl (fun (t : State) i => t.emit (.hostMsix i 3)) s
    else s)))

end Sys2Proof.Machine
end

