-- ==== Sys2Proof/Machine/Mail.lean ====
section
/-! DEFINITION. Machine/Mail.lean: the end of a domain (R302, R268, R288), the primary mailboxes of the LD functions (R331, R335 to R338), dynamic
capacity (R333, R334) and the FM API. Return codes are those of CXL 3.1 (PRESUMED: the spec names the standard). -/

namespace Sys2Proof.Machine

/-! ### The end of a domain -/

/-- Logical plots of a domain leave it (R288): what the buffer holds of them and no PROGRAM is out for is discarded, cached lines go, and every L0
node is clear-re-seeded. -/
def State.wipePlots (s : State) (p n : Nat) : State :=
  let inside (line : Nat) : Bool := decide (p ≤ linePlot line) && decide (linePlot line < p + n)
  let keep (f : Nat × Frame) : Bool := decide (0 < f.2.progs) || !inside (lineOf s.wb.salt (f.1 / 8) f.2.tag)
  let s := { s with wb := s.wb.withFrames (s.wb.frames.filter keep) }
  (s.cacheDropIf (fun l => !l.isNode && inside l.num)).clearPlots p n

/-- Plots of a domain are clear-re-seeded. -/
def State.clearDomain (s : State) (d : Nat) : State := s.wipePlots (s.domPool d) (s.domSize d)

/-- A rotation of the domain ends with it, or is taken from those waiting: event 0x8103 with parameter 1 = 0x2. -/
def State.dropRotation (s : State) (d : Nat) : State :=
  let s := { s with gx := { s.gx with rotWait := s.gx.rotWait.filter (fun x => ¬ x = d) } }
  match s.gx.rotation with
  | none => s
  | some r =>
    if r.dom ≠ d then s
    else
      let s := { s with gx := { s.gx with rotation := none }, codes := { s.codes with jobs := s.codes.jobs.filter (fun j => ¬ j.kind = JobKind.rotate) } }
      let s := (s.event 0x8103 0 (some d) (if r.target then 1 else 0) 2).rotShow
      match s.gx.rotWait with
      | [] => s
      | e :: es => ({ s with gx := { s.gx with rotWait := es } }).beginRotation e true

/-- A live migration of the domain ends with it (R391 step 4, Table 14.6): while lines are still copied it has failed, with event 0xC301, and the
other node is told. -/
def State.dropMigration (s : State) (d : Nat) : State :=
  if ¬ (s.migActive ∧ s.sw.migDom = d) then s
  else
    let cut := decide (s.sw.migState = 1)
    let s := s.sendTo s.sw.migNode 0 msgKeepalive [1]
    let s := { s with sw := { s.sw.migStop with migState := if cut then 3 else 0 } }
    if cut then s.event 0xC301 (if s.sw.migSource then s.sw.migNode else s.nodeId) (some d) (if s.sw.migSource then s.sw.migNode else s.nodeId) 0 else s

/-- A domain is deleted (R302, R268): its held requests complete unresolved, its window closes, its snapshot is released (R399), its keys are
zeroised and its plots are clear-re-seeded. -/
def State.deleteDomain (s : State) (d : Nat) : State :=
  let s := if s.meterEn d then s.meter d (fun a => { a with deleted := true, partialWin := true }) else s
  let s := (s.snapsOf d).foldl (fun (t : State) k => t.endSnapshot k false) s
  let s := (s.dropRotation d).dropMigration d
  let s := (s.zeroKeys d false).zeroKeys d true
  let s := s.persist (gxDom d) (putBits (s.reg (gxDom d)) 30 28 0)
  let s := s.persistFld (QD + d * 0x20) 31 31 0
  let s := { s with sw := { s.sw with confirmed := s.sw.confirmed.filter (fun x => ¬ x = d) } }
  let i := s.domLd d
  let s := s.setLd i { s.ld i with extents := (s.ld i).extents.filter (fun e => ¬ e.dom = d) }
  let gone := s.host.reqs.filter (fun (r : Req) => decide (r.dom = d) && decide (r.st = .arrived ∨ r.st = .held))
  let s := gone.foldl (fun (t : State) (r : Req) => t.unresolved r) s
  (s.clearDomain d).rescale

/-! ### Mailbox commands -/

/-- Return codes. -/
def rcSuccess : Nat := 0
def rcBackground : Nat := 1
def rcInvalid : Nat := 2
def rcUnsupported : Nat := 3
def rcRetry : Nat := 5
def rcBusy : Nat := 6
def rcAddress : Nat := 0x0F

/-- Does a Sanitize or Secure Erase run (R338)? -/
def State.sanitizing (s : State) : Bool :=
  s.host.lds.any (fun x => decide (x.2.bgState = 1) && decide (x.2.bgOp = 0x4400 ∨ x.2.bgOp = 0x4401))

/-- A mailbox command of an LD that is present: Busy while a Sanitize or Secure Erase runs, else what `k` answers. -/
def State.mailCommand (s : State) (ld opcode : Nat) (k : State → Nat × List Nat × State) : State :=
  if ¬ s.ldThere ld ∨ 2 < s.power then s
  else if s.sanitizing then s.emit (.cxl ld opcode rcBusy [])
  else
    let (rc, vals, s) := k s
    s.emit (.cxl ld opcode rc vals)

/-- A command that reads values. -/
def State.mailRead (s : State) (ld opcode : Nat) (vals : List Nat) : State := s.mailCommand ld opcode (fun t => (rcSuccess, vals, t))

/-- CXL_SET_TIMESTAMP (R39): only while no priority 1 or 2 source has been valid since cold power-on; else ignored, event 0xB406. The command
completes with success either way. -/
def execCxlSetTimestamp (ld stamp : Nat) (s : State) : Answer :=
  below ld 32 s (.next (s.mailCommand ld 0x0301 (fun t =>
    (rcSuccess, [], if t.tb.primarySeen then t.event 0xB406 ld none ld 0
      else
        let t := t.setSource 3
        t.measured ((stamp : Int) - t.cxlStamp - t.absorbLeft)))))

/-- CXL_GET_TIMESTAMP (R42). -/
def execCxlGetTimestamp (ld : Nat) (s : State) : Answer := below ld 32 s (.next (s.mailRead ld 0x0300 [twos 64 s.cxlStamp]))

/-- CXL_IDENTIFY: Device ID and Revision ID (R327). -/
def execCxlIdentify (ld : Nat) (s : State) : Answer := below ld 32 s (.next (s.mailRead ld 0x0001 [0x9400, if Config.revIsB0 then 0xB0 else 0xA0]))

/-- BACKGROUND_OPERATION_STATUS: opcode and state of the background operation (1 running, 2 ended), also during a sanitize. The percentage of a
running one is a free value. -/
def execBackgroundOperationStatus (ld : Nat) (s : State) : Answer :=
  below ld 32 s (.next (
    if ¬ s.ldThere ld ∨ 2 < s.power then s
    else
      let l := s.ld ld
      if l.bgState = 1 then
        let (v, s) := s.draw
        s.emit (.cxl ld 0x0002 rcSuccess [l.bgOp, 1, v.toNat % 100])
      else s.emit (.cxl ld 0x0002 rcSuccess [l.bgOp, l.bgState, if l.bgState = 2 then 100 else 0])))

/-- GET_EVENT_RECORDS (R337): the overflow count of the log and its records, code and parameter, oldest first. -/
def execGetEventRecords (ld log : Nat) (s : State) : Answer :=
  below ld 32 s (.next (s.mailCommand ld 0x0100 (fun t =>
    if 5 ≤ log then (rcInvalid, [], t)
    else
      let l := t.ld ld
      (rcSuccess, (Tbl.find l.overflow log).getD 0 :: ((Tbl.find l.logs log).getD []).flatMap (fun r => [r.1, r.2]), t))))

/-- CLEAR_EVENT_RECORDS (R337): the oldest `count` records of a log are removed, and its overflow fields are cleared. -/
def execClearEventRecords (ld log count : Nat) (s : State) : Answer :=
  below ld 32 s (.next (s.mailCommand ld 0x0101 (fun t =>
    let l := t.ld ld
    let cur := (Tbl.find l.logs log).getD []
    if 5 ≤ log ∨ cur.length < count then (rcInvalid, [], t)
    else
      let rest := cur.drop count
      (rcSuccess, [], t.setLd ld { l with logs := if rest = [] then Tbl.del l.logs log else Tbl.put l.logs log rest, overflow := Tbl.del l.overflow log }))))

/-- GET_EVENT_INTERRUPT_POLICY (R337). -/
def execGetEventInterruptPolicy (ld : Nat) (s : State) : Answer := below ld 32 s (.next (s.mailRead ld 0x0102 [(s.ld ld).policy.toNat]))

/-- SET_EVENT_INTERRUPT_POLICY (R337). -/
def execSetEventInterruptPolicy (ld : Nat) (policy : Word) (s : State) : Answer :=
  below ld 32 s (.next (s.mailCommand ld 0x0103 (fun t => (rcSuccess, [], t.setLd ld { t.ld ld with policy := policy }))))

/-- GET_FW_INFO: slots, the running slot and the versions of both slots. -/
def execGetFwInfo (ld : Nat) (s : State) : Answer :=
  below ld 32 s (.next (s.mailRead ld 0x0200 [2, s.fld CP 25 24, s.lark.slotA.version, s.lark.slotB.version]))

/-- TRANSFER_FW (R338): Unsupported. -/
def execTransferFw (ld : Nat) (s : State) : Answer := below ld 32 s (.next (s.mailCommand ld 0x0201 (fun t => (rcUnsupported, [], t))))

/-- ACTIVATE_FW (R338): Unsupported. -/
def execActivateFw (ld : Nat) (s : State) : Answer := below ld 32 s (.next (s.mailCommand ld 0x0202 (fun t => (rcUnsupported, [], t))))

/-- Opcodes of Table 12.4 that are supported: the Command Effects Log. -/
def mailOpcodes : List Nat :=
  [0x0001, 0x0002, 0x0100, 0x0101, 0x0102, 0x0103, 0x0200, 0x0300, 0x0301, 0x0400, 0x0401, 0x4000, 0x4100, 0x4200, 0x4201, 0x4202, 0x4203,
   0x4204, 0x4300, 0x4301, 0x4302, 0x4303, 0x4304, 0x4305, 0x4400, 0x4401, 0x4800, 0x4801, 0x4802, 0x4803]

/-- GET_SUPPORTED_LOGS: one log, the Command Effects Log, with its number of entries. -/
def execGetSupportedLogs (ld : Nat) (s : State) : Answer := below ld 32 s (.next (s.mailRead ld 0x0400 [1, mailOpcodes.length]))

/-- GET_LOG: the Command Effects Log. -/
def execGetLog (ld : Nat) (s : State) : Answer := below ld 32 s (.next (s.mailRead ld 0x0401 mailOpcodes))

/-- Capacity of an LD in 256 MiB: static, and with its regions (R331). -/
def State.ldStatic (s : State) (ld : Nat) : Nat := bits (s.ldCfgOf ld) 15 0
def State.ldCapacity (s : State) (ld : Nat) : Nat := s.ldStatic ld + (((s.ld ld).regions.map (fun r => r.2.2)).sum)

/-- IDENTIFY_MEMORY_DEVICE (R331): total, volatile and persistent capacity in 256 MiB; poison list 512; no label storage. -/
def execIdentifyMemoryDevice (ld : Nat) (s : State) : Answer :=
  below ld 32 s (.next (s.mailRead ld 0x4000 [s.ldCapacity ld, 0, s.ldCapacity ld, 512, 0]))

/-- GET_PARTITION_INFO (R331): active volatile and persistent capacity; no next. -/
def execGetPartitionInfo (ld : Nat) (s : State) : Answer := below ld 32 s (.next (s.mailRead ld 0x4100 [0, s.ldCapacity ld, 0, 0]))

/-- Is any plot write-protected (R162), or degraded? -/
def State.anyProtected (s : State) : Bool := s.tp.map.any (fun x => x.2.writeProtect)
def State.anyDegraded (s : State) : Bool := s.tp.map.any (fun x => x.2.degraded) || s.tp.nodeMap.any (fun x => x.2.degraded)

/-- Health status (Table 12.5): bit 0 maintenance needed, bit 1 performance degraded, bit 2 replacement needed. -/
def State.healthBits (s : State) (ld : Nat) : Nat :=
  (if s.rk.dirLost ∨ s.validDoms.any (fun d => decide (s.domLd d = ld) && s.quarantined d) then 1 else 0) +
  (if s.anyDegraded ∨ (List.range 40).any (fun c => decide (s.chanState c = 7)) then 2 else 0) + (if s.anyProtected ∨ s.tp.strandIdx ≠ [] then 4 else 0)

/-- GET_HEALTH_INFO (R336): health status, media status (0 normal, 1 not ready, 2 write persistency lost), life used, temperature (the highest valid
on-die sensor, as its code), dirty shutdowns, corrected volatile and corrected persistent errors. -/
def execGetHealthInfo (ld : Nat) (s : State) : Answer :=
  below ld 32 s (.next (
    let media := if ¬ s.wb.recovered then 1 else if s.anyProtected then 2 else 0
    let temp := match s.highest 0 32 with | some v => tempCode v | none => 0
    s.mailRead ld 0x4200 [s.healthBits ld, media, s.fld (TP + 0x20) 31 24, temp, (s.reg (HI + 0xC0)).toNat, s.rk.corrected, s.host.corrected]))

/-- GET_ALERT_CONFIGURATION. -/
def execGetAlertConfiguration (ld : Nat) (s : State) : Answer :=
  below ld 32 s (.next (s.mailRead ld 0x4201 [(s.ld ld).alertLife, (s.ld ld).alertHigh, (s.ld ld).alertLow]))

/-- SET_ALERT_CONFIGURATION. -/
def execSetAlertConfiguration (ld life tempHigh tempLow : Nat) (s : State) : Answer :=
  below ld 32 s (.next (s.mailCommand ld 0x4202 (fun t =>
    (rcSuccess, [], t.setLd ld { t.ld ld with alertLife := life, alertHigh := tempHigh, alertLow := tempLow }))))

/-- GET_SHUTDOWN_STATE: the clean flag of the LD. -/
def execGetShutdownState (ld : Nat) (s : State) : Answer := below ld 32 s (.next (s.mailRead ld 0x4203 [if (s.ld ld).clean then 1 else 0]))

/-- SET_SHUTDOWN_STATE: the clean flag, kept in the Seed store. -/
def execSetShutdownState (ld : Nat) (clean : Bool) (s : State) : Answer :=
  below ld 32 s (.next (s.mailCommand ld 0x4204 (fun t => (rcSuccess, [], t.setLd ld { t.ld ld with clean := clean }))))

/-! ### Poison (R335) -/

/-- GET_POISON_LIST: the overflow flag and timestamp, and the DPAs. -/
def execGetPoisonList (ld : Nat) (s : State) : Answer :=
  below ld 32 s (.next (
    let l := s.ld ld
    s.mailRead ld 0x4300 ((match l.poisonOvf with | some z => [1, z] | none => [0, 0]) ++ l.poison)))

/-- A write that the part makes for a mailbox command, by the path of a host write: none where it has to wait for room. -/
def State.localWrite (s : State) (d line : Nat) (data : List Byte) (mask : BitVec 64) (poison : Bool) : Option State :=
  let (b, s) := s.mergeBar d line s.host.nextReq (s.domAnchor d)
  if s.quarantined d then some s
  else if (s.entry false (linePlot line)).writeProtect then some (s.discardWrite d line)
  else if b ≠ 0 then none
  else
    let x : MirrorRec := ⟨0, d, line, mask, data, poison⟩
    match s.mirrorRole d with
    | .follower _ => some (if (s.routeOf (s.mirrorPeer d)).isSome then s.emit (.mirror x 0) else s)
    | .leader => some ((s.holdWrite d line data mask poison (s.domAnchor d)).2.mirrorOut x 0).2
    | .degraded => some ((s.holdWrite d line data mask poison (s.domAnchor d)).2.setDirty (linePlot line) true)
    | .isolated => some ((s.mergeWrite line d data 0 true (s.domAnchor d)).cacheDrop false line)
    | .alone | .unconfirmed => some (s.holdWrite d line data mask poison (s.domAnchor d)).2

/-- The line of a DPA in a domain (R301). -/
def State.lineOfDpa (s : State) (d dpa : Nat) : Nat :=
  (s.domPool d + (dpa / 2 ^ 20 - s.fld (QD + d * 0x20 + 4) 23 0)) * 16384 + dpa % 2 ^ 20 / 64

/-- INJECT_POISON (R335): accepted only while inject_en is 1; the line becomes poison as under R122. -/
def execInjectPoison (ld dpa : Nat) (s : State) : Answer :=
  below ld 32 s (.next (s.mailCommand ld 0x4301 (fun t =>
    if ¬ t.flag HI 31 then (rcUnsupported, [], t)
    else match t.resolveDom ld dpa with
      | none => (rcAddress, [], t)
      | some d =>
        match t.localWrite d (t.lineOfDpa d dpa) (List.replicate 64 0) 0 true with
        | some u => (rcSuccess, [], u)
        | none => (rcRetry, [], t))))

/-- CLEAR_POISON (R335, R123): the line is written whole without poison, and leaves the list. -/
def execClearPoison (ld dpa : Nat) (data : List Byte) (s : State) : Answer :=
  below ld 32 s (.next (s.mailCommand ld 0x4302 (fun t =>
    match t.resolveDom ld dpa with
    | none => (rcAddress, [], t)
    | some d =>
      match t.localWrite d (t.lineOfDpa d dpa) data fullMask false with
      | some u => (rcSuccess, [], u.setLd ld { u.ld ld with poison := (u.ld ld).poison.filter (fun a => ¬ a / 64 = dpa / 64) })
      | none => (rcRetry, [], t))))

/-! ### Background operations (R338) -/

/-- Start a background operation of an LD: Busy while another of its own runs. -/
def State.background (s : State) (ld opcode : Nat) (k : State → State) : Nat × List Nat × State :=
  if (s.ld ld).bgState = 1 then (rcBusy, [], s)
  else (rcBackground, [], k (s.setLd ld { s.ld ld with bgOp := opcode, bgState := 1 }))

/-- GET_SCAN_MEDIA_CAPABILITIES: supported; the estimated time is a free value. -/
def execGetScanMediaCapabilities (ld : Nat) (s : State) : Answer :=
  below ld 32 s (.next (s.mailCommand ld 0x4303 (fun t =>
    let (v, t) := t.draw
    (rcSuccess, [v.toNat % 2 ^ 32], t))))

/-- SCAN_MEDIA: every line of the range that resolves is read through the ladder with tag check, on engine 0, charged as scrub. -/
def execScanMedia (ld dpa lines : Nat) (s : State) : Answer :=
  below ld 32 s (.next (s.mailCommand ld 0x4304 (fun t =>
    if (t.ldCapacity ld) * 2 ^ 28 < dpa + lines * 64 then (rcInvalid, [], t)
    else t.background ld 0x4304 (fun u =>
      let u := u.setLd ld { u.ld ld with scanHits := [] }
      (List.range lines).foldl (fun (w : State) k =>
        match w.resolveDom ld (dpa + 64 * k) with
        | some d => w.fetchNow (.scan ld) (w.lineOfDpa d (dpa + 64 * k)) d 3 0 0 0 []
        | none => w) u))))

/-- GET_SCAN_MEDIA_RESULTS: the lines found poison. -/
def execGetScanMediaResults (ld : Nat) (s : State) : Answer := below ld 32 s (.next (s.mailRead ld 0x4305 (s.ld ld).scanHits))

/-- Domains of an LD. -/
def State.domsOf (s : State) (ld : Nat) : List Nat := s.validDoms.filter (fun d => decide (s.domLd d = ld))

/-- SANITIZE: forced key rotation of every domain of the LD; the clear re-seed follows when the rotations have ended. -/
def execSanitize (ld : Nat) (s : State) : Answer :=
  below ld 32 s (.next (s.mailCommand ld 0x4400 (fun t => t.background ld 0x4400 (fun u => (u.domsOf ld).foldl (fun (w : State) d => w.wantRotation d true) u))))

/-- SECURE_ERASE: both key generations of every domain of the LD are zeroised and generated anew; the clear re-seed follows. -/
def execSecureErase (ld : Nat) (s : State) : Answer :=
  below ld 32 s (.next (s.mailCommand ld 0x4401 (fun t => t.background ld 0x4401 (fun u =>
    (u.domsOf ld).foldl (fun (w : State) d => (((w.zeroKeys d false).zeroKeys d true).makeKeys d false).makeKeys d true) u))))

/-- Has a background operation of an LD done its work: no scan read out; no rotation of its domains left? -/
def State.bgDone (s : State) (ld : Nat) : Bool :=
  let l := s.ld ld
  if l.bgOp = 0x4304 then !s.host.fetches.any (fun f => decide (f.use = .scan ld))
  else if l.bgOp = 0x4400 then
    let ds := s.domsOf ld
    !(match s.gx.rotation with | some r => decide (r.dom ∈ ds) | none => false) && !s.gx.rotWait.any (fun d => decide (d ∈ ds))
  else true

/-- BACKGROUND_OP_COMPLETE (R338): the work is done; after a Sanitize or Secure Erase the LD's plots are clear-re-seeded. -/
def execBackgroundOpComplete (ld : Nat) (s : State) : Answer :=
  below ld 32 s (.next (
    let l := s.ld ld
    if l.bgState = 1 ∧ s.bgDone ld then
      let s := if l.bgOp = 0x4304 then s else (s.domsOf ld).foldl (fun (t : State) d => t.clearDomain d) s
      (s.setLd ld { s.ld ld with bgState := 2 }).emit (.hostMsix ld 1)
    else s))

/-! ### Dynamic capacity (R333, R334) -/

/-- GET_DC_CONFIGURATION: each region's number, base and length in 256 MiB; blocks of 2 MiB. -/
def execGetDcConfiguration (ld : Nat) (s : State) : Answer :=
  below ld 32 s (.next (s.mailRead ld 0x4800 ((s.ld ld).regions.flatMap (fun r => [r.1, r.2.1, r.2.2]))))

/-- GET_DC_EXTENT_LIST: each extent's domain (its tag), DPA range in plots, and state: 0 pending, 1 accepted, 2 being released. -/
def execGetDcExtentList (ld : Nat) (s : State) : Answer :=
  below ld 32 s (.next (s.mailRead ld 0x4801 ((s.ld ld).extents.flatMap (fun e =>
    [e.dom, s.fld (QD + e.dom * 0x20 + 4) 23 0, s.fld (QD + e.dom * 0x20 + 8) 23 0, e.st]))))

/-- Change the extents of an LD. -/
def State.setExtents (s : State) (ld : Nat) (es : List Extent) : State := s.setLd ld { s.ld ld with extents := es }

/-- ADD_DC_RESPONSE: the host accepts an offered extent, or declines it. -/
def execAddDcResponse (ld dom : Nat) (accept : Bool) (s : State) : Answer :=
  below ld 32 s (.next (s.mailCommand ld 0x4802 (fun t =>
    let es := (t.ld ld).extents
    if es.any (fun e => decide (e.dom = dom) && decide (e.st = 0)) then
      (rcSuccess, [], t.setExtents ld (if accept then es.map (fun e => if e.dom = dom then { e with st := 1 } else e) else es.filter (fun e => ¬ e.dom = dom)))
    else (rcInvalid, [], t))))

/-- RELEASE_DC (R334): the host releases an accepted extent: requests to it are unresolved from now on. -/
def execReleaseDc (ld dom : Nat) (s : State) : Answer :=
  below ld 32 s (.next (s.mailCommand ld 0x4803 (fun t =>
    let es := (t.ld ld).extents
    if es.any (fun e => decide (e.dom = dom) && decide (e.st = 1)) then
      (rcSuccess, [], (t.setExtents ld (es.map (fun e => if e.dom = dom then { e with st := 2 } else e))).cxlRecord ld 4 1 dom)
    else (rcInvalid, [], t))))

/-- EXTENT_RELEASE_COMPLETE (R334): once no request that had resolved to the domain is left, the domain is deleted. -/
def execExtentReleaseComplete (ld dom : Nat) (s : State) : Answer :=
  below ld 32 s (.next (
    if s.domValid dom ∧ (s.ld ld).extents.any (fun e => decide (e.dom = dom) && decide (e.st = 2)) ∧ s.domLd dom = ld ∧ ¬ s.host.reqs.any (fun r => decide (r.dom = dom)) then s.deleteDomain dom
    else s))

/-- CXL_UNSUPPORTED_OPCODE (R338). -/
def execCxlUnsupportedOpcode (ld opcode : Nat) (s : State) : Answer := below ld 32 s (.next (s.mailCommand ld opcode (fun t => (rcUnsupported, [], t))))

/-! ### The FM API -/

/-- Answer an FM command, which Lark serves while it runs. -/
def State.fmCommand (s : State) (k : State → Nat × List Nat × State) : State :=
  if ¬ s.larkUp then s
  else
    let (rc, vals, s) := k s
    s.emit (.fm rc vals)

/-- FM_GET_LD_INFO: pool memory in GiB and the number of LDs. -/
def execFmGetLdInfo (s : State) : Answer := .next (s.fmCommand (fun t => (rcSuccess, [t.usable, 32], t)))

/-- FM_GET_LD_ALLOCATIONS: static capacity of every LD in 256 MiB. -/
def execFmGetLdAllocations (s : State) : Answer :=
  .next (s.fmCommand (fun t => (rcSuccess, (List.range 32).map (fun i => t.fld (HI + 0x40 + 4 * i) 15 0), t)))

/-- FM_SET_LD_ALLOCATIONS: HI_LD_CFG changes only through the owner's authenticated commands (R330, R10), and an FM API command carries no
authentication; the command is answered with the allocation in force and changes nothing (DESIGN CHOICE: the spec states no answer). -/
def execFmSetLdAllocations (ld _static256m : Nat) (s : State) : Answer :=
  .next (s.fmCommand (fun t => if 32 ≤ ld then (rcInvalid, [], t) else (rcSuccess, [t.fld (HI + 0x40 + 4 * ld) 15 0], t)))

/-- FM_SET_DC_REGION_CONFIG (R333): a region behind the static capacity that overlaps no other; length 0 removes it. -/
def execFmSetDcRegionConfig (ld region base256m len256m : Nat) (s : State) : Answer :=
  below ld 32 s (.next (s.fmCommand (fun t =>
    let l := t.ld ld
    let others := l.regions.filter (fun r => ¬ r.1 = region)
    if 8 ≤ region then (rcInvalid, [], t)
    else if len256m = 0 then (rcSuccess, [], t.setLd ld { l with regions := others })
    else if base256m < t.ldStatic ld ∨ others.any (fun r => decide (r.2.1 < base256m + len256m) && decide (base256m < r.2.1 + r.2.2)) then (rcInvalid, [], t)
    else (rcSuccess, [], t.setLd ld { l with regions := Tbl.put l.regions region (base256m, len256m) }))))

/-- FM_INITIATE_DC_ADD (R333, Table 12.3): the range is that of one valid domain of the LD, lies in one region, its tag names the domain, and no
extent of it is pending or accepted. -/
def execFmInitiateDcAdd (ld dpaPlot plots tag : Nat) (s : State) : Answer :=
  below ld 32 s (.next (s.fmCommand (fun t =>
    let l := t.ld ld
    let fits : Bool := decide (tag < 4096) && t.domValid tag && decide (t.domLd tag = ld) && decide (t.fld (QD + tag * 0x20 + 4) 23 0 = dpaPlot) &&
      decide (t.fld (QD + tag * 0x20 + 8) 23 0 = dpaPlot + plots)
    let inRegion : Bool := l.regions.any (fun r => decide (r.2.1 * 256 ≤ dpaPlot) && decide (dpaPlot + plots ≤ (r.2.1 + r.2.2) * 256))
    if fits ∧ inRegion ∧ ¬ l.extents.any (fun e => decide (e.dom = tag)) then
      (rcSuccess, [], (t.setExtents ld (l.extents ++ [⟨tag, 0⟩])).cxlRecord ld 4 0 tag)
    else (rcInvalid, [], t))))

/-- FM_INITIATE_DC_RELEASE (R333, Table 12.3): a pending extent is withdrawn; of an accepted one the host is asked to release it. Busy during a
sanitize. -/
def execFmInitiateDcRelease (ld dom : Nat) (s : State) : Answer :=
  below ld 32 s (.next (s.fmCommand (fun t =>
    let es := (t.ld ld).extents
    if t.sanitizing then (rcBusy, [], t)
    else match es.find? (fun e => e.dom = dom) with
      | none => (rcInvalid, [], t)
      | some e =>
        if e.st = 0 then (rcSuccess, [], t.setExtents ld (es.filter (fun x => ¬ x.dom = dom)))
        else (rcSuccess, [], t.cxlRecord ld 4 1 dom))))

end Sys2Proof.Machine
end

