-- ==== Sys2Proof/Machine/Domain.lean ====
section
/-! DEFINITION. Machine/Domain.lean: the creation and the change of domains (R300, R302, R312, R313). A change is tried on a copy of the state, which is
tested as it would then stand. -/

namespace Sys2Proof.Machine

/-- First and last-plus-one DPA plot of a domain. -/
def State.domBase (s : State) (d : Nat) : Nat := s.fld (QD + d * 0x20 + 4) 23 0
def State.domLimit (s : State) (d : Nat) : Nat := s.fld (QD + d * 0x20 + 8) 23 0

/-- The range conditions of R300 on domain `d` among the valid ones, but for the anchor count. -/
def State.rangeOk (s : State) (d : Nat) : Bool :=
  let others := s.validDoms.filter (fun e => ¬ e = d)
  decide (s.domBase d < s.domLimit d) && decide (s.domLimit d ≤ s.ldCapacity (s.domLd d) * 256) &&
  others.all (fun e => decide (s.domLd e ≠ s.domLd d) || decide (s.domLimit e ≤ s.domBase d) || decide (s.domLimit d ≤ s.domBase e)) &&
  decide (s.domPool d + s.domSize d ≤ s.usable * 1024) &&
  others.all (fun e => decide (s.domPool e + s.domSize e ≤ s.domPool d) || decide (s.domPool d + s.domSize d ≤ s.domPool e))

/-- Sum of g over the valid domains that satisfy a test. -/
def State.sumG (s : State) (p : Nat → Bool) : Nat := ((s.validDoms.filter p).map s.domG).sum

/-- Do the domains of every host link fit its configured width (R312 test 2)? -/
def State.linksFit (s : State) : Bool :=
  (List.range 2).all (fun port => (List.range (s.portLinks port)).all (fun link =>
    let lds := s.ldsOf port link
    decide (s.sumG (fun d => decide (s.domLd d ∈ lds)) ≤ s.fld (QS + 4) 27 16 * (16 / s.portLinks port) * (100 - s.fld QS 15 8) / 1600)))

/-- The first of the tests `ts` of R312 that fails, or 0. -/
def State.admitFails (s : State) (ts : List Nat) : Nat :=
  let holds (k : Nat) : Bool :=
    if k = 1 then decide (s.committed ≤ s.qs.g)
    else if k = 2 then s.linksFit
    else if k = 3 then decide (s.sumG (fun d => decide (s.domClass d = 0)) ≤ s.qs.g * s.fld QS 23 16 / 100)
    else if k = 4 then decide (s.sumG (fun d => decide (s.domClass d ≤ 1)) ≤ s.qs.g * s.fld QS 31 24 / 100)
    else decide (countIf (fun d => s.domAnchor d) s.validDoms ≤ 4)
  (ts.find? (fun k => !holds k)).getD 0

/-- A domain command with guarantee `g` is refused by a test (R313). -/
def State.refuseDomain (s : State) (d g code : Nat) : State := (s.bump (QS + 0xE0) 31 0 1).event 0x9103 0 (some d) g code

/-- The words of a domain's entry (Tables 11.1, 11.2). -/
def domainWords (x : DomainSpec) : List (Nat × Word) :=
  let o := QD + x.dom * 0x20
  let bit (b : Bool) (k : Nat) : Nat := if b then 2 ^ k else 0
  [(o, BitVec.ofNat 32 (2 ^ 31 + x.ld % 32 * 2 ^ 24 + x.tier % 4 * 2 ^ 20 + x.cls % 4 * 2 ^ 16 + bit x.anchor 15 + bit x.mirror 14 + bit x.meterEn 13 + bit x.userCtr 12 + x.dom)),
   (o + 4, BitVec.ofNat 32 (x.dpaBase % 2 ^ 24)), (o + 8, BitVec.ofNat 32 (x.dpaLimit % 2 ^ 24)), (o + 0xC, BitVec.ofNat 32 (x.poolBase % 2 ^ 24)),
   (o + 0x10, BitVec.ofNat 32 (x.burst % 2 ^ 16 * 2 ^ 16 + x.g % 2 ^ 16)), (o + 0x14, BitVec.ofNat 32 (x.beCeiling % 2 ^ 16))]

/-- Create a domain (R300, R312): 0 and the state with it, or the failed test's code (R313) and the refusal. A new key set of generation 0 is
drawn (R266), which the domain's plots then name. -/
def State.createDomain (s : State) (x : DomainSpec) : Nat × State :=
  if s.domValid x.dom ∨ 4096 ≤ x.dom then (6, s.refuseDomain x.dom x.g 6)
  else
    let t := (domainWords x).foldl (fun (t : State) w => t.setReg w.1 w.2) s
    let code := if ¬ t.rangeOk x.dom then 6 else t.admitFails [1, 2, 3, 4, 5]
    if code ≠ 0 then (code, s.refuseDomain x.dom x.g code)
    else
      let s := (domainWords x).foldl (fun (t : State) w => t.persist w.1 w.2) s
      let s := s.makeKeys x.dom false
      let s := s.persist (gxDom x.dom) (putBits (s.reg (gxDom x.dom)) 30 28 1)
      let s := ((s.domPlots x.dom).filter (fun i => (s.flagsSoon false i).keyGen)).foldl (fun (t : State) i =>
        t.journalFlags false i (fun e => { e with keyGen := false, rotating := false })) s
      let s := s.setBucket x.dom ⟨0, 0⟩
      let s := (s.meter x.dom (fun a => { a with partialWin := true })).rescale
      (0, match s.partnerNode with
        | some n => if x.mirror then s.sendBind n x.dom false else s
        | none => s)

/-- Change a domain (R302, R312): a rise in g must pass every test, a change of class tests 3 and 4, a set anchor test 5. -/
def State.modifyDomain (s : State) (d : Nat) (c : DomainChange) : Nat × State :=
  let o := QD + d * 0x20
  let put (w : Word) (hi lo : Nat) (v : Option Nat) : Word := match v with | some x => putBits w hi lo x | none => w
  let putB (w : Word) (k : Nat) (v : Option Bool) : Word := match v with | some b => putBits w k k (if b then 1 else 0) | none => w
  let cfg := putB (putB (putB (put (put (s.reg o) 21 20 c.tier) 17 16 c.cls) 15 c.anchor) 13 c.meterEn) 12 c.userCtr
  let rate := put (put (s.reg (o + 0x10)) 15 0 c.g) 31 16 c.burst
  let be := put (s.reg (o + 0x14)) 15 0 c.beCeiling
  let t := ((s.setReg o cfg).setReg (o + 0x10) rate).setReg (o + 0x14) be
  let ts := if s.domG d < t.domG d then [1, 2, 3, 4, 5]
    else (if s.domClass d ≠ t.domClass d then [3, 4] else []) ++ (if t.domAnchor d ∧ ¬ s.domAnchor d then [5] else [])
  let code := t.admitFails ts
  if code ≠ 0 then (code, s.refuseDomain d (t.domG d) code)
  else (0, (((s.persist o cfg).persist (o + 0x10) rate).persist (o + 0x14) be).rescale)

end Sys2Proof.Machine
end

