-- ==== Sys2Proof/Machine/Sward.lean ====
section
/-! DEFINITION. Machine/Sward.lean: the Sward commands (14): links and formation, fabric time, peer commands, mirrored pairs and live migration, global
operations, snapshots and fabric reset. -/

namespace Sys2Proof.Machine

/-! ### Links (R371 to R373, R376) -/

/-- SWARD_LINK_UP (R371, R378): a port has trained all four lanes at the full rate; its session follows, and with a good hello the fabric forms
again. A retraining port goes on. A node with no slot 1 chain brings up no port (R373). -/
def execSwardLinkUp (port : Nat) (s : State) : Answer :=
  below port 8 s (.next (
    if s.sqState ≠ 2 ∨ ¬ s.flag SW (16 + port) ∨ (Tbl.find s.gx.chains 1).isNone ∨ port ∈ s.sw.held then s
    else if s.flag (portOff port) 0 then s.setSwPort port { s.swPort port with replays := 0 }
    else (s.setBit (portOff port) 0 true).setSwPort port SwPort.fresh))

/-- SWARD_LINK_DOWN (R378): traffic takes the alternate port, and the root forms the fabric again. -/
def execSwardLinkDown (port : Nat) (s : State) : Answer :=
  below port 8 s (.next (if s.flag (portOff port) 0 then s.swDown port false
    else { s with sw := { s.sw with held := s.sw.held.filter (fun p => ¬ p = port) } }))

/-- SWARD_LINK_SESSION (R373): the link session has completed, and the hello is sent; or it has failed, and the port is held down with event
0xC103. -/
def execSwardLinkSession (port : Nat) (ok : Bool) (s : State) : Answer :=
  below port 8 s (.next (
    if ¬ s.flag (portOff port) 0 then s
    else if ok then
      let s := s.setBit (portOff port) 1 true
      if s.flag SW 31 then s.sendHello port else s
    else ((s.swDown port true).bump (SW + 0x804) 31 0 1).event 0xC103 port none port 0))

/-- SWARD_HELLO (R376): the link is held down with event 0xC103 where the fabric IDs differ, a bond port meets anything but the partner's bond
ports, or a torus port meets a port that is not its opposite; else it carries traffic, and the fabric forms again. What the partner says of its own
partner and leadership is kept (R383, R388; DESIGN CHOICE: that a hello says who leads). -/
def execSwardHello (port peerPort fabricId : Nat) (peerUid peerPartner : DWord) (peerLeads : Bool) (s : State) : Answer :=
  below port 8 s (.next (
    if ¬ (s.flag (portOff port) 0 ∧ s.flag (portOff port) 1 ∧ s.flag SW 31) then s
    else
      let partner := decide (peerUid.toNat = s.partnerUid)
      let bad := decide (fabricId ≠ s.fld SW 15 0) ||
        (if 6 ≤ port then !partner || decide (peerPort < 6) else decide (peerPort ≠ (if port % 2 = 0 then port + 1 else port - 1)))
      if bad then (s.swDown port true).event 0xC103 port none port 0
      else
        let s := s.setSwPort port { s.swPort port with peerUid := peerUid, peerPort := peerPort, helloOk := true }
        let s := s.setFld (portOff port) 18 16 peerPort
        let s := if partner then { s with sw := { s.sw with peerNames := decide (peerPartner = Config.uid), peerLeads := peerLeads } } else s
        s.reform))

/-- What a port sent has arrived: its replays count from the beginning (R372; DESIGN CHOICE: the table has no row for a link acknowledgement of a Sward
port, and a link delay exchange and a mirror acknowledgement stand for it). -/
def State.swProgress (s : State) (p : Nat) : State :=
  if 0 < (s.swPort p).replays ∧ (s.swPort p).replays < 8 then s.setSwPort p { s.swPort p with replays := 0 } else s

/-- SWARD_REPLAY_TIMEOUT (R372): what is not acknowledged is replayed; the eighth replay in a row retrains the port, with event 0xC101. -/
def execSwardReplayTimeout (port : Nat) (s : State) : Answer :=
  below port 8 s (.next (
    let x := s.swPort port
    if ¬ s.flag (portOff port) 0 ∨ 8 ≤ x.replays then s
    else
      let s := s.count 9 0xB8 8 1
      if x.replays + 1 < 8 then s.setSwPort port { x with replays := x.replays + 1 }
      else (s.swRetrain port).event 0xC101 port none port 0))

/-- SWARD_RETRAIN_TIMEOUT (R372): a port that has not retrained within 100 us goes down. -/
def execSwardRetrainTimeout (port : Nat) (s : State) : Answer :=
  below port 8 s (.next (if (s.swPort port).replays = 8 then (s.setSwPort port { s.swPort port with replays := 0 }).swDown port false else s))

/-- SWARD_KEY_UPDATE_COUNT (R373): after every 2^32 flits the session keys are renewed. -/
def execSwardKeyUpdateCount (port : Nat) (s : State) : Answer :=
  below port 8 s (.next (if s.flag (portOff port) 1 then s.sendOn port 2 msgKeyUpdate [] else s))

/-! ### Formation (R377 to R380) -/

/-- FORMATION_UID_FLOOD (R377): a lower UID than the lowest known is taken and flooded on, and this node reports its links toward it. A node that
had formed begins anew. -/
def execFormationUidFlood (port : Nat) (uid : DWord) (s : State) : Answer :=
  below port 8 s (.next (
    if ¬ (s.flag SW 31 ∧ s.swUp port) then s
    else
      let s := if s.swState = 1 then s else s.reform
      if uid.toNat < s.sw.lowUid.toNat then
        let s := ({ s with sw := { s.sw with lowUid := uid, rootPort := some port } }).setReg64 (SW + 0xC) uid.toNat
        let s := (s.setFld (SW + 8) 31 29 1).setBit (SW + 8) 28 false
        let s := s.flood (s.swPorts.filter (fun p => ¬ p = port))
        s.sendOn port 2 msgReport (s.ownLinks.flatMap (fun (l : LinkRep) => [l.uidA.toNat, l.portA, l.uidB.toNat, l.portB]))
      else s))

/-- FORMATION_LINK_REPORT (R377): the root takes a node's report, and forms once it has all; another node passes it on toward the root. -/
def execFormationLinkReport (links : List LinkRep) (s : State) : Answer :=
  .next (
    if s.swState ≠ 1 then s
    else if s.sw.lowUid = Config.uid then
      let keep := s.sw.links.filter (fun (l : LinkRep) => !links.any (fun (x : LinkRep) => decide (x.uidA = l.uidA)))
      ({ s with sw := { s.sw with links := keep ++ links } }).formTry
    else match s.sw.rootPort with
      | some p => if s.swUp p then s.sendOn p 2 msgReport (links.flatMap (fun (l : LinkRep) => [l.uidA.toNat, l.portA, l.uidB.toNat, l.portB])) else s
      | none => s)

/-- ROUTING_TABLES (R377, R379): the root's message: this node's ID, the nodes, the torus, its place in the spanning tree, the IDs of all nodes and its
table. A node that gets no ID (256 or above here) holds its links down, with event 0xC104. -/
def execRoutingTables (nodeId nodesM1 : Nat) (ext : List Nat) (whole : Bool) (tree : List Nat) (ids : List (DWord × Nat)) (rows : List (Nat × Word)) (s : State) : Answer :=
  .next (
    if s.swState ≠ 1 ∨ s.sw.lowUid = Config.uid then s
    else if 256 ≤ nodeId then s.swPorts.foldl (fun (t : State) p => (t.swClose p true).event 0xC104 p none p 0) s
    else s.formed nodeId nodesM1 ext whole tree ids rows)

/-- A live migration fails (R391, Table 14.6): event 0xC301. -/
def State.migFail (s : State) : State :=
  if s.sw.migState = 1 then
    ({ s with sw := { s.sw.migStop with migState := 3 } }).event 0xC301 (if s.sw.migSource then s.sw.migNode else s.nodeId) (some s.sw.migDom) (if s.sw.migSource then s.sw.migNode else s.nodeId) 0
  else s

/-- A destination is unreachable after 8 sends (R380): counted, and told to the service; a migration that was to prepare its target fails, and so does
a barrier. -/
def State.unreachable (s : State) (dest msg : Nat) : State :=
  let s := (s.bump (SW + 0x80C) 31 0 1).setSends dest msg 0
  let s := if msg = 0x0715 ∧ s.sw.barrier = 1 then { s with sw := { s.sw with barrier := 3 } } else s
  if msg = 0x0712 ∧ s.sw.migSource ∧ s.sw.migNode = dest then s.migFail else s

/-- Send a message again: a mirror record, a forwarded write or a peer command. -/
def State.sendAgain (s : State) (dest msg : Nat) : State :=
  if msg < 2 ^ 32 then s.sendTo dest 2 msgResend [msg]
  else if (s.routeOf dest).isNone then s
  else if msg % 2 = 0 then
    match s.sw.outstanding.find? (fun r => decide (mirrorMsg r.seq = msg)) with
    | none => s
    | some r =>
      let vc := if s.sw.resyncUnacked.any (fun x => decide (x.2 = r.seq)) then 1 else 0
      (s.emit (.mirror r vc)).count 9 (0xB0 + vc) 8 1
  else
    match s.host.reqs.find? (fun (r : Req) => decide (forwardMsg r.id = msg)) with
    | none => s
    | some r => s.emitForward r

/-- END_TO_END_RESEND (R380): a message has had no acknowledgement for 100 us. A peer command answered BUSY goes by R382. -/
def execEndToEndResend (dest msg : Nat) (s : State) : Answer :=
  .next (
    match s.sw.sends.find? (fun (x : Sending) => decide (x.dest = dest) && decide (x.msg = msg)) with
    | none => s
    | some x =>
      if s.tb.tick < x.tick + 100 ∨ (Tbl.find s.sw.peerBusy msg).isSome then s
      else if 8 ≤ x.times then s.unreachable dest msg
      else (((s.setSends dest msg (x.times + 1)).bump (SW + 0x808) 31 0 1).count 9 0xBD 8 1).sendAgain dest msg)

/-! ### Fabric time (R381) -/

/-- LINK_DELAY_EXCHANGE (R381): the delay of a link as measured; an exchange both ways shows that its flits arrive. -/
def execLinkDelayExchange (port delayNs : Nat) (s : State) : Answer :=
  below port 8 s (.next (if s.swUp port then (s.setSwPort port { s.swPort port with delayNs := delayNs }).swProgress port else s))

/-- Fabric time `z` steers ztime while it is the source (R32, Table 02.4). -/
def State.fabricOffset (s : State) (z : Int) : State :=
  let r : Int := z - (s.tb.ztime + s.absorbLeft)
  let n : Nat := if r.natAbs ≤ 1000 then s.tb.inPhase + 1 else 0
  let s : State := { s with tb := { s.tb with inPhase := n } }
  let s := if 64 ≤ n ∧ s.tbState = 1 then s.setTbState 2 else s
  let s := if s.tbState = 2 then (let (v, t) := s.draw; t.setReg (TB + 0x18) (v.truncate 32)) else s
  s.sourceOffset r

/-- A fabric time update has come (R32). -/
def State.noteFabric (s : State) : State :=
  let gap : Bool := match s.tb.fabricTick with | some t => decide (1500000 < s.tb.tick - t) | none => true
  let since := if gap then some s.tb.tick else s.tb.fabricSince.or (some s.tb.tick)
  { s with tb := { s.tb with fabricTick := some s.tb.tick, primarySeen := true, fabricSince := since } }

/-- What a time message shows and sets here (R32, R40, R43, R381). -/
def State.fabricTaken (s : State) (z leap : Int) (announced hops master : Nat) : State :=
  let s : State := ((s.setReg (SW + 0x30) (BitVec.ofNat 32 (master % 256 + min hops 15 * 256))).setBit (SW + 8) 26 true).setBit (SW + 8) 27 false
  let s : State := (s.takeLeap leap).announce announced
  if s.source = 2 then s.fabricOffset z else s

/-- FABRIC_TIME_MESSAGE (R381, R32, R40, R43, Table 02.4): a time message from the master, `hops` links away, has come in on a port. It is corrected by
that link's delay, used as the fabric source, and passed on to the neighbours that are farther from the master: those that no path to it goes through. -/
def execFabricTimeMessage (port : Nat) (ztime leap : Int) (announced hops master : Nat) (s : State) : Answer :=
  below port 8 s (.next (
    if s.swState ≠ 2 ∨ ¬ s.swUp port then s
    else
      let z : Int := ztime + (s.swPort port).delayNs
      let s := ((s.count 9 0xB7 8 1).noteFabric).fabricTaken z leap announced hops master
      let o := SW + 0x400 + 4 * (master % 256)
      let nearer (p : Nat) : Bool := decide (p = port) || (s.flag o 3 && decide (p = s.fld o 2 0)) || (s.flag o 7 && decide (p = s.fld o 6 4))
      (s.swPorts.filter (fun p => !nearer p)).foldl (fun (t : State) p =>
        t.sendOn p 3 msgTime [twos 64 z, twos 16 leap, announced, hops + 1, master]) s))

/-- PPS_EDGE (R36, R381): the time base takes the edge. The master (LOCKED with source PPS, and no valid master with a lower ID) sends the time. -/
def execPpsEdge (s : State) : Answer :=
  .next (
    let s := s.ppsEdge
    let lower := s.flag (SW + 8) 26 && !s.flag (SW + 8) 27 && decide (s.fld (SW + 0x30) 7 0 < s.nodeId)
    if s.swState = 2 ∧ s.tbState = 2 ∧ s.source = 1 ∧ ¬ lower then
      let s := ((s.setReg (SW + 0x30) (BitVec.ofNat 32 s.nodeId)).setBit (SW + 8) 26 true).setBit (SW + 8) 27 true
      s.swPorts.foldl (fun (t : State) p => t.sendOn p 3 msgTime [t.tb.ztime, twos 16 t.leap, t.tb.leapArmed, 1, t.nodeId]) s
    else if s.flag (SW + 8) 27 then (s.setBit (SW + 8) 26 false).setBit (SW + 8) 27 false
    else s)

/-! ### The mirror stream (R385 to R387, R390) -/

/-- FORWARDED_WRITE (R385): the leader orders a write that the follower has received. A migration's carries a number from `migBase` on and names the
destination's domain and line. One that has come before is not ordered again (R380). -/
def execForwardedWrite (r : MirrorRec) (s : State) : Answer :=
  .next (
    let r : MirrorRec := if migBase ≤ r.seq ∧ s.sw.migSource then
        { r with dom := s.sw.migDom, line := r.line - s.sw.migPool * 16384 + s.domPool s.sw.migDom * 16384 }
      else r
    if ¬ s.admitting ∨ s.mirrorRole r.dom ≠ .leader ∨ r.seq ∈ s.sw.fwdSeen then s
    else (({ s with sw := { s.sw with fwd := s.sw.fwd ++ [r], fwdSeen := s.sw.fwdSeen ++ [r.seq] } }).count 9 0xB4 8 1).streamPump)

/-- MIRROR_RECORD (R385, R386): the follower merges records strictly in sequence order and acknowledges each; one that has merged before is
acknowledged again. `perr`: what Rick found at the lookups (R263). -/
def execMirrorRecord (r : MirrorRec) (perr : Perr) (s : State) : Answer :=
  .next (
    let mine := if migBase ≤ r.seq then s.migFollows r.dom
      else s.domMirror r.dom && !s.flag (SW + 0x1C) 27 && decide (s.mirrorState = 2 ∨ s.mirrorState = 5)
    if ¬ s.admitting ∨ ¬ mine then s
    else
      let s := (s.count 9 0xB4 8 1)
      let s := if perr = .none then s else s.rickError perr r.line r.dom
      if r.seq < s.mirrorNext r.seq then s.mirrorAckOut r.seq
      else if s.sw.early.any (fun x => decide (x.seq = r.seq)) then s
      else ({ s with sw := { s.sw with early := s.sw.early ++ [r] } }).streamPump)

/-- Is this node copying to another: in RESYNC as leader, or as the source of a live migration? And is a plot among those that are copied? -/
def State.copies (s : State) (p : Nat) : Bool :=
  match s.domOfPlot p with
  | some d => (s.migCopies d && decide (s.sw.migState = 1)) || (s.domMirror d && decide (s.mirrorState = 5) && s.leads)
  | none => false

/-- Is everything copied? The pair enters MIRRORED (R390); a migration's domains stay mirrored until the source is deleted, and a copied snapshot's do
not (R391, R400), with event 0xC301. -/
def State.copyDone (s : State) : State :=
  let s := if s.mirrorState = 5 ∧ s.leads ∧ s.dirtyMirrored = [] then s.resyncEnd else s
  let d := s.sw.migDom
  if s.sw.migSource ∧ s.sw.migState = 1 ∧ ¬ (s.dirtyFrom 0).any (fun p => decide (s.domPool d ≤ p) && decide (p < s.domPool d + s.domSize d)) then
    ({ s with sw := { s.sw with migState := if s.sw.migSnap.isSome then 0 else 2 } }).event 0xC301 s.sw.migNode (some d) s.sw.migNode 0
  else s

/-- MIRROR_ACK (R385, R390): the other member holds the write of this number: its completion is returned, unless an anchor record is still waited
for; a plot whose every line is acknowledged is no longer dirty. -/
def execMirrorAck (seq : Nat) (s : State) : Answer :=
  .next (
    let s := s.count 9 0xB4 8 1
    let s := { s with sw := { s.sw with outstanding := s.sw.outstanding.filter (fun r => ¬ r.seq = seq)
                                        lastAck := s.tb.tick, sends := s.sw.sends.filter (fun (x : Sending) => ¬ x.msg = mirrorMsg seq) } }
    let s := match s.routeOf (if migBase ≤ seq then s.sw.migNode else s.fld (SW + 0x1C) 23 16) with
      | some p => s.swProgress p
      | none => s
    let s := s.host.reqs.foldl (fun (t : State) (r : Req) =>
      match r.st with
      | .mirrorWait q => if q = seq ∧ 0 < q then t.finishWrite r 0 else t
      | .bothWait a q => if q = seq then t.setReq { r with st := .anchorWait a } else t
      | .arrived | .held | .setWait | .limitWait | .fetching | .anchorWait _ | .throughWait | .cutWait => t) s
    let plots := (s.sw.resyncUnacked.filter (fun x => decide (x.2 = seq))).map (fun x => x.1)
    let s := { s with sw := { s.sw with resyncUnacked := s.sw.resyncUnacked.filter (fun x => ¬ x.2 = seq) } }
    let clean := plots.filter (fun p => decide ((p + 1) * 16384 ≤ s.sw.resyncLine) && !s.sw.resyncUnacked.any (fun x => decide (x.1 = p)) &&
      !s.host.fetches.any (fun f => decide (linePlot f.line = p) && decide (f.use = .sward ∨ f.use = .held)))
    let s := clean.foldl (fun (t : State) p => t.setDirty p false) s
    if plots.isEmpty then s else s.copyDone)

/-- KEEPALIVE (R387): from the partner, or (`mig`) the other node of a live migration; `synced` is the leader's word that everything is copied, and
`gone` that the migration's source domain has been deleted (R391 step 4, Table 14.6; DESIGN CHOICE: the spec does not say how the other end learns
either). -/
def execKeepalive (mig : Bool) (word : KeepaliveWord) (s : State) : Answer :=
  .next (
    if mig then
      if s.sw.migSource ∨ ¬ s.migActive then s
      else if word = .gone then
        if s.sw.migState = 1 then (s.migFail).deleteDomain s.sw.migDom else { s with sw := { s.sw.migStop with migState := 0 } }
      else if word = .synced ∧ s.sw.migState = 1 then { s with sw := { s.sw with migState := if s.sw.migSnap.isSome then 0 else 2 } } else s
    else
      let s := { s with sw := { s.sw with lastKeepalive := s.tb.tick } }
      if word = .synced ∧ s.mirrorState = 5 ∧ ¬ s.leads then s.resyncEnd else s)

/-- The partner is lost (R387): the leader in DEGRADED completes what waited for it, and marks dirty what was not acknowledged; the follower in
ISOLATED completes, discards and makes poison what it had forwarded. -/
def State.partnerLost (s : State) : State :=
  let n := s.fld (SW + 0x1C) 23 16
  let pair (q : Nat) : Bool := decide (q < migBase)
  let wait := s.host.reqs
  let lead := s.leads
  let out := s.sw.outstanding.filter (fun r => pair r.seq)
  let s := { s with sw := { s.sw with
    outstanding := s.sw.outstanding.filter (fun r => !pair r.seq), early := s.sw.early.filter (fun r => !pair r.seq)
    ackWait := s.sw.ackWait.filter (fun x => !pair x.2), resyncUnacked := s.sw.resyncUnacked.filter (fun x => !pair x.2)
    fwd := s.sw.fwd.filter (fun r => s.migLeads r.dom), fwdSeen := s.sw.fwdSeen.filter (fun q => !pair q), nextSeq := 0, peerLeads := false
    sends := s.sw.sends.filter (fun (x : Sending) => !(decide (2 ^ 32 ≤ x.msg) && pair ((x.msg - 2 ^ 32) / 2) && decide (x.dest = n))) } }
  let s := if lead then out.foldl (fun (t : State) (r : MirrorRec) => t.setDirty (linePlot r.line) true) s else s
  let s := ((s.setMirror (if lead then 3 else 4)).setFld (SW + 0x1C) 15 0 0).event 0xC201 n none n 0
  wait.foldl (fun (t : State) (r : Req) =>
    match r.st with
    | .mirrorWait q =>
      if ¬ s.domMirror r.dom ∨ ¬ pair q then t
      else if q = 0 then t.mergeTry r
      else t.finishWrite r 0
    | .bothWait a q => if pair q ∧ s.domMirror r.dom then t.setReq { r with st := .anchorWait a } else t
    | .arrived | .held | .setWait | .limitWait | .fetching | .anchorWait _ | .throughWait | .cutWait => t) s

/-- Are records of the pair outstanding: sent and not acknowledged, or forwarded and not yet ordered? -/
def State.pairWaits (s : State) : Bool :=
  s.sw.outstanding.any (fun r => decide (r.seq < migBase)) || s.host.reqs.any (fun r => decide (r.st = .mirrorWait 0) && s.domMirror r.dom)

/-- PARTNER_LOSS (R387): no acknowledgement within loss_us while records are outstanding, or no keepalive for 1 ms. -/
def execPartnerLoss (s : State) : Answer := .next (if (s.mirrorState = 2 ∨ s.mirrorState = 5) ∧
    ((s.pairWaits ∧ s.sw.lastAck + s.fld (SW + 4) 15 0 ≤ s.tb.tick) ∨ s.sw.lastKeepalive + 1000 ≤ s.tb.tick) then s.partnerLost else s)

/-- RESYNC_STEP (R390, R391, R400): the next line of a dirty plot is read, as a class C3 read charged to the background bucket, and goes out as a
full-line record; a plot that a snapshot holds is read from its held physical plot. -/
def execResyncStep (m : Meas) (s : State) : Answer :=
  .next (
    if ¬ s.admitting then s
    else match (s.dirtyFrom (s.sw.resyncLine / 16384)).find? (fun p => s.copies p) with
      | none => s
      | some p =>
        let d := (s.domOfPlot p).getD 0
        let line := max s.sw.resyncLine (p * 16384)
        let snap : Option SnapSt := match s.sw.migSnap with
          | some k => if s.migCopies d then Tbl.find s.sw.snaps k else none
          | none => none
        let held := snap.bind (fun x => x.held.find? (fun h => decide (h.1 = p)))
        if snap.isSome ∧ held.isNone ∧ s.plotTaken p then s
        else
          let s := (s.chargeBg 4)
          let s := { s with sw := { s.sw with resyncLine := line + 1 } }
          let s := if s.mirrorState = 5 then s.setFld (SW + 0x1C) 15 0 (min 65535 ((line + 1) * 65536 / max 1 (s.usable * 2 ^ 24))) else s
          let zeros := List.replicate 64 (0 : Byte)
          match snap, held with
          | some x, some h => s.fetchHeld line d h.2.1 h.2.2 ((Tbl.find x.saved (line / 64)).getD (s.freshNode 0 (line / 64)))
          | _, _ =>
            let s := s.readLine line
            if s.quarantined d then s.resyncSend line d zeros true
            else match s.bufferView line with
              | some v =>
                if v.2 then s.resyncSend line d zeros true
                else if bufferFull v then s.resyncSend line d (bufferBytes v) false
                else s.fetchNow .sward line d 3 (s.domTier d) 5 m.loadCause []
              | none =>
                let (hit, s) := s.lookup false line (s.domTier d)
                match hit with
                | some data => s.resyncSend line d data false
                | none => s.fetchNow .sward line d 3 (s.domTier d) 5 m.loadCause [])

/-! ### Peer commands (R382) -/

/-- A peer command arrives from node `src`: while a long operation runs it is answered BUSY (R364); before recovery completes, Not ready (R347); with
Lark down it is not taken, nor before a first formation completes (R377). -/
def State.peerCommand (s : State) (src opcode : Nat) (k : State → State) : State :=
  if ¬ s.larkUp ∨ ¬ (s.swState = 2 ∨ (s.swState = 1 ∧ (s.routeOf src).isSome)) then s
  else if s.lark.longOp.isSome then s.sendTo src 2 msgPeer [opcode, 0x01]
  else if ¬ s.wb.recovered then s.sendTo src 2 msgPeer [opcode, 0x0C]
  else k (s.count 9 0xB6 8 1)

/-- PEER_BUSY_RESEND (R382): a peer command of this node that was answered BUSY is sent again, up to 100 times. -/
def execPeerBusyResend (opcode : Nat) (s : State) : Answer :=
  .next (match s.sw.sends.find? (fun (x : Sending) => decide (x.msg = opcode)) with
    | none => s
    | some x =>
      let n := (Tbl.find s.sw.peerBusy opcode).getD 0
      if s.tb.tick < x.tick + 10000 then s
      else if n < 100 then
        (({ s with sw := { s.sw with peerBusy := Tbl.put s.sw.peerBusy opcode (n + 1) } }).setSends x.dest opcode x.times).sendTo x.dest 2 msgResend [opcode]
      else
        let s := s.setSends x.dest opcode 0
        if opcode = 0x0712 ∧ s.sw.migSource then s.migFail else s)

/-- MIRROR_BIND (R383, R384): the partner names a valid mirrored domain and its size; it is confirmed if it is here with the same size, and the partner
is told so. -/
def execMirrorBind (dom plots : Nat) (confirm peerLeads : Bool) (s : State) : Answer :=
  .next (
    match s.partnerNode with
    | none => s
    | some n =>
      s.peerCommand n 0x0711 (fun t =>
        let t := { t with sw := { t.sw with peerNames := true, peerLeads := peerLeads } }
        let ok := t.domValid dom && t.domMirror dom && decide (t.domSize dom = plots)
        let rest := t.sw.confirmed.filter (fun d => ¬ d = dom)
        let t := { t with sw := { t.sw with confirmed := if ok then rest ++ [dom] else rest } }
        let t := if confirm then t.setSends n 0x0711 0 else if ok then t.sendBind n dom true else t
        t.pairTry))

/-- PREPARE_TARGET (R391 step 1): the destination domain of a live migration is created if R300 and R312 hold, and serves as ISOLATED until it is
complete; the answer carries the status. `snap`: a snapshot is to be copied (R400). -/
def execPrepareTarget (d : DomainSpec) (srcNode : Nat) (snap : Bool) (s : State) : Answer :=
  .next (s.peerCommand srcNode 0x0712 (fun t =>
    let (code, t) := t.createDomain { d with mirror := false }
    let t := if code = 0 then
        { t with sw := { t.sw with migState := 1, migDom := d.dom, migNode := srcNode, migDst := d.dom, migSource := false
                                   migSnap := if snap then some 0 else none, migPool := d.poolBase, migSeq := 0 } }
      else t
    t.sendTo srcNode 2 msgPeer [0x0712, if code = 0 then 0 else 4, code]))

/-- PEER_ARM (R394, Table 14.6): an Arm is installed, or waits for a formation in progress. -/
def execPeerArm (c : CutSpec) (originator : Nat) (s : State) : Answer :=
  below originator 256 s (.next (
    if s.swState = 1 then (if s.larkUp then { s with sw := { s.sw with armWait := s.sw.armWait ++ [(c, originator)] } } else s)
    else s.peerCommand originator 0x0713 (fun t => t.installCut c originator)))

/-- CUT_REPORT (R394): a node's result for a cut that this node originated. -/
def execCutReport (node ftag : Nat) (done : Bool) (s : State) : Answer :=
  below node 256 s (.next (s.peerCommand node 0x0714 (fun t =>
    let t := t.setSends node 0x0713 0
    { t with sw := { t.sw with reports := t.sw.reports.filter (fun r => ¬ (r.1 = node ∧ r.2.1 = ftag)) ++ [(node, ftag, done)] } })))

/-! ### Global operations (R393) -/

/-- Begin a broadcast from this node, or go on with it in the dimensions from `k` on: both ways of each ring until the halves meet. -/
def State.spread3 (s : State) (k src : Nat) (payload : List Byte) : State :=
  let dims := (List.range 3).filter (fun i => decide (k ≤ i))
  let vals (left : Nat) : List Nat := src :: left :: payload.map (fun b => b.toNat)
  dims.foldl (fun (t : State) i =>
    let x := t.sw.ext.getD i 1
    let t := if 0 < x / 2 then t.sendOn (2 * i) 2 msgBroadcast (vals (x / 2 - 1)) else t
    if 0 < (x - 1) / 2 then t.sendOn (2 * i + 1) 2 msgBroadcast (vals ((x - 1) / 2 - 1)) else t) s

/-- Send a broadcast down the spanning tree. -/
def State.downTree (s : State) (src : Nat) (payload : List Byte) : State :=
  (s.sw.tree.filter (fun p => s.swUp p)).foldl (fun (t : State) p => t.sendOn p 2 msgBroadcast (src :: 0 :: payload.map (fun b => b.toNat))) s

/-- Does the fabric broadcast in dimension order: a torus with every link up (R393)? -/
def State.inOrder (s : State) : Bool := s.sw.whole && s.sw.ext.any (fun x => decide (1 < x))

/-- A broadcast of the root, from the root (R393). -/
def State.rootCast (s : State) (payload : List Byte) : State := if s.inOrder then s.spread3 0 s.nodeId payload else s.downTree s.nodeId payload

/-- BROADCAST (R393): a broadcast of node `src` has come in on a port (8: it is this node's own), with `left` nodes of its half ring still to reach. While
every torus link is up it goes in dimension order; else by the root and down the spanning tree. -/
def execBroadcast (src port left : Nat) (payload : List Byte) (s : State) : Answer :=
  below port 9 s (.next (
    if s.swState ≠ 2 then s
    else
      let s := if port = 8 then s else s.count 9 0xB6 8 1
      if s.inOrder then
        if port = 8 then s.spread3 0 src payload
        else if 6 ≤ port then s
        else
          let s := if 0 < left then s.sendOn (if port % 2 = 0 then port + 1 else port - 1) 2 msgBroadcast (src :: (left - 1) :: payload.map (fun b => b.toNat)) else s
          s.spread3 (port / 2 + 1) src payload
      else if s.flag (SW + 8) 28 then s.downTree src payload
      else if port = 8 then s.sendTo 0 2 msgBroadcast (src :: 0 :: payload.map (fun b => b.toNat))
      else s.downTree src payload))

/-- The barrier is released: this node, if it has arrived, goes on. -/
def State.barrierEnds (s : State) : State :=
  let s := s.setSends 0 0x0715 0
  if s.sw.barrier = 1 then { s with sw := { s.sw with barrier := 2 } } else s

/-- BARRIER (R393): an arrival at the root, which broadcasts the release after the last of `participants`; this node's own arrival elsewhere, which goes
to the root; or the release, which goes on down the spanning tree (in dimension order it does so as the broadcast that it is, by that row). -/
def execBarrier (node participants : Nat) (release : Bool) (s : State) : Answer :=
  below node 256 s (.next (
    if s.swState ≠ 2 then s
    else if release then
      let s := s.barrierEnds
      if s.inOrder then s else s.downTree 0 []
    else
      let s := if node = s.nodeId then { s with sw := { s.sw with barrier := 1 } } else s
      let arrive (t : State) : State :=
        let here := t.sw.barrierArrived.filter (fun x => ¬ x = node) ++ [node]
        if participants ≤ here.length then ({ t with sw := { t.sw with barrierArrived := [] } }).barrierEnds.rootCast []
        else { t with sw := { t.sw with barrierArrived := here } }
      if s.flag (SW + 8) 28 then (if node = s.nodeId then arrive s else s.peerCommand node 0x0715 arrive)
      else if node = s.nodeId then s.sendPeer 0 0x0715 [node]
      else s))

/-! ### Cuts, snapshots and fabric reset (R394 to R401) -/

/-- Take a domain into a snapshot (R396): its number from the spread counter, record 0x31, and the walker from the first plot. -/
def State.snapshotDom (s : State) (tag d : Nat) : State :=
  match (List.range 8).find? (fun k => (Tbl.find s.sw.snaps k).isNone) with
  | none => s
  | some k =>
    let n := s.counter 12 + 1
    let s := s.advanceTo 12 n
    let x : SnapSt := { dom := d, number := n, ftag := tag, since := s.host.nextReq, cut := false, walker := 0, ending := false, aborted := false
                        held := [], nodePlots := [], saved := [], recs := 0 }
    let s := { s with sw := { s.sw with snaps := Tbl.put s.sw.snaps k x } }
    s.journal { JRec.of 0x31 with dom := d, entry := k, value := n }

/-- SNAPSHOT_CUT (R394 to R396, Table 14.6): action 0x0D at its instant: the domains named, or all, are taken into snapshots; a domain of an ISOLATED
follower is not, with event 0xC402; a node refused under R395 does not cut. A release ends its snapshots instead. -/
def execSnapshotCut (entry : Nat) (s : State) : Answer :=
  below entry 64 s (
    if (s.tb.started.find? (fun p => p.2 = 0x0D)).map (fun p => p.1) ≠ some entry then .next s
    else s.runAction 0x0D (fun n t =>
      match Tbl.find t.sw.cuts n with
      | none => t
      | some c =>
        if c.op = .release then (t.releaseTag c.ftag).freeCut n true
        else
          let ds := t.cutDoms c
          let isolated (d : Nat) : Bool := decide (t.mirrorRole d = .isolated)
          let ins := ds.filter (fun d => !isolated d)
          let t := (ds.filter isolated).foldl (fun (u : State) d => u.event 0xC402 0 (some d) c.ftag 0) t
          if t.cutRefused ins then t.freeCut n false
          else (ins.foldl (fun (u : State) d => u.snapshotDom c.ftag d) t).freeCut n (decide (ins.length = ds.length))))

/-- COW_WALKER_ADVANCE (R396, R397, R399): the walker passes the next `count` plots of a domain: cow is set on each, but for one whose first write has
begun; of an ended snapshot it is cleared, and the slot is free at the end. -/
def execCowWalkerAdvance (dom count : Nat) (s : State) : Answer :=
  below dom 4096 s (.next (match s.sw.snaps.find? (fun x => decide (x.2.dom = dom)) with
    | none => s
    | some (k, x) =>
      let n := min count (s.domSize dom - x.walker)
      let plots := (List.range n).map (fun i => s.domPool dom + x.walker + i)
      let s := plots.foldl (fun (t : State) i => if x.ending then t.setCow i false else if t.plotTaken i then t else t.setCow i true) s
      let s := { s with sw := { s.sw with snaps := Tbl.put s.sw.snaps k { x with walker := x.walker + n } } }
      let s := s.snapGone k
      if s.admitting then s.retryWrites (fun (q : Req) => decide (q.dom = dom)) else s))

/-- A fabric reset (R401, R467): the pair goes on as after a partner's loss; every SW field of keep class X but the pair's state returns to its reset
value; every enabled port retrains and repeats its session. -/
def State.fabricReset (s : State) : State :=
  let s := if s.mirrorState = 2 ∨ s.mirrorState = 5 then s.partnerLost else s
  let pair := s.reg (SW + 0x1C) &&& 0xFC000000
  let w := s.sw
  let s := s.resetKeep (fun k => decide (k = .x)) (fun o => decide (SW ≤ o) && decide (o < SW + 0x10000))
  let s := s.setReg (SW + 0x1C) pair
  let s := { s with sw := { w.down with ids := w.ids, resetting := s.flag SW 31, armWait := w.armWait, barrier := if w.barrier = 1 then 3 else w.barrier
                                        outstanding := w.outstanding.filter (fun r => migBase ≤ r.seq), early := w.early.filter (fun r => migBase ≤ r.seq)
                                        resyncUnacked := w.resyncUnacked.filter (fun x => migBase ≤ x.2) } }
  let s := if s.flag SW 31 then s.setFld (SW + 8) 31 29 3 else s
  let s := if s.flag SW 31 then s else s.resetDone 8 0
  ((List.range 8).filter (fun p => s.flag SW (16 + p))).foldl (fun (t : State) p => t.swRetrain p) s

/-- FABRIC_RESET_CUT (R401): action 0x0E; the Cut report goes out first, since the reset clears the routes. -/
def execFabricResetCut (entry : Nat) (s : State) : Answer :=
  below entry 64 s (
    if (s.tb.started.find? (fun p => p.2 = 0x0E)).map (fun p => p.1) ≠ some entry then .next s
    else s.runAction 0x0E (fun n t => (t.freeCut n true).fabricReset))

/-- SW_CTL_RESET (R401): a write of 1 to SW_CTL.reset. -/
def execSwCtlReset (who : Requester) (s : State) : Answer := .next (s.asWriter who (SW + 4) (fun t => t.fabricReset))

end Sys2Proof.Machine
end

