-- ==== Sys2Proof/Machine/Spool.lean ====
section
/-! DEFINITION. Machine/Spool.lean: the archive drain (R441), the tail window (R450) and the meter port (R453, R454). -/

namespace Sys2Proof.Machine

/-- EVENT_ARCHIVE_DRAIN (R441, R443): action 0x11: every staged record not yet archived goes to the archive, two to a slot. -/
def execEventArchiveDrain (s : State) : Answer := s.runAction 0x11 (fun _ t => t.archiveDrain.archiveProgram t.ev.archived)

/-- TAIL_WINDOW_PROGRAM (R450, R443): the units of the tail window are programmed to the spool, and more units of the packet in emission enter it. Before
recovery, and during a flush, nothing is programmed. -/
def execTailWindowProgram (s : State) : Answer :=
  .next (if s.wb.recovered ∧ ¬ s.flag (WP + 0x2C) 0 then s.spoolProgram.spoolErase.meterGo else s)

/-! ### The meter port -/

/-- One byte clocked out by Read stream (R454): prefix 0x00 with no unit available, else 0xA5 and the unit's 64 bytes; the unit is consumed
when its last byte has been clocked out. A unit flushed meanwhile is completed with 0x00 bytes (R455). -/
def State.meterByte (s : State) : State :=
  if s.mt.cut then
    { (s.emit (.meterByte 0)) with mt := { s.mt with portPos := if s.mt.portPos < 64 then s.mt.portPos + 1 else 0, cut := decide (s.mt.portPos < 64) } }
  else match s.mt.units with
  | [] => { (s.emit (.meterByte 0)) with mt := { s.mt with portPos := 0 } }
  | u :: rest =>
    if ¬ s.meterAvail then { (s.emit (.meterByte 0)) with mt := { s.mt with portPos := 0 } }
    else if s.mt.portPos = 0 then { (s.emit (.meterByte 0xA5)) with mt := { s.mt with portPos := 1 } }
    else
      let s := s.emit (.meterByte (u.2.getD (s.mt.portPos - 1) 0))
      if s.mt.portPos < 64 then { s with mt := { s.mt with portPos := s.mt.portPos + 1 } }
      else
        (State.meterRequest { s with mt := { s.mt with units := rest, portPos := 0, tail := min s.mt.tail rest.length } }).spoolErase.meterGo

/-- `n` bytes of Read stream. -/
def State.meterBytes : Nat → State → State
  | 0, s => s
  | n + 1, s => State.meterBytes n s.meterByte

/-- `n` bytes clocked out in the open transaction: of Read stream, or 0xFF after any other command's response (R453). -/
def State.meterClock (s : State) (n : Nat) : State :=
  if s.mt.portCmd = some 1 then State.meterBytes n s else (List.range n).foldl (fun (t : State) _ => t.emit (.meterByte 0xFF)) s

/-- A transaction starts with command `cmd` (R453). -/
def State.meterStart (s : State) (cmd : Nat) : State :=
  { s with mt := { s.mt with portCmd := some cmd, portPos := 0, cut := false }, pins := { s.pins with mtrCsHigh := false } }

/-- METER_READ_STREAM (R454): command 0x01 starts a transaction, or the open one goes on, and `bytes` bytes are clocked out. -/
def execMeterReadStream (bytes : Nat) (s : State) : Answer :=
  .next ((if s.mt.portCmd.isNone then s.meterStart 1 else s).meterClock bytes)

/-- METER_READ_STATUS (R453): 16 bytes: units held, MT_STATUS, packet sequence number of the unit at the head (0 when none). In an open transaction the
first byte has passed, and 16 bytes more are clocked out. -/
def execMeterReadStatus (s : State) : Answer :=
  .next (
    if s.mt.portCmd.isSome then s.meterClock 16
    else
      let bs := leBytes 4 s.mt.units.length ++ leBytes 4 s.mtStatus.toNat ++ leBytes 8 ((s.mt.units.map (·.1)).headD 0)
      bs.foldl (fun t b => t.emit (.meterByte b)) (s.meterStart 2))

/-- METER_UNKNOWN_COMMAND (R453): 0xFF until MTR_CS_N rises. -/
def execMeterUnknownCommand (cmd : Nat) (s : State) : Answer :=
  .next (if s.mt.portCmd.isSome then s.meterClock 1 else if cmd % 256 = 1 ∨ cmd % 256 = 2 then s else (s.meterStart cmd).emit (.meterByte 0xFF))

/-- MTR_CS_RISE (R454): the transaction ends; a unit cut off stays unconsumed and is sent again in full. -/
def execMtrCsRise (s : State) : Answer :=
  .next { s with mt := { s.mt with portCmd := none, portPos := 0, cut := false }, pins := { s.pins with mtrCsHigh := true } }

end Sys2Proof.Machine
end

