-- ==== Sys2Proof/Machine/Lark.lean ====
section
/-! DEFINITION. Machine/Lark.lean: the post mailboxes (R348 to R355), what Lark takes and how it answers (R349 to R361), long operations
(R364, R365) and the control reset (R466). -/

namespace Sys2Proof.Machine

/-! ### Mailboxes -/

/-- BAR0 offset of the set of MB k (Table 13.12). -/
def mbOff (k : Nat) : Nat := CP + 0x1000 + k * 0x40

/-- May a requester write the requester-side registers of MB k (Table 13.4)? -/
def mailboxOf : Requester → Nat → Bool
  | .host j, k => decide (k = j) && decide (k < 32)
  | .owner, k => decide (k = 32)
  | .mctp, k => decide (k = 33)
  | .peer, k => decide (k = 34) || decide (k = 35)
  | .engine, k => decide (36 ≤ k) && decide (k < 40)
  | .lark, _ => false

def State.inFull (s : State) (k : Nat) : Bool := s.flag (mbOff k + 0x0C) 0
def State.outFull (s : State) (k : Nat) : Bool := s.flag (mbOff k + 0x1C) 0

/-- Can the mailbox registers be reached: recall over (R474), core rails up? -/
def State.mailboxesUp (s : State) : Bool := s.recalled && decide (s.power ≤ 2)

/-- A write of requester `who` to its side of MB k; any other requester's is ignored as R262 says (R348). -/
def State.mailboxWrite (s : State) (who : Requester) (k : Nat) (f : State → State) : State :=
  if ¬ s.mailboxesUp then s else if mailboxOf who k then f s else s.commonsRefuse who true

/-- Set outbound doorbell bits of MB k, with the requester's interrupt where the mask has one of them (R354). -/
def State.ringOut (s : State) (k : Nat) (b : Word) : State :=
  let s := s.setReg (mbOff k + 0x2C) (s.reg (mbOff k + 0x2C) ||| b)
  if b &&& s.reg (mbOff k + 0x30) = 0 then s
  else if k < 32 then s.emit (.hostMsix k 2)
  else if k = 32 then s.emit (.msix 0)
  else if k = 33 then s.emit (.attention 33)
  else s

/-- Post (R350): the tag, full and inbound DB0 in the same clock. -/
def State.post (s : State) (k : Nat) (v : Word) : State :=
  ((s.setReg (mbOff k + 8) v).setBit (mbOff k + 0x0C) 0 true).setBit (mbOff k + 0x24) 0 true

/-- A post while full (R350). -/
def State.rejectPost (s : State) (who : Requester) (k : Nat) (v : Word) : State :=
  match who with
  | .owner | .host _ => ((s.setBit (mbOff k + 0x0C) 1 true).bump (CP + 0x20) 15 0 1).emit (.advisoryNonFatal (s.portOf who))
  | .mctp => s.emit (.mctp 0x0D [])
  | .engine => { (s.bump (CP + 0x20) 31 16 1) with lark := { s.lark with kept := s.lark.kept ++ [(k, v)] } }
  | .peer | .lark => s.bump (CP + 0x20) 31 16 1

/-- CP_IN_TAG_WRITE (R350). -/
def execCpInTagWrite (who : Requester) (mb : Nat) (v : Word) (s : State) : Answer :=
  below mb 40 s (.next (s.mailboxWrite who mb (fun t => if t.inFull mb then t.rejectPost who mb v else t.post mb v)))

/-- INTERNAL_NOTICE_RETRY (R350): the engine writes the notice that it kept again. -/
def execInternalNoticeRetry (mb : Nat) (s : State) : Answer :=
  below mb 40 s (.next (
    match s.lark.kept.find? (fun x => decide (x.1 = mb)) with
    | none => s
    | some x =>
      if ¬ s.mailboxesUp then s
      else if s.inFull mb then s.bump (CP + 0x20) 31 16 1
      else ({ s with lark := { s.lark with kept := s.lark.kept.erase x } }).post mb x.2))

/-- CP_OUT_RELEASE (R353): a write of 1 to CP_OUT_CTL.full releases the slot and sets inbound DB1. -/
def State.outRelease (s : State) (k : Nat) : State :=
  if s.outFull k then (s.setBit (mbOff k + 0x1C) 0 false).setBit (mbOff k + 0x24) 1 true else s

def execCpOutRelease (who : Requester) (mb : Nat) (s : State) : Answer :=
  below mb 40 s (.next (s.mailboxWrite who mb (fun t => t.outRelease mb)))

/-- DOORBELL_SET (R354, Table 13.5): a 1 sets inbound DB0 or DB1; ones for DB2 to DB31 are ignored. -/
def State.doorbellIn (s : State) (k : Nat) (v : Word) : State := s.setReg (mbOff k + 0x24) (s.reg (mbOff k + 0x24) ||| (v &&& 3))

def execDoorbellSet (who : Requester) (mb : Nat) (v : Word) (s : State) : Answer :=
  below mb 40 s (.next (s.mailboxWrite who mb (fun t => t.doorbellIn mb v)))

/-- The timed doorbells of an entry (R355): the masked bits of DB16 to DB31 of every valid binding that names it. -/
def State.timedDoorbells (s : State) (entry : Nat) : State :=
  (List.range 16).foldl (fun (t : State) n =>
    let o := CP + 0x40 + 4 * n
    if t.flag o 31 ∧ t.fld o 21 16 = entry then t.ringOut (t.fld o 29 24) (BitVec.ofNat 32 (t.fld o 15 0 * 2 ^ 16)) else t) s

/-- LARK_DOORBELL (R355): action 0x12; it needs Lark, so it waits while Lark does not run (R369). -/
def execLarkDoorbell (entry : Nat) (s : State) : Answer :=
  below entry 64 s (
    if (s.tb.started.find? (fun p => p.2 = 0x12)).map (fun p => p.1) ≠ some entry ∨ ¬ s.larkUp then .next s
    else s.runAction 0x12 (fun n t => t.timedDoorbells n))

/-! ### Messages (R349, R356) -/

/-- Does a buffer of `n` bytes at Commons offset `off` lie where Table 13.4 allows for MB k (R349)? -/
def State.bufferOk (s : State) (k off n : Nat) : Bool :=
  let win := 0x180000 + k * 0x10000
  decide (off % 64 = 0) &&
  ((decide (win ≤ off) && decide (off + n ≤ win + 0x10000)) ||
   (decide (k = 32) && decide (0x400000 ≤ off) && decide (off + n ≤ s.rk.commonsMib * 2 ^ 20)))

/-- Number in bytes `lo` to `lo + n - 1` of a message. -/
def msgNat (m : List Byte) (lo n : Nat) : Nat := leNat ((m.drop lo).take n)

/-- The message at a pointer (R349): from Commons, or from host memory as `bytes`, which a bus-master read has returned (none where Bus Master Enable
is clear). None: no usable buffer. -/
def State.message (s : State) (k : Nat) (ptr : DWord) (bytes : List Byte) : Option (List Byte) :=
  if ptr.toNat < 2 ^ 63 then
    let off := ptr.toNat % 2 ^ 26
    let buffer := msgNat (s.rk.commons.readBytes off 32) 8 4
    if ¬ s.bufferOk k off 64 ∨ buffer < 64 ∨ ¬ s.bufferOk k off buffer then none
    else
      let n := min buffer (48 + msgNat (s.rk.commons.readBytes off 32) 4 4)
      if s.rk.badBytes.any (fun a => decide (off ≤ a) && decide (a < off + n)) then none else some (s.rk.commons.readBytes off n)
  else if 32 < k ∨ ptr.toNat % 64 ≠ 0 ∨ bytes.length < 32 ∨ msgNat bytes 8 4 < 64 then none
  else some (bytes.take (msgNat bytes 8 4))

/-- The tag of a message (R356): under the authority's key over CP_UID, the header with bytes 13 to 15 zero, and the payload. -/
def vcsTag (key hdr payload : List Byte) : List Byte :=
  let m := leBytes 8 Config.uid.toNat ++ hdr.take 13 ++ [0, 0, 0] ++ (hdr.drop 16).take 16 ++ payload
  ((hmac (key.map (fun b => b.toNat)) (m.map (fun b => b.toNat))).take 16).map (BitVec.ofNat 8)

/-- The command that a message is (Table 13.7). -/
def takenOf (k : Nat) (tag : Word) (ptr : DWord) (m : List Byte) : Taken :=
  { mb := k, tag := tag, ptr := ptr, opcode := msgNat m 2 2, auth := (msgNat m 1 1).testBit 0, authority := msgNat m 12 1, counter := msgNat m 16 8
    buffer := msgNat m 8 4, payload := (m.drop 32).take (msgNat m 4 4), lost := false }

/-- Header of a response (Table 13.7). -/
def answerHeader (t : Taken) (status detail len : Nat) (auth : Bool) : List Byte :=
  [3, if auth then 3 else 2] ++ leBytes 2 t.opcode ++ leBytes 4 len ++ leBytes 4 t.buffer ++ leBytes 1 t.authority ++ leBytes 1 status ++
  leBytes 2 detail ++ leBytes 8 (if auth then t.counter else 0) ++ leBytes 8 0

/-- Post an answer (R353): outbound pointer and tag, then full and outbound DB0. -/
def State.postOut (s : State) (k : Nat) (ptr : Nat) (tag : Word) (status : Nat) : State :=
  let o := mbOff k
  (((s.setReg64 (o + 0x10) ptr).setReg (o + 0x18) tag).setReg (o + 0x1C) (BitVec.ofNat 32 (1 + status * 256))).ringOut k 1

/-- Write a response at a pointer. -/
def State.writeMessage (s : State) (ptr : DWord) (m : List Byte) : State :=
  if ptr.toNat < 2 ^ 63 then
    let off := ptr.toNat % 2 ^ 26
    { s with rk := { s.rk with commons := s.rk.commons.writeBytes off m, badBytes := s.rk.badBytes.filter (fun a => ¬ (off ≤ a ∧ a < off + m.length)) } }
  else s.emit (.hostMem ptr m)

/-- Lark answers a command (R353, R356): the response goes over the request with the authority's tag; one that does not fit is status 0x08. The
response to a command whose LD has been reset since is discarded (Table 13.11). -/
def State.answer (s : State) (t : Taken) (status detail : Nat) (payload : List Byte) : State :=
  let key := if t.auth then (s.auth t.authority).key else none
  let need := 32 + payload.length + (if key.isSome then 16 else 0)
  let fits := decide (need ≤ t.buffer)
  let payload := if fits then payload else []
  let hdr := answerHeader t (if fits then status else 8) (if fits then detail else ceilDiv need 64) payload.length key.isSome
  let tag := match key with | some k => vcsTag k hdr payload | none => []
  let s := ({ s with lark := { s.lark with taken := none } }).countGlobal 0xD4 1
  if t.lost then s else (s.writeMessage t.ptr (hdr ++ payload ++ tag)).postOut t.mb t.ptr.toNat t.tag 0

/-! ### Which commands are served (R344, R347, R357, R358) -/

/-- Opcodes of Table 13.6 but for the peer commands. -/
def vcsOpcodes : List Nat :=
  [0x0001, 0x0002, 0x0003, 0x0004, 0x0101, 0x0102, 0x0103, 0x0104, 0x0105, 0x0201, 0x0202, 0x0203, 0x0204, 0x0205, 0x0301, 0x0302, 0x0303]
  ++ [0x0401, 0x0402, 0x0501, 0x0502, 0x0503, 0x0504, 0x0505, 0x0601, 0x0602, 0x0603, 0x0701, 0x0702, 0x0703, 0x0801, 0x0901, 0x0902]
  ++ [0x0A01, 0x0A02, 0x0A03, 0x0A04, 0x0B01]

/-- Peer commands (Table 14.3). -/
def peerOpcode (op : Nat) : Bool := decide (0x0711 ≤ op) && decide (op ≤ 0x0715)

/-- Is a command critical on a mailbox (Table 13.6)? -/
def vcsCritical (op mb : Nat) : Bool :=
  if op = 0x0902 then decide (mb = 32)
  else decide (op ∈ vcsOpcodes) && !decide (op ∈ [0x0001, 0x0002, 0x0003, 0x0004, 0x0105, 0x0205, 0x0401, 0x0601, 0x0801, 0x0A03, 0x0B01])

/-- Is a command allowed on a mailbox (Table 13.6)? Sward peers use theirs for the peer commands and the four that MB0 to MB35 have. -/
def vcsBoxOk (op mb : Nat) : Bool :=
  if op ∈ [0x0001, 0x0002, 0x0003, 0x0004] then true
  else if peerOpcode op then decide (mb = 34 ∨ mb = 35)
  else if op ∈ [0x0205, 0x0401, 0x0601, 0x0801, 0x0902, 0x0A03] then decide (mb = 32 ∨ mb = 33)
  else if op = 0x0B01 then decide (mb = 33)
  else decide (mb ≤ 33)

/-- May a delegate send it, with the group in scope (Table 13.6, R358)? -/
def vcsDelegable (op : Nat) : Bool := decide (op ∈ [0x0101, 0x0102, 0x0103, 0x0201, 0x0505])

/-- Does recovery stand with no map base (Table 05.10)? -/
def State.noMapBase (s : State) : Bool := !s.wb.recovered && decide (s.recStep = 2)

/-- Does Lark serve a command now (R344, R347)? -/
def State.servedNow (s : State) (t : Taken) : Bool :=
  if s.flag CP 30 then decide (t.mb = 33) && decide (t.opcode ∈ [0x0001, 0x0601, 0x0602, 0x0603])
  else s.wb.recovered || decide (t.opcode ∈ [0x0001, 0x0002, 0x0003, 0x0004]) || decide (t.opcode / 256 = 5) ||
    (decide (t.opcode = 0x0301) && s.noMapBase && decide (t.authority = 0))

/-- CP_PROGRESS and CP_PROGRESS_SRC as a payload. -/
def State.progressBytes (s : State) : List Byte := leBytes 4 (s.reg (CP + 8)).toNat ++ leBytes 4 (s.reg (CP + 0xC)).toNat

/-! ### Taking a command (R351, R359, R360) -/

/-- An authentication failure (R360). -/
def State.authFailed (s : State) (t : Taken) : State :=
  let n := Tbl.get (fun _ => 0) s.lark.failRun t.mb + 1
  let s := { s with lark := { s.lark with
    failRun := Tbl.set (fun _ => 0) s.lark.failRun t.mb (if n < 4 then n else 0)
    lockout := if n < 4 then s.lark.lockout else s.lark.lockout ++ [(t.mb, s.tb.tick)] } }
  ((s.bump (CP + 0x1C) 31 0 1).eventOnce t.mb 0xB201 t.mb none t.mb t.authority).answer t 5 0 []

/-- A command of a locked authority (R361). -/
def State.authLocked (s : State) (t : Taken) : State := (s.event 0xB203 t.mb none t.mb t.authority).answer t 7 0 []

/-- Lark has a command to execute (R352). -/
def State.take (s : State) (t : Taken) : State := { s with lark := { s.lark with taken := some t } }

/-- Step 4 of R359: the stored counter advances to c; a worn place locks the authority. Step 5, scope: the groups of a delegate. -/
def State.authPassed (s : State) (t : Taken) : State :=
  let (m, s) := s.advanceCounter t.authority t.counter
  let s := match m with | some x => (s.event 0xF304 0 none x.1 x.2).setLock t.authority true | none => s
  if t.authority ≠ 0 ∧ ¬ (vcsDelegable t.opcode ∧ (s.auth t.authority).groups.toNat.testBit (t.opcode / 256)) then s.answer t 0x0B 0 [] else s.take t

/-- Steps 1 to 3 of R359 for a critical command. -/
def State.authenticate (s : State) (t : Taken) (m : List Byte) : State :=
  if ¬ t.auth ∨ t.mb ∈ s.lark.lockout.map (·.1) then s.answer t 5 0 []
  else match if t.authority ≤ 8 then (s.auth t.authority).key else none with
    | none => if (s.auth t.authority).locked then s.authLocked t else s.answer t 7 0 []
    | some key =>
      if (m.drop (32 + t.payload.length)).take 16 ≠ vcsTag key (m.take 32) t.payload then s.authFailed t
      else
        let s := { s with lark := { s.lark with failRun := Tbl.set (fun _ => 0) s.lark.failRun t.mb 0 } }
        if (s.auth t.authority).locked then s.authLocked t
        else if t.counter ≤ s.counter t.authority then s.answer t 6 0 []
        else s.authPassed t

/-- What Lark does with a command that it has taken: BUSY during a long operation (R364), not ready (R347), a malformed header, the mailbox (R357),
authentication (R359). A peer command's effect and answer are those of its own row. -/
def State.command (s : State) (t : Taken) (m : List Byte) : State :=
  if s.lark.longOp.isSome then s.answer t 1 0 s.progressBytes
  else if ¬ s.servedNow t then s.answer t 0x0C 0 []
  else if msgNat m 0 1 ≠ 3 then s.answer t 3 0 []
  else if msgNat m 4 4 % 4 ≠ 0 ∨ t.buffer < 32 + msgNat m 4 4 + (if t.auth then 16 else 0) then s.answer t 3 4 []
  else if ¬ vcsBoxOk t.opcode t.mb then s.answer t 2 0 []
  else if peerOpcode t.opcode then s.answer t 0 0 []
  else if vcsCritical t.opcode t.mb then s.authenticate t m
  else s.take t

/-- The mailbox that Lark takes from next (R351). -/
def State.nextMailbox (s : State) : Option Nat :=
  ([36, 37, 38, 39] ++ (List.range 36).map (fun i => (s.lark.lastMb + 1 + i) % 36)).find? (fun k => s.inFull k && !s.outFull k)

/-- Take from MB k: a notice waits for Get notices, with outbound DB1 of MB32; a command is examined. -/
def State.takeFrom (s : State) (k : Nat) (bytes : List Byte) : State :=
  let ptr : DWord := BitVec.ofNat 64 (s.reg64 (mbOff k))
  let tag := s.reg (mbOff k + 8)
  let s := (s.setBit (mbOff k + 0x0C) 0 false).setBit (mbOff k + 0x24) 0 false
  if 36 ≤ k then ({ s with lark := { s.lark with notices := s.lark.notices ++ [(k, tag)] } }).ringOut 32 2
  else
    let s := { s with lark := { s.lark with lastMb := k } }
    match s.message k ptr bytes with
    | none => s.postOut k (2 ^ 64 - 1) tag 9
    | some m => s.command (takenOf k tag ptr m) m

/-- LARK_TAKE_COMMAND (R351, R352): one at a time, while the mailboxes are open and Lark does not pause (R369). -/
def execLarkTakeCommand (bytes : List Byte) (s : State) : Answer :=
  .next (
    if ¬ s.mailboxesUp ∨ ¬ (s.flag CP 31 ∨ s.flag CP 30) ∨ s.flag CP 28 ∨ s.lark.taken.isSome then s
    else match s.nextMailbox with
      | none => s
      | some k => s.takeFrom k bytes)

/-- AUTH_LOCKOUT_EXPIRE (R360): the 1 s has passed. -/
def execAuthLockoutExpire (mb : Nat) (s : State) : Answer :=
  below mb 40 s (.next { s with lark := { s.lark with lockout := s.lark.lockout.filter (fun k => ¬ (k.1 = mb ∧ k.2 + 1000000 ≤ s.tb.tick)) } })

/-- Execute the command taken, if its opcode satisfies `op`, and answer it; an authority whose counter has reached its end is then locked (R361). A
command that a reset of its own making has lost is not answered (Table 13.11). -/
def State.vcs (s : State) (op : Nat → Bool) (k : Taken → State → Nat × Nat × List Byte × State) : Answer :=
  .next (match s.lark.taken with
    | none => s
    | some t =>
      if op t.opcode then
        let (status, detail, payload, u) := k t s
        let u := if u.lark.taken.isNone then u else u.answer t status detail payload
        if vcsCritical t.opcode t.mb ∧ t.counter = 2 ^ 64 - 1 then u.setLock t.authority true else u
      else s)

/-- May the authority of a command act on domains of an LD (R358)? -/
def State.ldScope (s : State) (t : Taken) (ld : Nat) : Bool :=
  !vcsCritical t.opcode t.mb || decide (t.authority = 0) || (s.auth t.authority).lds.toNat.testBit ld

/-! ### Long operations (R364, R365) -/

/-- The long operation ends with a result (R365): the outcome in CP_PROGRESS, DB2 of its mailbox and of MB32, the owner's vector 1, event 0xB302. -/
def State.endLong (s : State) (result : Nat) : State :=
  match s.lark.longOp with
  | none => s
  | some l =>
    let s := ({ s with lark := { s.lark with longOp := none } }).setBit CP 29 false
    let s := (s.setFld (CP + 8) 15 14 (if result % 256 = 0 then 2 else 3)).setFld (CP + 0xC) 23 16 result
    let s := if result % 256 = 0 then s.setFld (CP + 8) 6 0 100 else s
    let s := s.ringOut l.mb 4
    let s := (if l.mb = 32 then s else s.ringOut 32 4).emit (.msix 1)
    s.event 0xB302 0 none l.opcode (result % 256)

/-- Has the long operation done its work: a rotation, a live migration or an activation that still runs has not. -/
def State.longDone (s : State) (l : LongOp) : Bool :=
  if l.opcode = 0x0201 then !(match s.gx.rotation with | some r => decide (r.dom = l.dom) | none => false) && !decide (l.dom ∈ s.gx.rotWait)
  else if l.opcode = 0x0602 then false
  else if l.opcode = 0x0702 then decide (s.sw.migState ≠ 1)
  else true

/-- LONG_OPERATION_END (R365): a live migration that has failed ends with a result other than success; where the destination refuses its target
(R391 step 1) this row brings the refusal, with which the migration fails. -/
def execLongOperationEnd (result : Nat) (s : State) : Answer :=
  .next (match s.lark.longOp with
    | none => s
    | some l =>
      if l.opcode = 0x0702 ∧ s.sw.migState = 1 ∧ result % 256 ≠ 0 then (s.migFail).endLong result
      else if ¬ s.longDone l ∨ (l.opcode = 0x0702 ∧ (s.sw.migState = 3 ↔ result % 256 = 0)) then s else s.endLong result)

/-! ### Control reset (R466, Table 13.11) -/

/-- A control reset with a cause: 1 watchdog, 2 requested. Class C and L fields reset; the command taken is lost; Lark is to start again. Outbound DB3
is set on every mailbox. -/
def State.controlReset (s : State) (cause : Nat) : State :=
  if ¬ s.mailboxesUp then s
  else
    let s := s.resetCore
    let s := { s with lark := { s.lark with taken := none, lastMb := 35, failRun := [], lockout := [], notices := [], fwRunning := false } }
    let s := (((s.setBit CP 31 false).setBit CP 30 false).setBit CP 29 false).setBit CP 28 false
    let s := (s.setBit (CP + 0x30) 31 false).setReg (CP + 0x10) 0
    let s := ((s.bump (CP + 0x24) 15 0 1).bump (GLB + 0x108) 15 8 1).resetDone 6 cause
    let s := s.event 0xB105 0 none cause 0
    (List.range 40).foldl (fun (t : State) k => t.ringOut k 8) s

/-- LARK_WATCHDOG_EXPIRE (R466): Lark's watchdog expires while firmware runs. -/
def execLarkWatchdogExpire (s : State) : Answer := .next (if s.lark.fwRunning then s.controlReset 1 else s)

/-- GLB_RST_CONTROL (R466): GLB_RST_CTL.control has been written. -/
def execGlbRstControl (s : State) : Answer := .next (s.controlReset 2)

end Sys2Proof.Machine
end

