-- ==== Sys2Proof/Machine/Format.lean ====
section
/-! DEFINITION. Machine/Format.lean: what media re-formatting leaves (VCS 0x0301; R27, R130, R246, R288, R443). -/

namespace Sys2Proof.Machine

/-- Raw capacity in GiB (Table 01.5): 256 or 512 to each populated channel, by the part of TP_GEOM. -/
def State.rawGib (s : State) : Nat := s.chanCount * (if s.fld (TP + 4) 7 6 = 2 then 512 else if s.fld (TP + 4) 7 6 = 1 then 256 else 0)

/-- May the part be formatted with usable size `u` (R27)? -/
def State.usableOk (s : State) (u : Nat) : Bool := decide (0 < u) && decide (ceilDiv s.rawGib 5 ≤ u) && decide (u ≤ 3 * s.rawGib / 5)

/-- Every request held by a port ends: a read with poison, a write on the link. What the media still owes for them has nowhere to go. -/
def State.endRequests (s : State) : State :=
  let rs := s.host.reqs
  let s := rs.foldl (fun (t : State) (r : Req) => t.unresolved r) s
  { s with host := { s.host with reqs := [], fetches := [] } }

/-- Every engine's media work is gone; a command in flight has no one waiting for its response. -/
def State.dropMediaWork (s : State) : State :=
  { s with
    codes := { s.codes with deltas := [], marked := [], rebuilding := [], markWait := [], jobs := [] }
    media := { s.media with chans := s.media.chans.foldl (fun (t : Tbl Chan) (x : Nat × Chan) =>
      Tbl.set (fun _ => Chan.fresh) t x.1 { x.2 with queue := [], follow := none, flight := x.2.flight.map (fun (f : InFlight) => { f with cmd := { f.cmd with why := .ctl } }) }) [] } }

/-- The map, the plot table, the journal and the spares of a format (Tables 05.3 to 05.8): nothing listed, everything as `Config.formatPlot` places it. -/
def State.formatMap (s : State) : State :=
  { s with tp := { s.tp with
      map := [], nodeMap := [], plots := [], migs := [], migQueue := [], erasing := [], eraseFailed := [], unverified := [], verified := [], ckptRun := none
      formatHour := s.hour, strandIdx := [], strandFill := [], strandHour := [], wear := [], hotFilter := [], hotList := [], sampler := 0, sampledSince := 0
      wearNotIdle := [], recorders := [], recPlots := [], recWait := [], freshNext := 1056, s0 := s.spareAtFormat, logErases := 0 } }

/-- The counter tree of a format (R288): the crown epoch is incremented once, unless it is at its end, and seeds every node, with every minor 0. -/
def State.formatTree (s : State) : State :=
  let s := if s.counter 11 < 2 ^ 24 - 1 then s.advanceTo 11 (s.counter 11 + 1) else s
  let s := { s with gx := { s.gx with
    l0 := [], l1 := [], l2 := [], l3 := [], l4 := [], crown := [], bumps := 0, regrafts := [], rotation := none, rotWait := [], sweep := none, swept := []
    unverifiable := [], seedEpoch := s.counter 11 } }
  s.rotShow.setReg (GX + 4) 0

/-- Plots of a domain whose key generation is 1 carry it: no slot is under another. -/
def State.formatKeys (s : State) : State :=
  let ds := s.validDoms.filter (fun d => s.domGen d)
  ds.foldl (fun (t : State) d => (t.domPlots d).foldl (fun (u : State) i => u.setEntry false i { u.entry false i with keyGen := true }) t) s

/-- The meter stream after a format: what the spool held is gone, and with it the packet in emission; whole packets in the tail window stay. -/
def Meter.formatted (m : Meter) : Meter :=
  let keep := (m.units.drop (m.units.length - m.tail)).filter (fun u => !decide (m.emitting = some u.1))
  { m with units := keep, tail := keep.length, closing := [], marked := 0, gaps := [], freed := 0, page := [], headPage := [] }

/-- Buffer, cache and drift state of a format: E starts at 0 (R165), C_ref awaits its first test (R209), every pin goes with its line (Table 09.3). -/
def State.formatEngines (s : State) : State :=
  let s := { s with
    wb := { s.wb with frames := [], dirCopy := [], leaves := [], pressing := false, image := none, writing := none, sealing := none, sealed := 0, discards := [], anchors := [], anchorRun := none, anchorFrames := [], cRefFull := 0, whCm := 0 }
    df := { s.df with eff := [], last := s.tb.ztime, gapNext := false, railsOff := [], hourly := [], daily := [], cur := [], old := [], queue := []
                      refreshing := [], refreshOn := [], overdueSeen := [], rewrite := [], scrub := none, margin := none, deltaPerMin := [], applied := [] }
    ev := { s.ev with archive := [], archived := 0, page := [] }
    mt := s.mt.formatted
    sw := { s.sw with snaps := [], bitmapLost := true } }
  let s := if s.rk.maint.isSome then s.maintEnd 1 else s
  ((s.emptyCache false).partition).persist (WP + 0x24) 0

/-- The log field after a format (DESIGN CHOICE: all its plots are erased, and the tree snapshot of both copies opens the ring): the ring goes on behind the
snapshot of `n` slots, and the directory holds two records. -/
def LogField.formatted (n : Nat) : LogField :=
  { pos := 64 * ceilDiv n 64, room := ringSlots, page := [], strandPage := [], dir := 2, dirRoom := 1024, area := none }

/-- Both checkpoint copies of a format, placed before the recorder plots (R443). -/
def State.formatCkpt (s : State) : State :=
  let (crc, s) := s.draw
  let n := levelCount s.usable 2 + levelCount s.usable 3 + levelCount s.usable 4
  let copy (k : Nat) : Ckpt :=
    { s := s.tp.nextSeq - 1, start := s.tb.ztime, done := s.tb.ztime, crc := crc, map := s.tp.map, nodeMap := s.tp.nodeMap, plots := s.tp.plots
      own := (List.range s.ckptPlots).map (fun i => Config.formatPlot s.usable 1 (k * s.ckptPlots + i))
      snapAt := 0, snapLen := n, bumps := s.gx.bumps, l2 := [], l3 := [], l4 := [], crown := []
      eff := s.df.eff, lastDrift := s.df.last, hourly := [], daily := [] }
  let s := { s with tp := { s.tp with ckptA := some (copy 0), ckptB := some (copy 1) }, log := LogField.formatted n, sd := { s.sd with crownLostA := false, crownLostB := false } }
  let s := s.setReg64 (TP + 0x30) (s.tp.nextSeq - 1)
  let s := s.recorderPlots.foldl (fun (t : State) p => t.setPlot p { state := 8, hot := 0, programs := 0 }) s
  s.recomputeX

/-- Media re-formatting with usable size `u`. Where recovery stood with no map base, it goes on to its last step (Table 05.10). -/
def State.format (s : State) (u : Nat) : State :=
  let s := s.persistFld TP 15 0 u
  let s := s.endRequests.dropMediaWork
  let s := s.formatMap.formatTree.formatEngines
  let s := s.formatKeys.formatCkpt
  if s.wb.recovered then s else (s.newSalt.meterGap).setFld (WP + 0x2C) 11 8 7

end Sys2Proof.Machine
end

