-- ==== Sys2Proof/Machine/Vcs.lean ====
section
/-! DEFINITION. Machine/Vcs.lean: VCS commands of groups 0x00 to 0x05 (Table 13.6). Each acts on the command that Lark has taken; payloads whose layout the
spec does not give are operands. An answer is a status, its detail, the response's payload and what follows. -/

namespace Sys2Proof.Machine

/-- Success, with a payload. -/
def done (s : State) (payload : List Byte) : Nat × Nat × List Byte × State := (0, 0, payload, s)

/-- Refused by the rule of a label. -/
def refused (s : State) (rule : Nat) : Nat × Nat × List Byte × State := (4, rule, [], s)

/-- Invalid input in a payload whose layout the spec does not give: the offset of the bad field is an open value. -/
def badInput (s : State) : Nat × Nat × List Byte × State :=
  let (x, t) := s.draw
  (3, x.toNat % 2 ^ 16, [], t)

/-- Not permitted (R358). -/
def outOfScope (s : State) : Nat × Nat × List Byte × State := (0x0B, 0, [], s)

/-- Does a payload of `n` bytes fit the buffer of a command (Table 13.8, status 0x08)? -/
def State.fitsIn (s : State) (t : Taken) (n : Nat) : Bool :=
  decide (32 + n + (if t.auth ∧ (s.auth t.authority).key.isSome then 16 else 0) ≤ t.buffer)

/-! ### Group 0x00 -/

/-- Which authorities hold a key, bit a for authority a. -/
def State.presence (s : State) : Nat := ((List.range 9).map (fun a => if (s.auth a).key.isSome then 2 ^ a else 0)).sum

/-- VCS_IDENTIFY (0x0001): VCS version, image versions, CP_UID, authority presence. -/
def execVcsIdentify (s : State) : Answer :=
  s.vcs (fun op => op = 0x0001) (fun _ t =>
    done t (leBytes 4 3 ++ leBytes 4 (t.reg (CP + 0x10)).toNat ++ leBytes 4 (t.reg (CP + 0x14)).toNat ++ leBytes 8 Config.uid.toNat ++ leBytes 4 t.presence))

/-- GET_COUNTER (0x0002). -/
def execGetCounter (authority : Nat) (s : State) : Answer :=
  s.vcs (fun op => op = 0x0002) (fun _ t => if authority < 9 then done t (leBytes 8 (t.counter authority)) else badInput t)

/-- GET_PROGRESS (0x0003). -/
def execGetProgress (s : State) : Answer := s.vcs (fun op => op = 0x0003) (fun _ t => done t t.progressBytes)

/-- GET_NOTICES (0x0004): the notices that wait, mailbox and tag; they go once they have been given. -/
def execGetNotices (s : State) : Answer :=
  s.vcs (fun op => op = 0x0004) (fun c t =>
    let p := (t.lark.notices.map (fun (x : Nat × Word) => leBytes 4 x.1 ++ leBytes 4 x.2.toNat)).flatten
    done (if t.fitsIn c p.length then { t with lark := { t.lark with notices := [] } } else t) p)

/-! ### Group 0x01: domains (R300, R302, R312, R313) -/

/-- The domain that a Create domain payload asks for (Table 13.9). -/
def domainOf (p : List Byte) : DomainSpec :=
  { dom := msgNat p 0 2 % 4096, ld := msgNat p 2 1 % 32, tier := msgNat p 3 1 % 4, cls := msgNat p 3 1 / 16 % 4
    dpaBase := msgNat p 4 4, dpaLimit := msgNat p 8 4, poolBase := msgNat p 12 4, g := msgNat p 16 2, burst := msgNat p 18 2, beCeiling := msgNat p 20 2
    anchor := (msgNat p 22 1).testBit 0, mirror := (msgNat p 22 1).testBit 1, meterEn := (msgNat p 22 1).testBit 2, userCtr := (msgNat p 22 1).testBit 3 }

/-- Offset of the first field of the payload that is out of its range, in the message; none where every field is in range. -/
def domainBad (p : List Byte) : Option Nat :=
  if p.length ≠ 32 then some 4
  else if 4096 ≤ msgNat p 0 2 then some 32
  else if 32 ≤ msgNat p 2 1 then some 34
  else if msgNat p 3 1 &&& 0xCC ≠ 0 then some 35
  else if 2 ^ 24 ≤ msgNat p 4 4 then some 36
  else if 2 ^ 24 ≤ msgNat p 8 4 then some 40
  else if 2 ^ 24 ≤ msgNat p 12 4 then some 44
  else if 16 ≤ msgNat p 22 1 then some 54
  else if msgNat p 23 9 ≠ 0 then some 55
  else none

/-- CREATE_DOMAIN (0x0101, R300, R312, R313). -/
def execCreateDomain (s : State) : Answer :=
  s.vcs (fun op => op = 0x0101) (fun c t =>
    match domainBad c.payload with
    | some o => (3, o, [], t)
    | none =>
      let x := domainOf c.payload
      if ¬ t.ldScope c x.ld then outOfScope t
      else
        let (code, t) := t.createDomain x
        if code = 0 then done t [] else refused t code)

/-- Has the host accepted an extent of the domain, or is its release under way (Table 12.3)? -/
def State.extentAccepted (s : State) (d : Nat) : Bool := (s.ld (s.domLd d)).extents.any (fun e => decide (e.dom = d) && decide (1 ≤ e.st))

/-- DELETE_DOMAIN (0x0102, R302, R334). -/
def execDeleteDomain (dom : Nat) (s : State) : Answer :=
  s.vcs (fun op => op = 0x0102) (fun c t =>
    if ¬ t.domValid dom then badInput t
    else if ¬ t.ldScope c (t.domLd dom) then outOfScope t
    else if t.extentAccepted dom then refused t 334
    else done (t.deleteDomain dom) [])

/-- MODIFY_DOMAIN (0x0103, R302, R312). -/
def execModifyDomain (dom : Nat) (chg : DomainChange) (s : State) : Answer :=
  s.vcs (fun op => op = 0x0103) (fun c t =>
    if ¬ t.domValid dom then badInput t
    else if ¬ t.ldScope c (t.domLd dom) then outOfScope t
    else
      let (code, t) := t.modifyDomain dom chg
      if code = 0 then done t [] else refused t code)

/-- Create the domains of a plan in order; the first refusal, with its domain. -/
def State.createAll : State → List DomainSpec → (Nat × Nat) × State
  | s, [] => ((0, 0), s)
  | s, x :: xs =>
    let (code, t) := s.createDomain x
    if code = 0 then State.createAll t xs else ((code, x.dom), s)

/-- LOAD_DOMAIN_PLAN (0x0104, R300): every domain of the plan, or none (R313). -/
def execLoadDomainPlan (plan : List DomainSpec) (s : State) : Answer :=
  s.vcs (fun op => op = 0x0104) (fun _ t =>
    let (r, u) := t.createAll plan
    if r.1 = 0 then done u [] else refused (t.refuseDomain r.2 (match plan.find? (fun x => x.dom = r.2) with | some x => x.g | none => 0) r.1) r.1)

/-- LIST_DOMAINS (0x0105): QS_DOM_CFG of every valid domain; on MBj those of LD j. -/
def execListDomains (s : State) : Answer :=
  s.vcs (fun op => op = 0x0105) (fun c t =>
    let ds := t.validDoms.filter (fun d => decide (32 ≤ c.mb) || decide (t.domLd d = c.mb))
    done t ((ds.map (fun d => leBytes 4 (t.reg (QD + d * 0x20)).toNat)).flatten))

/-! ### Group 0x02: keys and authorities (R289, R293, R358, R362, R363) -/

/-- Start a long operation: status 0x0A (R364). -/
def started (c : Taken) (dom : Nat) (s : State) : Nat × Nat × List Byte × State := (0x0A, 0, [], s.beginLong c.opcode c.mb c.authority dom)

/-- ROTATE_DOMAIN_KEY (0x0201, R289, R395). -/
def execRotateDomainKey (dom : Nat) (s : State) : Answer :=
  s.vcs (fun op => op = 0x0201) (fun c t =>
    if ¬ t.domValid dom then badInput t
    else if ¬ t.ldScope c (t.domLd dom) then outOfScope t
    else if t.snapsOf dom ≠ [] then refused t 395
    else if t.gx.rotation.isSome then refused t 289
    else started c dom (t.wantRotation dom false))

/-- CLEAR_QUARANTINE (0x0202, R293). -/
def execClearQuarantine (dom : Nat) (s : State) : Answer :=
  s.vcs (fun op => op = 0x0202) (fun _ t =>
    if 4096 ≤ dom then badInput t
    else done ((t.persist (gxDom dom) (putBits (t.reg (gxDom dom)) 31 31 0)).setFld (gxDom dom) 15 0 0) [])

/-- A fresh counter place at 0 for authority `a` (R481): its own place, erased, or an unused one where its own is worn out. -/
def State.freshPlace (s : State) (a : Nat) : Option State :=
  if ¬ (s.spread a).worn then some (s.setSpread a { Spread.fresh with inUse := (s.spread a).inUse })
  else (s.freePlace).map (fun f => s.moveCounter a f 0)

/-- Install a key and scope for an authority, unlocked. -/
def State.installKey (s : State) (a : Nat) (key : List Byte) (groups lds : Word) : State :=
  let s := { s with lark := { s.lark with auths := Tbl.put s.lark.auths a { key := some key, groups := groups, lds := lds, locked := false } } }
  let s := s.setLock a false
  if a = 0 then s.persist CP (putBits (s.reg CP) 26 26 1) else s

/-- SET_DELEGATE (0x0203, R362). -/
def execSetDelegate (index : Nat) (key : List Byte) (groups lds : Word) (s : State) : Answer :=
  s.vcs (fun op => op = 0x0203) (fun _ t =>
    if index < 1 ∨ 8 < index ∨ key.length ≠ 32 then badInput t
    else match t.freshPlace index with
      | none => refused t 478
      | some u => done (u.installKey index key groups lds) [])

/-- REVOKE_DELEGATE (0x0204, R362): the key is zeroised and the delegate locked until it is set again. -/
def execRevokeDelegate (index : Nat) (s : State) : Answer :=
  s.vcs (fun op => op = 0x0204) (fun _ t =>
    if index < 1 ∨ 8 < index then badInput t
    else done (({ t with lark := { t.lark with auths := Tbl.put t.lark.auths index Authority.absent } }).setLock index true) [])

/-- REKEY_AUTHORITY (0x0205, R363): with physical presence, or for the Owner where no Owner key is present. -/
def execRekeyAuthority (index : Nat) (key : List Byte) (s : State) : Answer :=
  s.vcs (fun op => op = 0x0205) (fun c t =>
    if 8 < index ∨ key.length ≠ 32 then badInput t
    else if ¬ t.flag CP 27 ∧ (index ≠ 0 ∨ (t.auth 0).key.isSome) then refused t 363
    else match t.freshPlace index with
      | none => refused t 478
      | some u => done ((u.installKey index key (t.auth index).groups (t.auth index).lds).event 0xB204 c.mb none c.mb index) [])

/-! ### Groups 0x03 and 0x04: media and Rick -/

/-- MEDIA_REFORMATTING (0x0301, R27): the format, as a long operation. -/
def execMediaReformatting (u : Nat) (s : State) : Answer :=
  s.vcs (fun op => op = 0x0301) (fun c t => if t.usableOk u then started c u (t.format u) else refused t 27)

/-- OVERWRITE_SANITIZE (0x0302): a long operation; the spec gives it no other effect. -/
def execOverwriteSanitize (s : State) : Answer := s.vcs (fun op => op = 0x0302) (fun c t => started c 0 t)

/-- SET_CHANNEL_DISABLE (0x0303, R515): MC_CTL.disable of a channel. -/
def execSetChannelDisable (chan : Nat) (v : Bool) (s : State) : Answer :=
  s.vcs (fun op => op = 0x0303) (fun _ t =>
    if 40 ≤ chan then badInput t
    else
      let o := MC + chan * 0x1000
      let old := t.reg o
      done ((t.persistFld o 30 30 (if v then 1 else 0)).persistDone o old) [])

/-- RICK_MAINTENANCE (0x0401, R256): the answer carries RK_MAINT_STAT; an operation is refused while one runs. -/
def execRickMaintenance (op count : Nat) (key : DWord) (s : State) : Answer :=
  s.vcs (fun o => o = 0x0401) (fun _ t =>
    if 4 < op ∨ count < 1 ∨ 65536 < count ∨ 2 ^ 39 ≤ key.toNat then badInput t
    else if t.flag (RK + 0x3C) 31 then refused (t.maintGo op key.toNat count) 256
    else
      let t := State.maintPump count (t.maintGo op key.toNat count)
      done t (leBytes 4 (t.reg (RK + 0x3C)).toNat))

/-- SET_COMMONS_SIZE (0x0402, R246): RK_CFG.commons_mib, 4 to 64. -/
def execSetCommonsSize (mib : Nat) (s : State) : Answer :=
  s.vcs (fun op => op = 0x0402) (fun _ t => if 4 ≤ mib ∧ mib ≤ 0x40 then done (t.persistFld RK 6 0 mib) [] else badInput t)

/-! ### Group 0x05: time and schedule (Table 02.5, R46, R52 to R54, R355, R512) -/

/-- The confirmed backward step (Table 02.5, R512): ztime goes back by |d|, and every enabled recurring entry recomputes its next due instant. -/
def State.stepBack (s : State) : State :=
  let d := signed 64 (s.reg64 (TB + 0x1C))
  let upTo := s.utcMinute
  let s := { s with tb := { s.tb with ztime := s.tb.ztime - d.natAbs, stepTop := max s.tb.stepTop (s.tb.ztime / 3600000000000), absorb := none, edgeGoal := s.tb.edgeGoal - d.natAbs } }
  let s := ((s.setBit TB 10 false).clearPending).setValid
  let s := s.reacquire.meterClose upTo true
  let s := (List.range 64).foldl (fun (t : State) n => if t.schedEnabled n && !t.schedOneShot n then t.recompute n else t) s
  (s.event 0xB402 0 none (twos 64 d) (twos 64 d / 2 ^ 32)).saveTime

/-- CONFIRM_BACKWARD_STEP (0x0501). -/
def execConfirmBackwardStep (s : State) : Answer :=
  s.vcs (fun op => op = 0x0501) (fun _ t => if t.flag TB 11 then done t.stepBack [] else refused t 44)

/-- DISCARD_BACKWARD_STEP (0x0502). -/
def execDiscardBackwardStep (s : State) : Answer :=
  s.vcs (fun op => op = 0x0502) (fun _ t =>
    if t.flag TB 11 then
      let d := t.reg64 (TB + 0x1C)
      done (({ t.clearPending with tb := { t.tb with ignoring := true } }).event 0xB403 0 none d (d / 2 ^ 32)) []
    else refused t 44)

/-- The schedule entry as it would stand after a write of every field (R46, R52): entry 0 takes its window only. -/
def State.schedPut (s : State) (n : Nat) (ctl period window : Word) (phase : DWord) : State :=
  let o := schedOff n
  let t := s.setReg (o + 8) window
  if n = 0 then t else ((t.setReg o (schedCtl (t.reg o) ctl)).setReg (o + 4) period).setReg64 (o + 0x10) phase.toNat

/-- WRITE_SCHEDULE_ENTRY (0x0503). -/
def execWriteScheduleEntry (entry : Nat) (ctl period window : Word) (phase : DWord) (s : State) : Answer :=
  s.vcs (fun op => op = 0x0503) (fun _ t =>
    let u := t.schedPut entry ctl period window phase
    if 64 ≤ entry ∨ 0x12 < bits ctl 7 0 ∨ ¬ u.schedValid entry then badInput t else done (State.schedChanged t u entry) [])

/-- SAVE_SCHEDULE (0x0504, R53): the fields of entries 1 to 63, but for missed and running. -/
def execSaveSchedule (s : State) : Answer :=
  s.vcs (fun op => op = 0x0504) (fun _ t =>
    let words := ((List.range 63).map (fun i =>
      let o := schedOff (i + 1)
      [(o, t.reg o &&& 0xE00000FF), (o + 4, t.reg (o + 4)), (o + 8, t.reg (o + 8)), (o + 0x10, t.reg (o + 0x10)), (o + 0x14, t.reg (o + 0x14))])).flatten
    done { t with sd := { t.sd with schedule := some words } } [])

/-- SET_TIMED_DOORBELL (0x0505, R355). -/
def execSetTimedDoorbell (n : Nat) (v : Word) (s : State) : Answer :=
  s.vcs (fun op => op = 0x0505) (fun _ t => if 16 ≤ n ∨ 35 < bits v 29 24 then badInput t else done (t.plainWrite .lark (CP + 0x40 + 4 * n) v) [])

end Sys2Proof.Machine
end

