-- ==== Sys2Proof/Machine/View.lean ====
section
/-! DEFINITION. Machine/View.lean: what a read of a register of BAR0 shows (20_register_map and the register tables of every chapter). Most registers hold
their word themselves; those that show what an engine holds are computed here. -/

namespace Sys2Proof.Machine

/-- Low or high half of a 64-bit quantity. -/
def half (hi : Bool) (x : Nat) : Word := BitVec.ofNat 32 (if hi then x / 2 ^ 32 else x)

/-- Word `j` of a byte string. -/
def wordOf (b : List Byte) (j : Nat) : Word := BitVec.ofNat 32 (msgNat b (4 * j) 4)

/-- MC registers (Table 03.15): MC_INFLIGHT counts the tags in use and the tokens held. -/
def State.viewMc (s : State) (c w : Nat) : Word :=
  if w = 0x14 then BitVec.ofNat 32 ((s.chan c).flight.length + (s.chan c).tokens * 2 ^ 16) else s.reg (MC + c * 0x1000 + w)

/-- Age in ms of the oldest delta entry. -/
def State.oldestDelta (s : State) : Nat :=
  match s.codes.deltas.map (fun (x : Nat × Delta) => x.2.first) with
  | [] => 0
  | x :: xs => (s.tb.ztime - xs.foldl min x) / 1000000

/-- CD registers (Table 04.7). -/
def State.viewCd (s : State) (w : Nat) : Word :=
  if w = 0x08 then BitVec.ofNat 32 s.codes.deltas.length
  else if w = 0x0C then BitVec.ofNat 32 (min s.oldestDelta 65535)
  else s.reg (CD + w)

/-- TP registers (Table 05.15). -/
def State.viewTp (s : State) (w : Nat) : Word :=
  if w = 0x1C then BitVec.ofNat 32 (countIf (fun (x : Nat × PlotRec) => decide (x.2.state = 5) && decide (6168 ≤ x.1)) s.tp.plots)
  else if w = 0x2C then BitVec.ofNat 32 s.migsActive
  else if w = 0x38 then BitVec.ofNat 32 (min 65535 (s.journalUse * 65536 / ringSlots))
  else if w = 0x3C then BitVec.ofNat 32 s.tp.strandIdx.length
  else if w = 0x40 then BitVec.ofNat 32 (countIf (fun (x : Nat × MapEntry) => x.2.writeProtect) s.tp.map)
  else if w = 0x44 then
    BitVec.ofNat 32 (countIf (fun (x : Nat × MapEntry) => x.2.degraded) s.tp.map + countIf (fun (x : Nat × MapEntry) => x.2.degraded) s.tp.nodeMap)
  else s.reg (TP + w)

/-- The escalation map in force on at least one channel (DF_STATUS [3:2]). -/
def State.escalated (s : State) (k : Nat) : Bool := s.qs.escal.any (fun (x : Nat × Nat) => decide (x.2 = k))

/-- DF registers (Tables 06.5, 06.7). -/
def State.viewDf (s : State) (w : Nat) : Word :=
  if w = 0x04 then
    BitVec.ofNat 32 ((if s.ageUncertain then 3 else 0) + (if s.escalated 2 then 4 else 0) + (if s.escalated 3 then 8 else 0) +
      (if s.df.scrub.isSome then 16 else 0) + (if s.df.margin.isSome then 32 else 0))
  else if w = 0x24 then BitVec.ofNat 32 s.df.rewrite.length
  else if 0x100 ≤ w ∧ w < 0x240 ∧ w % 4 = 0 then half (decide (w % 8 = 4)) (s.effClock ((w - 0x100) / 8))
  else if 0x300 ≤ w ∧ w < 0x580 ∧ w % 4 = 0 then
    let c := (w - 0x300) / 16
    let d := (w - 0x300) % 16 / 4 * 2
    BitVec.ofNat 32 (twos 16 (s.kDie c d) + twos 16 (s.kDie c (d + 1)) * 2 ^ 16)
  else s.reg (DF + w)

/-- WP_TOKEN_STAT.limiter: bit 0 a thermal cap, bit 1 a hold-up cap below the budget of WP_TOKEN_CTL (DEDUCED). -/
def State.limiter (s : State) : Nat :=
  let b := s.fld (WP + 4) 13 0
  (if s.thermalCap < b then 1 else 0) + (if s.holdupCap < b then 2 else 0)

/-- WP registers (Table 07.8). -/
def State.viewWp (s : State) (w : Nat) : Word :=
  if w = 0x08 then BitVec.ofNat 32 (s.budget + s.limiter * 2 ^ 14 + s.tokensHeld * 2 ^ 16)
  else if w = 0x0C then BitVec.ofNat 32 s.framesInUse
  else if w = 0x14 then BitVec.ofNat 32 s.wb.leaves.length
  else s.reg (WP + w)

/-- Reads held under R229 (RP_STAT). -/
def State.readsHeld (s : State) : Nat := (s.media.chans.map (fun (x : Nat × Chan) => countIf (s.heldByClass x.1) x.2.queue)).sum

/-- Reads past ladder step 1 (RP_STAT): fetches whose data slot is being read at step 2 or later, or is reconstructed. -/
def State.readsPast (s : State) : Nat :=
  let ms := (s.media.chans.map (fun (x : Nat × Chan) => x.2.queue ++ x.2.flight.map (fun f => f.cmd))).flatten
  countIf (fun (f : Fetch) => f.step4 || ms.any (fun m => decide (m.why = .fetch f.id .data) && decide (2 ≤ m.step))) s.host.fetches

/-- RP registers (Table 08.6). -/
def State.viewRp (s : State) (w : Nat) : Word :=
  if w = 0x04 then BitVec.ofNat 32 (s.readsHeld + s.readsPast * 2 ^ 16)
  else if w = 0x08 then BitVec.ofNat 32 (s.portHolds 0 + s.portHolds 1 * 2 ^ 16)
  else if 0x10 ≤ w ∧ w < 0x30 ∧ w % 4 = 0 then s.qs.guardLatch.getD ((w - 0x10) / 4) 0
  else s.reg (RP + w)

/-- RK registers (Table 09.9). -/
def State.viewRk (s : State) (w : Nat) : Word :=
  if w = 0x0C then BitVec.ofNat 32 (countIf (fun (x : Nat × CLine) => x.2.pinned) s.rk.lines) else s.reg (RK + w)

/-- GX registers (Tables 10.9, 10.10). -/
def State.viewGx (s : State) (w : Nat) : Word :=
  if w = 0x04 then
    let v := putBits (putBits (s.reg (GX + 4)) 0 0 (if s.gx.sweep.isSome then 1 else 0)) 1 1 (if s.gx.rotation.isSome then 1 else 0)
    putBits v 15 8 (min 255 s.gx.regrafts.length)
  else if w = 0x18 then putBits (s.reg (GX + 0x18)) 23 0 (s.counter 11)
  else if 0x100 ≤ w ∧ w < 0x1C0 ∧ w % 4 = 0 then
    (if s.wb.recovered then wordOf (s.node 5 ((w - 0x100) / 0x40)).bytes ((w - 0x100) % 0x40 / 4) else 0)
  else s.reg (GX + w)

/-- Domain table (Tables 11.1, 11.2): key_slot, which is always `d`, QS_DOM_EFF and QS_DOM_STATE of domain `d`. -/
def State.viewQd (s : State) (d w : Nat) : Word :=
  if w = 0 then putBits (s.reg (QD + d * 0x20)) 11 0 d
  else if w = 0x18 then (if s.domValid d then BitVec.ofNat 32 (s.geff d) else 0)
  else if w = 0x1C then
    let n := countIf (fun (r : Req) => decide (r.dom = d) && decide (r.st = .held)) s.host.reqs
    BitVec.ofNat 32 ((if n = 0 then 0 else 2 ^ 31) + (if (s.bucket d).gb < 0 then 2 ^ 30 else 0) + min n 65535)
  else s.reg (QD + d * 0x20 + w)

/-- QS control window (Table 11.6). -/
def State.viewQs (s : State) (w : Nat) : Word :=
  if 0x68 ≤ w ∧ w < 0x98 ∧ w % 4 = 0 then s.qs.domLatch.getD ((w - 0x68) / 4) 0 else s.reg (QS + w)

/-- CP registers (Tables 13.12, 13.14): CP_UID, and the mirrors of the progress registers in each mailbox set. -/
def State.viewCp (s : State) (w : Nat) : Word :=
  if w = 0x28 ∨ w = 0x2C then half (decide (w = 0x2C)) Config.uid.toNat
  else if 0x1000 ≤ w ∧ w < 0x1A00 ∧ w % 0x40 = 0x34 then s.reg (CP + 8)
  else if 0x1000 ≤ w ∧ w < 0x1A00 ∧ w % 0x40 = 0x38 then s.reg (CP + 0xC)
  else s.reg (CP + w)

/-- SW_SNAP of a slot (Table 14.7). -/
def State.viewSnap (s : State) (k j : Nat) : Word :=
  match Tbl.find s.sw.snaps k with
  | none => 0
  | some x =>
    if j = 0 then BitVec.ofNat 32 (1 + x.dom % 4096 * 2) else if j = 1 then BitVec.ofNat 32 x.ftag else half (decide (j = 3)) x.number

/-- SW registers (Table 14.7). -/
def State.viewSw (s : State) (w : Nat) : Word :=
  if w = 8 ∧ s.flag (SW + 8) 27 ∧ ¬ (s.tbState = 2 ∧ s.source = 1) then putBits (s.reg (SW + 8)) 27 26 0
  else if w = 0x28 then BitVec.ofNat 32 (s.dirtyFrom 0).length
  else if w = 0x2C then
    (if s.sw.migState = 0 then 0
     else BitVec.ofNat 32 (s.sw.migDom % 4096 + (if s.sw.migSource then s.sw.migNode else s.nodeId) % 256 * 2 ^ 12 + s.sw.migState % 4 * 2 ^ 28))
  else if 0x80 ≤ w ∧ w < 0x100 ∧ w % 4 = 0 then s.viewSnap ((w - 0x80) / 16) ((w - 0x80) % 16 / 4)
  else s.reg (SW + w)

/-- SQ registers (Table 15.16): the levels of FAULT_N and of SQ_PG. -/
def State.viewSq (s : State) (w : Nat) : Word :=
  if w = 0x04 then putBits (s.reg (SQ + 4)) 8 8 (if s.faultHigh then 1 else 0)
  else if 0x100 ≤ w ∧ w < 0x400 ∧ w % 0x20 = 0x10 then putBits (s.reg (SQ + w)) 24 24 (if s.pins.sqPg.getLsbD ((w - 0x100) / 0x20) then 1 else 0)
  else s.reg (SQ + w)

/-- EV registers (Table 17.13). -/
def State.viewEv (s : State) (w : Nat) : Word :=
  if w = 0x08 ∨ w = 0x0C then half (decide (w = 0x0C)) (s.ev.next - 1)
  else if w = 0x10 ∨ w = 0x14 then half (decide (w = 0x14)) s.seqFirst
  else if w = 0x18 then BitVec.ofNat 32 (s.unoffered.length + countIf (fun (x : Staged) => !x.archived) s.ev.staging * 2 ^ 16)
  else if 0x40 ≤ w ∧ w < 0x60 ∧ w % 4 = 0 then (match s.ev.latched with | some e => wordOf e.bytes ((w - 0x40) / 4) | none => 0)
  else s.reg (EV + w)

/-- MT registers (Table 17.14). -/
def State.viewMt (s : State) (w : Nat) : Word :=
  if w = 0x08 then s.mtStatus
  else if w = 0x0C then BitVec.ofNat 32 s.mt.units.length
  else if w = 0x10 then BitVec.ofNat 32 (twos 32 s.mt.firstMinute)
  else if w = 0x14 then BitVec.ofNat 32 (min s.mt.minutes 65535)
  else if 0x100 ≤ w ∧ w < 0x300 ∧ w % 4 = 0 then wordOf ((s.mt.units.map (fun (x : Nat × List Byte) => x.2)).getD ((w - 0x100) / 0x40) []) (w % 0x40 / 4)
  else if 0x300 ≤ w ∧ w < 0x500 ∧ w % 4 = 0 then wordOf (s.mt.newest.getD ((w - 0x300) / 0x40) []) (w % 0x40 / 4)
  else s.reg (MT + w)

/-- PM registers (Table 17.15): PM_VAL and PM_SLOT. -/
def State.viewPm (s : State) (w : Nat) : Word :=
  if 0x100 ≤ w ∧ w < 0xD00 ∧ (w % 16 = 8 ∨ w % 16 = 12) then half (decide (w % 16 = 12)) (Tbl.get (fun _ => 0) s.pm.vals ((w - 0x100) / 16))
  else if 0x1000 ≤ w ∧ w < 0x2400 ∧ w % 4 = 0 ∧ w % 0x80 < 0x48 then
    half (decide (w % 8 = 4)) (Tbl.get (fun _ => 0) s.pm.slots (9 * ((w - 0x1000) / 0x80) + w % 0x80 / 8))
  else s.reg (PM + w)

/-- SD registers (Table 18.9): SD_CTR. -/
def State.viewSd (s : State) (w : Nat) : Word :=
  if 0x100 ≤ w ∧ w < 0x300 ∧ w % 4 = 0 then
    let p := s.rawPlace ((w - 0x100) / 16)
    if w % 16 = 8 then
      BitVec.ofNat 32 (p.seq % 2 ^ 17 + (if p.worn then 2 ^ 24 else 0) + (if p.lost then 2 ^ 25 else 0) + (if p.inUse then 2 ^ 26 else 0))
    else if w % 16 = 12 then 0
    else half (decide (w % 16 = 4)) p.value
  else s.reg (SD + w)

/-- What a read of the register at `o` shows. -/
def State.view (s : State) (o : Nat) : Word :=
  if o = GLB + 4 then putBits (s.reg o) 7 0 (if Config.revIsB0 then 0xB0 else 0xA0)
  else if o = TB + 8 ∨ o = TB + 0xC then half (decide (o = TB + 0xC)) s.tb.ztime
  else if o < MC then s.reg o
  else if o < 0x48000 then s.viewMc ((o - MC) / 0x1000) ((o - MC) % 0x1000)
  else if o < CD then s.reg o
  else if o < TP then s.viewCd (o - CD)
  else if o < DF then s.viewTp (o - TP)
  else if o < WP then s.viewDf (o - DF)
  else if o < RP then s.viewWp (o - WP)
  else if o < RK then s.viewRp (o - RP)
  else if o < GX then s.viewRk (o - RK)
  else if o < QD then s.viewGx (o - GX)
  else if o < HI then s.viewQd ((o - QD) / 0x20) ((o - QD) % 0x20)
  else if o < CP then s.reg o
  else if o < SW then s.viewCp (o - CP)
  else if o < PW then s.viewSw (o - SW)
  else if o < SQ then (if o = PW + 8 ∨ o = PW + 0xC then half (decide (o = PW + 0xC)) s.wakeAt else s.reg o)
  else if o < TH then s.viewSq (o - SQ)
  else if o < EV then s.reg o
  else if o < MT then s.viewEv (o - EV)
  else if o < PM then s.viewMt (o - MT)
  else if o < SD then s.viewPm (o - PM)
  else if o < QS then s.viewSd (o - SD)
  else if o < 0x170000 then s.viewQs (o - QS)
  else s.reg o

end Sys2Proof.Machine
end

