-- ==== Sys2Proof/Machine/Registers.lean ====
section
/-! DEFINITION. Machine/Registers.lean: reads and writes of BAR0 by its requesters: 64-bit pairs (R6, R7), clear on read (R10, R125), registers whose writes do
more than store (routed to the operation of their own row), the rights of Table 20.4, and the MCTP register read (R509). -/

namespace Sys2Proof.Machine

/-! ### Which registers are the low half of a 64-bit quantity (R6) -/

/-- Low halves of the blocks with few of them, by BAR0 offset. -/
def pairsAt : List Nat :=
  [TB + 8, TB + 0x1C, TB + 0x28, TP + 0x30, DF + 0x30, WP + 0x30, WP + 0x3C, WP + 0x44, RK + 0x30, CP + 0x28, SW + 0xC, SW + 0x14, SW + 0x20,
   PW + 8, EV + 8, EV + 0x10, EV + 0x30, MT + 0x18, PM + 0xE04, PM + 0xE14]

/-- Is `o` the low half of a 64-bit quantity? DESIGN CHOICE: a register pair is one where its register table calls it 64-bit; the windows that show
bytes of a latched or moving object (GX_CROWN, EV_READ_DATA, MT_HEAD, MT_TAIL) are single registers, though some of their bytes form 64-bit numbers. -/
def pairLow (o : Nat) : Bool :=
  decide (o ∈ pairsAt) ||
  (decide (TB + 0x1000 ≤ o) && decide (o < TB + 0x1800) && decide (o % 0x20 = 0x10 ∨ o % 0x20 = 0x18)) ||
  (decide (CD + 0x10 ≤ o) && decide (o < CD + 0x38) && decide (o % 8 = 0)) ||
  (decide (DF + 0x100 ≤ o) && decide (o < DF + 0x240) && decide (o % 8 = 0)) ||
  (decide (QS + 0x68 ≤ o) && decide (o < QS + 0x90) && decide (o % 8 = 0)) ||
  (decide (QS + 0xA0 ≤ o) && decide (o < QS + 0xE0) && decide (o % 8 = 0)) ||
  (decide (CP + 0x1000 ≤ o) && decide (o < CP + 0x1A00) && decide (o % 0x40 = 0 ∨ o % 0x40 = 0x10)) ||
  (decide (SW + 0x80 ≤ o) && decide (o < SW + 0x100) && decide (o % 16 = 8)) ||
  (decide (PM + 0x100 ≤ o) && decide (o < PM + 0xD00) && decide (o % 16 = 8)) ||
  (decide (PM + 0x1000 ≤ o) && decide (o < PM + 0x2400) && decide (o % 0x80 < 0x48) && decide (o % 8 = 0)) ||
  (decide (SD + 0x100 ≤ o) && decide (o < SD + 0x300) && decide (o % 16 = 0))

/-- Is `o` the high half of one? -/
def pairHigh (o : Nat) : Bool := decide (4 ≤ o) && pairLow (o - 4)

/-- Is `o` the low half of a CD_LADDER_CNT counter (R125)? -/
def ladderLow (o : Nat) : Bool := decide (CD + 0x10 ≤ o) && decide (o < CD + 0x38) && decide (o % 8 = 0)

/-- The mailbox whose register set holds `o`. -/
def boxOf (o : Nat) : Option Nat := if CP + 0x1000 ≤ o ∧ o < CP + 0x1A00 then some ((o - (CP + 0x1000)) / 0x40) else none

/-! ### Latches and holds -/

/-- The high half latched for a requester by its last read of the low half at `o`. -/
def State.latchAt (s : State) (who : Requester) (o : Nat) : Option Word :=
  (s.latches.find? (fun h => decide (h.who = who) && decide (h.off = o))).map (fun h => h.val)

/-- Latch a high half. -/
def State.latch (s : State) (who : Requester) (o : Nat) (v : Word) : State :=
  { s with latches := { who := who, off := o, val := v } :: s.latches.filter (fun h => !(decide (h.who = who) && decide (h.off = o))) }

/-- The low half held for a requester at `o`. -/
def State.holdAt (s : State) (who : Requester) (o : Nat) : Option Word :=
  (s.holds.find? (fun h => decide (h.who = who) && decide (h.off = o))).map (fun h => h.val)

/-- Forget the low half held. -/
def State.dropHold (s : State) (who : Requester) (o : Nat) : State :=
  { s with holds := s.holds.filter (fun h => !(decide (h.who = who) && decide (h.off = o))) }

/-- Hold a low half; one held before is replaced. -/
def State.hold (s : State) (who : Requester) (o : Nat) (v : Word) : State :=
  let s := s.dropHold who o
  { s with holds := { who := who, off := o, val := v } :: s.holds }

/-! ### Reads -/

/-- Clear the RC fields of the register at `o`. -/
def State.clearRc (s : State) (o : Nat) : State :=
  s.setReg o (assemble (fun f => if f.acc = .rc then 0 else bits (s.reg o) f.hi f.lo) (fieldsAt o))

/-- One register read by requester `who`: its value, and what the read leaves (R6, R10, R125). DESIGN CHOICE: a high half with nothing latched for the
requester reads its live value, and a latched one stays latched until the next read of its low half. -/
def State.readReg (s : State) (who : Requester) (o : Nat) : Word × State :=
  if pairLow o then
    let t := s.latch who o (s.view (o + 4))
    (s.view o, if ladderLow o then t.setReg64 o 0 else t)
  else if pairHigh o then ((s.latchAt who (o - 4)).getD (s.view o), s)
  else (s.view o, s.clearRc o)

/-- Does a queued Seed store write of requester `who` change the register at `o`? -/
def ownWrite (who : Requester) (o : Nat) : SeedWrite → Bool
  | .register w p _ => decide (w = who) && decide (p = o)
  | .pair w p _ _ => decide (w = who) && (decide (p = o) || decide (p + 4 = o))
  | .ownerData _ _ => false

/-- Complete the oldest write of the Seed store queue (R473). -/
def State.seedPop (s : State) : State :=
  match s.sd.queue with
  | [] => s
  | w :: rest => (({ s with sd := { s.sd with queue := rest } }).setBit SD 29 (decide (rest ≠ []))).seedWrite w

/-- A read behind a queued write of the same register by the same requester returns after that write has completed (R505). -/
def State.settleWrites (who : Requester) (o : Nat) : Nat → State → State
  | 0, s => s
  | n + 1, s => if s.sd.queue.any (ownWrite who o) then State.settleWrites who o n s.seedPop else s

/-- The BAR0 offset that a requester's offset names: an LD function sees its mailbox set at LD BAR0 + 0x1_8000 (Table 20.3). -/
def regTarget (who : Requester) (o : Nat) : Option Nat :=
  match who with
  | .host j => if j < 32 ∧ 0x18000 ≤ o ∧ o < 0x18040 then some (mbOff j + (o - 0x18000)) else none
  | .owner | .lark | .mctp | .peer | .engine => some o

/-- What lies at offset `o` of an LD function's BAR0 (Table 20.3): a structure that CXL 3.1 lays out, or (false) nothing that a rule names. -/
def ldCxl (o : Nat) : Bool := (decide (0x1000 ≤ o) && decide (o < 0x11220)) || (decide (0x11400 ≤ o) && decide (o < 0x11408))

/-- Is this an access to an LD function's own BAR0 outside its mailbox set (R503)? -/
def ldOther (who : Requester) (o : Nat) : Bool :=
  match who with
  | .host j => decide (j < 32) && !(decide (0x18000 ≤ o) && decide (o < 0x18040))
  | .owner | .lark | .mctp | .peer | .engine => false

/-- A read there: 0 where nothing lies (R501, R503); a structure that CXL 3.1 lays out answers what CXL says, an open value here. -/
def State.ldRead (s : State) (who : Requester) (o : Nat) : State :=
  if ldCxl o then (let (v, s) := s.draw; s.emit (.readData who (v.setWidth 32))) else s.emit (.readData who 0)

/-- May a requester read the register at `o` (Tables 13.4, 20.4)? -/
def readRight (who : Requester) (o : Nat) : Bool := mayRead who || (match boxOf o with | some k => mailboxOf who k | none => false)

/-- A refused access of wrong size or alignment (R5). -/
def State.badAccess (s : State) (who : Requester) (o : Nat) (write : Bool) : State :=
  (if reqCode who = 3 then s else s.logRefused who 0 o write).commonsRefuse who write

/-- A read by a requester. -/
def State.regRead (s : State) (who : Requester) (o : Nat) : State :=
  if ¬ s.regsUp then s
  else if o % 4 ≠ 0 then s.badAccess who o false
  else if ldOther who o then s.ldRead who o
  else match regTarget who o with
    | none => s.disallowed who o false
    | some p =>
      if ¬ readRight who p then s.disallowed who o false
      else
        let s := State.settleWrites who p s.sd.queue.length s
        let (v, s) := s.readReg who p
        s.emit (.readData who v)

/-! ### Writes -/

/-- A write to a register of a mailbox set by its requester (R350, R353, R354). -/
def State.boxWrite (s : State) (who : Requester) (k w : Nat) (v : Word) : State :=
  if w = 0x08 then (if s.inFull k then s.rejectPost who k v else s.post k v)
  else if w = 0x1C then (if bits v 0 0 = 1 then s.outRelease k else s)
  else if w = 0x20 then s.doorbellIn k v
  else s.plainWrite who (mbOff k + w) v

/-- A write to CP_IN_PTR while the inbound slot is full (R350). -/
def State.rejectPtr (s : State) (who : Requester) (k : Nat) : State :=
  match who with
  | .owner | .host _ | .mctp | .peer | .lark => s.rejectPost who k 0
  | .engine => s.bump (CP + 0x20) 31 16 1

/-- A write to half of PM_VAL, while its counter is not enabled (Table 17.15). -/
def State.pmValPut (s : State) (i : Nat) (lo hi : Option Word) : State :=
  if s.flag (PM + 0x100 + i * 0x10) 31 then s
  else
    let old := Tbl.get (fun _ => 0) s.pm.vals i
    let l := match lo with | some v => v.toNat | none => old % 2 ^ 32
    let h := match hi with | some v => v.toNat % 2 ^ 16 | none => old / 2 ^ 32
    { s with pm := { s.pm with vals := Tbl.set (fun _ => 0) s.pm.vals i (l + h * 2 ^ 32) } }

/-- RK_MAINT_CMD (R256): op and count are stored, and go starts the operation. -/
def State.maintCmd (s : State) (who : Requester) (v : Word) : State :=
  let s := s.plainWrite who (RK + 0x38) v
  if bits v 31 31 = 1 then s.maintRow (s.fld (RK + 0x38) 19 16) else s

/-- A write to a register that is no half of a 64-bit quantity. -/
def State.wordWrite (s : State) (who : Requester) (o : Nat) (v : Word) : State :=
  match boxOf o with
  | some k => s.boxWrite who k (o % 0x40) v
  | none =>
    if MC ≤ o ∧ o < 0x48000 ∧ (o - MC) % 0x1000 = 0 then
      let t := s.plainWrite who o v
      if bits v 31 31 = 1 then t.triggerReset ((o - MC) / 0x1000) 4 else t
    else if MC ≤ o ∧ o < 0x48000 ∧ (o - MC) % 0x1000 = 8 then s.arbMapWrite ((o - MC) / 0x1000) v
    else if o = RP + 0xC then s.guardSel v
    else if o = QS + 0x60 then s.domSel v
    else if o = RK + 0x38 then s.maintCmd who v
    else if o = SW + 4 then (let t := s.plainWrite who o v; if bits v 31 31 = 1 then t.fabricReset else t)
    else if o = PM then
      let t := s.plainWrite who o v
      if bits v 1 1 = 1 then { t with pm := { t.pm with slots := [] } } else t
    else s.plainWrite who o v

/-- Both halves of a 64-bit quantity take effect (R7): the high half `v`, with the low half held at `o` if one is. -/
def State.pairWrite (s : State) (who : Requester) (o : Nat) (v : Word) : State :=
  let lo := s.holdAt who o
  let s := s.dropHold who o
  match boxOf o with
  | some k =>
    if o % 0x40 = 0 then
      (if s.inFull k then s.rejectPtr who k
       else (match lo with | some l => s.setReg o l | none => s).setReg (o + 4) v)
    else s
  | none =>
    if PM + 0x100 ≤ o ∧ o < PM + 0xD00 then s.pmValPut ((o - (PM + 0x100)) / 16) lo (some v)
    else match lo with
      | none => s.plainWrite who (o + 4) v
      | some l => if hasPersist o then s.queueSeed (.pair who o l v) else (s.plainWrite who o l).plainWrite who (o + 4) v

/-- A register write of requester `who` that it has the right to make. -/
def State.regPut (s : State) (who : Requester) (o : Nat) (v : Word) : State :=
  if TB + 0x1000 ≤ o ∧ o < TB + 0x1800 then s.schedWrite who ((o - (TB + 0x1000)) / 0x20) (o % 0x20 / 4) v
  else if o = EV + 0x34 then s.readSeq who v
  else if pairLow o then
    (match boxOf o with
     | some k => if o % 0x40 = 0 ∧ s.inFull k then s.rejectPtr who k else s.hold who o v
     | none => s.hold who o v)
  else if pairHigh o then s.pairWrite who (o - 4) v
  else s.wordWrite who o v

/-- A write by a requester (R348, R504). In an LD function's own BAR0 it is ignored outside the mailbox set: what writes to CXL's structures do has rows of
its own (R503). -/
def State.regWrite (s : State) (who : Requester) (o : Nat) (v : Word) : State :=
  if ¬ s.regsUp then s
  else if o % 4 ≠ 0 then s.badAccess who o true
  else if ldOther who o then s
  else match regTarget who o with
    | none => s.disallowed who o true
    | some p =>
      match boxOf p with
      | some k => if mailboxOf who k then s.regPut who p v else s.commonsRefuse who true
      | none => if mayWrite who then s.regPut who p v else s.disallowed who o true

/-! ### The rows -/

/-- REGISTER_WRITE (R10): a write to a register that has no row of its own. -/
def execRegisterWrite (who : Requester) (off : Nat) (v : Word) (s : State) : Answer := .next (s.regWrite who off v)

/-- BAR0_BAD_SIZE_ACCESS (R5). -/
def execBar0BadSizeAccess (who : Requester) (off : Nat) (write : Bool) (s : State) : Answer :=
  .next (if s.regsUp then s.badAccess who off write else s)

/-- LOW_HALF_READ (R6). -/
def execLowHalfRead (who : Requester) (off : Nat) (s : State) : Answer := .next (s.regRead who off)

/-- LOW_HALF_WRITE (R7). -/
def execLowHalfWrite (who : Requester) (off : Nat) (v : Word) (s : State) : Answer := .next (s.regWrite who off v)

/-- HIGH_HALF_WRITE (R7). -/
def execHighHalfWrite (who : Requester) (off : Nat) (v : Word) (s : State) : Answer := .next (s.regWrite who off v)

/-- CLEAR_ON_READ (R10): a register read; RC fields return their value and clear. -/
def execClearOnRead (who : Requester) (off : Nat) (s : State) : Answer := .next (s.regRead who off)

/-- CD_LADDER_CNT_LOW_READ (R125): counter `k` of CD_LADDER_CNT. -/
def execCdLadderCntLowRead (who : Requester) (k : Nat) (s : State) : Answer := below k 5 s (.next (s.regRead who (CD + 0x10 + 8 * k)))

/-- Registers at ascending offsets read over MCTP. -/
def State.mctpReads : Nat → Nat → State → List Word × State
  | 0, _, s => ([], s)
  | n + 1, o, s =>
    let (v, s) := s.readReg .mctp o
    let (vs, s) := State.mctpReads n (o + 4) s
    (v :: vs, s)

/-- MCTP_REGISTER_READ (R509, R474, R415): code 0x01 while recall runs, no acknowledgement in A3 and Off otherwise. A message that does not carry the
Vendor ID of the part is not this message. -/
def execMctpRegisterRead (vendor count off : Nat) (s : State) : Answer :=
  .next (
    if vendor ≠ 0x1F7E then s
    else if s.power = 4 ∧ s.heading 0 ∧ ¬ s.recalled then s.emit (.mctp 1 [])
    else if ¬ s.regsUp then s.emit (.sideband false)
    else if count = 0 ∨ 64 < count ∨ off % 4 ≠ 0 ∨ 0x200000 < off + 4 * count then s.emit (.mctp 2 [])
    else
      let (vs, s) := State.mctpReads count off s
      s.emit (.mctp 0 vs))

end Sys2Proof.Machine
end

