-- ==== Sys2Proof/Machine/Vcs2.lean ====
section
/-! DEFINITION. Machine/Vcs2.lean: VCS commands of groups 0x06 to 0x0B (Table 13.6): firmware and activation (R341 to R343, R367, R368), mirror, migration and
cuts (R383, R388, R389, R391, R394), power (R404), recorder and meter (R445, R455), RWA fields (R508), control profile (R346), owner data area (R473). -/

namespace Sys2Proof.Machine

/-! ### Group 0x06: images -/

/-- Does the boot ROM accept the image of a slot (R343)? Digest and signature are a verdict on its bytes. -/
def ImageSlot.good (x : ImageSlot) (svnMin : Nat) : Bool :=
  (x.factory || (decide (x.word 0 4 = 0x4C41524B) && decide (x.word 16 4 ≤ 786432) && Config.sealVerifies (imageBytes x))) && decide (svnMin ≤ x.svn)

/-- An image slot of the boot flash: false A, true B. -/
def State.slotOf (s : State) (b : Bool) : ImageSlot := if b then s.lark.slotB else s.lark.slotA

/-- The running slot (CP_STATUS.slot). -/
def State.slotRuns (s : State) : Bool := decide (s.fld CP 25 24 = 1)

/-- CP_SVN_MIN. -/
def State.svnMin (s : State) : Nat := s.fld (CP + 0x18) 15 0

/-- CP_FW_ALT: the version of the other slot, 0 when not accepted. -/
def State.showAlt (s : State) : State :=
  let x := s.slotOf (!s.slotRuns)
  s.setReg (CP + 0x14) (BitVec.ofNat 32 (if x.good s.svnMin then x.version else 0))

/-- TRANSFER_IMAGE_CHUNK (0x0601, R341): bytes into the inactive slot of the boot flash. -/
def execTransferImageChunk (off : Nat) (bytes : List Byte) (s : State) : Answer :=
  s.vcs (fun op => op = 0x0601) (fun _ t =>
    if 0x100000 < off + bytes.length then badInput t
    else
      let b := !t.slotRuns
      let x := t.slotOf b
      let y : ImageSlot := { factory := false, bytes := x.bytes.writeBytes off bytes }
      done (State.showAlt { t with lark := { t.lark with slotA := if b then t.lark.slotA else y, slotB := if b then y else t.lark.slotB } }) [])

/-- ACTIVATE_INACTIVE_SLOT (0x0602, R367): refused, or step 1 of Table 13.10. -/
def execActivateInactiveSlot (s : State) : Answer :=
  s.vcs (fun op => op = 0x0602) (fun c t =>
    let new := t.slotOf (!t.slotRuns)
    if ¬ new.good t.svnMin ∨ (t.slotOf t.slotRuns).handoff < new.handoffMin ∨ t.flushing ∨ ¬ t.wb.recovered then refused t 367
    else started c 0 { t with lark := { t.lark with act := some { step := 1, version := new.version, start := t.tb.tick } } })

/-- The directory copy in force (R341): the copy with the higher sequence number. -/
def dirBest (l : List (Nat × Nat × Bool)) : Option (Nat × Nat × Bool) :=
  match l with
  | [] => none
  | x :: xs => some (xs.foldl (fun a b => if a.2.1 < b.2.1 then b else a) x)

/-- The directory names slot `b`: the other copy is written with the next sequence number (R341). -/
def State.writeDirectory (s : State) (b : Bool) : State :=
  let x : Nat × Nat × Bool := match dirBest s.lark.dirSeq with | some d => (1 - d.1, d.2.1 + 1, b) | none => (0, 1, b)
  { s with lark := { s.lark with dirSeq := s.lark.dirSeq.filter (fun d => ¬ d.1 = x.1) ++ [x] } }

/-- Steps 4 to 7 of Table 13.10: the new image has taken over. -/
def State.activated (s : State) (a : Activation) : State :=
  let new := !s.slotRuns
  let s := (s.setFld CP 25 24 (if new then 1 else 0)).setReg (CP + 0x10) (BitVec.ofNat 32 (s.slotOf new).version)
  let s := State.writeDirectory { s with lark := { s.lark with act := none } } new
  let s := (List.range 40).foldl (fun (t : State) k => t.ringOut k 8) s.showAlt
  (s.event 0xB103 0 none a.version 0).endLong 0

/-- The activation is abandoned (R368): cores 2 and 3 run the old image again. The spec gives no number for its result: an open value, not success. -/
def State.abandon (s : State) (a : Activation) : State :=
  let (x, s) := ({ s with lark := { s.lark with act := none } }).draw
  let r := x.toNat % 255 + 1
  (s.event 0xB104 0 none a.version r).endLong r

/-- ACTIVATION_IMAGE_READY (R367, Table 13.10 steps 3 to 7): the new image has reported ready; it takes the state handed over, or rejects it. -/
def execActivationImageReady (accepted : Bool) (s : State) : Answer :=
  .next (match s.lark.act with
    | none => s
    | some a => if accepted then s.activated a else s.abandon a)

/-- ACTIVATION_TIMEOUT (R368): not ready by 2,000 ms. -/
def execActivationTimeout (s : State) : Answer :=
  .next (match s.lark.act with
    | none => s
    | some a => if a.start + 2000000 ≤ s.tb.tick then s.abandon a else s)

/-- RAISE_SVN_MIN (0x0603): CP_SVN_MIN rises to the running image's security version. -/
def execRaiseSvnMin (s : State) : Answer :=
  s.vcs (fun op => op = 0x0603) (fun _ t => done (State.showAlt (t.persistFld (CP + 0x18) 15 0 (max t.svnMin (t.slotOf t.slotRuns).svn))) [])

/-! ### Group 0x07: mirror, migration, cuts -/

/-- Is the owner general area smaller than the bitmap (R389)? -/
def State.bitmapTooBig (s : State) : Bool := decide ((s.rk.commonsMib - 4) * 8192 < s.usable)

/-- Name another partner (R383): the pair there was ends as at a loss of the partner; what a new pair copies is everything. -/
def State.namePartner (s : State) (uid : DWord) : State :=
  let s := if s.mirrorState = 2 ∨ s.mirrorState = 5 then s.partnerLost else s
  let s := s.persist64 (SW + 0x14) uid.toNat
  let s := s.setReg (SW + 0x1C) (BitVec.ofNat 32 (if uid = 0 then 0 else 2 ^ 28))
  let s := { s with sw := { s.sw with peerNames := false, peerLeads := false, clash := false, confirmed := [], bitmapLost := true } }
  (s.swPorts.foldl (fun (t : State) p => t.sendHello p) s).swFree.pairTry

/-- Promote an ISOLATED follower: leader in DEGRADED (R388). -/
def State.promote (s : State) : State := ((s.setMirror 3).setBit (SW + 0x1C) 27 true).setBit (SW + 0x1C) 26 true

/-- Demote a leader: it is to be resynced in full by the other (R388). -/
def State.demote (s : State) : State :=
  let s := ((s.setMirror 4).setBit (SW + 0x1C) 27 false).setBit (SW + 0x1C) 26 false
  let s := { s with sw := { s.sw with clash := false, nextSeq := 0, early := [] } }
  (s.swPorts.foldl (fun (t : State) p => t.sendHello p) s).pairTry

/-- SET_MIRROR_PARTNER (0x0701, R383, R388, R389). -/
def execSetMirrorPartner (uid : DWord) (promote demote : Bool) (s : State) : Answer :=
  s.vcs (fun op => op = 0x0701) (fun _ t =>
    if t.bitmapTooBig then refused t 389
    else if (promote ∧ demote) ∨ ((promote ∨ demote) ∧ uid.toNat ≠ t.partnerUid) then badInput t
    else if promote then (if t.mirrorState = 4 ∧ ¬ t.leads then done t.promote [] else refused t 388)
    else if demote then (if t.leads then done t.demote [] else refused t 388)
    else done (if uid.toNat = t.partnerUid then t else t.namePartner uid) [])

/-- The message of Prepare target (R391 step 1): the destination domain with the source's size, tier, class, g, burst, be_ceiling and flags. -/
def State.targetVals (s : State) (d dstDom dstLd dpaBase poolBase : Nat) (snap : Bool) : List Nat :=
  [dstDom, dstLd, s.domTier d, s.domClass d, dpaBase, dpaBase + s.domSize d, poolBase, s.domG d, s.fld (QD + d * 0x20 + 0x10) 31 16,
   s.fld (QD + d * 0x20 + 0x14) 15 0, s.fld (QD + d * 0x20) 15 12, if snap then 1 else 0]

/-- START_LIVE_DOMAIN_MIGRATION (0x0702, R391, R400): every plot of the domain counts as dirty, and Prepare target goes out. -/
def execStartLiveDomainMigration (dom node dstDom dstLd dpaBase poolBase : Nat) (snapSlot : Option Nat) (s : State) : Answer :=
  s.vcs (fun op => op = 0x0702) (fun c t =>
    let snapOk : Bool := match snapSlot with
      | none => true
      | some k => (match Tbl.find t.sw.snaps k with | some x => decide (x.dom = dom) && x.cut && !x.ending | none => false)
    if ¬ t.domValid dom ∨ 256 ≤ node ∨ node = t.nodeId ∨ 4096 ≤ dstDom ∨ 32 ≤ dstLd ∨ ¬ snapOk then badInput t
    else if t.domMirror dom ∨ t.migActive then refused t 391
    else
      let t := { t with sw := { t.sw with migState := 1, migDom := dom, migNode := node, migDst := dstDom, migSource := true
                                          migSnap := snapSlot, migPool := poolBase, migSeq := migBase + 1, resyncLine := 0 } }
      let t := (t.dirtyDomain dom).sendPeer node 0x0712 (t.targetVals dom dstDom dstLd dpaBase poolBase snapSlot.isSome)
      started c dom t)

/-- The least instant of a cut (R394): D·h + 2 ms after the present ztime. -/
def State.cutLead (s : State) : Nat := s.tb.ztime + s.fld (SW + 8) 19 16 * 150 + 2000000

/-- An Arm as a message's values: operation, instant, tag, and the pairs. -/
def cutCode : CutOp → Nat
  | .snapshot => 0
  | .reset => 1
  | .disarm => 2
  | .release => 3

def armVals (c : CutSpec) : List Nat := [cutCode c.op, c.at_, c.ftag] ++ (c.pairs.map (fun p => [p.1, p.2])).flatten

/-- Every other node of the fabric. -/
def State.otherNodes (s : State) : List Nat := (List.range (s.fld (SW + 8) 15 8 + 1)).filter (fun n => ¬ n = s.nodeId)

/-- ARM_SNAPSHOT_OR_RESET_CUT (0x0703, R394, R399, Table 14.6): installed here, or kept while formation is in progress, and sent to every other node. -/
def execArmSnapshotOrResetCut (c : CutSpec) (s : State) : Answer :=
  s.vcs (fun op => op = 0x0703) (fun _ t =>
    if 64 < c.pairs.length ∨ c.pairs.any (fun p => decide (256 ≤ p.1) || decide (4096 ≤ p.2)) then badInput t
    else if ¬ c.op = .disarm ∧ ¬ (c.op = .release ∧ c.at_ = 0) ∧ c.at_ < t.cutLead then badInput t
    else
      let t := if t.swState = 1 then { t with sw := { t.sw with armWait := t.sw.armWait ++ [(c, t.nodeId)] } } else t.installCut c t.nodeId
      done (t.otherNodes.foldl (fun (u : State) n => u.sendPeer n 0x0713 (armVals c)) t) [])

/-! ### Group 0x08: power (R404) -/

/-- REQUEST_POWER_STATE (0x0801, R404, R415): on MB32 or MB33, or to the sideband responder. -/
def execRequestPowerState (viaResponder : Bool) (target : Nat) (s : State) : Answer :=
  if viaResponder then .next (s.sideband target)
  else s.vcs (fun op => op = 0x0801) (fun _ t =>
    let (code, u) := t.requestState target
    if code = 0 then done u [] else if code = 3 then badInput u else refused u 404)

/-! ### Group 0x09: recorder and meter -/

/-- CLEAR_EVENT_RECORDER (0x0901, R445). -/
def execClearEventRecorder (s : State) : Answer :=
  s.vcs (fun op => op = 0x0901) (fun c t =>
    let n := ((t.heldRecords.map (fun e => e.seq)).eraseDups).length
    let t := { t with ev := { t.ev with staging := [], ring := [], archive := [] } }
    done (t.event 0xF101 0 none (min n (2 ^ 32 - 1)) (c.mb + c.authority % 16 * 256)) [])

/-- FLUSH_METER_STREAM (0x0902, R455): every unit is discarded; MT_DISCARD and event 0xF201 carry the bytes. MT_CTL.flush is set and cleared in the
one step. -/
def execFlushMeterStream (s : State) : Answer :=
  s.vcs (fun op => op = 0x0902) (fun _ t =>
    let n := 64 * (t.mt.units.length + t.mt.closing.length)
    let t := State.spoolErase { t with mt := { t.mt with units := [], tail := 0, closing := [], gaps := [], headPage := [], cut := decide (0 < t.mt.portPos) } }
    done (((t.setReg64 (MT + 0x18) n).event 0xF201 0 none n (n / 2 ^ 32)).meterRequest) [])

/-! ### Group 0x0A: RWA fields, control profile, owner data area -/

/-- Does Table 20.5 give the register at `o` to a command other than 0x0A01? -/
def rwaElsewhere (o : Nat) : Bool :=
  decide (o = TP ∨ o = SW + 0x14 ∨ o = SW + 0x18 ∨ o = MT) || (decide (GX + 0x1000 ≤ o) && decide (o < GX + 0x5000)) ||
    (decide (QD ≤ o) && decide (o < QD + 0x20000) && decide (o % 0x20 < 0x18))

/-- Does Table 20.5 give it to 0x0A01? -/
def rwaHere (o : Nat) : Bool :=
  decide (o = HI ∨ o = TH + 0x60 ∨ o = TH + 0x64 ∨ o = TH + 0x68 ∨ o = GLB + 0x100) || (decide (HI + 0x40 ≤ o) && decide (o < HI + 0xC0))

/-- The RWA bits of a register. -/
def rwaMask (o : Nat) : Word := assemble (fun f => if f.acc = .rwa then 2 ^ (f.hi + 1 - f.lo) - 1 else 0) (fieldsAt o)

/-- The word that value and mask leave (R9, R508): a field with a reserved encoding keeps its value. -/
def rwaWord (o : Nat) (old mask v : Word) : Word :=
  let w := (old &&& ~~~ mask) ||| (v &&& mask)
  assemble (fun f => if f.legal.ok (bits w f.hi f.lo) then bits w f.hi f.lo else bits old f.hi f.lo) (fieldsAt o)

/-- HI_LD_CFG of every valid LD: LD and word. -/
def State.ldWords (s : State) : List (Nat × Word) :=
  ((List.range 32).map (fun i => (i, s.reg (HI + 0x40 + 4 * i)))).filter (fun x => decide (bits x.2 31 31 = 1))

/-- May the LD configuration stand (R330): links exist (R324), no two LDs of a link share ld_id, link 0 of the owner port has no second LD (R328)? -/
def State.ldConfigOk (s : State) : Bool :=
  let l := s.ldWords
  l.all (fun x => decide (bits x.2 26 25 < s.portLinks (x.1 / 16))) &&
  decide ((l.map (fun x => (x.1 / 16, bits x.2 26 25, bits x.2 23 20))).Nodup) &&
  decide (countIf (fun x => decide (x.1 / 16 = s.host.ownerPort) && decide (bits x.2 26 25 = 0)) l ≤ 1)

/-- What a write of RWA fields sets going: sensors masked are absent (R426); a reset that was asked for starts (R460). -/
def State.rwaDone (s : State) (o : Nat) (v : Word) : State :=
  if TH + 0x60 ≤ o ∧ o ≤ TH + 0x68 then (s.dropAbsent).thermalUpdate
  else if o = GLB + 0x100 then
    (if bits v 29 29 = 1 then s.coldRestart else if bits v 31 31 = 1 then s.warmReset 2 else if bits v 30 30 = 1 then s.controlReset 2 else s)
  else s

/-- The write of R508, once it names a register of 0x0A01 and RWA bits of it. -/
def State.rwaWrite (s : State) (o : Nat) (mask v : Word) : Nat × Nat × List Byte × State :=
  if o = GLB + 0x100 then done (s.rwaDone o (v &&& mask)) []
  else
    let w := rwaWord o (s.reg o) mask v
    if HI + 0x40 ≤ o ∧ o < HI + 0xC0 ∧ ¬ (s.setReg o w).ldConfigOk then refused (s.event 0xA104 0 none ((o - (HI + 0x40)) / 4) w.toNat) 330
    else if ¬ s.seedOpen o then refused (s.persist o w) 475
    else done ((s.persist o w).rwaDone o v) []

/-- WRITE_RWA_FIELD (0x0A01, R508): the tests of Table 20.5 in order. -/
def execWriteRwaField (s : State) : Answer :=
  s.vcs (fun op => op = 0x0A01) (fun c t =>
    let p := c.payload
    let o := msgNat p 0 4
    let mask : Word := BitVec.ofNat 32 (msgNat p 4 4)
    if p.length ≠ 20 then (3, 4, [], t)
    else if rwaElsewhere o then refused t 505
    else if ¬ rwaHere o then (3, 32, [], t)
    else if mask &&& ~~~ rwaMask o ≠ 0 then (3, 36, [], t)
    else if msgNat p 12 4 ≠ 0 then (3, 44, [], t)
    else t.rwaWrite o mask (BitVec.ofNat 32 (msgNat p 8 4)))

/-- SAVE_CONTROL_PROFILE (0x0A02, R346): up to 2,048 entries. -/
def execSaveControlProfile (entries : List (Nat × Word)) (s : State) : Answer :=
  s.vcs (fun op => op = 0x0A02) (fun _ t =>
    if 2048 < entries.length then badInput t
    else done (({ t with sd := { t.sd with profile := entries, profileLost := false } }).setFld (CP + 0x30) 11 0 entries.length) [])

/-- READ_OWNER_DATA_AREA (0x0A03). -/
def execReadOwnerDataArea (off count : Nat) (s : State) : Answer :=
  s.vcs (fun op => op = 0x0A03) (fun _ t => if 65536 < off + count ∨ count % 4 ≠ 0 then badInput t else done t (t.sd.ownerData.readBytes off count))

/-- WRITE_OWNER_DATA_AREA (0x0A04, R473): up to 4,096 bytes, through the Seed store queue; refused as a whole past the end of the area. -/
def execWriteOwnerDataArea (off : Nat) (bytes : List Byte) (s : State) : Answer :=
  s.vcs (fun op => op = 0x0A04) (fun _ t =>
    if 4096 < bytes.length ∨ 65536 < off + bytes.length then badInput t else done (t.queueSeed (.ownerData off bytes)) [])

/-! ### Group 0x0B, and what is in no table -/

/-- FM_API_TUNNEL (0x0B01): served; the FM command that it carries is its own row, and the spec gives the response no layout: eight open bytes. -/
def execFmApiTunnel (s : State) : Answer :=
  s.vcs (fun op => op = 0x0B01) (fun _ t =>
    let (b, t) := State.drawBytes 1 t
    done t b)

/-- VCS_UNSUPPORTED_OPCODE (R357): status 0x02. -/
def execVcsUnsupportedOpcode (s : State) : Answer :=
  s.vcs (fun op => decide (op ∉ vcsOpcodes) && !peerOpcode op) (fun _ t => (2, 0, [], t))

end Sys2Proof.Machine
end

