-- ==== Sys2Proof/Machine/Firmware.lean ====
section
/-! DEFINITION. Machine/Firmware.lean: Lark start (Table 13.3; R341 to R346, R366, R53): the boot slot, the control profile, the schedule, and a long operation
that was cut off. -/

namespace Sys2Proof.Machine

/-! ### Steps 1 to 4: the slot (R341 to R344) -/

/-- Do two directory copies with the same sequence number, the best there is, name different slots (R342)? -/
def dirClash (l : List (Nat × Nat × Bool)) : Bool :=
  match dirBest l with
  | none => false
  | some d => l.any (fun x => decide (x.2.1 = d.2.1) && !decide (x.2.2 = d.2.2))

/-- The active slot: the one the directory in force names; slot A where it is ambiguous or there is none. -/
def State.activeSlot (s : State) : Bool :=
  if dirClash s.lark.dirSeq then false
  else match dirBest s.lark.dirSeq with
    | some d => d.2.2
    | none => false

/-- Why the boot ROM rejects an image, as event 0xB101 says it. -/
def ImageSlot.fault (x : ImageSlot) (svnMin : Nat) : Nat := if x.svn < svnMin then 2 else 1

/-- The slot that boots, if one is accepted; event 0xB101 where it is not the active one. -/
def State.chooseSlot (s : State) : Option Bool × State :=
  let a := s.activeSlot
  let s := if dirClash s.lark.dirSeq then s.event 0xB101 0 none 0 3 else s
  if s.flag (GLB + 8) 3 then (none, s)
  else if (s.slotOf a).good s.svnMin then (some a, s)
  else if (s.slotOf (!a)).good s.svnMin then (some (!a), s.event 0xB101 0 none (if a then 1 else 0) ((s.slotOf a).fault s.svnMin))
  else (none, s)

/-! ### Step 5: control profile and schedule (R346, R53) -/

/-- May the control profile write `v` to the register at `o` (R346)? -/
def State.profileOk (s : State) (o : Nat) (v : Word) : Bool :=
  decide (o % 4 = 0) && decide (o < 0x200000) && (boxOf o).isNone && (fieldsAt o).any (fun f => decide (f.keep = .c)) && wholeOk o v &&
    (fieldsAt o).all (fun f => if f.acc = .rw ∨ f.acc = .rwp then f.legal.ok (bits v f.hi f.lo) && crossOk o f (s.reg o) v else true)

/-- Perform the writes of the control profile in list order; those it skips are counted. -/
def State.applyProfile (s : State) : State :=
  if s.sd.profileLost then s
  else
  let es := s.sd.profile
  let (s, k) := es.foldl (fun (a : State × Nat) (e : Nat × Word) =>
    if a.1.profileOk e.1 e.2 then (a.1.regWrite .lark e.1 e.2, a.2) else (a.1, a.2 + 1)) (s, 0)
  s.setReg (CP + 0x30) (BitVec.ofNat 32 (es.length % 4096 + k % 4096 * 2 ^ 12 + 2 ^ 31))

/-- Default entries 1 to 14 (Table 02.7): control word, period and window in ms; every phase is 0. -/
def schedDefaults : List (Nat × Nat × Nat) :=
  [(0x80000002, 60000, 10000), (0x80000003, 50, 10), (0x80000004, 1, 1), (0x80000005, 600000, 60000), (0x80000006, 3600000, 600000),
   (0xA0000007, 604800000, 86400000), (0x80000008, 86400000, 3600000), (0x80000009, 3600000, 600000), (0x8000000A, 600000, 60000),
   (0x8000000B, 100, 50), (0x8000000F, 86400000, 3600000), (0x80000010, 3600000, 60000), (0x80000011, 1000, 1000), (0x8000000C, 100, 100)]

/-- The default schedule as register words. -/
def schedDefaultWords : List (Nat × Word) :=
  ((schedDefaults.zip (List.range 14)).map (fun x =>
    let o := schedOff (x.2 + 1)
    [(o, BitVec.ofNat 32 x.1.1), (o + 4, BitVec.ofNat 32 x.1.2.1), (o + 8, BitVec.ofNat 32 x.1.2.2), (o + 0x10, 0), (o + 0x14, 0)])).flatten

/-- Store one word of a saved schedule; missed and running of a control word stay. -/
def State.schedLoadWord (s : State) (x : Nat × Word) : State := s.setReg x.1 (if x.1 % 0x20 = 0 then schedCtl (s.reg x.1) x.2 else x.2)

/-- Load the schedule, saved or by default, once for each cold power-on (R53). Entries that run get their due instants at the next tick (R46). -/
def State.loadSchedule (s : State) : State :=
  if s.lark.scheduled then s
  else
    let words := match s.sd.schedule with | some l => l | none => schedDefaultWords
    let t := words.foldl State.schedLoadWord s
    let t := ((List.range 64).filter (fun n => decide (schedOff n ∈ words.map (fun x => x.1)))).foldl (fun (u : State) n => State.schedChanged s u n) t
    { t with lark := { t.lark with scheduled := true } }

/-- Firmware sets the escalation maps of R181 again after a control reset (R466). -/
def State.showEscal (s : State) : State := s.qs.escal.foldl (fun (t : State) x => t.setReg (MC + x.1 * 0x1000 + 8) (escalMap x.2)) s

/-! ### Step 6 (R366) -/

/-- A long operation that was cut off goes on. -/
def State.resumeLong (s : State) : State :=
  match s.lark.longOp with
  | none => s
  | some l =>
    if l.opcode = 0x0602 then (match s.lark.act with | some a => s.abandon a | none => s)
    else
      let s := if l.opcode = 0x0301 ∧ s.usableOk l.dom then s.format l.dom else s
      let s := if l.opcode = 0x0702 ∧ s.sw.bitmapLost then
          { (s.dirtyDomain s.sw.migDom) with sw := { (s.dirtyDomain s.sw.migDom).sw with resyncLine := 0 } } else s
      s.beginLong l.opcode l.mb l.authority l.dom

/-- Lark runs from slot `b`. -/
def State.bootFrom (s : State) (b : Bool) : State :=
  let s := (s.setFld CP 25 24 (if b then 1 else 0)).setReg (CP + 0x10) (BitVec.ofNat 32 (s.slotOf b).version)
  let s := ({ s with lark := { s.lark with fwRunning := true } }).showAlt
  (((s.applyProfile).showEscal.loadSchedule).setBit CP 31 true).resumeLong

/-- LARK_START (Table 13.3): the core rails are good, recall has ended and Lark does not run. With no accepted image, or STRAP[3], it stays in boot
recovery mode (R344). -/
def execLarkStart (s : State) : Answer :=
  .next (
    if ¬ s.sqState = 2 ∨ ¬ s.regsUp ∨ s.lark.fwRunning ∨ s.flag CP 30 then s
    else match s.chooseSlot with
      | (some b, t) => t.bootFrom b
      | (none, t) => (t.showAlt.setBit CP 30 true).event 0xB102 0 none 0 0)

end Sys2Proof.Machine
end

