-- ==== Sys2Proof/Machine/Dispatch.lean ====
section
/-! DEFINITION. Machine/Dispatch.lean: which meaning each command has, one arm per row of spec/opcode_table.json. -/

namespace Sys2Proof.Machine

/-- The meaning of a command: its effect on everything but the queue. -/
def exec (i : Instr) (s : State) : Host.Outcome State Fault Refusal :=
  match i with
  | .registerWrite who off v => Sys2Proof.Machine.execRegisterWrite who off v s
  | .bar0BadSizeAccess who off write => Sys2Proof.Machine.execBar0BadSizeAccess who off write s
  | .lowHalfRead who off => Sys2Proof.Machine.execLowHalfRead who off s
  | .lowHalfWrite who off v => Sys2Proof.Machine.execLowHalfWrite who off v s
  | .highHalfWrite who off v => Sys2Proof.Machine.execHighHalfWrite who off v s
  | .clearOnRead who off => Sys2Proof.Machine.execClearOnRead who off s
  | .cdLadderCntLowRead who k => Sys2Proof.Machine.execCdLadderCntLowRead who k s
  | .seedWriteComplete => Sys2Proof.Machine.execSeedWriteComplete s
  | .mctpRegisterRead vendor count off => Sys2Proof.Machine.execMctpRegisterRead vendor count off s
  | .commonsDisallowedAccess who off write => Sys2Proof.Machine.execCommonsDisallowedAccess who off write s
  | .memRd port link ld tag dpa => Sys2Proof.Machine.execMemRd port link ld tag dpa s
  | .memRdData port link ld tag dpa => Sys2Proof.Machine.execMemRdData port link ld tag dpa s
  | .memInv port link ld tag dpa => Sys2Proof.Machine.execMemInv port link ld tag dpa s
  | .memInvNt port link ld tag dpa => Sys2Proof.Machine.execMemInvNt port link ld tag dpa s
  | .memSpecRd port link ld tag dpa => Sys2Proof.Machine.execMemSpecRd port link ld tag dpa s
  | .memWr port link ld tag dpa data poison => Sys2Proof.Machine.execMemWr port link ld tag dpa data poison s
  | .memWrPtl port link ld tag dpa data mask poison => Sys2Proof.Machine.execMemWrPtl port link ld tag dpa data mask poison s
  | .memUnexpectedOpcode port link tag opcode => Sys2Proof.Machine.execMemUnexpectedOpcode port link tag opcode s
  | .admitRequest dom perr m => Sys2Proof.Machine.execAdmitRequest dom perr m s
  | .writeSetWaitResume set => Sys2Proof.Machine.execWriteSetWaitResume set s
  | .ppsEdge => Sys2Proof.Machine.execPpsEdge s
  | .todFrame bytes => Sys2Proof.Machine.execTodFrame bytes s
  | .timeSourceSwitch src => Sys2Proof.Machine.execTimeSourceSwitch src s
  | .sourceLossTimeout => Sys2Proof.Machine.execSourceLossTimeout s
  | .disciplineComplete => Sys2Proof.Machine.execDisciplineComplete s
  | .slewComplete => Sys2Proof.Machine.execSlewComplete s
  | .leapSecond => Sys2Proof.Machine.execLeapSecond s
  | .scheduleTick n => Sys2Proof.Machine.execScheduleTick n s
  | .scheduleWindowMissed entry => Sys2Proof.Machine.execScheduleWindowMissed entry s
  | .deferredActionResume entry => Sys2Proof.Machine.execDeferredActionResume entry s
  | .schedEntryWrite who entry word v => Sys2Proof.Machine.execSchedEntryWrite who entry word v s
  | .meterMinuteClose => Sys2Proof.Machine.execMeterMinuteClose s
  | .effectiveAgeUpdate => Sys2Proof.Machine.execEffectiveAgeUpdate s
  | .anchorJournalCheckpoint => Sys2Proof.Machine.execAnchorJournalCheckpoint s
  | .bestEffortWindow => Sys2Proof.Machine.execBestEffortWindow s
  | .mapCheckpoint => Sys2Proof.Machine.execMapCheckpoint s
  | .holdUpTest => Sys2Proof.Machine.execHoldUpTest s
  | .scrubPassStart => Sys2Proof.Machine.execScrubPassStart s
  | .marginReadSweep => Sys2Proof.Machine.execMarginReadSweep s
  | .refreshScan => Sys2Proof.Machine.execRefreshScan s
  | .wearLevellingEvaluation => Sys2Proof.Machine.execWearLevellingEvaluation s
  | .parityWriteBackSweep => Sys2Proof.Machine.execParityWriteBackSweep s
  | .keyRotationStep => Sys2Proof.Machine.execKeyRotationStep s
  | .rotationTimer => Sys2Proof.Machine.execRotationTimer s
  | .snapshotCut entry => Sys2Proof.Machine.execSnapshotCut entry s
  | .fabricResetCut entry => Sys2Proof.Machine.execFabricResetCut entry s
  | .seedStoreMarginRead pages => Sys2Proof.Machine.execSeedStoreMarginRead pages s
  | .timeSave => Sys2Proof.Machine.execTimeSave s
  | .eventArchiveDrain => Sys2Proof.Machine.execEventArchiveDrain s
  | .larkDoorbell entry => Sys2Proof.Machine.execLarkDoorbell entry s
  | .flitPeriod chan => Sys2Proof.Machine.execFlitPeriod chan s
  | .flitReceive chan flit => Sys2Proof.Machine.execFlitReceive chan flit s
  | .ackReceive chan nextSeq replayRequest => Sys2Proof.Machine.execAckReceive chan nextSeq replayRequest s
  | .ackTimer chan => Sys2Proof.Machine.execAckTimer chan s
  | .replayTimeout chan => Sys2Proof.Machine.execReplayTimeout chan s
  | .blockLockLoss chan => Sys2Proof.Machine.execBlockLockLoss chan s
  | .retrainComplete chan => Sys2Proof.Machine.execRetrainComplete chan s
  | .retrainTimeout chan => Sys2Proof.Machine.execRetrainTimeout chan s
  | .issueSlot slot => Sys2Proof.Machine.execIssueSlot slot s
  | .readResponse chan tag st resensed dev slot m => Sys2Proof.Machine.execReadResponse chan tag st resensed dev slot m s
  | .readSoftResponse chan tag st slot erasures m => Sys2Proof.Machine.execReadSoftResponse chan tag st slot erasures m s
  | .marginReadResponse chan tag st weak => Sys2Proof.Machine.execMarginReadResponse chan tag st weak s
  | .programResponse chan tag st => Sys2Proof.Machine.execProgramResponse chan tag st s
  | .eraseResponse chan tag st => Sys2Proof.Machine.execEraseResponse chan tag st s
  | .suspendResponse chan tag st => Sys2Proof.Machine.execSuspendResponse chan tag st s
  | .resumeResponse chan tag st => Sys2Proof.Machine.execResumeResponse chan tag st s
  | .copyResponse chan tag st => Sys2Proof.Machine.execCopyResponse chan tag st s
  | .statusResponse chan tag st planes => Sys2Proof.Machine.execStatusResponse chan tag st planes s
  | .tempResponse chan tag st dies hub => Sys2Proof.Machine.execTempResponse chan tag st dies hub s
  | .configResponse chan tag st data => Sys2Proof.Machine.execConfigResponse chan tag st data s
  | .tempPoll chan => Sys2Proof.Machine.execTempPoll chan s
  | .lngAlertFall group => Sys2Proof.Machine.execLngAlertFall group s
  | .mcArbMapWrite who chan v => Sys2Proof.Machine.execMcArbMapWrite who chan v s
  | .arbMapRevert chan => Sys2Proof.Machine.execArbMapRevert chan s
  | .arbiterWatchdog chan => Sys2Proof.Machine.execArbiterWatchdog chan s
  | .dataTagTimeout chan tag => Sys2Proof.Machine.execDataTagTimeout chan tag s
  | .channelResetComplete chan => Sys2Proof.Machine.execChannelResetComplete chan s
  | .groupSidebandReset chan => Sys2Proof.Machine.execGroupSidebandReset chan s
  | .mcCtlReset who chan => Sys2Proof.Machine.execMcCtlReset who chan s
  | .mcCtlDisable who chan v => Sys2Proof.Machine.execMcCtlDisable who chan v s
  | .channelDisableTakesEffect chan => Sys2Proof.Machine.execChannelDisableTakesEffect chan s
  | .groupRailsGood group => Sys2Proof.Machine.execGroupRailsGood group s
  | .lngRstRelease group => Sys2Proof.Machine.execLngRstRelease group s
  | .channelTrained chan => Sys2Proof.Machine.execChannelTrained chan s
  | .bringUpTimeout chan => Sys2Proof.Machine.execBringUpTimeout chan s
  | .suspendHoldTimeout chan die plane => Sys2Proof.Machine.execSuspendHoldTimeout chan die plane s
  | .parityEntryAgeTrigger plot page => Sys2Proof.Machine.execParityEntryAgeTrigger plot page s
  | .parityOverrun plot page => Sys2Proof.Machine.execParityOverrun plot page s
  | .parityWritebackComplete plot page => Sys2Proof.Machine.execParityWritebackComplete plot page s
  | .pageRebuildStart plot page => Sys2Proof.Machine.execPageRebuildStart plot page s
  | .pageRebuildComplete plot page => Sys2Proof.Machine.execPageRebuildComplete plot page s
  | .mapJournalVerified => Sys2Proof.Machine.execMapJournalVerified s
  | .checkpointJournalTrigger => Sys2Proof.Machine.execCheckpointJournalTrigger s
  | .checkpointComplete crc => Sys2Proof.Machine.execCheckpointComplete crc s
  | .spareErase plot => Sys2Proof.Machine.execSpareErase plot s
  | .migrationStart kind entry node => Sys2Proof.Machine.execMigrationStart kind entry node s
  | .migrationMapSwitch entry node => Sys2Proof.Machine.execMigrationMapSwitch entry node s
  | .migrationSourceErase plot => Sys2Proof.Machine.execMigrationSourceErase plot s
  | .plotRedirect plot => Sys2Proof.Machine.execPlotRedirect plot s
  | .hourBoundary => Sys2Proof.Machine.execHourBoundary s
  | .ageUncertainAlert => Sys2Proof.Machine.execAgeUncertainAlert s
  | .inPlaceRefresh plot => Sys2Proof.Machine.execInPlaceRefresh plot s
  | .inPlaceRefreshComplete plot => Sys2Proof.Machine.execInPlaceRefreshComplete plot s
  | .rewriteQueueService => Sys2Proof.Machine.execRewriteQueueService s
  | .scrubPace => Sys2Proof.Machine.execScrubPace s
  | .frameScan => Sys2Proof.Machine.execFrameScan s
  | .apply set way tables perr => Sys2Proof.Machine.execApply set way tables perr s
  | .regraftComplete level index => Sys2Proof.Machine.execRegraftComplete level index s
  | .dirtyLeafWriteBack node => Sys2Proof.Machine.execDirtyLeafWriteBack node s
  | .leafWriteBackComplete node => Sys2Proof.Machine.execLeafWriteBackComplete node s
  | .leafAgeExpire node => Sys2Proof.Machine.execLeafAgeExpire node s
  | .holdUpFactorUpdate => Sys2Proof.Machine.execHoldUpFactorUpdate s
  | .holdUpTestSample => Sys2Proof.Machine.execHoldUpTestSample s
  | .holdUpTestTimeout => Sys2Proof.Machine.execHoldUpTestTimeout s
  | .holdUpRetest => Sys2Proof.Machine.execHoldUpRetest s
  | .pwrFail => Sys2Proof.Machine.execPwrFail s
  | .flushSealed durUs bytes => Sys2Proof.Machine.execFlushSealed durUs bytes s
  | .anchorRecordVerified seq => Sys2Proof.Machine.execAnchorRecordVerified seq s
  | .anchorCountCheckpoint => Sys2Proof.Machine.execAnchorCountCheckpoint s
  | .anchorCheckpointComplete => Sys2Proof.Machine.execAnchorCheckpointComplete s
  | .recovery f => Sys2Proof.Machine.execRecovery f s
  | .recoveryComplete ms => Sys2Proof.Machine.execRecoveryComplete ms s
  | .gpfPhase1 port => Sys2Proof.Machine.execGpfPhase1 port s
  | .gpfPhase2 port => Sys2Proof.Machine.execGpfPhase2 port s
  | .rpGuardSelWrite who v => Sys2Proof.Machine.execRpGuardSelWrite who v s
  | .evictionBufferWrite => Sys2Proof.Machine.execEvictionBufferWrite s
  | .maintNone => Sys2Proof.Machine.execMaintNone s
  | .maintProbe => Sys2Proof.Machine.execMaintProbe s
  | .maintInvalidate => Sys2Proof.Machine.execMaintInvalidate s
  | .maintPin => Sys2Proof.Machine.execMaintPin s
  | .maintUnpin => Sys2Proof.Machine.execMaintUnpin s
  | .uncleanSweepStep perr => Sys2Proof.Machine.execUncleanSweepStep perr s
  | .ideKmKeyProgram port link => Sys2Proof.Machine.execIdeKmKeyProgram port link s
  | .ideIntegrityFailure port link => Sys2Proof.Machine.execIdeIntegrityFailure port link s
  | .spdmGetVersion conn => Sys2Proof.Machine.execSpdmGetVersion conn s
  | .spdmGetCapabilities conn => Sys2Proof.Machine.execSpdmGetCapabilities conn s
  | .spdmNegotiateAlgorithms conn => Sys2Proof.Machine.execSpdmNegotiateAlgorithms conn s
  | .spdmGetDigests conn => Sys2Proof.Machine.execSpdmGetDigests conn s
  | .spdmGetCertificate conn slot => Sys2Proof.Machine.execSpdmGetCertificate conn slot s
  | .spdmChallenge conn slot => Sys2Proof.Machine.execSpdmChallenge conn slot s
  | .spdmGetMeasurements conn index => Sys2Proof.Machine.execSpdmGetMeasurements conn index s
  | .spdmKeyExchange conn slot => Sys2Proof.Machine.execSpdmKeyExchange conn slot s
  | .spdmFinish conn verified => Sys2Proof.Machine.execSpdmFinish conn verified s
  | .spdmKeyUpdate conn => Sys2Proof.Machine.execSpdmKeyUpdate conn s
  | .spdmHeartbeat conn => Sys2Proof.Machine.execSpdmHeartbeat conn s
  | .spdmEndSession conn => Sys2Proof.Machine.execSpdmEndSession conn s
  | .spdmGetCsr conn => Sys2Proof.Machine.execSpdmGetCsr conn s
  | .spdmSetCertificate conn slot chain ownerAuthorised => Sys2Proof.Machine.execSpdmSetCertificate conn slot chain ownerAuthorised s
  | .regulatorRefill => Sys2Proof.Machine.execRegulatorRefill s
  | .gRecompute => Sys2Proof.Machine.execGRecompute s
  | .gRaiseTakesEffect => Sys2Proof.Machine.execGRaiseTakesEffect s
  | .qsDomSelWrite who v => Sys2Proof.Machine.execQsDomSelWrite who v s
  | .hostLinkUp port link width rate flit256 => Sys2Proof.Machine.execHostLinkUp port link width rate flit256 s
  | .hostLinkDown port link => Sys2Proof.Machine.execHostLinkDown port link s
  | .hotReset port link => Sys2Proof.Machine.execHotReset port link s
  | .linkDisableReceived port link => Sys2Proof.Machine.execLinkDisableReceived port link s
  | .perstAssert port => Sys2Proof.Machine.execPerstAssert port s
  | .perstLow100us port => Sys2Proof.Machine.execPerstLow100us port s
  | .perstRelease port => Sys2Proof.Machine.execPerstRelease port s
  | .functionLevelReset ld => Sys2Proof.Machine.execFunctionLevelReset ld s
  | .cxlReset ld => Sys2Proof.Machine.execCxlReset ld s
  | .cxlIdentify ld => Sys2Proof.Machine.execCxlIdentify ld s
  | .backgroundOperationStatus ld => Sys2Proof.Machine.execBackgroundOperationStatus ld s
  | .getEventRecords ld log => Sys2Proof.Machine.execGetEventRecords ld log s
  | .clearEventRecords ld log count => Sys2Proof.Machine.execClearEventRecords ld log count s
  | .getEventInterruptPolicy ld => Sys2Proof.Machine.execGetEventInterruptPolicy ld s
  | .setEventInterruptPolicy ld policy => Sys2Proof.Machine.execSetEventInterruptPolicy ld policy s
  | .getFwInfo ld => Sys2Proof.Machine.execGetFwInfo ld s
  | .transferFw ld => Sys2Proof.Machine.execTransferFw ld s
  | .activateFw ld => Sys2Proof.Machine.execActivateFw ld s
  | .getSupportedLogs ld => Sys2Proof.Machine.execGetSupportedLogs ld s
  | .getLog ld => Sys2Proof.Machine.execGetLog ld s
  | .identifyMemoryDevice ld => Sys2Proof.Machine.execIdentifyMemoryDevice ld s
  | .getPartitionInfo ld => Sys2Proof.Machine.execGetPartitionInfo ld s
  | .getHealthInfo ld => Sys2Proof.Machine.execGetHealthInfo ld s
  | .getAlertConfiguration ld => Sys2Proof.Machine.execGetAlertConfiguration ld s
  | .setAlertConfiguration ld life tempHigh tempLow => Sys2Proof.Machine.execSetAlertConfiguration ld life tempHigh tempLow s
  | .getShutdownState ld => Sys2Proof.Machine.execGetShutdownState ld s
  | .setShutdownState ld clean => Sys2Proof.Machine.execSetShutdownState ld clean s
  | .getPoisonList ld => Sys2Proof.Machine.execGetPoisonList ld s
  | .injectPoison ld dpa => Sys2Proof.Machine.execInjectPoison ld dpa s
  | .clearPoison ld dpa data => Sys2Proof.Machine.execClearPoison ld dpa data s
  | .getScanMediaCapabilities ld => Sys2Proof.Machine.execGetScanMediaCapabilities ld s
  | .scanMedia ld dpa lines => Sys2Proof.Machine.execScanMedia ld dpa lines s
  | .getScanMediaResults ld => Sys2Proof.Machine.execGetScanMediaResults ld s
  | .sanitize ld => Sys2Proof.Machine.execSanitize ld s
  | .secureErase ld => Sys2Proof.Machine.execSecureErase ld s
  | .backgroundOpComplete ld => Sys2Proof.Machine.execBackgroundOpComplete ld s
  | .getDcConfiguration ld => Sys2Proof.Machine.execGetDcConfiguration ld s
  | .getDcExtentList ld => Sys2Proof.Machine.execGetDcExtentList ld s
  | .addDcResponse ld dom accept => Sys2Proof.Machine.execAddDcResponse ld dom accept s
  | .releaseDc ld dom => Sys2Proof.Machine.execReleaseDc ld dom s
  | .extentReleaseComplete ld dom => Sys2Proof.Machine.execExtentReleaseComplete ld dom s
  | .cxlUnsupportedOpcode ld opcode => Sys2Proof.Machine.execCxlUnsupportedOpcode ld opcode s
  | .cxlSetTimestamp ld stamp => Sys2Proof.Machine.execCxlSetTimestamp ld stamp s
  | .cxlGetTimestamp ld => Sys2Proof.Machine.execCxlGetTimestamp ld s
  | .fmGetLdInfo => Sys2Proof.Machine.execFmGetLdInfo s
  | .fmGetLdAllocations => Sys2Proof.Machine.execFmGetLdAllocations s
  | .fmSetLdAllocations ld static256m => Sys2Proof.Machine.execFmSetLdAllocations ld static256m s
  | .fmInitiateDcAdd ld dpaPlot plots tag => Sys2Proof.Machine.execFmInitiateDcAdd ld dpaPlot plots tag s
  | .fmInitiateDcRelease ld dom => Sys2Proof.Machine.execFmInitiateDcRelease ld dom s
  | .larkStart => Sys2Proof.Machine.execLarkStart s
  | .cpInTagWrite who mb v => Sys2Proof.Machine.execCpInTagWrite who mb v s
  | .internalNoticeRetry mb => Sys2Proof.Machine.execInternalNoticeRetry mb s
  | .larkTakeCommand bytes => Sys2Proof.Machine.execLarkTakeCommand bytes s
  | .cpOutRelease who mb => Sys2Proof.Machine.execCpOutRelease who mb s
  | .doorbellSet who mb v => Sys2Proof.Machine.execDoorbellSet who mb v s
  | .vcsIdentify => Sys2Proof.Machine.execVcsIdentify s
  | .getCounter authority => Sys2Proof.Machine.execGetCounter authority s
  | .getProgress => Sys2Proof.Machine.execGetProgress s
  | .getNotices => Sys2Proof.Machine.execGetNotices s
  | .createDomain => Sys2Proof.Machine.execCreateDomain s
  | .deleteDomain dom => Sys2Proof.Machine.execDeleteDomain dom s
  | .modifyDomain dom chg => Sys2Proof.Machine.execModifyDomain dom chg s
  | .loadDomainPlan plan => Sys2Proof.Machine.execLoadDomainPlan plan s
  | .listDomains => Sys2Proof.Machine.execListDomains s
  | .rotateDomainKey dom => Sys2Proof.Machine.execRotateDomainKey dom s
  | .clearQuarantine dom => Sys2Proof.Machine.execClearQuarantine dom s
  | .setDelegate index key groups lds => Sys2Proof.Machine.execSetDelegate index key groups lds s
  | .revokeDelegate index => Sys2Proof.Machine.execRevokeDelegate index s
  | .rekeyAuthority index key => Sys2Proof.Machine.execRekeyAuthority index key s
  | .mediaReformatting u => Sys2Proof.Machine.execMediaReformatting u s
  | .overwriteSanitize => Sys2Proof.Machine.execOverwriteSanitize s
  | .setChannelDisable chan v => Sys2Proof.Machine.execSetChannelDisable chan v s
  | .rickMaintenance op count key => Sys2Proof.Machine.execRickMaintenance op count key s
  | .setCommonsSize mib => Sys2Proof.Machine.execSetCommonsSize mib s
  | .confirmBackwardStep => Sys2Proof.Machine.execConfirmBackwardStep s
  | .discardBackwardStep => Sys2Proof.Machine.execDiscardBackwardStep s
  | .writeScheduleEntry entry ctl period window phase => Sys2Proof.Machine.execWriteScheduleEntry entry ctl period window phase s
  | .saveSchedule => Sys2Proof.Machine.execSaveSchedule s
  | .setTimedDoorbell n v => Sys2Proof.Machine.execSetTimedDoorbell n v s
  | .transferImageChunk off bytes => Sys2Proof.Machine.execTransferImageChunk off bytes s
  | .activateInactiveSlot => Sys2Proof.Machine.execActivateInactiveSlot s
  | .activationImageReady accepted => Sys2Proof.Machine.execActivationImageReady accepted s
  | .activationTimeout => Sys2Proof.Machine.execActivationTimeout s
  | .raiseSvnMin => Sys2Proof.Machine.execRaiseSvnMin s
  | .setMirrorPartner uid promote demote => Sys2Proof.Machine.execSetMirrorPartner uid promote demote s
  | .startLiveDomainMigration dom node dstDom dstLd dpaBase poolBase snapSlot => Sys2Proof.Machine.execStartLiveDomainMigration dom node dstDom dstLd dpaBase poolBase snapSlot s
  | .armSnapshotOrResetCut c => Sys2Proof.Machine.execArmSnapshotOrResetCut c s
  | .requestPowerState viaResponder target => Sys2Proof.Machine.execRequestPowerState viaResponder target s
  | .clearEventRecorder => Sys2Proof.Machine.execClearEventRecorder s
  | .flushMeterStream => Sys2Proof.Machine.execFlushMeterStream s
  | .writeRwaField => Sys2Proof.Machine.execWriteRwaField s
  | .saveControlProfile entries => Sys2Proof.Machine.execSaveControlProfile entries s
  | .readOwnerDataArea off count => Sys2Proof.Machine.execReadOwnerDataArea off count s
  | .writeOwnerDataArea off bytes => Sys2Proof.Machine.execWriteOwnerDataArea off bytes s
  | .fmApiTunnel => Sys2Proof.Machine.execFmApiTunnel s
  | .vcsUnsupportedOpcode => Sys2Proof.Machine.execVcsUnsupportedOpcode s
  | .authLockoutExpire mb => Sys2Proof.Machine.execAuthLockoutExpire mb s
  | .longOperationEnd result => Sys2Proof.Machine.execLongOperationEnd result s
  | .larkWatchdogExpire => Sys2Proof.Machine.execLarkWatchdogExpire s
  | .peerBusyResend opcode => Sys2Proof.Machine.execPeerBusyResend opcode s
  | .mirrorBind dom plots confirm peerLeads => Sys2Proof.Machine.execMirrorBind dom plots confirm peerLeads s
  | .prepareTarget d srcNode snap => Sys2Proof.Machine.execPrepareTarget d srcNode snap s
  | .peerArm c originator => Sys2Proof.Machine.execPeerArm c originator s
  | .cutReport node ftag done => Sys2Proof.Machine.execCutReport node ftag done s
  | .barrier node participants release => Sys2Proof.Machine.execBarrier node participants release s
  | .broadcast src port left payload => Sys2Proof.Machine.execBroadcast src port left payload s
  | .swardReplayTimeout port => Sys2Proof.Machine.execSwardReplayTimeout port s
  | .swardRetrainTimeout port => Sys2Proof.Machine.execSwardRetrainTimeout port s
  | .swardLinkSession port ok => Sys2Proof.Machine.execSwardLinkSession port ok s
  | .swardHello port peerPort fabricId peerUid peerPartner peerLeads => Sys2Proof.Machine.execSwardHello port peerPort fabricId peerUid peerPartner peerLeads s
  | .swardLinkUp port => Sys2Proof.Machine.execSwardLinkUp port s
  | .swardLinkDown port => Sys2Proof.Machine.execSwardLinkDown port s
  | .formationUidFlood port uid => Sys2Proof.Machine.execFormationUidFlood port uid s
  | .formationLinkReport links => Sys2Proof.Machine.execFormationLinkReport links s
  | .routingTables nodeId nodesM1 ext whole tree ids rows => Sys2Proof.Machine.execRoutingTables nodeId nodesM1 ext whole tree ids rows s
  | .endToEndResend dest msg => Sys2Proof.Machine.execEndToEndResend dest msg s
  | .fabricTimeMessage port ztime leap announced hops master => Sys2Proof.Machine.execFabricTimeMessage port ztime leap announced hops master s
  | .linkDelayExchange port delayNs => Sys2Proof.Machine.execLinkDelayExchange port delayNs s
  | .forwardedWrite r => Sys2Proof.Machine.execForwardedWrite r s
  | .mirrorRecord r perr => Sys2Proof.Machine.execMirrorRecord r perr s
  | .mirrorAck seq => Sys2Proof.Machine.execMirrorAck seq s
  | .keepalive mig word => Sys2Proof.Machine.execKeepalive mig word s
  | .partnerLoss => Sys2Proof.Machine.execPartnerLoss s
  | .resyncStep m => Sys2Proof.Machine.execResyncStep m s
  | .swCtlReset who => Sys2Proof.Machine.execSwCtlReset who s
  | .sidebandPowerRequest target => Sys2Proof.Machine.execSidebandPowerRequest target s
  | .wakeTimer => Sys2Proof.Machine.execWakeTimer s
  | .a2DrainComplete => Sys2Proof.Machine.execA2DrainComplete s
  | .a3DrainComplete => Sys2Proof.Machine.execA3DrainComplete s
  | .drainTimeout => Sys2Proof.Machine.execDrainTimeout s
  | .a2ExitComplete => Sys2Proof.Machine.execA2ExitComplete s
  | .a3ExitComplete tablesValid => Sys2Proof.Machine.execA3ExitComplete tablesValid s
  | .railStepGood => Sys2Proof.Machine.execRailStepGood s
  | .pgTimeout sq => Sys2Proof.Machine.execPgTimeout sq s
  | .shutdownStepDone => Sys2Proof.Machine.execShutdownStepDone s
  | .offTimeoutExpire sq => Sys2Proof.Machine.execOffTimeoutExpire sq s
  | .adcConversion input code => Sys2Proof.Machine.execAdcConversion input code s
  | .pgLowFault sq => Sys2Proof.Machine.execPgLowFault sq s
  | .railRetryExpire sq => Sys2Proof.Machine.execRailRetryExpire sq s
  | .minOffExpire => Sys2Proof.Machine.execMinOffExpire s
  | .faultNExternal => Sys2Proof.Machine.execFaultNExternal s
  | .faultNRelease => Sys2Proof.Machine.execFaultNRelease s
  | .faultHoldExpire => Sys2Proof.Machine.execFaultHoldExpire s
  | .biasStep => Sys2Proof.Machine.execBiasStep s
  | .ondieSensorRead readings => Sys2Proof.Machine.execOndieSensorRead readings s
  | .remoteDiodeRead diode reading openShort => Sys2Proof.Machine.execRemoteDiodeRead diode reading openShort s
  | .aonSensorRead readings => Sys2Proof.Machine.execAonSensorRead readings s
  | .tempMissingTimeout chan => Sys2Proof.Machine.execTempMissingTimeout chan s
  | .rateHoldExpire group => Sys2Proof.Machine.execRateHoldExpire group s
  | .bgLevelTimer => Sys2Proof.Machine.execBgLevelTimer s
  | .graceExpire => Sys2Proof.Machine.execGraceExpire s
  | .stepRiseTimer => Sys2Proof.Machine.execStepRiseTimer s
  | .stepFallTimer => Sys2Proof.Machine.execStepFallTimer s
  | .comparatorTrip => Sys2Proof.Machine.execComparatorTrip s
  | .ringPageWrite => Sys2Proof.Machine.execRingPageWrite s
  | .evReadSeqWrite who v => Sys2Proof.Machine.execEvReadSeqWrite who v s
  | .meterReadStream bytes => Sys2Proof.Machine.execMeterReadStream bytes s
  | .meterReadStatus => Sys2Proof.Machine.execMeterReadStatus s
  | .meterUnknownCommand cmd => Sys2Proof.Machine.execMeterUnknownCommand cmd s
  | .mtrCsRise => Sys2Proof.Machine.execMtrCsRise s
  | .tailWindowProgram => Sys2Proof.Machine.execTailWindowProgram s
  | .pmCounterOverflow bank k => Sys2Proof.Machine.execPmCounterOverflow bank k s
  | .pmSlotClear who => Sys2Proof.Machine.execPmSlotClear who s
  | .coldPowerOn => Sys2Proof.Machine.execColdPowerOn s
  | .strapLatch at_ => Sys2Proof.Machine.execStrapLatch at_ s
  | .seedRecallComplete => Sys2Proof.Machine.execSeedRecallComplete s
  | .vddAonLow => Sys2Proof.Machine.execVddAonLow s
  | .vddAonRemoved => Sys2Proof.Machine.execVddAonRemoved s
  | .glbRstWarm => Sys2Proof.Machine.execGlbRstWarm s
  | .glbRstControl => Sys2Proof.Machine.execGlbRstControl s
  | .glbRstCold => Sys2Proof.Machine.execGlbRstCold s
  | .pwrFailReturn => Sys2Proof.Machine.execPwrFailReturn s
  | .fmApiLdReset ld => Sys2Proof.Machine.execFmApiLdReset ld s
  | .fmSetDcRegionConfig ld region base256m len256m => Sys2Proof.Machine.execFmSetDcRegionConfig ld region base256m len256m s
  | .commonsWrite who off bytes => Sys2Proof.Machine.execCommonsWrite who off bytes s
  | .vddNvLoss written oldMask => Sys2Proof.Machine.execVddNvLoss written oldMask s
  | .swardKeyUpdateCount port => Sys2Proof.Machine.execSwardKeyUpdateCount port s
  | .cowWalkerAdvance dom count => Sys2Proof.Machine.execCowWalkerAdvance dom count s

end Sys2Proof.Machine
end

