-- ==== Sys2Proof/Machine/Pins.lean ====
section
/-! DEFINITION. Machine/Pins.lean: the levels of the output pins (R418, R494, Tables 15.9 and 19.8; 10, R293; 15, R434; 17, R450). -/

namespace Sys2Proof.Machine

/-- The level of an output: driven low or high, high impedance, or driven by traffic that no field of State holds. -/
inductive PinLevel where
  | low | high | highZ | traffic
deriving DecidableEq, Repr

/-- The I/O banks of Table 15.9. -/
inductive IoBank where
  | alwaysOn | switched | lanes
deriving DecidableEq, Repr

/-- The output pins of Tables 15.9 and 19.8. -/
inductive OutPin where
  | sqEn (n : Nat) | faultN | thermtripN | sideband
  | lngRstN (g : Nat) | mtrReqN | mtrAvail | mtrSo | alarmN | qspi | uartTx | jtagTdo
  | transmitter
deriving DecidableEq, Repr

/-- The bank of an output pin. -/
def OutPin.bank : OutPin → IoBank
  | .sqEn _ | .faultN | .thermtripN | .sideband => .alwaysOn
  | .lngRstN _ | .mtrReqN | .mtrAvail | .mtrSo | .alarmN | .qspi | .uartTx | .jtagTdo => .switched
  | .transmitter => .lanes

/-- Is the supply of a bank on: VDD_IO through SQ4, VDD_SER and VDDH_SER through SQ2 and SQ3 (Tables 15.10 and 19.2)? The always-on bank's never is off
while the part keeps state. -/
def State.bankOn (s : State) : IoBank → Bool
  | .alwaysOn => true
  | .switched => s.pins.sqEn.getLsbD 4
  | .lanes => s.pins.sqEn.getLsbD 2 && s.pins.sqEn.getLsbD 3

/-- A push-pull output. -/
def pushPull (v : Bool) : PinLevel := if v then .high else .low

/-- An open-drain output: low, or let go. -/
def openDrain (low : Bool) : PinLevel := if low then .low else .highZ

/-- What the part drives on an output pin while its bank is supplied. -/
def State.pinDrive (s : State) : OutPin → PinLevel
  | .sqEn n => pushPull (s.pins.sqEn.getLsbD n && decide (s.railKind n ≠ 0))
  | .faultN => openDrain s.pins.faultDrive
  | .thermtripN => openDrain s.pins.thermtripLow
  | .lngRstN g => pushPull (s.pins.lngRstN.getLsbD g)
  | .mtrReqN => pushPull (!s.flag (MT + 8) 1)
  | .mtrAvail => pushPull s.meterAvail
  | .alarmN => openDrain (s.flag (GX + 0x0C) 0 && s.flag (GX + 8) 16)
  | .sideband | .mtrSo | .qspi | .uartTx | .jtagTdo | .transmitter => .traffic

/-- The level of an output pin: every output of a bank whose supply is off is high impedance (R418). -/
def State.pinLevel (s : State) (p : OutPin) : PinLevel := if s.bankOn p.bank then s.pinDrive p else .highZ

end Sys2Proof.Machine
end

