-- ==== Sys2Proof/WellFormed.lean ====
section
/-! DEFINITION. WellFormed.lean: which commands a sender can form: instance numbers that the part has (Table 01.1, 00_scope),
and data of the length its message carries. A command that is not well formed has no counterpart outside the part. -/

namespace Sys2Proof

/-- An LD function is one of 32 (R322). -/
def whoOk : Requester → Bool
  | .host ld => decide (ld < 32)
  | .owner | .lark | .mctp | .peer | .engine => true

/-- Can a sender form this command? -/
def Instr.wf : Instr → Bool
  | .registerWrite who off _ => whoOk who && decide (off < 2097152)
  | .bar0BadSizeAccess who off _ => whoOk who && decide (off < 2097152)
  | .lowHalfRead who off => whoOk who && decide (off < 2097152)
  | .lowHalfWrite who off _ => whoOk who && decide (off < 2097152)
  | .highHalfWrite who off _ => whoOk who && decide (off < 2097152)
  | .clearOnRead who off => whoOk who && decide (off < 2097152)
  | .cdLadderCntLowRead who k => whoOk who && decide (k < 5)
  | .seedWriteComplete => true
  | .mctpRegisterRead _ _ _ => true
  | .commonsDisallowedAccess who off _ => whoOk who && decide (off < 67108864)
  | .memRd port link ld _ _ => decide (port < 2) && decide (link < 4) && decide (ld < 32)
  | .memRdData port link ld _ _ => decide (port < 2) && decide (link < 4) && decide (ld < 32)
  | .memInv port link ld _ _ => decide (port < 2) && decide (link < 4) && decide (ld < 32)
  | .memInvNt port link ld _ _ => decide (port < 2) && decide (link < 4) && decide (ld < 32)
  | .memSpecRd port link ld _ _ => decide (port < 2) && decide (link < 4) && decide (ld < 32)
  | .memWr port link ld _ _ data _ => decide (port < 2) && decide (link < 4) && decide (ld < 32) && decide (data.length = 64)
  | .memWrPtl port link ld _ _ data _ _ => decide (port < 2) && decide (link < 4) && decide (ld < 32) && decide (data.length = 64)
  | .memUnexpectedOpcode port link _ _ => decide (port < 2) && decide (link < 4)
  | .admitRequest dom _ _ => decide (dom < 4096)
  | .writeSetWaitResume set => decide (set < 65536)
  | .ppsEdge => true
  | .todFrame bytes => decide (bytes.length = 13)
  | .timeSourceSwitch _ => true
  | .sourceLossTimeout => true
  | .disciplineComplete => true
  | .slewComplete => true
  | .leapSecond => true
  | .scheduleTick _ => true
  | .scheduleWindowMissed entry => decide (entry < 64)
  | .deferredActionResume entry => decide (entry < 64)
  | .schedEntryWrite who entry word _ => whoOk who && decide (entry < 64) && decide (word < 8)
  | .meterMinuteClose => true
  | .effectiveAgeUpdate => true
  | .anchorJournalCheckpoint => true
  | .bestEffortWindow => true
  | .mapCheckpoint => true
  | .holdUpTest => true
  | .scrubPassStart => true
  | .marginReadSweep => true
  | .refreshScan => true
  | .wearLevellingEvaluation => true
  | .parityWriteBackSweep => true
  | .keyRotationStep => true
  | .rotationTimer => true
  | .snapshotCut entry => decide (entry < 64)
  | .fabricResetCut entry => decide (entry < 64)
  | .seedStoreMarginRead _ => true
  | .timeSave => true
  | .eventArchiveDrain => true
  | .larkDoorbell entry => decide (entry < 64)
  | .flitPeriod chan => decide (chan < 40)
  | .flitReceive chan flit => decide (chan < 40) && decide (flit.length = 32)
  | .ackReceive chan _ _ => decide (chan < 40)
  | .ackTimer chan => decide (chan < 40)
  | .replayTimeout chan => decide (chan < 40)
  | .blockLockLoss chan => decide (chan < 40)
  | .retrainComplete chan => decide (chan < 40)
  | .retrainTimeout chan => decide (chan < 40)
  | .issueSlot slot => decide (slot.chan < 40)
  | .readResponse chan tag _ _ _ slot _ => decide (chan < 40) && decide (tag < 256) && decide (slot.length = 80)
  | .readSoftResponse chan tag _ slot _ _ => decide (chan < 40) && decide (tag < 256) && decide (slot.length = 80)
  | .marginReadResponse chan tag _ _ => decide (chan < 40) && decide (tag < 256)
  | .programResponse chan tag _ => decide (chan < 40) && decide (tag < 256)
  | .eraseResponse chan tag _ => decide (chan < 40) && decide (tag < 256)
  | .suspendResponse chan tag _ => decide (chan < 40) && decide (tag < 256)
  | .resumeResponse chan tag _ => decide (chan < 40) && decide (tag < 256)
  | .copyResponse chan tag _ => decide (chan < 40) && decide (tag < 256)
  | .statusResponse chan tag _ _ => decide (chan < 40) && decide (tag < 256)
  | .tempResponse chan tag _ _ _ => decide (chan < 40) && decide (tag < 256)
  | .configResponse chan tag _ _ => decide (chan < 40) && decide (tag < 256)
  | .tempPoll chan => decide (chan < 40)
  | .lngAlertFall group => decide (group < 5)
  | .mcArbMapWrite who chan _ => whoOk who && decide (chan < 40)
  | .arbMapRevert chan => decide (chan < 40)
  | .arbiterWatchdog chan => decide (chan < 40)
  | .dataTagTimeout chan tag => decide (chan < 40) && decide (tag < 256)
  | .channelResetComplete chan => decide (chan < 40)
  | .groupSidebandReset chan => decide (chan < 40)
  | .mcCtlReset who chan => whoOk who && decide (chan < 40)
  | .mcCtlDisable who chan _ => whoOk who && decide (chan < 40)
  | .channelDisableTakesEffect chan => decide (chan < 40)
  | .groupRailsGood group => decide (group < 5)
  | .lngRstRelease group => decide (group < 5)
  | .channelTrained chan => decide (chan < 40)
  | .bringUpTimeout chan => decide (chan < 40)
  | .suspendHoldTimeout chan die plane => decide (chan < 40) && decide (die < 8) && decide (plane < 16)
  | .parityEntryAgeTrigger plot page => decide (plot < 16777216) && decide (page < 256)
  | .parityOverrun plot page => decide (plot < 16777216) && decide (page < 256)
  | .parityWritebackComplete plot page => decide (plot < 16777216) && decide (page < 256)
  | .pageRebuildStart plot page => decide (plot < 16777216) && decide (page < 256)
  | .pageRebuildComplete plot page => decide (plot < 16777216) && decide (page < 256)
  | .mapJournalVerified => true
  | .checkpointJournalTrigger => true
  | .checkpointComplete _ => true
  | .spareErase plot => decide (plot < 16777216)
  | .migrationStart _ _ _ => true
  | .migrationMapSwitch _ _ => true
  | .migrationSourceErase plot => decide (plot < 16777216)
  | .plotRedirect plot => decide (plot < 16777216)
  | .hourBoundary => true
  | .ageUncertainAlert => true
  | .inPlaceRefresh plot => decide (plot < 16777216)
  | .inPlaceRefreshComplete plot => decide (plot < 16777216)
  | .rewriteQueueService => true
  | .scrubPace => true
  | .frameScan => true
  | .apply set way _ _ => decide (set < 65536) && decide (way < 8)
  | .regraftComplete _ _ => true
  | .dirtyLeafWriteBack _ => true
  | .leafWriteBackComplete _ => true
  | .leafAgeExpire _ => true
  | .holdUpFactorUpdate => true
  | .holdUpTestSample => true
  | .holdUpTestTimeout => true
  | .holdUpRetest => true
  | .pwrFail => true
  | .flushSealed _ _ => true
  | .anchorRecordVerified _ => true
  | .anchorCountCheckpoint => true
  | .anchorCheckpointComplete => true
  | .recovery _ => true
  | .recoveryComplete _ => true
  | .gpfPhase1 port => decide (port < 2)
  | .gpfPhase2 port => decide (port < 2)
  | .rpGuardSelWrite who _ => whoOk who
  | .evictionBufferWrite => true
  | .maintNone => true
  | .maintProbe => true
  | .maintInvalidate => true
  | .maintPin => true
  | .maintUnpin => true
  | .uncleanSweepStep _ => true
  | .ideKmKeyProgram port link => decide (port < 2) && decide (link < 4)
  | .ideIntegrityFailure port link => decide (port < 2) && decide (link < 4)
  | .spdmGetVersion conn => decide (conn < 3)
  | .spdmGetCapabilities conn => decide (conn < 3)
  | .spdmNegotiateAlgorithms conn => decide (conn < 3)
  | .spdmGetDigests conn => decide (conn < 3)
  | .spdmGetCertificate conn _ => decide (conn < 3)
  | .spdmChallenge conn _ => decide (conn < 3)
  | .spdmGetMeasurements conn _ => decide (conn < 3)
  | .spdmKeyExchange conn _ => decide (conn < 3)
  | .spdmFinish conn _ => decide (conn < 3)
  | .spdmKeyUpdate conn => decide (conn < 3)
  | .spdmHeartbeat conn => decide (conn < 3)
  | .spdmEndSession conn => decide (conn < 3)
  | .spdmGetCsr conn => decide (conn < 3)
  | .spdmSetCertificate conn _ _ _ => decide (conn < 3)
  | .regulatorRefill => true
  | .gRecompute => true
  | .gRaiseTakesEffect => true
  | .qsDomSelWrite who _ => whoOk who
  | .hostLinkUp port link width rate _ => decide (port < 2) && decide (link < 4) && decide (width < 17) && decide (rate < 6)
  | .hostLinkDown port link => decide (port < 2) && decide (link < 4)
  | .hotReset port link => decide (port < 2) && decide (link < 4)
  | .linkDisableReceived port link => decide (port < 2) && decide (link < 4)
  | .perstAssert port => decide (port < 2)
  | .perstLow100us port => decide (port < 2)
  | .perstRelease port => decide (port < 2)
  | .functionLevelReset ld => decide (ld < 32)
  | .cxlReset ld => decide (ld < 32)
  | .cxlIdentify ld => decide (ld < 32)
  | .backgroundOperationStatus ld => decide (ld < 32)
  | .getEventRecords ld log => decide (ld < 32) && decide (log < 5)
  | .clearEventRecords ld log _ => decide (ld < 32) && decide (log < 5)
  | .getEventInterruptPolicy ld => decide (ld < 32)
  | .setEventInterruptPolicy ld _ => decide (ld < 32)
  | .getFwInfo ld => decide (ld < 32)
  | .transferFw ld => decide (ld < 32)
  | .activateFw ld => decide (ld < 32)
  | .getSupportedLogs ld => decide (ld < 32)
  | .getLog ld => decide (ld < 32)
  | .identifyMemoryDevice ld => decide (ld < 32)
  | .getPartitionInfo ld => decide (ld < 32)
  | .getHealthInfo ld => decide (ld < 32)
  | .getAlertConfiguration ld => decide (ld < 32)
  | .setAlertConfiguration ld _ _ _ => decide (ld < 32)
  | .getShutdownState ld => decide (ld < 32)
  | .setShutdownState ld _ => decide (ld < 32)
  | .getPoisonList ld => decide (ld < 32)
  | .injectPoison ld _ => decide (ld < 32)
  | .clearPoison ld _ data => decide (ld < 32) && decide (data.length = 64)
  | .getScanMediaCapabilities ld => decide (ld < 32)
  | .scanMedia ld _ _ => decide (ld < 32)
  | .getScanMediaResults ld => decide (ld < 32)
  | .sanitize ld => decide (ld < 32)
  | .secureErase ld => decide (ld < 32)
  | .backgroundOpComplete ld => decide (ld < 32)
  | .getDcConfiguration ld => decide (ld < 32)
  | .getDcExtentList ld => decide (ld < 32)
  | .addDcResponse ld dom _ => decide (ld < 32) && decide (dom < 4096)
  | .releaseDc ld dom => decide (ld < 32) && decide (dom < 4096)
  | .extentReleaseComplete ld dom => decide (ld < 32) && decide (dom < 4096)
  | .cxlUnsupportedOpcode ld _ => decide (ld < 32)
  | .cxlSetTimestamp ld _ => decide (ld < 32)
  | .cxlGetTimestamp ld => decide (ld < 32)
  | .fmGetLdInfo => true
  | .fmGetLdAllocations => true
  | .fmSetLdAllocations ld _ => decide (ld < 32)
  | .fmInitiateDcAdd ld _ _ _ => decide (ld < 32)
  | .fmInitiateDcRelease ld dom => decide (ld < 32) && decide (dom < 4096)
  | .larkStart => true
  | .cpInTagWrite who mb _ => whoOk who && decide (mb < 40)
  | .internalNoticeRetry mb => decide (mb < 40)
  | .larkTakeCommand _ => true
  | .cpOutRelease who mb => whoOk who && decide (mb < 40)
  | .doorbellSet who mb _ => whoOk who && decide (mb < 40)
  | .vcsIdentify => true
  | .getCounter _ => true
  | .getProgress => true
  | .getNotices => true
  | .createDomain => true
  | .deleteDomain dom => decide (dom < 4096)
  | .modifyDomain dom _ => decide (dom < 4096)
  | .loadDomainPlan _ => true
  | .listDomains => true
  | .rotateDomainKey dom => decide (dom < 4096)
  | .clearQuarantine dom => decide (dom < 4096)
  | .setDelegate _ _ _ _ => true
  | .revokeDelegate _ => true
  | .rekeyAuthority _ _ => true
  | .mediaReformatting _ => true
  | .overwriteSanitize => true
  | .setChannelDisable chan _ => decide (chan < 40)
  | .rickMaintenance _ _ _ => true
  | .setCommonsSize _ => true
  | .confirmBackwardStep => true
  | .discardBackwardStep => true
  | .writeScheduleEntry entry _ _ _ _ => decide (entry < 64)
  | .saveSchedule => true
  | .setTimedDoorbell _ _ => true
  | .transferImageChunk _ _ => true
  | .activateInactiveSlot => true
  | .activationImageReady _ => true
  | .activationTimeout => true
  | .raiseSvnMin => true
  | .setMirrorPartner _ _ _ => true
  | .startLiveDomainMigration dom _ _ _ _ _ _ => decide (dom < 4096)
  | .armSnapshotOrResetCut _ => true
  | .requestPowerState _ _ => true
  | .clearEventRecorder => true
  | .flushMeterStream => true
  | .writeRwaField => true
  | .saveControlProfile _ => true
  | .readOwnerDataArea _ _ => true
  | .writeOwnerDataArea _ _ => true
  | .fmApiTunnel => true
  | .vcsUnsupportedOpcode => true
  | .authLockoutExpire mb => decide (mb < 40)
  | .longOperationEnd _ => true
  | .larkWatchdogExpire => true
  | .peerBusyResend _ => true
  | .mirrorBind dom _ _ _ => decide (dom < 4096)
  | .prepareTarget d _ _ => decide (d.dom < 4096)
  | .peerArm _ originator => decide (originator < 256)
  | .cutReport node _ _ => decide (node < 256)
  | .barrier node _ _ => decide (node < 256)
  | .broadcast _ port _ _ => decide (port < 9)
  | .swardReplayTimeout port => decide (port < 8)
  | .swardRetrainTimeout port => decide (port < 8)
  | .swardLinkSession port _ => decide (port < 8)
  | .swardHello port _ _ _ _ _ => decide (port < 8)
  | .swardLinkUp port => decide (port < 8)
  | .swardLinkDown port => decide (port < 8)
  | .formationUidFlood port _ => decide (port < 8)
  | .formationLinkReport _ => true
  | .routingTables _ _ _ _ _ _ _ => true
  | .endToEndResend _ _ => true
  | .fabricTimeMessage port _ _ _ _ _ => decide (port < 8)
  | .linkDelayExchange port _ => decide (port < 8)
  | .forwardedWrite _ => true
  | .mirrorRecord _ _ => true
  | .mirrorAck _ => true
  | .keepalive _ _ => true
  | .partnerLoss => true
  | .resyncStep _ => true
  | .swCtlReset who => whoOk who
  | .sidebandPowerRequest _ => true
  | .wakeTimer => true
  | .a2DrainComplete => true
  | .a3DrainComplete => true
  | .drainTimeout => true
  | .a2ExitComplete => true
  | .a3ExitComplete _ => true
  | .railStepGood => true
  | .pgTimeout sq => decide (sq < 24)
  | .shutdownStepDone => true
  | .offTimeoutExpire sq => decide (sq < 24)
  | .adcConversion input _ => decide (input < 25)
  | .pgLowFault sq => decide (sq < 24)
  | .railRetryExpire sq => decide (sq < 24)
  | .minOffExpire => true
  | .faultNExternal => true
  | .faultNRelease => true
  | .faultHoldExpire => true
  | .biasStep => true
  | .ondieSensorRead _ => true
  | .remoteDiodeRead diode _ _ => decide (diode < 2)
  | .aonSensorRead _ => true
  | .tempMissingTimeout chan => decide (chan < 40)
  | .rateHoldExpire group => decide (group < 6)
  | .bgLevelTimer => true
  | .graceExpire => true
  | .stepRiseTimer => true
  | .stepFallTimer => true
  | .comparatorTrip => true
  | .ringPageWrite => true
  | .evReadSeqWrite who _ => whoOk who
  | .meterReadStream _ => true
  | .meterReadStatus => true
  | .meterUnknownCommand _ => true
  | .mtrCsRise => true
  | .tailWindowProgram => true
  | .pmCounterOverflow bank k => decide (bank < 12) && decide (k < 16)
  | .pmSlotClear who => whoOk who
  | .coldPowerOn => true
  | .strapLatch _ => true
  | .seedRecallComplete => true
  | .vddAonLow => true
  | .vddAonRemoved => true
  | .glbRstWarm => true
  | .glbRstControl => true
  | .glbRstCold => true
  | .pwrFailReturn => true
  | .fmApiLdReset ld => decide (ld < 32)
  | .fmSetDcRegionConfig ld _ _ _ => decide (ld < 32)
  | .commonsWrite who off _ => whoOk who && decide (off < 67108864)
  | .vddNvLoss _ _ => true
  | .swardKeyUpdateCount port => decide (port < 8)
  | .cowWalkerAdvance dom _ => decide (dom < 4096)

end Sys2Proof
end

