-- ==== Sys2Proof/Safety.lean ====
section
/-! DEFINITION. Safety.lean: the words that claims use: the invariant that every step keeps, well-formed queues, and a step that goes on. -/

namespace Sys2Proof.Machine

/-- The register file and the byte memories of the part (Commons, the owner data area, the two image slots of the boot flash) stand in their
canonical form: keys strictly rising, nothing listed that equals what an unlisted key reads as. Equal contents are then equal data. -/
def State.Canonical (s : State) : Prop :=
  Tbl.wf resetWord s.regs = true ∧ Memory.wf s.rk.commons = true ∧ Memory.wf s.sd.ownerData = true ∧
  Memory.wf s.lark.slotA.bytes = true ∧ Memory.wf s.lark.slotB.bytes = true

/-- Every command that waits is one a sender can form. -/
def State.QueueOk (s : State) : Prop := ∀ c ∈ s.pending, c.wf = true

/-- Command `c` completes at `s`: exec answers a next state, and that state has property `P`. -/
def Completes (c : Instr) (s : State) (P : State → Prop) : Prop := ∃ t, exec c s = .next t ∧ P t

/-- A response on tag `tag` of channel `c` is taken at `s`: the channel is not in a channel reset and the tag carries command `q`, which is one
of `ops` (R66, R88). -/
def State.Answers (s : State) (c tag : Nat) (ops : List MOp) (q : MCmd) : Prop :=
  c < 40 ∧ s.chanState c ≠ 6 ∧ q.op ∈ ops ∧ ∃ f, (s.chan c).byTag tag = some f ∧ f.cmd = q

/-- The tag of a response is free again, and an operation of its that was suspended no longer is (R66, R79). -/
def State.handBack (s : State) (c tag : Nat) : State := (s.unsuspend c tag).release c tag

/-- The response of a READ `q` is taken, and its die's coefficient learns the deviation `dev` where the slot is one to learn from (R176). -/
def State.taught (s : State) (c tag : Nat) (q : MCmd) (rs : Bool) (dev : Int) : State :=
  let u := (s.handBack c tag).resense c rs
  if u.learnsFrom c q.addr then u.learn c (addrDie q.addr) (q.step % 4) q.young dev else u

/-- The oldest started action `a` is entry `n`'s, and `t` is `s` with that start taken (R47). -/
def State.Takes (s : State) (a n : Nat) (t : State) : Prop := s.takeAction a = some (n, t)

/-- The mailbox of LD `i` takes a command at `s`: the LD is present, the core rails are up, and no Sanitize or Secure Erase runs (R338). -/
def State.MailOpen (s : State) (i : Nat) : Prop := i < 32 ∧ s.ldThere i = true ∧ ¬ 2 < s.power ∧ s.sanitizing = false

/-- Lark executes command `c`, whose opcode is `op` (R352). -/
def State.Executes (s : State) (c : Taken) (op : Nat) : Prop := s.lark.taken = some c ∧ c.opcode = op

/-- Command `c`, which has led to `s`, ends with a status, a detail and a payload: it is answered (R353, R356), unless a reset of its own making has
lost it (Table 13.11); a critical command with the last counter there is locks its authority (R361). -/
def State.concluded (s : State) (c : Taken) (status detail : Nat) (payload : List Byte) : State :=
  let t := if s.lark.taken.isNone then s else s.answer c status detail payload
  if vcsCritical c.opcode c.mb ∧ c.counter = 2 ^ 64 - 1 then t.setLock c.authority true else t

/-- The byte memories of the part read at every address as before: Commons, the owner data area and both image slots. -/
def State.SameBytes (s t : State) : Prop :=
  (∀ a, t.rk.commons.read a = s.rk.commons.read a) ∧ (∀ a, t.sd.ownerData.read a = s.sd.ownerData.read a) ∧
  (∀ a, t.lark.slotA.bytes.read a = s.lark.slotA.bytes.read a) ∧ (∀ a, t.lark.slotB.bytes.read a = s.lark.slotB.bytes.read a)

/-- `t` is `s` but for what was sent out and for the count of free values drawn. -/
def State.OnlySends (s t : State) : Prop := ∃ (o : List Out) (n : Nat), t = { s with out := o ++ s.out, free := n }

/-- May recording an event write the register at `o` (R442, R337, Table 17.15)? -/
def recorderReg (o : Nat) : Bool := decide (o = EV + 0x1C) || decide (o = HI + 0xC4) || (decide (PM ≤ o) && decide (o < PM + 0x1000))

/-- Staging holds at most 256 records (R442), each of one of the four severities (R437). -/
def State.StagingOk (s : State) : Prop := s.ev.staging.length ≤ 256 ∧ ∀ x ∈ s.ev.staging, x.ev.sev ≤ 3

/-- Is `o` the offset of a register that a write only stores into: neither half of a 64-bit quantity, in no mailbox set, no schedule entry, and none
of the registers whose write starts something (R10)? SD_STATUS is kept out, since a queued Seed store write shows in it. -/
def plainOffset (o : Nat) : Bool :=
  decide (o % 4 = 0) && !pairLow o && !pairHigh o && decide (boxOf o = none) && !(decide (TB + 0x1000 ≤ o) && decide (o < TB + 0x1800)) &&
  !(decide (MC ≤ o) && decide (o < 0x48000) && decide ((o - MC) % 0x1000 = 0 ∨ (o - MC) % 0x1000 = 8)) &&
  !decide (o ∈ [EV + 0x34, RP + 0xC, QS + 0x60, RK + 0x38, SW + 4, PM, SD])

end Sys2Proof.Machine
end

