-- ==== Sys2Proof/Certificates/Slice0/Obligations.lean ====
section
/-! DEFINITION. Certificates/Slice0/Obligations.lean: the statements for the provers. First the statements about the machine as a whole, its registers and
memories and its frames; then, family by family, the completion statements: for every command a statement whose conclusion is that exec answers a next
state, and what that state holds. Where a docstring names rules, they are the rules of spec/ that the clauses follow, chapter first. -/

open Sys2Proof Sys2Proof.Machine

/-- A step takes the command at the front of the queue and is exec of it on the state with the queue's rest; with nothing queued the block idles (the model's
own queue: notes/assumptions/1). -/
def Obligations.StepRunsFront : Prop :=
  (∀ (s : State) (c : Instr) (rest : List Instr), step { s with pending := c :: rest } = exec c { s with pending := rest }) ∧
  (∀ s : State, s.pending = [] → step s = .next s)

/-- No command touches the queue: a step that goes on leaves exactly the commands behind the front one, in their order. -/
def Obligations.StepTakesOne : Prop :=
  ∀ (s t : State) (c : Instr) (rest : List Instr), s.pending = c :: rest → step s = .next t → t.pending = rest

/-- The reset state is canonical and its queue is empty. -/
def Obligations.ResetCanonical : Prop := State.reset.Canonical ∧ State.reset.pending = []

/-- Every step keeps the register file and the byte memories in their canonical form. -/
def Obligations.StepKeepsCanonical : Prop := ∀ s t : State, s.Canonical → step s = .next t → t.Canonical

/-- Every command answers a next state, in every state; none ever faults or is refused. -/
def Obligations.CommandsRun : Prop :=
  ∀ (c : Instr) (s : State), (∃ t, exec c s = .next t) ∧ (∀ r : Refusal, exec c s ≠ .refused r) ∧ (∀ f : Fault, exec c s ≠ .fault f)

/-- The image slots of the boot flash change by Transfer image chunk alone (R341). -/
def Obligations.ImagesKept : Prop :=
  ∀ s t : State, step s = .next t → (∀ off b rest, s.pending ≠ .transferImageChunk off b :: rest) → t.lark.slotA = s.lark.slotA ∧ t.lark.slotB = s.lark.slotB

/-- Registers right after reset, one or more of each block (R507 and the register tables of the chapters); no output of a bank without supply is driven (R418). -/
def Obligations.ResetValues : Prop :=
  State.reset.reg (TB + 0x1000) = 0xA0000001 ∧ State.reset.reg (TB + 0x1004) = 60000 ∧ State.reset.reg (TB + 0x1008) = 1000 ∧ State.reset.reg (TB + 0x004) = 1 ∧ State.reset.reg TB = 0 ∧
  (∀ c < 40, State.reset.fld (MC + c * 0x1000) 23 16 = 0x40 ∧ State.reset.fld (MC + c * 0x1000) 15 12 = 8 ∧ State.reset.fld (MC + c * 0x1000 + 0x0C) 15 0 = 0x14 ∧
    State.reset.chanState c = 0) ∧
  (∀ e < 8, State.reset.fld (MC + 8) (3 * e + 2) (3 * e) = e) ∧
  State.reset.flag CD 8 = true ∧ State.reset.flag DF 3 = true ∧ State.reset.fld RK 6 0 = 0x10 ∧
  State.reset.fld QS 31 24 = 0x32 ∧ State.reset.fld QS 23 16 = 0x19 ∧ State.reset.fld QS 15 8 = 0x0A ∧ State.reset.flag QS 1 = true ∧ State.reset.flag QS 0 = true ∧
  State.reset.fld SW 23 16 = 0xFF ∧ State.reset.flag SW 31 = false ∧ State.reset.reg (GLB + 0x104) = 0 ∧ State.reset.flag CP 31 = false ∧
  State.reset.fld PW 3 0 = 0 ∧ State.reset.flag SD 31 = false ∧ State.reset.reg (EV + 0x1C) = 0 ∧ State.reset.fld (PM + 0x100) 23 16 = 0xFF ∧
  (∀ p : OutPin, p.bank ≠ .alwaysOn → State.reset.pinLevel p = .highZ) ∧ (∀ n < 24, State.reset.pinLevel (.sqEn n) = .low)

/-- What a plain write leaves in a register, field by field, by its access code: a field of read/write access takes a legal encoding and keeps its value
against a reserved one; a written 1 clears a write-1-to-clear bit; read-only and command-written fields keep their value; a write-only field reads 0; a
reserved bit reads 0 (R8 to R10). A register whose write the spec ignores as a whole keeps its word. -/
def Obligations.PlainWriteFields : Prop :=
  ∀ (o : Nat) (old v : Word),
    (wholeOk o v = false → plainWord o old v = old) ∧
    (wholeOk o v = true → ∀ f ∈ fieldsAt o,
      (f.acc = .rw → f.legal.ok (bits v f.hi f.lo) = true → crossOk o f old v = true → bits (plainWord o old v) f.hi f.lo = bits v f.hi f.lo) ∧
      (f.acc = .rw → f.legal.ok (bits v f.hi f.lo) = false → bits (plainWord o old v) f.hi f.lo = bits old f.hi f.lo) ∧
      (f.acc = .w1c → bits (plainWord o old v) f.hi f.lo = bits old f.hi f.lo - (bits old f.hi f.lo &&& bits v f.hi f.lo)) ∧
      (f.acc = .ro ∨ f.acc = .rwa ∨ f.acc = .rwp ∨ f.acc = .rc → bits (plainWord o old v) f.hi f.lo = bits old f.hi f.lo) ∧
      (f.acc = .wo → bits (plainWord o old v) f.hi f.lo = 0)) ∧
    (wholeOk o v = true → ∀ b < 32, (∀ f ∈ fieldsAt o, b < f.lo ∨ f.hi < b) → (plainWord o old v).getLsbD b = false)

/-- A read of the low half of a 64-bit quantity answers it and latches the high half for the requester; its later read of the high half answers the latched
value, whatever the register holds by then (R6). The requester's offset `o` names the register at `p`. -/
def Obligations.HalvesRead : Prop :=
  ∀ (s : State) (who : Requester) (o p : Nat), s.regsUp = true → s.sd.queue = [] → o % 4 = 0 → regTarget who o = some p → readRight who p = true →
    regTarget who (o + 4) = some (p + 4) → readRight who (p + 4) = true → pairLow p = true → pairLow (p + 4) = false →
    Completes (.lowHalfRead who o) s (fun t => t.out = .readData who (s.view p) :: s.out ∧ t.latchAt who p = some (s.view (p + 4))) ∧
    ∀ (u : State) (v : Word), u.regsUp = true → u.sd.queue = [] → u.latchAt who p = some v →
      exec (.lowHalfRead who (o + 4)) u = .next (u.emit (.readData who v))

/-- The low half of a 64-bit quantity is held for its writer, the newest one in place of an older one, and has no effect yet; the write of the high half by the
same requester makes both take effect at once; with none held the high half alone takes effect (R7). The plain quantities first, then the persistent
ones (their write enters the Seed store queue whole), the mailbox pointers, the counters of the performance monitor while disabled, the phase of a
schedule entry whose new value is valid, and EV_READ_SEQ. -/
def Obligations.HalvesWrite : Prop :=
  (∀ (s : State) (who : Requester) (o : Nat), s.regsUp = true → mayWrite who = true → o % 4 = 0 → pairLow o = true → pairLow (o + 4) = false →
    o + 4 ≠ EV + 0x34 → boxOf o = none → boxOf (o + 4) = none → ¬ (TB + 0x1000 ≤ o ∧ o < TB + 0x1800) → ¬ (TB + 0x1000 ≤ o + 4 ∧ o + 4 < TB + 0x1800) →
    (∀ v, Completes (.lowHalfWrite who o v) s (fun t => t.holdAt who o = some v ∧ t.regs = s.regs ∧ t.sd = s.sd)) ∧
    (¬ (PM + 0x100 ≤ o ∧ o < PM + 0xD00) → hasPersist o = false → hasPersist (o + 4) = false →
      (∀ l v, s.holdAt who o = some l → Completes (.highHalfWrite who (o + 4) v) s (fun t => t.reg o = plainWord o (s.reg o) l ∧
        t.reg (o + 4) = plainWord (o + 4) (s.reg (o + 4)) v ∧ t.holdAt who o = none)) ∧
      (∀ v, s.holdAt who o = none → Completes (.highHalfWrite who (o + 4) v) s (fun t => t.reg o = s.reg o ∧
        t.reg (o + 4) = plainWord (o + 4) (s.reg (o + 4)) v))) ∧
    (¬ (PM + 0x100 ≤ o ∧ o < PM + 0xD00) → hasPersist o = true → ∀ l v, s.holdAt who o = some l →
      Completes (.highHalfWrite who (o + 4) v) s (fun t => t.sd.queue = s.sd.queue ++ [.pair who o l v] ∧ t.holdAt who o = none)) ∧
    (PM + 0x100 ≤ o → o < PM + 0xD00 → s.flag (PM + 0x100 + (o - (PM + 0x100)) / 16 * 16) 31 = false → ∀ l v, s.holdAt who o = some l →
      Completes (.highHalfWrite who (o + 4) v) s (fun t => Tbl.get (fun _ => 0) t.pm.vals ((o - (PM + 0x100)) / 16) = l.toNat + v.toNat % 2 ^ 16 * 2 ^ 32))) ∧
  (∀ (s : State) (who : Requester) (k o : Nat) (v : Word), s.regsUp = true → k < 40 → mailboxOf who k = true → o % 4 = 0 → regTarget who o = some (mbOff k) →
    regTarget who (o + 4) = some (mbOff k + 4) → s.inFull k = false →
    Completes (.lowHalfWrite who o v) s (fun t => t.holdAt who (mbOff k) = some v ∧ t.regs = s.regs) ∧
    ∀ l, s.holdAt who (mbOff k) = some l → Completes (.highHalfWrite who (o + 4) v) s (fun t => t.reg (mbOff k) = l ∧ t.reg (mbOff k + 4) = v)) ∧
  (∀ (s : State) (who : Requester) (n : Nat) (v : Word), s.regsUp = true → mayWrite who = true → 0 < n → n < 64 →
    Completes (.lowHalfWrite who (schedOff n + 0x10) v) s (fun t => t.holdAt who (schedOff n + 0x10) = some v ∧ t.regs = s.regs) ∧
    ∀ l, s.holdAt who (schedOff n + 0x10) = some l → ((s.setReg (schedOff n + 0x10) l).setReg (schedOff n + 0x14) v).schedValid n = true →
      Completes (.highHalfWrite who (schedOff n + 0x14) v) s (fun t => t.reg (schedOff n + 0x10) = l ∧ t.reg (schedOff n + 0x14) = v)) ∧
  (∀ (s : State) (who : Requester) (v : Word), s.regsUp = true → mayWrite who = true →
    Completes (.lowHalfWrite who (EV + 0x30) v) s (fun t => t.holdAt who (EV + 0x30) = some v ∧ t.regs = s.regs) ∧
    ∀ l, s.holdAt who (EV + 0x30) = some l → Completes (.highHalfWrite who (EV + 0x34) v) s (fun t => t.reg (EV + 0x30) = l ∧ t.reg (EV + 0x34) = v))

/-- MC_ARB_MAP: a write that would give two engines one input is ignored as a whole and records event 0x1104; every other one is stored, and each of the eight
engines then has the input written for it (R83). -/
def Obligations.ArbMap : Prop :=
  ∀ (s : State) (who : Requester) (c : Nat) (v : Word), c < 40 → s.regsUp = true → mayWrite who = true →
    ((∃ i j, i < 8 ∧ j < 8 ∧ i ≠ j ∧ bits v (3 * i + 2) (3 * i) = bits v (3 * j + 2) (3 * j)) →
      Completes (.mcArbMapWrite who c v) s (fun t => t = s.event 0x1104 c none c v.toNat ∧ t.reg (MC + c * 0x1000 + 8) = s.reg (MC + c * 0x1000 + 8))) ∧
    ((∀ i j, i < 8 → j < 8 → bits v (3 * i + 2) (3 * i) = bits v (3 * j + 2) (3 * j) → i = j) →
      Completes (.mcArbMapWrite who c v) s (fun t => ∀ i < 8, t.fld (MC + c * 0x1000 + 8) (3 * i + 2) (3 * i) = bits v (3 * i + 2) (3 * i)))

/-- In a tick the entries that start an action do so in ascending index order, each at most once, and each then runs; an entry evaluated again at the same
instant starts nothing more (R47). -/
def Obligations.ScheduleOrder : Prop :=
  (∀ s t : State, exec (.scheduleTick 1) s = .next t → ∃ l : List (Nat × Nat), t.tb.started = s.tb.started ++ l ∧ (l.map (fun p => p.1)).Pairwise (fun a b => a < b) ∧
    ∀ p ∈ l, p.1 < 64 ∧ t.schedRunning p.1 = true) ∧
  (∀ (s : State) (z n : Nat), n < 64 → s.schedAction n ≠ 0 →
    (State.schedEval z (State.schedEval z s n) n).tb.started = (State.schedEval z s n).tb.started)

/-- An advance of a spread counter from v to c > v sets c - v cells where so many are left, otherwise writes base c with the next sequence into the slot with
the lower sequence and clears the tally; its value is then c, and no advance to a value already passed changes anything (R480). -/
def Obligations.SpreadAdvance : Prop :=
  ∀ (p : Spread) (c : Nat),
    (c ≤ p.value → p.advance c = p) ∧
    (p.value < c → (p.advance c).value = c ∧ p.seq ≤ (p.advance c).seq ∧ (p.advance c).inUse = true) ∧
    (p.value < c → c - p.value ≤ 1920 - p.tally → (p.advance c).tally = p.tally + (c - p.value) ∧ (p.advance c).baseA = p.baseA ∧ (p.advance c).baseB = p.baseB) ∧
    (p.value < c → 1920 - p.tally < c - p.value → (p.advance c).tally = 0 ∧
      (p.seqA ≤ p.seqB → (p.advance c).baseA = c ∧ (p.advance c).seqA = p.seq + 1 ∧ (p.advance c).baseB = p.baseB) ∧
      (p.seqB < p.seqA → (p.advance c).baseB = c ∧ (p.advance c).seqB = p.seq + 1 ∧ (p.advance c).baseA = p.baseA))

/-- Recording an event: the next record number rises, so that none is given twice; staging never holds more than 256 records; with room, and a number covered,
the record stands behind them under the next number, and alone unless the code is one of those that CXL event logs take (R436, R438, R442). -/
def Obligations.RecordRules : Prop :=
  ∀ (s : State) (code inst : Nat) (dom : Option Nat) (p0 p1 : Nat),
    s.ev.next < (s.event code inst dom p0 p1).ev.next ∧
    (s.StagingOk → (s.event code inst dom p0 p1).StagingOk) ∧
    (s.ev.next < s.ev.covered → s.ev.staging.length < 256 → ∃ (e : EventRec) (l : List Staged), (s.event code inst dom p0 p1).ev.staging = s.ev.staging ++ ⟨e, false, false⟩ :: l ∧
      e.seq = s.ev.next ∧ e.code = code ∧ e.inst = inst ∧ e.dom = dom ∧ e.ztime = s.tb.ztime ∧ e.p0 = p0 % 2 ^ 32 ∧ e.p1 = p1 % 2 ^ 32 ∧
      (cxlLog code = none → l = [] ∧ (s.event code inst dom p0 p1).ev.next = s.ev.next + 1))

/-- An authenticated command whose authority has a key, on a mailbox that is not locked out: the tag is checked first, then the lock, then the counter, which is
advanced before the command is taken (R359 to R361). -/
def Obligations.AuthenticationOrder : Prop :=
  ∀ (s : State) (c : Taken) (m key : List Byte), c.auth = true → c.mb ∉ s.lark.lockout.map Prod.fst → c.authority ≤ 8 → (s.auth c.authority).key = some key →
    ((m.drop (32 + c.payload.length)).take 16 ≠ vcsTag key (m.take 32) c.payload → s.authenticate c m = s.authFailed c ∧
      (s.authFailed c).fld (CP + 0x1C) 31 0 = satAdd (s.fld (CP + 0x1C) 31 0) 1 (2 ^ 32 - 1) ∧
      (Tbl.get (fun _ => 0) s.lark.failRun c.mb = 3 → c.mb ∈ (s.authFailed c).lark.lockout.map Prod.fst)) ∧
    ((m.drop (32 + c.payload.length)).take 16 = vcsTag key (m.take 32) c.payload → (s.auth c.authority).locked = true →
      ∃ u : State, u.regs = s.regs ∧ u.ev = s.ev ∧ s.authenticate c m = (u.event 0xB203 c.mb none c.mb c.authority).answer c 7 0 []) ∧
    ((m.drop (32 + c.payload.length)).take 16 = vcsTag key (m.take 32) c.payload → (s.auth c.authority).locked = false → c.counter ≤ s.counter c.authority →
      ∃ u : State, u.regs = s.regs ∧ u.ev = s.ev ∧ s.authenticate c m = u.answer c 6 0 []) ∧
    ((m.drop (32 + c.payload.length)).take 16 = vcsTag key (m.take 32) c.payload → c.authority = 0 → (s.auth 0).locked = false → s.counter 0 < c.counter →
      ((s.spread 0).advance c.counter).wornOut = false →
      (s.authenticate c m).lark.taken = some c ∧ (s.authenticate c m).counter 0 = c.counter ∧ (s.authenticate c m).regs = s.regs)

/-- Lark takes a full inbound slot whose outbound slot is empty, those of MB36 to MB39 first and then MB0 to MB35 in round-robin order after the mailbox taken
last, and clears the slot; while it has a command unanswered it takes none (R351). -/
def Obligations.MailboxOrder : Prop :=
  (∀ (s : State) (k : Nat), s.nextMailbox = some k → k < 40 ∧ s.inFull k = true ∧ s.outFull k = false ∧
    (k < 36 → (∀ j, 36 ≤ j → j < 40 → s.inFull j = false ∨ s.outFull j = true) ∧
      ∃ i < 36, k = (s.lark.lastMb + 1 + i) % 36 ∧ ∀ h < i, s.inFull ((s.lark.lastMb + 1 + h) % 36) = false ∨ s.outFull ((s.lark.lastMb + 1 + h) % 36) = true)) ∧
  (∀ (s : State) (k : Nat) (bytes : List Byte), s.mailboxesUp = true → s.flag CP 31 = true → s.flag CP 28 = false → s.lark.taken = none → s.nextMailbox = some k →
    Completes (.larkTakeCommand bytes) s (fun t => t.inFull k = false ∧ (k < 36 → t.lark.lastMb = k))) ∧
  (∀ (s : State) (bytes : List Byte), s.lark.taken.isSome = true → exec (.larkTakeCommand bytes) s = .next s)

/-- Lark's answer to a command without an authenticated tag: the response stands in Commons over the request, every other byte of Commons is as before; the
outbound pointer and the request's tag are set, full and outbound DB0 too; Lark has no command any more (R353). -/
def Obligations.AnswerWritten : Prop :=
  ∀ (s : State) (c : Taken) (st d : Nat) (p : List Byte), c.lost = false → c.auth = false → c.mb < 40 → c.ptr.toNat < 2 ^ 63 → 32 + p.length ≤ c.buffer →
    (∀ a, (s.answer c st d p).rk.commons.read a = if c.ptr.toNat % 2 ^ 26 ≤ a ∧ a < c.ptr.toNat % 2 ^ 26 + (32 + p.length)
      then (answerHeader c st d p.length false ++ p).getD (a - c.ptr.toNat % 2 ^ 26) 0 else s.rk.commons.read a) ∧
    (s.answer c st d p).lark.taken = none ∧ (s.answer c st d p).reg64 (mbOff c.mb + 0x10) = c.ptr.toNat ∧ (s.answer c st d p).reg (mbOff c.mb + 0x18) = c.tag ∧
    (s.answer c st d p).outFull c.mb = true ∧ (s.answer c st d p).flag (mbOff c.mb + 0x2C) 0 = true ∧
    (answerHeader c st d p.length false).length = 32 ∧ msgNat (answerHeader c st d p.length false) 2 2 = c.opcode % 2 ^ 16 ∧
    msgNat (answerHeader c st d p.length false) 4 4 = p.length % 2 ^ 32 ∧ msgNat (answerHeader c st d p.length false) 13 1 = st % 2 ^ 8 ∧
    msgNat (answerHeader c st d p.length false) 14 2 = d % 2 ^ 16

/-- The two writes of bytes that last: an owner data write from the Seed store queue, and an image chunk into the slot that does not run. The bytes written read
back, every other byte of every memory of the part is as before, the running image's slot too (R341, R473). -/
def Obligations.StoredBytes : Prop :=
  (∀ (s : State) (off : Nat) (b : List Byte) (rest : List SeedWrite), s.sd.queue = .ownerData off b :: rest →
    Completes .seedWriteComplete s (fun t => (∀ a, t.sd.ownerData.read a = if off ≤ a ∧ a < off + b.length then b.getD (a - off) 0 else s.sd.ownerData.read a) ∧
      t.sd.queue = rest ∧ t.rk = s.rk ∧ t.lark = s.lark)) ∧
  (∀ (s : State) (c : Taken) (off : Nat) (b : List Byte), s.Executes c 0x0601 → off + b.length ≤ 0x100000 →
    Completes (.transferImageChunk off b) s (fun t =>
      (∀ a, (t.slotOf (!s.slotRuns)).bytes.read a = if off ≤ a ∧ a < off + b.length then b.getD (a - off) 0 else (s.slotOf (!s.slotRuns)).bytes.read a) ∧
      t.slotOf s.slotRuns = s.slotOf s.slotRuns ∧ t.sd.ownerData = s.sd.ownerData))

/-- The dirty bitmap in Commons has one bit per plot: setting or clearing one leaves every other, and every byte but its own (R389). -/
def Obligations.DirtyBits : Prop :=
  ∀ (s : State) (p q : Nat) (v : Bool), (s.setDirty p v).dirtyPlot q = (if q = p then v else s.dirtyPlot q) ∧
    (∀ a, a ≠ s.bitmapBase + p / 8 → (s.setDirty p v).rk.commons.read a = s.rk.commons.read a) ∧ (s.setDirty p v).regs = s.regs

/-- A control reset gives every class C and class L field its reset value and keeps every other one, in every register but those that show the reset itself
and Lark's state: the CP block, GLB_RST_STAT and its count, and what recording its event counts (R466). -/
def Obligations.ControlResetKeeps : Prop :=
  ∀ s : State, s.mailboxesUp = true → ∀ c ∈ [Instr.glbRstControl, .larkWatchdogExpire], (c = .larkWatchdogExpire → s.lark.fwRunning = true) →
    Completes c s (fun t => ∀ o, (o < CP ∨ CP + 0x10000 ≤ o) → o ≠ GLB + 0x104 → o ≠ GLB + 0x108 → recorderReg o = false →
      t.reg o = (s.reg o &&& ~~~ keepBits (fun k => decide (k = .c ∨ k = .l)) o) ||| (resetWord o &&& keepBits (fun k => decide (k = .c ∨ k = .l)) o)) ∧
    Completes c s (fun t => State.SameBytes s t ∧ t.wb = s.wb ∧ t.tp = s.tp ∧ t.host.reqs = s.host.reqs)

/-- State requests: a refused one for A1, A2 or A3 changes the refusal count, PW_LAST_REFUSE and the event recorder, and is answered with status 0x04; one for
A0 made in A0 changes nothing and is answered with success (R404). -/
def Obligations.PowerRequests : Prop :=
  (∀ (s : State) (c : Taken) (x : Nat), s.Executes c 0x0801 → 1 ≤ x → x ≤ 3 → s.refuseCode x ≠ 0 →
    exec (.requestPowerState false x) s = .next ((s.refusePower x (s.refuseCode x)).concluded c 4 404 []) ∧
    (s.refusePower x (s.refuseCode x)).fld (PW + 0x14) (8 * x - 1) (8 * x - 8) = satAdd (s.fld (PW + 0x14) (8 * x - 1) (8 * x - 8)) 1 255 ∧
    (s.refusePower x (s.refuseCode x)).reg (PW + 0x1C) = BitVec.ofNat 32 (x + s.refuseCode x * 256) ∧ (s.refusePower x (s.refuseCode x)).power = s.power) ∧
  (∀ (s : State) (c : Taken), s.Executes c 0x0801 → s.power = 0 → s.flag PW 7 = false →
    exec (.requestPowerState false 0) s = .next (s.concluded c 0 0 []))

/-- A security alarm counts in GX_DOM.alarms of its domain, sets GX_ALARM_STAT.pending and records its event; when the count reaches quarantine_at, which is not
0, the domain is quarantined (R293). -/
def Obligations.SecurityAlarm : Prop :=
  ∀ (s : State) (d line code : Nat), d < 4096 →
    (s.alarm d line code).fld (gxDom d) 15 0 = satAdd (s.fld (gxDom d) 15 0) 1 (2 ^ 16 - 1) ∧ (s.alarm d line code).flag (GX + 0x0C) 0 = true ∧
    s.ev.next < (s.alarm d line code).ev.next ∧
    (s.fld (GX + 8) 15 0 ≠ 0 → s.fld (GX + 8) 15 0 ≤ satAdd (s.fld (gxDom d) 15 0) 1 (2 ^ 16 - 1) → (s.alarm d line code).quarantined d = true) ∧
    (s.fld (GX + 8) 15 0 = 0 → (s.alarm d line code).quarantined d = s.quarantined d)

/-- Frame of an LD mailbox's reading commands: whatever the mailbox answers, nothing of the part changes. -/
def Obligations.FrameMailboxReads : Prop :=
  ∀ (s t : State) (i log : Nat), ∀ c ∈ [Instr.cxlGetTimestamp i, .cxlIdentify i, .getEventInterruptPolicy i, .getFwInfo i, .getSupportedLogs i, .getLog i,
      .identifyMemoryDevice i, .getPartitionInfo i, .getHealthInfo i, .getAlertConfiguration i, .getShutdownState i, .getPoisonList i,
      .getScanMediaCapabilities i, .getScanMediaResults i, .getDcConfiguration i, .getDcExtentList i, .getEventRecords i log],
    exec c s = .next t → State.OnlySends s t

/-- Frame of the post mailboxes' registers: a post, a release, doorbells and a notice's retry change the set of their mailbox and CP's count of rejected posts,
and nothing else of the part. -/
def Obligations.FramePosts : Prop :=
  ∀ (s t : State) (who : Requester) (k : Nat) (v : Word), ∀ c ∈ [Instr.cpInTagWrite who k v, .cpOutRelease who k, .doorbellSet who k v, .internalNoticeRetry k],
    exec c s = .next t → (∀ o, o ≠ mbOff k + 8 → o ≠ mbOff k + 0x0C → o ≠ mbOff k + 0x1C → o ≠ mbOff k + 0x24 → o ≠ CP + 0x20 → t.reg o = s.reg o) ∧
      State.SameBytes s t ∧ t.lark.taken = s.lark.taken ∧ t.lark.longOp = s.lark.longOp ∧ t.host = s.host ∧ t.sd = s.sd ∧ t.ev = s.ev ∧ t.tb = s.tb ∧ t.wb = s.wb ∧
      t.tp = s.tp ∧ t.gx = s.gx ∧ t.sw = s.sw ∧ t.pw = s.pw

/-- Frame of a channel's link: its flits (of those received, the discarded ones), acknowledgements, replays and retraining change nothing of any other channel, no byte of memory, and no request. -/
def Obligations.FrameLinks : Prop :=
  ∀ (s t : State) (c n : Nat) (r : Bool) (f : List Byte), (flitIntact f = true → (f.getD 29 0).toNat ≠ (s.chan c).link.rxSeq) →
    ∀ i ∈ [Instr.flitPeriod c, .flitReceive c f, .ackReceive c n r, .ackTimer c, .replayTimeout c,
      .blockLockLoss c, .retrainComplete c],
    exec i s = .next t → (∀ k, k ≠ c → t.chan k = s.chan k) ∧
      (∀ o, ¬ (MC + c * 0x1000 ≤ o ∧ o < MC + c * 0x1000 + 0x1000) → recorderReg o = false → t.reg o = s.reg o) ∧
      State.SameBytes s t ∧ t.host.reqs = s.host.reqs ∧ t.codes = s.codes ∧ t.tp = s.tp ∧ t.wb = s.wb ∧ t.lark = s.lark ∧ t.gx = s.gx ∧ t.sw = s.sw

/-- Frame of a CXL.mem request that a port holds: it joins the requests; no line, frame, byte of memory or register changes, but for what the performance
monitor and an event count. -/
def Obligations.FrameMemArrivals : Prop :=
  ∀ (s t : State) (p l ld tag dpa d : Nat) (data : List Byte) (mask : BitVec 64) (poison : Bool), s.power ≠ 2 → s.wb.recovered = true → s.resolveDom ld dpa = some d →
    s.mirrorRole d ≠ .unconfirmed →
    ∀ c ∈ [Instr.memRd p l ld tag dpa, .memRdData p l ld tag dpa, .memWr p l ld tag dpa data poison, .memWrPtl p l ld tag dpa data mask poison],
    exec c s = .next t → (∃ new, t.host.reqs = s.host.reqs ++ new ∧ new.length ≤ 1) ∧ (∀ o, recorderReg o = false → t.reg o = s.reg o) ∧ State.SameBytes s t ∧
      t.host.fetches = s.host.fetches ∧ t.wb = s.wb ∧ t.tp = s.tp ∧ t.rk = s.rk ∧ t.gx = s.gx ∧ t.codes = s.codes ∧ t.media = s.media ∧ t.lark = s.lark ∧ t.sw = s.sw

/-- Frame of the VCS commands that read: Commons changes in the buffer of the command alone, the registers in its mailbox set and the performance monitor's
alone; keys, domains, time, plots and the write buffer stay. With no command of theirs taken, nothing changes. -/
def Obligations.FrameVcsReads : Prop :=
  (∀ (s t : State) (c : Taken) (a off n : Nat), s.lark.taken = some c → c.mb < 40 → c.auth = false →
    ∀ i ∈ [Instr.vcsIdentify, .getCounter a, .getProgress, .listDomains, .readOwnerDataArea off n],
    exec i s = .next t → (∀ x, x < c.ptr.toNat % 2 ^ 26 ∨ c.ptr.toNat % 2 ^ 26 + max 32 c.buffer ≤ x → t.rk.commons.read x = s.rk.commons.read x) ∧
      (∀ o, ¬ (mbOff c.mb ≤ o ∧ o < mbOff c.mb + 0x40) → recorderReg o = false → t.reg o = s.reg o) ∧ t.sd = s.sd ∧ t.gx = s.gx ∧ t.tb = s.tb ∧ t.tp = s.tp ∧
      t.wb = s.wb ∧ t.host = s.host ∧ t.ev = s.ev) ∧
  (∀ (s : State) (a off n : Nat), s.lark.taken = none → ∀ i ∈ [Instr.vcsIdentify, .getCounter a, .getProgress, .getNotices, .createDomain, .listDomains,
      .clearEventRecorder, .writeRwaField, .readOwnerDataArea off n, .confirmBackwardStep, .saveSchedule], exec i s = .next s)

/-- Frame of the recorder's, the meter port's and the performance monitor's register and port commands, while no unit is consumed: outside their own three blocks and the log of refused
accesses no register changes, no byte of memory, and nothing of the data path. -/
def Obligations.FrameTelemetry : Prop :=
  ∀ (s t : State) (who : Requester) (v : Word) (n x : Nat), ∀ c ∈ [Instr.evReadSeqWrite who v, .pmSlotClear who, .meterReadStream n, .meterReadStatus,
      .meterUnknownCommand x, .mtrCsRise],
    (c = .meterReadStream n → n + s.mt.portPos ≤ 64) → (c = .meterReadStatus → s.mt.portCmd ≠ some 1) → (c = .meterUnknownCommand x → s.mt.portCmd ≠ some 1) →
    exec c s = .next t → (∀ o, 0x100 ≤ o → (o < EV ∨ PM + 0x10000 ≤ o) → o ≠ HI + 0xC4 → t.reg o = s.reg o) ∧ State.SameBytes s t ∧ t.host.reqs = s.host.reqs ∧
      t.wb = s.wb ∧ t.tp = s.tp ∧ t.gx = s.gx ∧ t.codes = s.codes ∧ t.media = s.media ∧ t.lark = s.lark ∧ t.sw = s.sw ∧ t.tb = s.tb

/-- Event recorder, meter port and performance monitor commands complete: what each leaves. -/
def Obligations.RecorderCommands : Prop :=
  (∀ s : State, s.unoffered ≠ [] → (s.ev.lastRing = none ∨ ∃ t0, s.ev.lastRing = some t0 ∧ s.fld EV 7 0 * 1000000 ≤ s.tb.tick - t0) →
    Completes .ringPageWrite s (fun t =>
      t.ev.ring = (ringPick s.unoffered :: s.ev.ring).take 512 ∧ t.ev.lastRing = some s.tb.tick ∧ t.ev.ringAt = s.ev.ringAt + 1)) ∧
  (∀ (s : State) (who : Requester) (v : Word), s.regsUp = true → mayWrite who = true →
    Completes (.evReadSeqWrite who v) s (fun t =>
      t.reg (EV + 0x34) = v ∧ t.ev.latched = (s.findRecord (t.reg64 (EV + 0x30))).2 ∧
      t.fld (EV + 0x38) 1 0 = (s.findRecord (t.reg64 (EV + 0x30))).1)) ∧
  (∀ (s : State) (u : Nat × List Byte) (rest : List (Nat × List Byte)), s.mt.units = u :: rest → s.meterAvail = true → s.mt.portCmd = none →
    Completes (.meterReadStream 1) s (fun t => t.out = .meterByte 0xA5 :: s.out ∧ t.mt.units = s.mt.units ∧ t.mt.portPos = 1 ∧ t.mt.portCmd = some 1)) ∧
  (∀ (s : State) (u : Nat × List Byte) (rest : List (Nat × List Byte)), s.mt.units = u :: rest → s.meterAvail = true → s.mt.portCmd = some 1 → s.mt.cut = false →
    0 < s.mt.portPos → s.mt.portPos < 64 → Completes (.meterReadStream 1) s (fun t =>
      t.out = .meterByte (u.2.getD (s.mt.portPos - 1) 0) :: s.out ∧ t.mt.units = s.mt.units ∧ t.mt.portPos = s.mt.portPos + 1)) ∧
  (∀ s : State, s.meterAvail = false → s.mt.portCmd = none → Completes (.meterReadStream 1) s (fun t =>
    t.out = .meterByte 0x00 :: s.out ∧ t.mt.units = s.mt.units)) ∧
  (∀ s : State, s.mt.portCmd = none → Completes .meterReadStatus s (fun t =>
    t.out = ((leBytes 4 s.mt.units.length ++ leBytes 4 s.mtStatus.toNat ++ leBytes 8 ((s.mt.units.map (fun u => u.1)).headD 0)).map Out.meterByte).reverse
      ++ s.out ∧ t.mt.units = s.mt.units ∧ t.pins.mtrCsHigh = false)) ∧
  (∀ (s : State) (cmd : Nat), s.mt.portCmd = none → cmd % 256 ≠ 1 → cmd % 256 ≠ 2 →
    Completes (.meterUnknownCommand cmd) s (fun t => t.out = .meterByte 0xFF :: s.out ∧ t.mt.units = s.mt.units ∧ t.mt.portCmd = some cmd)) ∧
  (∀ (s : State) (c cmd : Nat), s.mt.portCmd = some c → c ≠ 1 →
    Completes (.meterUnknownCommand cmd) s (fun t => t.out = .meterByte 0xFF :: s.out ∧ t.mt = s.mt)) ∧
  (∀ s : State, Completes .mtrCsRise s (fun t => t.mt.portCmd = none ∧ t.mt.portPos = 0 ∧ t.mt.units = s.mt.units ∧ t.pins.mtrCsHigh = true)) ∧
  (∀ (s : State) (b k : Nat), b < 12 → k < 16 → s.flag PM 0 = true → s.flag (PM + 0x100 + (16 * b + k) * 0x10) 31 = true →
    Completes (.pmCounterOverflow b k) s (fun t =>
      Tbl.get (fun _ => 0) t.pm.vals (16 * b + k) = 0 ∧ t.flag (PM + 0xD00 + 4 * ((16 * b + k) / 32)) ((16 * b + k) % 32) = true)) ∧
  (∀ (s : State) (who : Requester), s.regsUp = true → mayWrite who = true → Completes (.pmSlotClear who) s (fun t => t.pm.slots = []))

/-- Channel link commands complete (03: R59 to R64, R81 to R83, R513): what each leaves. -/
def Obligations.ChannelLinkCommands : Prop :=
  (∀ (s : State) (c i : Nat) (m : MCmd), c < 40 → ((s.slotStart c).chan c).grant = none →
    ¬ (((s.slotStart c).heads c).any (fun p => (s.slotStart c).bucketHolds p.2)) = true →
    (s.slotStart c).linkReady c = true → (s.slotStart c).nextAsk c = some (i, m) →
    Completes (.issueSlot ⟨c, true⟩) s (fun t => t = (s.slotStart c).grant c i m ∧ (t.chan c).grant = none ∧ t.flag (MC + c * 0x1000 + 4) 3 = false) ∧
    Completes (.issueSlot ⟨c, false⟩) s (fun t => t = (s.slotStart c).holdGrant c i m.eng ∧ (t.chan c).grant = some (i, m.eng, s.tb.tick))) ∧
  (∀ (s : State) (c : Nat), c < 40 → (s.chanState c = 3 ∨ s.chanState c = 4) → (s.chan c).link.unacked.length < 64 →
    Completes (.flitPeriod c) s (fun t =>
      (∃ p, p.length = 29 ∧ t.out = .flit c (p ++ [BitVec.ofNat 8 (s.chan c).link.txSeq] ++ leBytes 2 (crc16 0x8BB7 (p ++ [BitVec.ofNat 8 (s.chan c).link.txSeq]))) :: s.out ∧
        (t.chan c).link.unacked = (s.chan c).link.unacked ++ [((s.chan c).link.txSeq, p)] ∧
        (∀ k < 29, p.getD k 0 = (s.chan c).link.tx.flatten.getD k 0)) ∧
      (t.chan c).link.txSeq = ((s.chan c).link.txSeq + 1) % 256)) ∧
  (∀ (s : State) (c : Nat) (f : List Byte), c < 40 → f.length = 32 → leNat (f.drop 30) = crc16 0x8BB7 (f.take 30) →
    (f.getD 29 0).toNat = (s.chan c).link.rxSeq → (∀ b ∈ f.take 29, b = 0) → (s.chan c).link.rxBytes = [] → (s.chan c).link.rxPending < 15 →
    Completes (.flitReceive c f) s (fun t =>
      (t.chan c).link.rxSeq = ((s.chan c).link.rxSeq + 1) % 256 ∧ (t.chan c).link.rxBytes = [] ∧
      (t.chan c).link.rxPending = (s.chan c).link.rxPending + 1 ∧ (t.chan c).flight = (s.chan c).flight ∧ t.out = s.out)) ∧
  (∀ (s : State) (c : Nat) (f : List Byte), c < 40 →
    (f.length ≠ 32 ∨ leNat (f.drop 30) ≠ crc16 0x8BB7 (f.take 30) ∨ (f.getD 29 0).toNat ≠ (s.chan c).link.rxSeq) →
    Completes (.flitReceive c f) s (fun t =>
      (t.chan c).link.rxSeq = (s.chan c).link.rxSeq ∧ (t.chan c).link.rxBytes = (s.chan c).link.rxBytes ∧
      [0x7E, BitVec.ofNat 8 (s.chan c).link.rxSeq, 1] ∈ (t.chan c).link.tx ∧ (t.chan c).flight = (s.chan c).flight)) ∧
  (∀ (s : State) (c n : Nat), c < 40 → (∃ f ∈ (s.chan c).link.unacked, (f.1 + 1) % 256 = n % 256) →
    Completes (.ackReceive c n false) s (fun t =>
      (t.chan c).link.unacked = (s.chan c).link.unacked.drop ((s.chan c).link.unacked.findIdx (fun f => decide ((f.1 + 1) % 256 = n % 256)) + 1) ∧
      (t.chan c).link.replays = 0)) ∧
  (∀ (s : State) (c n : Nat), c < 40 → (∀ f ∈ (s.chan c).link.unacked, (f.1 + 1) % 256 ≠ n % 256) → (s.chan c).link.replayMark = some (n % 256) →
    Completes (.ackReceive c n true) s (fun t => t.out = s.out ∧ (t.chan c).link.unacked = (s.chan c).link.unacked ∧
      (t.chan c).link.replays = (s.chan c).link.replays)) ∧
  (∀ (s : State) (c : Nat), c < 40 → 0 < (s.chan c).link.rxPending →
    Completes (.ackTimer c) s (fun t => [0x7E, BitVec.ofNat 8 (s.chan c).link.rxSeq, 0] ∈ (t.chan c).link.tx ∧ (t.chan c).link.rxPending = 0)) ∧
  (∀ (s : State) (c : Nat), c < 40 → (s.chan c).link.unacked ≠ [] →
    Completes (.replayTimeout c) s (fun t =>
      (t.chan c).link.replays = (s.chan c).link.replays + 1 ∧ (t.chan c).link.unacked = (s.chan c).link.unacked ∧
      (7 ≤ (s.chan c).link.replays → s.chanState c = 3 ∨ s.chanState c = 4 → t.chanState c = 5))) ∧
  (∀ (s : State) (c : Nat), c < 40 → (s.chanState c = 3 ∨ s.chanState c = 4) →
    Completes (.blockLockLoss c) s (fun t => t.chanState c = 5 ∧ (t.chan c).before = s.chanState c)) ∧
  (∀ (s : State) (c : Nat), c < 40 → s.chanState c = 5 → (s.chan c).before = 4 →
    Completes (.retrainComplete c) s (fun t => t.chanState c = 4 ∧ (t.chan c).link.replays = 0))

/-- The time base and its sources complete (02: R32 to R54, R511): what each command leaves. -/
def Obligations.TimeBaseCommands : Prop :=
  (∀ s : State, s.source ≠ 1 → Completes .ppsEdge s (fun t => t.tb.edgeTick = some s.tb.tick ∧ t.tb.edgeUsed = false ∧
    t.tb.edgeGoal = (s.tb.ztime : Int) + s.absorbLeft - s.fld (TB + 0x14) 15 0 ∧ t.tbState = s.tbState)) ∧
  (∀ s : State, s.source = 1 → s.tbState = 1 → 63 ≤ s.tb.inPhase →
    secondsOff ((s.tb.ztime : Int) + s.absorbLeft - s.fld (TB + 0x14) 15 0) * 1000000000 = (s.tb.ztime : Int) + s.absorbLeft - s.fld (TB + 0x14) 15 0 →
    Completes .ppsEdge s (fun t => t.tbState = 2 ∧ t.tb.wasLocked = true ∧ t.tb.edgeTick = some s.tb.tick)) ∧
  (∀ (s : State) (b : List Byte), (todOk (s.fld (TB + 4) 7 0) b && s.todTimely) = false →
    Completes (.todFrame b) s (fun t => t.fld (TB + 0x24) 31 0 = satAdd (s.fld (TB + 0x24) 31 0) 1 (2 ^ 32 - 1) ∧ t.tb = s.tb)) ∧
  (∀ (s : State) (b : List Byte), todOk (s.fld (TB + 4) 7 0) b = true → s.todTimely = true → s.timeValid = false → s.tb.leapTaken = false → s.source ≠ 1 →
    Completes (.todFrame b) s (fun t => t.tb.edgeUsed = true ∧ t.tb.primarySeen = true ∧ t.fld (TB + 0x10) 17 16 = (b.getD 9 0).toNat ∧
      t.leap = signed 16 (leNat ((b.drop 7).take 2)))) ∧
  (∀ (s : State) (t0 : Nat), s.source ≠ 1 → s.ppsValid = true → s.tb.ppsSince = some t0 → 3000000 ≤ s.tb.tick - t0 →
    Completes (.timeSourceSwitch .pps) s (fun t => t.source = 1 ∧ t.tbState = 1 ∧ t.tb.wasLocked = false)) ∧
  (∀ (s : State) (t0 : Nat), (s.source = 0 ∨ s.source = 3) → s.fabricValid = true → s.tb.fabricSince = some t0 → 3000000 ≤ s.tb.tick - t0 →
    Completes (.timeSourceSwitch .fabric) s (fun t => t.source = 2 ∧ t.tbState = 1 ∧ t.tb.wasLocked = false)) ∧
  (∀ (s : State) (t0 : Nat), s.source = 1 → s.tb.edgeTick = some t0 → 1500000 ≤ s.tb.tick - t0 → s.tb.fabricSince = none →
    Completes .sourceLossTimeout s (fun t => t.source = 0 ∧ t.tbState = (if s.tb.wasLocked then 3 else 0) ∧ t.tb.ppsSince = none)) ∧
  (∀ s : State, 600000000 ≤ s.tb.lockedUs → Completes .disciplineComplete s (fun t => t = s.setBit TB 9 true ∧ t.flag TB 9 = true)) ∧
  (∀ (s : State) (a : Absorb), s.tb.absorb = some a → a.left = 0 →
    Completes .slewComplete s (fun t => t.tb.absorb = none ∧ t.flag TB 10 = false ∧ t.tb.ztime = s.tb.ztime)) ∧
  (∀ s : State, s.tb.leapArmed = 1 → s.tb.leapAt ≤ s.tb.ztime →
    Completes .leapSecond s (fun t => t.fld (TB + 0x10) 15 0 = twos 16 (s.leap + 1) ∧ t.fld (TB + 0x10) 17 16 = 0 ∧ t.tb.leapArmed = 0)) ∧
  (∀ s : State, s.tb.leapArmed = 2 → s.tb.leapAt ≤ s.tb.ztime →
    Completes .leapSecond s (fun t => t.fld (TB + 0x10) 15 0 = twos 16 (s.leap - 1) ∧ t.fld (TB + 0x10) 17 16 = 0 ∧ t.tb.leapArmed = 0)) ∧
  (∀ (s : State) (n : Nat), s.tb.absorb = none → s.tb.stale = [] → (∀ e, e < 64 → s.schedEnabled e = false) →
    Completes (.scheduleTick n) s (fun t => t.tb.ztime = s.tb.ztime + 1000 * n ∧ t.tb.tick = s.tb.tick + n ∧ t.tb.started = s.tb.started))

/-- The schedule table completes (02: R46 to R54; 17: R448): what a write of an entry and each of the table's outcomes leave. -/
def Obligations.ScheduleCommands : Prop :=
  (∀ (s : State) (e : Nat), e < 64 → s.windowPassed e = true → e ∉ s.tb.deferred →
    Completes (.scheduleWindowMissed e) s (fun t => t = s.missDue e ∧ t.fld (schedOff e) 23 16 = satAdd (s.fld (schedOff e) 23 16) 1 255)) ∧
  (∀ (s : State) (e : Nat), e < 64 → e ∈ s.tb.deferred → s.schedEnabled e = true → s.schedDue e ≤ s.tb.ztime → s.paused (s.schedAction e) = false →
    s.windowPassed e = false → s.missesNow e = false → s.actionBusy (s.schedAction e) = false →
    Completes (.deferredActionResume e) s (fun t => t.schedRunning e = true ∧ t.tb.started = s.tb.started ++ [(e, s.schedAction e)] ∧ e ∉ t.tb.deferred)) ∧
  (∀ (s : State) (who : Requester) (e w : Nat) (v : Word), e < 64 → e ≠ 0 → (w = 1 ∨ w = 2) → s.regsUp = true → mayWrite who = true →
    (s.setReg (schedOff e + 4 * w) v).schedValid e = true → s.schedAction e ≠ 0x10 →
    Completes (.schedEntryWrite who e w v) s (fun t => t.reg (schedOff e + 4 * w) = v ∧ e ∈ t.tb.stale)) ∧
  (∀ (s : State) (who : Requester) (e w : Nat) (v : Word), e < 64 → e ≠ 0 → (w = 1 ∨ w = 2) → s.regsUp = true → mayWrite who = true →
    (s.setReg (schedOff e + 4 * w) v).schedValid e = false → exec (.schedEntryWrite who e w v) s = .next s) ∧
  (∀ (s : State) (who : Requester) (w : Nat) (v : Word), w < 8 → w ≠ 2 → s.regsUp = true → mayWrite who = true →
    exec (.schedEntryWrite who 0 w v) s = .next s) ∧
  (∀ (s t0 : State) (n : Nat), s.takeAction 0x01 = some (n, t0) →
    Completes .meterMinuteClose s (fun t => t = (t0.meterClose t0.utcMinute false).endEntry n ∧ t.schedRunning n = false)) ∧
  (∀ (s t0 : State) (n : Nat), s.takeAction 0x10 = some (n, t0) →
    Completes .timeSave s (fun t => t = t0.saveTime.endEntry n ∧ t.schedRunning n = false ∧ t.tb.lastSave = s.tb.ztime)) ∧
  (∀ (s : State), s.takeAction 0x10 = none → s.ownSaveDue = true → Completes .timeSave s (fun t => t = s.saveTime ∧ t.tb.lastSave = s.tb.ztime))

/-- Read responses complete (04: R114, R115, R118; 06: R185): a decoded slot, a climb of the ladder, a failed die, a command put back. -/
def Obligations.HubReadResponses : Prop :=
  (∀ (s : State) (c tag : Nat) (q : MCmd) (rs : Bool) (dev : Int) (slot b : List Byte) (m : Meas), s.Answers c tag [.read] q → lineDecode slot [] = some b →
    exec (.readResponse c tag .success rs dev slot m) s =
      .next (((s.taught c tag q rs dev).readDecoded c q
        (if q.step % 4 = 0 then (if rs then 1 else 0) else 2) (decide (b = slot)) b m).settle c)) ∧
  (∀ (s : State) (c tag : Nat) (q : MCmd) (rs : Bool) (dev : Int) (slot : List Byte) (m : Meas), s.Answers c tag [.read] q → lineDecode slot [] = none →
    exec (.readResponse c tag .success rs dev slot m) s =
      .next (((s.taught c tag q rs dev).nextStep c q dev m).settle c)) ∧
  (∀ (s : State) (c tag : Nat) (q : MCmd) (rs : Bool) (dev : Int) (slot : List Byte) (m : Meas), s.Answers c tag [.read] q →
    exec (.readResponse c tag .dieFailed rs dev slot m) s =
      .next ((((s.handBack c tag).dieStatus c (addrDie q.addr)).readMissed c q true m).settle c)) ∧
  (∀ (s : State) (c tag : Nat) (q : MCmd) (st : HubStatus) (rs : Bool) (dev : Int) (slot : List Byte) (m : Meas), s.Answers c tag [.read] q →
    (st = .planeSuspended ∨ st = .standby ∨ st = .addressError) →
    exec (.readResponse c tag st rs dev slot m) s = .next (((s.handBack c tag).nextStep c q 0 m).settle c)) ∧
  (∀ (s : State) (c tag : Nat) (q : MCmd) (rs : Bool) (dev : Int) (slot : List Byte) (m : Meas), s.Answers c tag [.read] q →
    (s.handBack c tag).flag (WP + 0x2C) 0 = false →
    exec (.readResponse c tag .aborted rs dev slot m) s = .next (((s.handBack c tag).submitHead c q).settle c)) ∧
  (∀ (s : State) (c tag : Nat) (q : MCmd) (slot b : List Byte) (er : List Nat) (m : Meas), s.Answers c tag [.readSoft] q →
    lineDecode slot (er.filter (fun n => n < 80)) = some b →
    exec (.readSoftResponse c tag .success slot er m) s = .next (((s.handBack c tag).readDecoded c q 3 false b m).settle c)) ∧
  (∀ (s : State) (c tag : Nat) (q : MCmd) (slot : List Byte) (er : List Nat) (m : Meas), s.Answers c tag [.readSoft] q →
    lineDecode slot (er.filter (fun n => n < 80)) = none →
    exec (.readSoftResponse c tag .success slot er m) s = .next (((s.handBack c tag).readMissed c q false m).settle c)) ∧
  (∀ (s : State) (c tag : Nat) (q : MCmd) (slot : List Byte) (er : List Nat) (m : Meas), s.Answers c tag [.readSoft] q →
    exec (.readSoftResponse c tag .dieFailed slot er m) s =
      .next ((((s.handBack c tag).dieStatus c (addrDie q.addr)).readMissed c q true m).settle c)) ∧
  (∀ (s : State) (c tag id item weak : Nat) (q : MCmd) (j : Job), s.Answers c tag [.marginRead] q → q.why = .job id item →
    (s.handBack c tag).job id = some j →
    exec (.marginReadResponse c tag .success weak) s = .next (((s.handBack c tag).marginSlot j item weak).settle c)) ∧
  (∀ (s : State) (c tag : Nat) (st : HubStatus) (rs : Bool) (dev : Int) (slot : List Byte) (er : List Nat) (m : Meas), c < 40 →
    ((s.chan c).byTag tag = none ∨ s.chanState c = 6) →
    exec (.readResponse c tag st rs dev slot m) s = .next s ∧ exec (.readSoftResponse c tag st slot er m) s = .next s)

/-- Program, copy, erase, plane control and stack control responses complete (03: R73, R88, R92, R516; 05: R140, R154). -/
def Obligations.HubControlResponses : Prop :=
  (∀ (s : State) (c tag : Nat) (q : MCmd) (st : HubStatus), s.Answers c tag [.program] q →
    exec (.programResponse c tag st) s = .next (((s.handBack c tag).programStatus c st q).settle c)) ∧
  (∀ (s : State) (c tag : Nat) (q : MCmd) (st : HubStatus), s.Answers c tag [.copy] q →
    exec (.copyResponse c tag st) s = .next (((s.handBack c tag).programStatus c st q).settle c)) ∧
  (∀ (s : State) (c tag p : Nat) (n : Nat) (q : MCmd), s.Answers c tag [.erase] q → q.why = .erase p n →
    exec (.eraseResponse c tag .success) s = .next (((s.handBack c tag).eraseDone p).settle c) ∧
    exec (.eraseResponse c tag .eraseFailed) s = .next ((((s.handBack c tag).count (2 + c / 8) 0x77 (c % 8) 1).eraseFail p 2).settle c) ∧
    exec (.eraseResponse c tag .dieFailed) s = .next ((((s.handBack c tag).dieStatus c (addrDie q.addr)).eraseFail p 3).settle c)) ∧
  (∀ (s : State) (c tag p n : Nat) (q : MCmd) (st : HubStatus), s.Answers c tag [.erase] q → q.why = .erase p n →
    (st = .aborted ∨ st = .planeSuspended ∨ st = .standby) → (s.handBack c tag).flag (WP + 0x2C) 0 = false →
    exec (.eraseResponse c tag st) s = .next (((s.handBack c tag).submitHead c q).settle c)) ∧
  (∀ (s : State) (c tag : Nat) (q : MCmd) (f : InFlight), s.Answers c tag [.suspend] q → ((s.handBack c tag).chan c).running (planeKey q.addr) = some f →
    f.cmd.op.suspendable = true →
    Completes (.suspendResponse c tag .success) s (fun t => ∃ u : State, t = u.settle c ∧ ((u.chan c).plane (planeKey q.addr)).suspended = some f.tag ∧
      ((u.chan c).plane (planeKey q.addr)).suspendedAt = some s.tb.tick ∧ (u.chan c).byTag tag = none)) ∧
  (∀ (s : State) (c tag : Nat) (q : MCmd), s.Answers c tag [.resume] q →
    exec (.resumeResponse c tag .success) s = .next ((s.handBack c tag).settle c)) ∧
  (∀ (s : State) (c tag : Nat) (q : MCmd) (v : Word), s.Answers c tag [.config] q → q.param = 0 →
    exec (.configResponse c tag .success v) s = .next (((s.handBack c tag).identify c v).settle c)) ∧
  (∀ (s : State) (c tag : Nat) (q : MCmd) (v : Word), s.Answers c tag [.config] q → q.param = 0x90 →
    Completes (.configResponse c tag .success v) s (fun t => ∃ u : State, t = u.settle c ∧ (u.chan c).standby = decide (q.dst = 1))) ∧
  (∀ (s : State) (c tag : Nat) (q : MCmd) (st : HubStatus) (w : Word), s.Answers c tag [.status] q → st ≠ .dieFailed →
    exec (.statusResponse c tag st w) s = .next (((s.handBack c tag).configDone c).settle c)) ∧
  (∀ (s : State) (c tag : Nat) (q : MCmd) (w : Word), s.Answers c tag [.status] q →
    exec (.statusResponse c tag .dieFailed w) s = .next ((((s.handBack c tag).dieStatus c (addrDie q.addr)).configDone c).settle c))

/-- Channel resets, bring-up and channel registers complete (03: R78, R82 to R92, R514, R515). -/
def Obligations.ChannelControlCommands : Prop :=
  (∀ (s : State) (c : Nat), c < 40 → s.chanState c = 4 →
    Completes (.tempPoll c) s (fun t => (t.chan c).queue = (s.chan c).queue ++ [MCmd.of .temp 0 0 6 .ctl] ∧ (t.chan c).flight = (s.chan c).flight)) ∧
  (∀ (s : State) (c d p t0 : Nat), c < 40 → d < 8 → p < 16 → ((s.chan c).plane (16 * d + p)).suspendedAt = some t0 →
    t0 + s.fld (MC + c * 0x1000 + 0x10) 15 8 ≤ s.tb.tick →
    Completes (.suspendHoldTimeout c d p) s (fun t => (t.chan c).queue.head? = some (MCmd.of .resume (mediaAddr d p 0 0) 0 6 .ctl) ∧
      (t.chan c).queue.length = (s.chan c).queue.length + 1 ∧ ∀ m ∈ (t.chan c).queue, m.op.reads = true → planeKey m.addr = 16 * d + p → m.waits = true)) ∧
  (∀ (s : State) (c : Nat), c < 40 → s.chanState c = 6 →
    Completes (.channelResetComplete c) s (fun t => t = (s.channelBack c).resetDone 7 (s.fld (MC + c * 0x1000 + 4) 23 16) ∧
      t.reg (GLB + 0x104) = BitVec.ofNat 32 (7 + s.fld (MC + c * 0x1000 + 4) 23 16 % 256 * 256))) ∧
  (∀ (s : State) (c : Nat), c < 40 → s.chanState c = 5 → s.thirdReset c = false →
    Completes (.retrainTimeout c) s (fun t => t.chanState c = 6 ∧ t.fld (MC + c * 0x1000 + 4) 23 16 = 2)) ∧
  (∀ (s : State) (c i e t0 : Nat), c < 40 → (s.chanState c = 4 ∨ s.chanState c = 5) → s.thirdReset c = false →
    (s.chan c).grant = some (i, e, t0) → t0 + s.fld (MC + c * 0x1000 + 0xC) 15 0 ≤ s.tb.tick →
    Completes (.arbiterWatchdog c) s (fun t => t.chanState c = 6 ∧ t.fld (MC + c * 0x1000 + 4) 23 16 = 1)) ∧
  (∀ (s : State) (c tag : Nat) (f : InFlight), c < 40 → (s.chanState c = 4 ∨ s.chanState c = 5) → s.thirdReset c = false →
    (s.chan c).byTag tag = some f → f.cmd.op.isData = true → f.issued + 10000 ≤ s.tb.tick →
    Completes (.dataTagTimeout c tag) s (fun t => t.chanState c = 6 ∧ t.fld (MC + c * 0x1000 + 4) 23 16 = 1)) ∧
  (∀ (s : State) (who : Requester) (c : Nat), c < 40 → s.regsUp = true → mayWrite who = true → (s.chanState c = 4 ∨ s.chanState c = 5) → s.thirdReset c = false →
    Completes (.mcCtlReset who c) s (fun t => t.chanState c = 6 ∧ t.fld (MC + c * 0x1000 + 4) 23 16 = 4)) ∧
  (∀ (s : State) (c : Nat), c < 40 → s.chanState c = 6 →
    Completes (.groupSidebandReset c) s (fun t => t = s.groupReset c)) ∧
  (∀ (s : State) (g c : Nat), g < 5 → s.groupPopulated g = true → 8 * g ≤ c → c < 8 * g + 8 → s.chanState c = 0 →
    Completes (.groupRailsGood g) s (fun t => t.chanState c = (if s.flag (MC + c * 0x1000) 30 then 8 else 1))) ∧
  (∀ (s : State) (g c : Nat), g < 5 → s.groupPopulated g = true → 8 * g ≤ c → c < 8 * g + 8 → s.chanState c = 1 →
    Completes (.lngRstRelease g) s (fun t => t.chanState c = 2 ∧ t.pins.lngRstN.getLsbD g = true)) ∧
  (∀ (s : State) (c : Nat), c < 40 → s.chanState c = 2 →
    Completes (.channelTrained c) s (fun t => t = (s.setChanState c 3).direct c (MCmd.of .config 0 0 6 .ctl))) ∧
  (∀ (s : State) (c : Nat), c < 40 → (s.chanState c = 1 ∨ s.chanState c = 2 ∨ s.chanState c = 3) →
    Completes (.bringUpTimeout c) s (fun t => t = s.failChannel c true))

/-- Writes of channel registers, the arbiter map and the alert line complete (03: R83, R84, R92, R515; 11: R319). -/
def Obligations.ChannelRegisterCommands : Prop :=
  (∀ (s : State) (g : Nat), g < 5 → exec (.lngAlertFall g) s =
    .next (((List.range 8).map (fun k => 8 * g + k)).foldl State.statusDies (s.event 0x1105 g none g 0))) ∧
  (∀ (s : State) (who : Requester) (c : Nat) (v : Bool), c < 40 → s.regsUp = true → mayWrite who = true →
    Completes (.mcCtlDisable who c v) s (fun t =>
      t.sd.queue = s.sd.queue ++ [.register who (MC + c * 0x1000) (putBits (s.reg (MC + c * 0x1000)) 30 30 (if v then 1 else 0))] ∧
      t.flag SD 29 = true ∧ t.reg (MC + c * 0x1000) = s.reg (MC + c * 0x1000))) ∧
  (∀ (s : State) (c : Nat), c < 40 → (s.chan c).disabling = true → (s.chan c).flight = [] → s.chanState c ≠ 7 → s.chanState c ≠ 8 →
    exec (.channelDisableTakesEffect c) s =
      .next ((((s.setChan c { s.chan c with disabling := false }).setChanState c 8).mediaLost).endAll c)) ∧
  (∀ (s : State) (who : Requester) (c : Nat) (v : Word), c < 40 → s.regsUp = true → mayWrite who = true → wholeOk (MC + c * 0x1000 + 8) v = true →
    Completes (.mcArbMapWrite who c v) s (fun t => t = s.setReg (MC + c * 0x1000 + 8) (plainWord (MC + c * 0x1000 + 8) (s.reg (MC + c * 0x1000 + 8)) v))) ∧
  (∀ (s : State) (who : Requester) (c : Nat) (v : Word), c < 40 → s.regsUp = true → mayWrite who = true → wholeOk (MC + c * 0x1000 + 8) v = false →
    Completes (.mcArbMapWrite who c v) s (fun t => t = s.event 0x1104 c none c v.toNat ∧ t.reg (MC + c * 0x1000 + 8) = s.reg (MC + c * 0x1000 + 8))) ∧
  (∀ (s : State) (c : Nat) (w : Word), c < 40 → s.mapHeld c = some w → s.reg (MC + c * 0x1000 + 8) ≠ w →
    Completes (.arbMapRevert c) s (fun t => t.reg (MC + c * 0x1000 + 8) = w ∧ t = (s.setReg (MC + c * 0x1000 + 8) w).event 0x9105 c none c 0))

/-- Read cache maintenance by address, Aftermath and Commons complete (09: R254, R256 to R262; 08: R244). A maintenance operation is stated for one
key (count_m1 0). -/
def Obligations.ReadCacheCommands : Prop :=
  (∀ (s : State) (e : EvLine) (rest : List EvLine), s.rk.evb = e :: rest → s.rk.maint = none → s.flag (RK + 4) 1 = true →
    Completes .evictionBufferWrite s (fun t => t.rk.evb = rest ∧
      t.aftLines (s.aftSet e.line.isNode e.line.num) =
        ((s.aftLines (s.aftSet e.line.isNode e.line.num) ++ [{ e.line with pinned := false }]).drop
          ((s.aftLines (s.aftSet e.line.isNode e.line.num)).length + 1 - 16)))) ∧
  (∀ (s : State) (e : EvLine) (rest : List EvLine), s.rk.evb = e :: rest → s.rk.maint = none → s.flag (RK + 4) 1 = false →
    Completes .evictionBufferWrite s (fun t => t.rk.evb = rest ∧ t.rk.aft = s.rk.aft)) ∧
  (∀ s : State, s.regsUp = true → s.flag (RK + 0x3C) 31 = false → s.rk.maint = none →
    Completes .maintNone s (fun t => t.fld (RK + 0x3C) 29 26 = 0 ∧ t.fld (RK + 0x3C) 16 0 = 0 ∧ t.flag (RK + 0x3C) 31 = false)) ∧
  (∀ s : State, s.regsUp = true → s.flag (RK + 0x3C) 31 = true → s.rk.maint = none →
    Completes .maintNone s (fun t => t.flag (RK + 0x3C) 30 = true ∧ t.rk = s.rk)) ∧
  (∀ s : State, s.regsUp = true → s.flag (RK + 0x3C) 31 = false → s.fld (RK + 0x38) 15 0 = 0 →
    s.reg64 (RK + 0x30) % 2 ^ 38 < s.keyLimit ((s.reg64 (RK + 0x30)).testBit 38) →
    Completes .maintProbe s (fun t => t.fld (RK + 0x3C) 29 26 = 0 ∧ t.fld (RK + 0x3C) 16 0 = 1 ∧ t.flag (RK + 0x3C) 31 = false ∧ t.rk.maint = none)) ∧
  (∀ s : State, s.regsUp = true → s.flag (RK + 0x3C) 31 = false → s.fld (RK + 0x38) 15 0 = 0 →
    s.reg64 (RK + 0x30) % 2 ^ 38 < s.keyLimit ((s.reg64 (RK + 0x30)).testBit 38) → s.filling ((s.reg64 (RK + 0x30)).testBit 38) (s.reg64 (RK + 0x30) % 2 ^ 38) = false →
    Completes .maintInvalidate s (fun t => t.fld (RK + 0x3C) 29 26 = 0 ∧ t.fld (RK + 0x3C) 16 0 = 1 ∧ t.flag (RK + 0x3C) 31 = false ∧
      t.rk.evb = s.rk.evb.filter (fun e => !e.line.named ((s.reg64 (RK + 0x30)).testBit 38) (s.reg64 (RK + 0x30) % 2 ^ 38)))) ∧
  (∀ (s : State) (w : Nat), s.regsUp = true → s.flag (RK + 0x3C) 31 = false → s.fld (RK + 0x38) 15 0 = 0 →
    s.reg64 (RK + 0x30) % 2 ^ 38 < s.keyLimit ((s.reg64 (RK + 0x30)).testBit 38) → s.filling ((s.reg64 (RK + 0x30)).testBit 38) (s.reg64 (RK + 0x30) % 2 ^ 38) = false →
    s.cacheWay ((s.reg64 (RK + 0x30)).testBit 38) (s.reg64 (RK + 0x30) % 2 ^ 38) = some w →
    s.pinFull ((s.reg64 (RK + 0x30)).testBit 38) (s.reg64 (RK + 0x30) % 2 ^ 38) = false →
    Completes .maintPin s (fun t => t.fld (RK + 0x3C) 29 26 = 0 ∧ t.fld (RK + 0x3C) 16 0 = 1 ∧ t.flag (RK + 0x3C) 31 = false ∧ t.rk.maint = none)) ∧
  (∀ s : State, s.regsUp = true → s.flag (RK + 0x3C) 31 = false → s.fld (RK + 0x38) 15 0 = 0 →
    s.reg64 (RK + 0x30) % 2 ^ 38 < s.keyLimit ((s.reg64 (RK + 0x30)).testBit 38) →
    Completes .maintUnpin s (fun t => t.fld (RK + 0x3C) 29 26 = 0 ∧ t.fld (RK + 0x3C) 16 0 = 1 ∧ t.flag (RK + 0x3C) 31 = false ∧ t.rk.maint = none)) ∧
  (∀ (s : State) (c : Instr), c ∈ [Instr.maintProbe, .maintInvalidate, .maintPin, .maintUnpin] → s.regsUp = true → s.flag (RK + 0x3C) 31 = false →
    s.keyLimit ((s.reg64 (RK + 0x30)).testBit 38) ≤ s.reg64 (RK + 0x30) % 2 ^ 38 →
    Completes c s (fun t => t.fld (RK + 0x3C) 29 26 = 4 ∧ t.fld (RK + 0x3C) 16 0 = 0 ∧ t.flag (RK + 0x3C) 31 = false ∧ t.rk.maint = none)) ∧
  (∀ (s : State) (who : Requester) (v : Word), s.regsUp = true → mayWrite who = true →
    Completes (.rpGuardSelWrite who v) s (fun t => t.qs.guardLatch.length = 8 ∧ t.qs.guardLatch.headD 0 = BitVec.ofNat 32 (s.cnt (bits v 11 0)).reads ∧
      t.reg (RP + 0xC) = plainWord (RP + 0xC) (s.reg (RP + 0xC)) v))

/-- Commons completes (09: R261, R262): an allowed write stores its bytes and makes them good again; a disallowed access changes nothing of it. -/
def Obligations.CommonsCommands : Prop :=
  (∀ (s : State) (who : Requester) (off : Nat) (bs : List Byte), (∀ i, i < bs.length → s.commonsAllowed who (off + i) true = true) →
    Completes (.commonsWrite who off bs) s (fun t =>
      (∀ a, Memory.read t.rk.commons a = (if off ≤ a ∧ a < off + bs.length then bs.getD (a - off) 0 else Memory.read s.rk.commons a)) ∧
      (∀ a ∈ t.rk.badBytes, a < off ∨ off + bs.length ≤ a) ∧ t.regs = s.regs)) ∧
  (∀ (s : State) (who : Requester) (off : Nat) (bs : List Byte) (i : Nat), i < bs.length → s.commonsAllowed who (off + i) true = false →
    Completes (.commonsWrite who off bs) s (fun t => t.rk = s.rk ∧ t.regs = s.regs)) ∧
  (∀ (s : State) (who : Requester) (off : Nat), s.commonsAllowed who off false = false →
    Completes (.commonsDisallowedAccess who off false) s (fun t => t.out.head? = some (.readData who 0xFFFFFFFF) ∧ t.rk = s.rk ∧ t.regs = s.regs)) ∧
  (∀ (s : State) (off : Nat), s.commonsAllowed .owner off true = false →
    Completes (.commonsDisallowedAccess .owner off true) s (fun t => t.out = .advisoryNonFatal s.host.ownerPort :: s.out ∧ t.rk = s.rk))

/-- Migrations, erases of plots, checkpoints and wear levelling complete (05: R137 to R153). -/
def Obligations.PlotCommands : Prop :=
  (∀ (s : State) (kind i p : Nat) (node : Bool) (u : State), (kind, node, i) ∈ s.tp.migQueue → s.stillness = 0 → s.migrationOf node i = none →
    s.migsActive < s.fld (TP + 0x28) 8 0 → s.mayAllocate (decide (kind = 4)) false = true →
    s.takeSpare (decide (kind = 1) && decide ((s.plotRec (s.entry node i).phys).cycles + 1 ≤ s.fld (TP + 0x48) 20 0)) = some (p, u) →
    Completes (.migrationStart kind i node) s (fun t => t = u.beginMigration kind node i p ∧ t.tp.nextSeq = u.tp.nextSeq + 1 ∧
      ∃ r ∈ t.tp.unverified, r.type = 0x01 ∧ r.seq = u.tp.nextSeq ∧ r.entry = i ∧ r.node = node ∧ r.kind = kind ∧ r.plotA = (u.entry node i).phys ∧ r.plotB = p)) ∧
  (∀ (s : State) (kind i : Nat) (node : Bool), (kind, node, i) ∈ s.tp.migQueue → s.stillness = 0 → s.migrationOf node i = none →
    s.migsActive < s.fld (TP + 0x28) 8 0 → s.mayAllocate (decide (kind = 4)) false = false →
    exec (.migrationStart kind i node) s = .next (s.migrationRefused kind node i)) ∧
  (∀ (s : State) (i : Nat) (node : Bool) (m : Migration), s.migrationOf node i = some m → m.step = 3 → m.dual = 0 → m.kind ≠ 4 →
    Completes (.migrationMapSwitch i node) s (fun t => t.tp.nextSeq = s.tp.nextSeq + 1 ∧ ∃ r ∈ t.tp.unverified, r.type = 0x02 ∧ r.seq = s.tp.nextSeq ∧
      r.entry = i ∧ r.node = node ∧ r.kind = (if m.retire then 2 else m.kind) ∧ r.plotA = m.src ∧ r.plotB = m.tgt ∧ r.value = (if m.kind = 5 then s.hour else m.hour))) ∧
  (∀ (s : State) (plot : Nat) (m : Migration), s.tp.migs.find? (fun m => m.src = plot ∧ m.step = 5 ∧ ¬ m.retire ∧ m.kind ≠ 4) = some m → s.plotReads plot = false →
    s.plotWrites plot = false → Tbl.find s.tp.erasing plot = none →
    exec (.migrationSourceErase plot) s = .next (s.erasePlot plot (m.charge s))) ∧
  (∀ (s : State) (plot : Nat), (s.plotRec plot).state = 1 → Tbl.find s.tp.erasing plot = none → s.ready < s.fld (TP + 0x14) 15 0 → s.plotWrites plot = false →
    s.tp.migs.any (fun m => decide (m.src = plot ∧ m.step = 5)) = false → s.plotOut plot = false →
    Completes (.spareErase plot) s (fun t => t = s.erasePlot plot (if s.ready = 0 ∧ s.tp.migQueue ≠ [] then 1 else 0) ∧ Tbl.find t.tp.erasing plot = some 17)) ∧
  (∀ (s : State) (plot : Nat), (s.plotRec plot).state = 1 → Tbl.find s.tp.erasing plot = none → s.ready < s.fld (TP + 0x14) 15 0 → s.plotWrites plot = false →
    s.tp.migs.any (fun m => decide (m.src = plot ∧ m.step = 5)) = false → s.plotOut plot = true →
    exec (.spareErase plot) s = .next (s.retirePlot plot 3)) ∧
  (∀ (s t0 : State) (n : Nat), s.Takes 0x05 n t0 → t0.tp.ckptRun = none → t0.usable ≠ 0 → t0.wb.recovered = true →
    Completes .mapCheckpoint s (fun t => t = t0.startCheckpoint ∧ ∃ r, t.tp.ckptRun = some r ∧ r.start = s.tb.ztime)) ∧
  (∀ s : State, (ringSlots < 2 * s.journalUse ∨ s.ringStuck = true) → exec .checkpointJournalTrigger s = .next s.startCheckpoint) ∧
  (∀ (s : State) (crc : DWord) (r : CkptRun) (c : Ckpt), s.tp.ckptRun = some r → r.copy = some c → s.ckptVerified c = true → s.log.dir < s.log.dirRoom →
    Completes (.checkpointComplete crc) s (fun t => t = s.closeCheckpoint { c with done := s.tb.ztime, crc := crc } ∧ t.tp.ckptRun = none)) ∧
  (∀ (s t0 : State) (n : Nat), s.Takes 0x0A n t0 →
    Completes .wearLevellingEvaluation s (fun t => t = t0.levelWear.endEntry n ∧ t.schedRunning n = false ∧ t.tp.wearNotIdle = [] ∧ t.tp.sampledSince = 0)) ∧
  (∀ (s u : State) (r : JRec) (rest : List JRec), s.tp.unverified = r :: rest → s.recordDone r = true →
    u = { s with tp := { s.tp with unverified := rest, verified := r :: s.tp.verified } } → exec .mapJournalVerified s = .next (u.recordVerified r)) ∧
  (∀ (s : State) (r : JRec) (rest : List JRec), s.tp.unverified = r :: rest → s.recordDone r = false → exec .mapJournalVerified s = .next s)

/-- Drift, refresh, margin reads, scrub and the rewrite queue complete (06: R165 to R190). -/
def Obligations.DriftCommands : Prop :=
  (∀ (s t0 : State) (n : Nat), s.Takes 0x02 n t0 → Completes .effectiveAgeUpdate s (fun t => t = t0.ageUpdate.endEntry n ∧ t.schedRunning n = false)) ∧
  (∀ s : State, s.tb.hourDue = true → (∀ p ∈ s.tb.started, p.2 ≠ 2) → s.stillness < 3 → s.wb.recovered = true →
    Completes .hourBoundary s (fun t => t.df.old = s.df.cur ∧ t.df.cur = [] ∧ t.df.queue = s.df.queue ∧ t.tb.hourDue = false)) ∧
  (∀ s : State, s.ageUncertain = true → 86400000000 ≤ s.tb.tick → s.tb.tick % 86400000000 = 0 →
    exec .ageUncertainAlert s = .next (s.event 0x4103 0 none (s.tb.tick / 3600000000) 0)) ∧
  (∀ (s t0 : State) (n : Nat), s.Takes 0x09 n t0 → Completes .refreshScan s (fun t => t = t0.refreshScan.endEntry n ∧ t.schedRunning n = false)) ∧
  (∀ (s : State) (plot : Nat) (q : Nat × Nat), s.df.queue.find? (fun q => q.1 = plot) = some q → (s.stillness = 0 ∨ s.stillness = 1 ∧ 2 ≤ q.2) →
    exec (.inPlaceRefresh plot) s = .next (s.beginRefresh plot q.2)) ∧
  (∀ (s : State) (plot : Nat) (r : Nat × Nat × Nat), s.df.refreshing.find? (fun r => r.1 = plot) = some r →
    s.codes.jobs.any (fun j => decide (j.kind = JobKind.refreshPage) && decide (j.plot = plot)) = false → s.migrating plot = false →
    Tbl.find s.df.refreshOn plot = none → s.refreshAsked plot = false →
    exec (.inPlaceRefreshComplete plot) s = .next (s.endRefresh plot r)) ∧
  (∀ (s : State) (p page sl : Nat) (rest : List (Nat × Nat × Nat)), s.df.rewrite = (p, page, sl) :: rest → s.stillness = 0 →
    exec .rewriteQueueService s = .next (State.rewriteSlot { s with df := { s.df with rewrite := rest } } p page sl)) ∧
  (∀ (s t0 : State) (n : Nat), s.Takes 0x08 n t0 → t0.df.margin = none →
    exec .marginReadSweep s = .next (State.marginOn (t0.marginPlots.length + 1) { t0 with df := { t0.df with margin := some t0.marginPlots } })) ∧
  (∀ (s t0 : State) (n : Nat), s.Takes 0x07 n t0 → t0.df.scrub = none → Completes .scrubPassStart s (fun t => t.df.scrub = some (0, 0) ∧ t.regs = s.regs)) ∧
  (∀ (s : State) (i page : Nat), s.df.scrub = some (i, page) → s.stillness = 0 → s.codes.jobs.any (fun j => decide (j.kind = JobKind.scrubPage)) = false →
    exec .scrubPace s = .next (s.scrubPage i page))

/-- Parity write-back, page rebuilds, leaves, regrafts and key rotation complete (04: R108 to R112; 07: R202; 10: R283 to R294). -/
def Obligations.ParityTreeCommands : Prop :=
  (∀ (s t0 : State) (n : Nat), s.Takes 0x0B n t0 → Completes .parityWriteBackSweep s (fun t => t.schedRunning n = false ∧
    t = ((t0.codes.deltas.filter (fun (x : Nat × Delta) => decide (t0.fld (CD + 4) 15 0 * 500000 < t0.tb.ztime - x.2.first))).foldl
      (fun u (x : Nat × Delta) => u.startWriteback (x.1 / 256) (x.1 % 256)) t0).endEntry n)) ∧
  (∀ (s : State) (p page : Nat) (d : Delta), s.delta p page = some d → (s.fld (CD + 4) 15 0 * 800000 ≤ s.tb.ztime - d.first ∨ s.entering = true) →
    exec (.parityEntryAgeTrigger p page) s = .next (s.startWriteback p page)) ∧
  (∀ (s : State) (p page : Nat) (d : Delta), s.delta p page = some d → s.fld (CD + 4) 15 0 * 1000000 ≤ s.tb.ztime - d.first →
    Completes (.parityOverrun p page) s (fun t => t.fld (CD + 0x3C) 31 0 = satAdd (s.fld (CD + 0x3C) 31 0) 1 (2 ^ 32 - 1) ∧ t.codes = s.codes)) ∧
  (∀ (s : State) (p page : Nat) (d : Delta), s.delta p page = some d → s.parityOver p page = true → d.count = 0 →
    exec (.parityWritebackComplete p page) s = .next (((s.delDelta p page).countGlobal 0xC5 1).goOn)) ∧
  (∀ (s : State) (p page : Nat) (d : Delta), s.delta p page = some d → s.parityOver p page = true → d.count ≠ 0 →
    exec (.parityWritebackComplete p page) s = .next (((s.setDelta p page { d with engine := none, parity := [] }).countGlobal 0xC5 1).goOn)) ∧
  (∀ (s : State) (p page : Nat), p * 256 + page ∈ s.codes.marked → s.applyBusy p page = false →
    exec (.pageRebuildStart p page) s = .next (s.beginRebuild p page)) ∧
  (∀ (s : State) (p page : Nat) (j : Job),
    s.codes.jobs.find? (fun j => decide (j.kind = JobKind.rebuild) && decide (j.plot = p) && decide (j.page = page)) = some j →
    p * 256 + page ∈ s.codes.rebuilding → j.phase = 2 → j.progs = 0 →
    Completes (.pageRebuildComplete p page) s (fun t => t.codes.rebuilding = s.codes.rebuilding.erase (p * 256 + page) ∧
      t.fld (CD + 0x38) 31 0 = satAdd (s.fld (CD + 0x38) 31 0) 1 (2 ^ 32 - 1))) ∧
  (∀ (s : State) (level index : Nat) (r : Regraft), s.regraftTry.regraftOf level index = some r → r.level = level → r.index = index → r.stage = 2 →
    s.regraftTry.regraftJob level index = false → (level = 0 → Tbl.find s.regraftTry.wb.leaves index = none) →
    exec (.regraftComplete level index) s = .next (s.regraftTry.endRegraft r)) ∧
  (∀ (s : State) (n : Nat), (s.leafWanted n = true ∨ s.entering = true) → exec (.dirtyLeafWriteBack n) s = .next (s.leafWriteBack n false)) ∧
  (∀ (s : State) (n : Nat) (l : Leaf), Tbl.find s.wb.leaves n = some l → s.fld (WP + 0x10) 15 0 * 1000000 ≤ s.tb.ztime - l.first →
    exec (.leafAgeExpire n) s = .next (s.leafWriteBack n false)) ∧
  (∀ (s : State) (n : Nat) (l : Leaf), Tbl.find s.wb.leaves n = some l → l.writing = true → l.progs = 0 → l.changedAt = none →
    exec (.leafWriteBackComplete n) s =
      .next (State.goOn { s.setNode 0 n l.node with wb := { s.wb with leaves := Tbl.del s.wb.leaves n } })) ∧
  (∀ (s t0 : State) (n : Nat), s.Takes 0x0C n t0 → Completes .keyRotationStep s (fun t => t = t0.rotateStep.endEntry n ∧ t.schedRunning n = false)) ∧
  (∀ (s : State) (r : Rotation), s.gx.rotation = some r → s.actionCarried 0x0C = false → s.larkUp = true → r.stepAt + 100000000 ≤ s.tb.ztime →
    exec .rotationTimer s = .next (State.rotateStep { s with gx := { s.gx with rotation := some { r with stepAt := s.tb.ztime } } })) ∧
  (∀ (s : State) (n : Nat), s.gx.sweep = some n → exec (.uncleanSweepStep .none) s = .next (s.sweepStep n))

/-- Frames, applies, plot redirects and the anchor journal complete (05: R148; 07: R198, R199, R215 to R217). -/
def Obligations.WriteBufferCommands : Prop :=
  (∀ s : State, Completes .frameScan s (fun t => t = s.frameScan.discardPump ∧
    s.frameScan.wb.order = s.wb.order + countIf (fun x : Nat × Frame => decide (x.2.state = .holding) &&
      decide (ceilDiv (s.fld WP 15 0) 64 ≤ (s.stampNow + 128 - x.2.stamp % 128) % 128)) s.wb.frames)) ∧
  (∀ (s u : State) (set way : Nat) (f0 f : Frame), set < 65536 → way < 8 → s.frame set way = some f0 → u = s.readFrame set way (lineOf s.wb.salt set f0.tag) →
    u.frame set way = some f → u.mayApply set way f = true → exec (.apply set way .none .none) s = .next (u.applyFrame set way f (lineOf s.wb.salt set f0.tag))) ∧
  (∀ (s u : State) (set way : Nat) (f0 f : Frame), set < 65536 → way < 8 → s.frame set way = some f0 → u = s.readFrame set way (lineOf s.wb.salt set f0.tag) →
    u.frame set way = some f → u.mayApply set way f = false → exec (.apply set way .none .none) s = .next u) ∧
  (∀ (s : State) (plot : Nat), exec (.plotRedirect plot) s = .next (match s.mayRedirect plot, s.takeSpare false with
    | true, some (tgt, u) => u.redirect plot tgt | _, _ => s)) ∧
  (∀ (s t0 : State) (n : Nat), s.Takes 0x03 n t0 → t0.wb.anchorRun = none → t0.wb.recovered = true →
    exec .anchorJournalCheckpoint s = .next t0.startAnchorCheckpoint) ∧
  (∀ (s t0 : State) (n : Nat), s.Takes 0x03 n t0 → (t0.wb.anchorRun.isSome = true ∨ t0.wb.recovered = false) →
    Completes .anchorJournalCheckpoint s (fun t => t = t0.endEntry n ∧ t.schedRunning n = false)) ∧
  (∀ s : State, 32768 ≤ s.wb.anchorSince → exec .anchorCountCheckpoint s = .next s.startAnchorCheckpoint) ∧
  (∀ (s : State) (x z : Nat), s.wb.anchorRun = some (x, z) → s.wb.anchorFrames = [] → s.anchorClosing = false → s.wb.anchors.any (s.anchorPending x z) = false →
    Completes .anchorCheckpointComplete s (fun t => t = s.closeAnchors x ∧ ∃ a ∈ t.wb.anchors, a.type = 3 ∧ a.verified = false)) ∧
  (∀ (s : State) (q : Nat) (a : AnchorRec), s.wb.anchors.find? (fun a => a.seq = q ∧ ¬ a.verified) = some a → s.anchorDone a = true →
    exec (.anchorRecordVerified q) s = .next (s.anchorLive a)) ∧
  (∀ (s : State) (q : Nat) (a : AnchorRec), s.wb.anchors.find? (fun a => a.seq = q ∧ ¬ a.verified) = some a → s.anchorDone a = false →
    exec (.anchorRecordVerified q) s = .next s) ∧
  (∀ (s : State) (set : Nat), set < 65536 → s.admitting = true → exec (.writeSetWaitResume set) s =
    .next ((s.retryWrites (fun r => decide (r.st = .limitWait) || decide (lineSet s.wb.salt r.line = set))).streamPump)) ∧
  (∀ (s u : State) (d : Nat) (m : Meas) (r : Req) (b : Bucket), d < 4096 → s.admitting = true → u = s.retryWrites (fun r => decide (r.dom = d)) →
    u.admitting = true → u.host.reqs.find? (fun r => decide (r.dom = d) && decide (r.st = .arrived ∨ r.st = .held)) = some r → u.mirrorRole d ≠ .unconfirmed →
    (r.write = true ∨ u.readWaits r = false) → u.admitTest d (u.requestCost r) = some b →
    exec (.admitRequest d .none m) s = .next (if r.write then ((u.setBucket d b).charged d (u.requestCost r)).admitWrite r
      else ((u.setBucket d b).charged d (u.requestCost r)).admitRead r (perrCause .none) m)) ∧
  (∀ (s u : State) (d : Nat) (e : Perr) (m : Meas) (r : Req), d < 4096 → s.admitting = true → u = s.retryWrites (fun r => decide (r.dom = d)) →
    u.admitting = true → u.host.reqs.find? (fun r => decide (r.dom = d) && decide (r.st = .arrived ∨ r.st = .held)) = some r → u.mirrorRole d ≠ .unconfirmed →
    (r.write = true ∨ u.readWaits r = false) → u.admitTest d (u.requestCost r) = none →
    Completes (.admitRequest d e m) s (fun t => ∀ x ∈ t.host.reqs, x.dom = d → x.st ≠ .arrived))

/-- CXL.mem requests that arrive complete (12: R323; 01: R15, R20, R25; 04: R101; 11: R301): held by the port with their domain, line and class, ended at once
on a link that is down, or answered Cmp; one that comes in A2 wakes the part. -/
def Obligations.MemRequests : Prop :=
  (∀ (s : State) (p l ld tag dpa d : Nat), p < 2 → l < 4 → ld < 32 → s.linkUp p l = true → s.portHolds p < 4095 → s.power ≠ 2 →
    s.wb.recovered = true → s.resolveDom ld dpa = some d → s.mirrorRole d ≠ .unconfirmed →
    Completes (.memRd p l ld tag dpa) s (fun t => t.host.nextReq = s.host.nextReq + 1 ∧ ∃ r : Req, t.host.reqs = s.host.reqs ++ [r] ∧ r.id = s.host.nextReq ∧
      r.port = p ∧ r.link = l ∧ r.ld = ld ∧ r.tag = tag ∧ r.dpa = dpa ∧ r.write = false ∧ r.dom = d ∧ r.cls = s.domClass d ∧ r.st = .arrived)) ∧
  (∀ (s : State) (p l ld tag dpa d : Nat), p < 2 → l < 4 → ld < 32 → s.linkUp p l = true → s.portHolds p < 4095 → s.power ≠ 2 →
    s.wb.recovered = true → s.resolveDom ld dpa = some d → s.mirrorRole d ≠ .unconfirmed →
    Completes (.memRdData p l ld tag dpa) s (fun t => t.host.nextReq = s.host.nextReq + 1 ∧ ∃ r : Req, t.host.reqs = s.host.reqs ++ [r] ∧ r.id = s.host.nextReq ∧
      r.port = p ∧ r.link = l ∧ r.ld = ld ∧ r.tag = tag ∧ r.dpa = dpa ∧ r.write = false ∧ r.dom = d ∧ r.cls = s.domClass d ∧ r.st = .arrived)) ∧
  (∀ (s : State) (p l ld tag dpa d : Nat) (data : List Byte) (poison : Bool), p < 2 → l < 4 → ld < 32 → s.linkUp p l = true → s.portHolds p < 4095 → s.power ≠ 2 →
    s.wb.recovered = true → s.resolveDom ld dpa = some d → s.mirrorRole d ≠ .unconfirmed → s.flushing = false →
    Completes (.memWr p l ld tag dpa data poison) s (fun t => ∃ r : Req, t.host.reqs = s.host.reqs ++ [r] ∧ r.id = s.host.nextReq ∧ r.port = p ∧ r.link = l ∧
      r.ld = ld ∧ r.tag = tag ∧ r.dpa = dpa ∧ r.write = true ∧ r.data = data ∧ r.mask = fullMask ∧ r.poison = poison ∧ r.dom = d ∧ r.st = .arrived)) ∧
  (∀ (s : State) (p l ld tag dpa d : Nat) (data : List Byte) (mask : BitVec 64) (poison : Bool), p < 2 → l < 4 → ld < 32 → s.linkUp p l = true → s.portHolds p < 4095 → s.power ≠ 2 →
    s.wb.recovered = true → s.resolveDom ld dpa = some d → s.mirrorRole d ≠ .unconfirmed → s.flushing = false →
    Completes (.memWrPtl p l ld tag dpa data mask poison) s (fun t => ∃ r : Req, t.host.reqs = s.host.reqs ++ [r] ∧ r.id = s.host.nextReq ∧ r.port = p ∧
      r.link = l ∧ r.ld = ld ∧ r.tag = tag ∧ r.dpa = dpa ∧ r.write = true ∧ r.data = data ∧ r.mask = mask ∧ r.poison = poison ∧ r.dom = d ∧ r.st = .arrived)) ∧
  (∀ (s : State) (p l ld tag dpa : Nat) (data : List Byte) (mask : BitVec 64) (poison : Bool), p < 2 → l < 4 → ld < 32 → s.linkUp p l = false →
    exec (.memRd p l ld tag dpa) s = .next s ∧ exec (.memRdData p l ld tag dpa) s = .next s ∧ exec (.memWr p l ld tag dpa data poison) s = .next s ∧
    exec (.memWrPtl p l ld tag dpa data mask poison) s = .next s ∧ exec (.memInv p l ld tag dpa) s = .next s ∧ exec (.memInvNt p l ld tag dpa) s = .next s ∧
    exec (.memSpecRd p l ld tag dpa) s = .next s ∧ exec (.memUnexpectedOpcode p l tag dpa) s = .next s) ∧
  (∀ (s : State) (p l ld tag dpa : Nat), p < 2 → l < 4 → ld < 32 → s.linkUp p l = true → s.power ≠ 2 →
    Completes (.memInv p l ld tag dpa) s (fun t => t = (s.emit (.memCmp p tag (s.devload none false))).count p (0x20 + s.devload none false) 8 1 ∧
      t.host.reqs = s.host.reqs ∧ t.wb = s.wb)) ∧
  (∀ (s : State) (p l ld tag dpa : Nat), p < 2 → l < 4 → ld < 32 → s.linkUp p l = true → s.power ≠ 2 →
    Completes (.memInvNt p l ld tag dpa) s (fun t => t = (s.emit (.memCmp p tag (s.devload none false))).count p (0x20 + s.devload none false) 8 1 ∧
      t.host.reqs = s.host.reqs ∧ t.wb = s.wb)) ∧
  (∀ (s : State) (p l ld tag dpa : Nat), p < 2 → l < 4 → ld < 32 → s.linkUp p l = true →
    exec (.memSpecRd p l ld tag dpa) s = .next (if s.power = 2 then s.wake 3 else s)) ∧
  (∀ (s : State) (p l tag op : Nat), p < 2 → l < 4 → s.linkUp p l = true → s.power ≠ 2 →
    exec (.memUnexpectedOpcode p l tag op) s = .next (s.emit (.linkProtocolError p l op)))

/-- Host links and their resets, PERST, and LD resets complete (12: R324 to R330; 18: R461, R464, R465). -/
def Obligations.HostLinkCommands : Prop :=
  (∀ (s : State) (p l w r : Nat) (f : Bool), p < 2 → l < 4 → w < 17 → r < 6 → l < s.portLinks p → s.perstLow p = false → s.power ≤ 2 →
    Completes (.hostLinkUp p l w r f) s (fun t => t.linkUp p l = true ∧ t.fld (linkOff p l) 20 16 = w ∧ t.fld (linkOff p l) 10 8 = r ∧ t.flag (linkOff p l) 4 = f ∧
      t.flag (linkOff p l) 3 = false)) ∧
  (∀ (s : State) (p l w r : Nat) (f : Bool), p < 2 → l < 4 → w < 17 → r < 6 → (s.portLinks p ≤ l ∨ s.perstLow p = true ∨ 2 < s.power) →
    exec (.hostLinkUp p l w r f) s = .next s) ∧
  (∀ (s : State) (p l : Nat), p < 2 → l < 4 → s.linkUp p l = true →
    Completes (.hostLinkDown p l) s (fun t => t = ((s.setReg (linkOff p l) 0).dropLink p l).event 0xA102 p none (p + 2 * l) 0 ∧ t.linkUp p l = false)) ∧
  (∀ (s : State) (p l : Nat), p < 2 → l < 4 → s.linkUp p l = true →
    Completes (.hotReset p l) s (fun t => t = s.portReset p (some l) ∧ t.reg (GLB + 0x104) = BitVec.ofNat 32 (4 + (p + 2 * l) * 256)) ∧
    Completes (.linkDisableReceived p l) s (fun t => t = s.portReset p (some l) ∧ t.reg (GLB + 0x104) = BitVec.ofNat 32 (4 + (p + 2 * l) * 256))) ∧
  (∀ (s : State) (p : Nat), p < 2 → s.flag (PW + 4) 24 = false → Completes (.perstAssert p) s (fun t => t.perstLow p = true ∧ t.regs = s.regs)) ∧
  (∀ (s : State) (p : Nat), p < 2 → s.perstLow p = true → s.power ≠ 4 → 100 ≤ s.tb.tick - (if p = 0 then s.pins.perstAt0 else s.pins.perstAt1) →
    s.warmPerst p = true → s.warmPerstHeld p = true → exec (.perstLow100us p) s = .next (s.warmReset 1)) ∧
  (∀ (s : State) (p : Nat), p < 2 → s.perstLow p = true → s.power ≠ 4 → 100 ≤ s.tb.tick - (if p = 0 then s.pins.perstAt0 else s.pins.perstAt1) →
    (s.warmPerst p && s.warmPerstHeld p) = false →
    Completes (.perstLow100us p) s (fun t => t = s.portReset p none ∧ t.reg (GLB + 0x104) = BitVec.ofNat 32 (4 + (p + 8) * 256))) ∧
  (∀ (s : State) (p : Nat), p < 2 → Completes (.perstRelease p) s (fun t => t.perstLow p = false ∧ t.perstLow (1 - p) = s.perstLow (1 - p) ∧ t.regs = s.regs)) ∧
  (∀ (s : State) (i : Nat), i < 32 → s.ldThere i = true →
    Completes (.functionLevelReset i) s (fun t => t = s.ldReset i 1 ∧ t.reg (GLB + 0x104) = BitVec.ofNat 32 (5 + i * 256)) ∧
    Completes (.cxlReset i) s (fun t => t = s.ldReset i 2 ∧ t.reg (GLB + 0x104) = BitVec.ofNat 32 (5 + i * 256)) ∧
    Completes (.fmApiLdReset i) s (fun t => t = s.ldReset i 3 ∧ t.reg (GLB + 0x104) = BitVec.ofNat 32 (5 + i * 256)))

/-- SPDM and IDE complete (10: R297, R298): every request, in the state that SPDM 1.2 asks for, is answered with the response of its own and leaves the
connection where that puts it; out of order it is answered with the ERROR response and changes nothing (PRESUMED: the spec names the standard, and
its codes and order are the log's entry on named standards). -/
def Obligations.SpdmCommands : Prop :=
  (∀ (s : State) (c : Nat), c < 3 → exec (.spdmGetVersion c) s = .next ((s.setSpdm c { phase := 1, session := 0 }).emit (.spdm c 0x04 [0x12]))) ∧
  (∀ (s : State) (c : Nat), c < 3 → (s.spdm c).phase = 1 →
    exec (.spdmGetCapabilities c) s = .next ((s.setSpdm c { s.spdm c with phase := 2 }).emit (.spdm c 0x61 (Config.attestationBytes 16)))) ∧
  (∀ (s : State) (c : Nat), c < 3 → (s.spdm c).phase = 2 →
    exec (.spdmNegotiateAlgorithms c) s = .next ((s.setSpdm c { s.spdm c with phase := 3 }).emit (.spdm c 0x63 [0x80, 0x02, 0x10, 0x02]))) ∧
  (∀ (s : State) (c : Nat), c < 3 → s.spdmReady c = true →
    Completes (.spdmGetDigests c) s (fun t => t.host = s.host ∧ ∃ b, t.out = .spdm c 0x01 b :: s.out)) ∧
  (∀ (s : State) (c : Nat), c < 3 → s.spdmReady c = true →
    Completes (.spdmGetCsr c) s (fun t => t.host = s.host ∧ ∃ b, t.out = .spdm c 0x6D b :: s.out)) ∧
  (∀ (s : State) (c k : Nat), c < 3 → s.spdmReady c = true → s.hasChain k = true →
    exec (.spdmGetCertificate c k) s = .next (s.emit (.spdm c 0x02 (s.chainOf k)))) ∧
  (∀ (s : State) (c k : Nat), c < 3 → s.spdmReady c = true → s.hasChain k = true →
    Completes (.spdmChallenge c k) s (fun t => t.host = s.host ∧ ∃ sig, t.out = .spdm c 0x03 (Config.sha384 (s.chainOf k) ++ sig) :: s.out)) ∧
  (∀ (s : State) (c k : Nat), c < 3 → s.spdmReady c = true → s.hasChain k = true →
    Completes (.spdmKeyExchange c k) s (fun t => (t.spdm c).session = 1 ∧ (t.spdm c).phase = 3 ∧ ∃ x, t.out = .spdm c 0x64 x :: s.out)) ∧
  (∀ (s : State) (c k : Nat), c < 3 → s.spdmReady c = true → s.hasChain k = false →
    exec (.spdmGetCertificate c k) s = .next (s.emit (.spdm c 0x7F [0x01])) ∧ exec (.spdmChallenge c k) s = .next (s.emit (.spdm c 0x7F [0x01])) ∧
    exec (.spdmKeyExchange c k) s = .next (s.emit (.spdm c 0x7F [0x01]))) ∧
  (∀ (s : State) (c k : Nat), c < 3 → s.spdmReady c = true → 0 < k → k ≤ 5 →
    exec (.spdmGetMeasurements c k) s = .next (s.emit (.spdm c 0x60 (s.measurement k)))) ∧
  (∀ (s : State) (c : Nat), c < 3 → (s.spdm c).session = 1 →
    exec (.spdmFinish c true) s = .next ((s.setSpdm c { s.spdm c with session := 2 }).emit (.spdm c 0x65 []))) ∧
  (∀ (s : State) (c : Nat), c < 3 → (s.spdm c).session = 1 →
    exec (.spdmFinish c false) s = .next ((s.setSpdm c { s.spdm c with session := 0 }).emit (.spdm c 0x7F [0x06]))) ∧
  (∀ (s : State) (c : Nat), c < 3 → s.spdmSecure c = true → exec (.spdmKeyUpdate c) s = .next (s.emit (.spdm c 0x69 []))) ∧
  (∀ (s : State) (c : Nat), c < 3 → s.spdmSecure c = true → exec (.spdmHeartbeat c) s = .next (s.emit (.spdm c 0x68 []))) ∧
  (∀ (s : State) (c : Nat), c < 3 → s.spdmSecure c = true →
    exec (.spdmEndSession c) s = .next ((s.setSpdm c { s.spdm c with session := 0 }).emit (.spdm c 0x6C []))) ∧
  (∀ (s : State) (c k : Nat) (chain : List Byte), c < 3 → 0 < k → k < 8 → s.spdmSecure c = true →
    Completes (.spdmSetCertificate c k chain true) s (fun t => t.chainOf k = chain ∧ ∀ j, j ≠ k → t.chainOf j = s.chainOf j)) ∧
  (∀ (s : State) (c k : Nat) (chain : List Byte), c < 3 → s.spdmSecure c = true → exec (.spdmSetCertificate c k chain false) s = .next (s.emit (.spdm c 0x7F [0x01]))) ∧
  (∀ (s : State) (c : Nat), c < 3 → s.spdmReady c = false → s.spdmSecure c = false →
    exec (.spdmGetDigests c) s = .next (s.emit (.spdm c 0x7F [0x04])) ∧ exec (.spdmGetCsr c) s = .next (s.emit (.spdm c 0x7F [0x04])) ∧
    exec (.spdmKeyUpdate c) s = .next (s.emit (.spdm c 0x7F [0x04])) ∧ exec (.spdmHeartbeat c) s = .next (s.emit (.spdm c 0x7F [0x04])) ∧
    exec (.spdmEndSession c) s = .next (s.emit (.spdm c 0x7F [0x04]))) ∧
  (∀ (s : State) (p l : Nat), p < 2 → l < 4 → s.spdmSecure p = true → s.linkUp p l = true →
    Completes (.ideKmKeyProgram p l) s (fun t => t = s.setBit (linkOff p l) 3 true ∧ t.flag (linkOff p l) 3 = true ∧ t.linkUp p l = true)) ∧
  (∀ (s : State) (p l : Nat), p < 2 → l < 4 → s.linkUp p l = true → s.flag (linkOff p l) 3 = true →
    Completes (.ideIntegrityFailure p l) s (fun t => t.flag (linkOff p l) 3 = false ∧ t.fld (GX + 0x3C) 31 0 = satAdd (s.fld (GX + 0x3C) 31 0) 1 (2 ^ 32 - 1)))

/-- The commands of an LD's mailbox that read complete (12: R331, R335 to R338; 02: R42): each is answered Success with what it reads, and changes nothing
else. -/
def Obligations.MailboxReads : Prop :=
  ∀ (s : State) (i : Nat), s.MailOpen i →
  (exec (.cxlGetTimestamp i) s = .next (s.emit (.cxl i 0x0300 0 [twos 64 s.cxlStamp]))) ∧
  (exec (.cxlIdentify i) s = .next (s.emit (.cxl i 0x0001 0 [0x9400, if Config.revIsB0 then 0xB0 else 0xA0]))) ∧
  (exec (.getEventInterruptPolicy i) s = .next (s.emit (.cxl i 0x0102 0 [(s.ld i).policy.toNat]))) ∧
  (exec (.getFwInfo i) s = .next (s.emit (.cxl i 0x0200 0 [2, s.fld CP 25 24, s.lark.slotA.version, s.lark.slotB.version]))) ∧
  (exec (.getSupportedLogs i) s = .next (s.emit (.cxl i 0x0400 0 [1, mailOpcodes.length]))) ∧
  (exec (.getLog i) s = .next (s.emit (.cxl i 0x0401 0 mailOpcodes))) ∧
  (exec (.identifyMemoryDevice i) s = .next (s.emit (.cxl i 0x4000 0 [s.ldCapacity i, 0, s.ldCapacity i, 512, 0]))) ∧
  (exec (.getPartitionInfo i) s = .next (s.emit (.cxl i 0x4100 0 [0, s.ldCapacity i, 0, 0]))) ∧
  (Completes (.getHealthInfo i) s (fun t => ∃ a b c d e f g, t = s.emit (.cxl i 0x4200 0 [a, b, c, d, e, f, g]) ∧ a = s.healthBits i ∧
    (b = 1 ↔ s.wb.recovered = false) ∧ c = s.fld (TP + 0x20) 31 24 ∧ e = (s.reg (HI + 0xC0)).toNat)) ∧
  (exec (.getAlertConfiguration i) s = .next (s.emit (.cxl i 0x4201 0 [(s.ld i).alertLife, (s.ld i).alertHigh, (s.ld i).alertLow]))) ∧
  (exec (.getShutdownState i) s = .next (s.emit (.cxl i 0x4203 0 [if (s.ld i).clean then 1 else 0]))) ∧
  (Completes (.getPoisonList i) s (fun t => ∃ a b, t = s.emit (.cxl i 0x4300 0 (a :: b :: (s.ld i).poison)) ∧ (a = 1 ↔ (s.ld i).poisonOvf.isSome = true))) ∧
  (Completes (.getScanMediaCapabilities i) s (fun t => ∃ v, v < 2 ^ 32 ∧ t.out = .cxl i 0x4303 0 [v] :: s.out ∧ t.regs = s.regs)) ∧
  (exec (.getScanMediaResults i) s = .next (s.emit (.cxl i 0x4305 0 (s.ld i).scanHits))) ∧
  (exec (.getDcConfiguration i) s = .next (s.emit (.cxl i 0x4800 0 ((s.ld i).regions.flatMap (fun r => [r.1, r.2.1, r.2.2]))))) ∧
  (exec (.getDcExtentList i) s = .next (s.emit (.cxl i 0x4801 0 ((s.ld i).extents.flatMap (fun e =>
    [e.dom, s.fld (QD + e.dom * 0x20 + 4) 23 0, s.fld (QD + e.dom * 0x20 + 8) 23 0, e.st]))))) ∧
  (∀ log, log < 5 → exec (.getEventRecords i log) s = .next (s.emit (.cxl i 0x0100 0
    ((Tbl.find (s.ld i).overflow log).getD 0 :: ((Tbl.find (s.ld i).logs log).getD []).flatMap (fun r => [r.1, r.2]))))) ∧
  (∀ log, 5 ≤ log → exec (.getEventRecords i log) s = .next (s.emit (.cxl i 0x0100 2 [])))

/-- The commands of an LD's mailbox that set or start something complete (12: R333 to R338; 02: R39). -/
def Obligations.MailboxWrites : Prop :=
  (∀ (s : State) (i stamp : Nat), s.MailOpen i → s.tb.primarySeen = true →
    exec (.cxlSetTimestamp i stamp) s = .next ((s.event 0xB406 i none i 0).emit (.cxl i 0x0301 0 []))) ∧
  (∀ (s : State) (i stamp : Nat), s.MailOpen i → s.tb.primarySeen = false →
    exec (.cxlSetTimestamp i stamp) s = .next (((s.setSource 3).measured ((stamp : Int) - (s.setSource 3).cxlStamp - (s.setSource 3).absorbLeft)).emit (.cxl i 0x0301 0 []))) ∧
  (∀ (s : State) (i log n : Nat), s.MailOpen i → log < 5 → n ≤ ((Tbl.find (s.ld i).logs log).getD []).length →
    Completes (.clearEventRecords i log n) s (fun t => (Tbl.find (t.ld i).logs log).getD [] = ((Tbl.find (s.ld i).logs log).getD []).drop n ∧
      Tbl.find (t.ld i).overflow log = none ∧ t.out = .cxl i 0x0101 0 [] :: s.out)) ∧
  (∀ (s : State) (i : Nat) (w : Word), s.MailOpen i →
    Completes (.setEventInterruptPolicy i w) s (fun t => (t.ld i).policy = w ∧ (t.ld i).logs = (s.ld i).logs ∧ t.out = .cxl i 0x0103 0 [] :: s.out)) ∧
  (∀ (s : State) (i a b c : Nat), s.MailOpen i →
    Completes (.setAlertConfiguration i a b c) s (fun t => (t.ld i).alertLife = a ∧ (t.ld i).alertHigh = b ∧ (t.ld i).alertLow = c ∧ t.regs = s.regs)) ∧
  (∀ (s : State) (i : Nat) (v : Bool), s.MailOpen i → Completes (.setShutdownState i v) s (fun t => (t.ld i).clean = v ∧ t.regs = s.regs)) ∧
  (∀ (s : State) (i op : Nat), s.MailOpen i →
    exec (.transferFw i) s = .next (s.emit (.cxl i 0x0201 3 [])) ∧ exec (.activateFw i) s = .next (s.emit (.cxl i 0x0202 3 [])) ∧
    exec (.cxlUnsupportedOpcode i op) s = .next (s.emit (.cxl i op 3 []))) ∧
  (∀ (s : State) (i dpa : Nat), s.MailOpen i → s.flag HI 31 = false → exec (.injectPoison i dpa) s = .next (s.emit (.cxl i 0x4301 3 []))) ∧
  (∀ (s u : State) (i dpa d : Nat), s.MailOpen i → s.flag HI 31 = true → s.resolveDom i dpa = some d →
    s.localWrite d (s.lineOfDpa d dpa) (List.replicate 64 0) 0 true = some u → exec (.injectPoison i dpa) s = .next (u.emit (.cxl i 0x4301 0 []))) ∧
  (∀ (s u : State) (i dpa d : Nat) (data : List Byte), s.MailOpen i → s.resolveDom i dpa = some d →
    s.localWrite d (s.lineOfDpa d dpa) data fullMask false = some u →
    Completes (.clearPoison i dpa data) s (fun t => (∀ a ∈ (t.ld i).poison, a / 64 ≠ dpa / 64) ∧ t.out = .cxl i 0x4302 0 [] :: u.out)) ∧
  (∀ (s : State) (i : Nat), i < 32 → s.ldThere i = true → ¬ 2 < s.power → (s.ld i).bgState ≠ 1 →
    exec (.backgroundOperationStatus i) s = .next (s.emit (.cxl i 0x0002 0 [(s.ld i).bgOp, (s.ld i).bgState, if (s.ld i).bgState = 2 then 100 else 0])))

/-- Background operations of an LD, its dynamic capacity and the FM API complete (12: R330, R333, R334, R338). -/
def Obligations.CapacityCommands : Prop :=
  (∀ (s : State) (i dpa n : Nat), s.MailOpen i → (s.ld i).bgState ≠ 1 → dpa + n * 64 ≤ s.ldCapacity i * 2 ^ 28 →
    Completes (.scanMedia i dpa n) s (fun t => t.out.head? = some (.cxl i 0x4304 1 []))) ∧
  (∀ (s : State) (i : Nat), s.MailOpen i → (s.ld i).bgState ≠ 1 →
    exec (.sanitize i) s = .next (((s.setLd i { s.ld i with bgOp := 0x4400, bgState := 1 }).domsOf i).foldl (fun (w : State) d => w.wantRotation d true)
      (s.setLd i { s.ld i with bgOp := 0x4400, bgState := 1 }) |>.emit (.cxl i 0x4400 1 []))) ∧
  (∀ (s : State) (i : Nat), s.MailOpen i → (s.ld i).bgState ≠ 1 → Completes (.secureErase i) s (fun t => t.out.head? = some (.cxl i 0x4401 1 []))) ∧
  (∀ (s : State) (i : Nat), i < 32 → (s.ld i).bgState = 1 → (s.ld i).bgOp = 0x4304 → s.bgDone i = true →
    Completes (.backgroundOpComplete i) s (fun t => (t.ld i).bgState = 2 ∧ t.out = .hostMsix i 1 :: s.out ∧ t.regs = s.regs)) ∧
  (∀ (s : State) (i d : Nat) (e : Extent), s.MailOpen i → e ∈ (s.ld i).extents → e.dom = d → e.st = 0 →
    Completes (.addDcResponse i d true) s (fun t => (∀ x ∈ (t.ld i).extents, x.dom = d → x.st = 1) ∧ t.out = .cxl i 0x4802 0 [] :: s.out) ∧
    Completes (.addDcResponse i d false) s (fun t => (∀ x ∈ (t.ld i).extents, x.dom ≠ d) ∧ t.out = .cxl i 0x4802 0 [] :: s.out)) ∧
  (∀ (s : State) (i d : Nat) (e : Extent), s.MailOpen i → e ∈ (s.ld i).extents → e.dom = d → e.st = 1 →
    Completes (.releaseDc i d) s (fun t => (∀ x ∈ (t.ld i).extents, x.dom = d → x.st = 2) ∧ t.out.head? = some (.cxl i 0x4803 0 []))) ∧
  (∀ (s : State) (i d : Nat) (e : Extent), i < 32 → d < 4096 → s.domValid d = true → e ∈ (s.ld i).extents → e.dom = d → e.st = 2 → s.domLd d = i →
    (∀ r ∈ s.host.reqs, r.dom ≠ d) → exec (.extentReleaseComplete i d) s = .next (s.deleteDomain d)) ∧
  (∀ s : State, s.larkUp = true → exec .fmGetLdInfo s = .next (s.emit (.fm 0 [s.usable, 32])) ∧
    exec .fmGetLdAllocations s = .next (s.emit (.fm 0 ((List.range 32).map (fun i => s.fld (HI + 0x40 + 4 * i) 15 0))))) ∧
  (∀ (s : State) (i n : Nat), s.larkUp = true → i < 32 →
    exec (.fmSetLdAllocations i n) s = .next (s.emit (.fm 0 [s.fld (HI + 0x40 + 4 * i) 15 0]))) ∧
  (∀ (s : State) (i k b n : Nat), s.larkUp = true → i < 32 → k < 8 → 0 < n → s.ldStatic i ≤ b →
    (∀ r ∈ (s.ld i).regions, r.1 ≠ k → r.2.1 + r.2.2 ≤ b ∨ b + n ≤ r.2.1) →
    Completes (.fmSetDcRegionConfig i k b n) s (fun t => Tbl.find (t.ld i).regions k = some (b, n) ∧ t.out = .fm 0 [] :: s.out)) ∧
  (∀ (s : State) (i k b : Nat), s.larkUp = true → i < 32 → k < 8 →
    Completes (.fmSetDcRegionConfig i k b 0) s (fun t => (∀ r ∈ (t.ld i).regions, r.1 ≠ k) ∧ t.out = .fm 0 [] :: s.out)) ∧
  (∀ (s : State) (i d n : Nat) (r : Nat × Nat × Nat), s.larkUp = true → i < 32 → d < 4096 → s.domValid d = true → s.domLd d = i →
    s.fld (QD + d * 0x20 + 8) 23 0 = s.fld (QD + d * 0x20 + 4) 23 0 + n → r ∈ (s.ld i).regions → r.2.1 * 256 ≤ s.fld (QD + d * 0x20 + 4) 23 0 →
    s.fld (QD + d * 0x20 + 4) 23 0 + n ≤ (r.2.1 + r.2.2) * 256 → (∀ e ∈ (s.ld i).extents, e.dom ≠ d) →
    Completes (.fmInitiateDcAdd i (s.fld (QD + d * 0x20 + 4) 23 0) n d) s (fun t => (t.ld i).extents = (s.ld i).extents ++ [⟨d, 0⟩] ∧
      t.out.head? = some (.fm 0 []))) ∧
  (∀ (s : State) (i d : Nat) (e : Extent), s.larkUp = true → i < 32 → s.sanitizing = false → (s.ld i).extents.find? (fun e => e.dom = d) = some e → e.st = 0 →
    Completes (.fmInitiateDcRelease i d) s (fun t => (∀ x ∈ (t.ld i).extents, x.dom ≠ d) ∧ t.out = .fm 0 [] :: s.out)) ∧
  (∀ (s : State) (i d : Nat) (e : Extent), s.larkUp = true → i < 32 → s.sanitizing = false → (s.ld i).extents.find? (fun e => e.dom = d) = some e → e.st ≠ 0 →
    exec (.fmInitiateDcRelease i d) s = .next ((s.cxlRecord i 4 1 d).emit (.fm 0 [])))

/-- Register rows and Seed store rows complete (00: R5 to R10; 04: R125; 18: R473, R475; 20: R505, R509). -/
def Obligations.RegisterRows : Prop :=
  (∀ (s : State) (o : Nat) (v : Word), s.regsUp = true → plainOffset o = true →
    Completes (.registerWrite .owner o v) s (fun t => t.reg o = plainWord o (s.reg o) v ∧ (∀ k, k ≠ o → k ≠ SD → t.reg k = s.reg k) ∧
      t.sd.queue = (if hasPersist o = true ∧ wholeOk o v = true then s.sd.queue ++ [.register .owner o v] else s.sd.queue))) ∧
  (∀ (s : State) (o : Nat) (v : Word) (who : Requester), s.regsUp = true → o % 4 = 0 → boxOf o = none → who = .mctp ∨ who = .peer ∨ who = .engine →
    exec (.registerWrite who o v) s = .next (s.disallowed who o true)) ∧
  (∀ (s : State) (o : Nat) (w : Bool), s.regsUp = true →
    Completes (.bar0BadSizeAccess .owner o w) s (fun t => t.fld (GLB + 0x14) 15 0 = satAdd (s.fld (GLB + 0x14) 15 0) 1 (2 ^ 16 - 1) ∧ t.rk = s.rk)) ∧
  (∀ (s : State) (o : Nat), s.regsUp = true → s.sd.queue = [] → o % 4 = 0 → pairLow o = true → ladderLow o = false →
    Completes (.lowHalfRead .owner o) s (fun t => t.out = .readData .owner (s.view o) :: s.out ∧ t.latchAt .owner o = some (s.view (o + 4)) ∧ t.regs = s.regs)) ∧
  (∀ (s : State) (o : Nat) (v : Word), s.regsUp = true → o % 4 = 0 → pairLow o = true → boxOf o = none → ¬ (TB + 0x1000 ≤ o ∧ o < TB + 0x1800) →
    Completes (.lowHalfWrite .owner o v) s (fun t => t.holdAt .owner o = some v ∧ t.regs = s.regs)) ∧
  (∀ (s : State) (o : Nat) (l v : Word), s.regsUp = true → o % 4 = 0 → pairLow o = true → pairLow (o + 4) = false → o + 4 ≠ EV + 0x34 → boxOf o = none →
    boxOf (o + 4) = none → ¬ (TB + 0x1000 ≤ o + 4 ∧ o + 4 < TB + 0x1800) → ¬ (PM + 0x100 ≤ o ∧ o < PM + 0xD00) → hasPersist o = false → hasPersist (o + 4) = false →
    s.holdAt .owner o = some l →
    Completes (.highHalfWrite .owner (o + 4) v) s (fun t => t.reg o = plainWord o (s.reg o) l ∧ t.reg (o + 4) = plainWord (o + 4) (s.reg (o + 4)) v)) ∧
  (∀ (s : State) (o : Nat), s.regsUp = true → s.sd.queue = [] → o % 4 = 0 → pairLow o = false → pairHigh o = false →
    Completes (.clearOnRead .owner o) s (fun t => t.out = .readData .owner (s.view o) :: s.out ∧ t.regs = (s.clearRc o).regs)) ∧
  (∀ (s : State) (k : Nat), s.regsUp = true → s.sd.queue = [] → k < 5 →
    Completes (.cdLadderCntLowRead .owner k) s (fun t => t.out = .readData .owner (s.view (CD + 0x10 + 8 * k)) :: s.out ∧
      t.latchAt .owner (CD + 0x10 + 8 * k) = some (s.view (CD + 0x10 + 8 * k + 4)) ∧ t.reg64 (CD + 0x10 + 8 * k) = 0)) ∧
  (∀ (s : State) (n o : Nat), s.regsUp = true → 0 < n → n ≤ 64 → o % 4 = 0 → o + 4 * n ≤ 0x200000 →
    Completes (.mctpRegisterRead 0x1F7E n o) s (fun t => ∃ vs, vs.length = n ∧ t.out = .mctp 0 vs :: s.out)) ∧
  (∀ (s : State) (w : SeedWrite) (rest : List SeedWrite), s.sd.queue = w :: rest →
    Completes .seedWriteComplete s (fun t => t = State.seedWrite (State.setBit { s with sd := { s.sd with queue := rest } } SD 29 (decide (rest ≠ []))) w)) ∧
  (∀ (s t0 : State) (n : Nat) (pages : List (Nat × PageFinding)), s.Takes 0x0F n t0 →
    Completes (.seedStoreMarginRead pages) s (fun t => t = (pages.foldl State.pageFound t0).endEntry n ∧ t.schedRunning n = false)) ∧
  (∀ (s : State) (who : Requester) (o : Nat) (v : Word) (rest : List SeedWrite) (a b : Nat), s.sd.queue = .register who o v :: rest →
    Completes (.vddNvLoss a b) s (fun t => t.sd.queue = [] ∧ t.regs = (s.setBit SD 29 false).regs ∧ t.sd.ownerData = s.sd.ownerData ∧
      (∀ k, k ≠ seedKey o → Tbl.find t.sd.slots k = Tbl.find s.sd.slots k) ∧ (a = 0 → (∀ j < 256, b.testBit j = true) → t.sd.slots = s.sd.slots))) ∧
  (∀ (s : State) (o : Nat) (bytes : List Byte) (rest : List SeedWrite) (a b : Nat), s.sd.queue = .ownerData o bytes :: rest →
    Completes (.vddNvLoss a b) s (fun t => t.sd.queue = [] ∧ t.sd.ownerData = tornBytes s.sd.ownerData o a b bytes)) ∧
  (∀ (s : State) (a b : Nat), s.sd.queue = [] → exec (.vddNvLoss a b) s = .next s)

/-- Hold-up, power fail and GPF complete (07: R205 to R214). -/
def Obligations.HoldUpCommands : Prop :=
  (∀ s u : State, u = s.setFld (WP + 0x28) 15 0 (min 65535 (s.huEnergy (s.fld (SQ + 8) 11 0) / (512 * 4096 ^ 2) / 10 ^ 9)) → u.huFactor ≤ s.wb.f →
    exec .holdUpFactorUpdate s = .next (State.setFactor { u with wb := { u.wb with fUp := none } } u.huFactor)) ∧
  (∀ s u : State, u = s.setFld (WP + 0x28) 15 0 (min 65535 (s.huEnergy (s.fld (SQ + 8) 11 0) / (512 * 4096 ^ 2) / 10 ^ 9)) → s.wb.f < u.huFactor → s.wb.fUp = none →
    Completes .holdUpFactorUpdate s (fun t => t.wb.fUp = some (u.huFactor, s.tb.tick) ∧ t.wb.f = s.wb.f ∧ t.regs = u.regs)) ∧
  (∀ (s u : State) (g z : Nat), u = s.setFld (WP + 0x28) 15 0 (min 65535 (s.huEnergy (s.fld (SQ + 8) 11 0) / (512 * 4096 ^ 2) / 10 ^ 9)) → s.wb.f < u.huFactor →
    s.wb.fUp = some (g, z) → 100000 ≤ s.tb.tick - z →
    exec .holdUpFactorUpdate s = .next (State.setFactor { u with wb := { u.wb with fUp := none } } (min u.huFactor g))) ∧
  (∀ (s t0 : State) (n : Nat), s.Takes 0x06 n t0 → t0.startHuTest.pw.huTest = none → exec .holdUpTest s = .next (t0.startHuTest.endEntry n)) ∧
  (∀ (s t0 : State) (n : Nat), s.Takes 0x06 n t0 → t0.pw.huTest = none → t0.startHuTest.pw.huTest.isSome = true → exec .holdUpTest s = .next t0.startHuTest) ∧
  (∀ (s : State) (d : Nat), s.takeAction 0x06 = none → s.pw.huDue = some d → d ≤ s.tb.tick → exec .holdUpTest s = .next s.startHuTest) ∧
  (∀ (s : State) (d : Nat), s.pw.huDue = some d → d ≤ s.tb.tick → s.flag (WP + 0x2C) 2 = true → exec .holdUpRetest s = .next s.startHuTest) ∧
  (∀ (s : State) (h : HuTest), s.pw.huTest = some h → s.fld (SQ + 8) 11 0 * 1024 ≤ h.v1 * (1024 - s.fld (WP + 0x1C) 23 16) → s.fld (SQ + 8) 11 0 < h.v1 →
    exec .holdUpTestSample s = .next (s.passHuTest h.v1
      (10 * s.fld (WP + 0x18) 7 0 * (s.tb.tick - h.start) * 4096 / ((h.v1 - s.fld (SQ + 8) 11 0) * s.huScale)))) ∧
  (∀ (s : State) (h : HuTest), s.pw.huTest = some h → h.v1 * (1024 - s.fld (WP + 0x1C) 23 16) < s.fld (SQ + 8) 11 0 * 1024 → exec .holdUpTestSample s = .next s) ∧
  (∀ (s : State) (h : HuTest), s.pw.huTest = some h → s.fld (WP + 0x1C) 15 8 * 1000 ≤ s.tb.tick - h.start → exec .holdUpTestTimeout s = .next (s.failHuTest 0)) ∧
  (∀ s : State, s.flushing = false → s.mayFlush = true →
    Completes .pwrFail s (fun t => t = State.startFlush { s with pins := { s.pins with pwrFailLow := true } } 1)) ∧
  (∀ s : State, s.flushing = true → exec .pwrFail s = .next { s with pins := { s.pins with pwrFailLow := true } }) ∧
  (∀ s : State, s.flushing = true → Completes .pwrFailReturn s (fun t => t.pw.after = .coldRestart 1 ∧ t.pins.pwrFailLow = false ∧ t.regs = s.regs)) ∧
  (∀ (s : State) (a b : Nat), s.flushing = true → s.imageSealed = true → exec (.flushSealed a b) s =
    .next ((((s.takeImage.setReg (WP + 0x38) (BitVec.ofNat 32 (min 65535 a + min 65535 (ceilDiv b 65536) * 65536))).setBit (WP + 0x2C) 0 false).depart 4 6).shutNow)) ∧
  (∀ (s : State) (a b : Nat), (s.flushing = false ∨ s.imageSealed = false) → exec (.flushSealed a b) s = .next s) ∧
  (∀ (s : State) (p : Nat), p < 2 → s.flushing = false → exec (.gpfPhase1 p) s = .next (s.emit (.gpf p 1))) ∧
  (∀ (s : State) (p : Nat), p < 2 → s.flushing = false →
    exec (.gpfPhase2 p) s = .next (State.gpfCheck { s with host := { s.host with gpfWait := s.host.gpfWait ++ [(p, s.host.nextReq)] } }))

/-- Recorder plots, meter tail and regulators complete (17: R441, R443, R450; 11: R304, R309, R311, R315, R321). -/
def Obligations.SpoolRegulatorCommands : Prop :=
  (∀ (s t0 : State) (n : Nat), s.Takes 0x11 n t0 → Completes .eventArchiveDrain s (fun t => t.schedRunning n = false ∧
    t = (t0.archiveDrain.archiveProgram t0.ev.archived).endEntry n)) ∧
  (∀ s : State, s.wb.recovered = true → s.flag (WP + 0x2C) 0 = false → exec .tailWindowProgram s = .next s.spoolProgram.spoolErase.meterGo) ∧
  (∀ s : State, s.larkUp = true → exec .gRecompute s = .next s.recomputeG) ∧
  (∀ (s : State) (g z : Nat), s.qs.gUp = some (g, z) → z + 100000 ≤ s.tb.tick → s.qs.gNew = g → s.qs.g < g → s.lark.fwRunning = true →
    Completes .gRaiseTakesEffect s (fun t => t = s.putG g ∧ t.qs.g = g)) ∧
  (∀ s u : State, u = (s.validDoms.foldl State.refillDom s).levelUpdate →
    Completes .regulatorRefill s (fun t => t.host = s.host ∧ t.wb = s.wb ∧
      t.reg (QS + 0x28) = BitVec.ofNat 32 (twos 32 (satBal (min (1000 * (u.bgRefill : Int)) (u.bgBal + u.bgRefill)))) ∧ t.reg (QS + 0x54) = u.reg (QS + 0x54))) ∧
  (∀ (s t0 : State) (n : Nat), s.Takes 0x04 n t0 → Completes .bestEffortWindow s (fun t => t.schedRunning n = false ∧
    t = (if t0.lark.fwRunning = true then (if t0.qs.gNew < t0.qs.g then t0.putG t0.qs.gNew else t0).beAdjust else t0).endEntry n)) ∧
  (∀ (s : State) (who : Requester) (v : Word), s.regsUp = true → mayWrite who = true → exec (.qsDomSelWrite who v) s = .next (s.domSel v))

/-- The rail sequencer and the fault line complete (15: R417 to R423). -/
def Obligations.RailCommands : Prop :=
  (∀ s : State, s.sqState = 1 → s.rails.any (fun n => decide (s.upStep n = s.sqStep) && decide (s.railState n = 5)) = false →
    (s.rails.filter (fun n => s.railState n = 1)).all s.senseGood = true →
    ((s.rails.filter (fun n => s.railState n = 1)).foldl State.railGood s).heading 4 = false →
    exec .railStepGood s = .next (((s.rails.filter (fun n => s.railState n = 1)).foldl State.railGood s).upFrom
      (((s.rails.filter (fun n => s.railState n = 1)).foldl State.railGood s).sqStep + 1))) ∧
  (∀ s : State, s.sqState = 2 → (s.rails.filter (fun n => s.railState n = 1)).all s.senseGood = true →
    exec .railStepGood s = .next ((s.rails.filter (fun n => s.railState n = 1)).foldl State.railGood s)) ∧
  (∀ (s : State) (n : Nat), n < 24 → s.railKind n = 1 → s.railState n = 1 → s.railFor n (100 * s.fld (railOff n + 4) 7 0) = true →
    exec (.pgTimeout n) s = .next (s.railFault n 4)) ∧
  (∀ s : State, s.rails.any (fun n => decide (s.railState n = 3)) = false → s.sqState = 3 → exec .shutdownStepDone s = .next s.downOn) ∧
  (∀ s : State, s.rails.any (fun n => decide (s.railState n = 3)) = false → s.sqState ≠ 3 →
    exec .shutdownStepDone s = .next (s.pw.groupsDown.foldl State.groupDownOn s)) ∧
  (∀ (s : State) (n : Nat), n < 24 → s.railKind n = 1 → s.offExpired n = true → s.shutMode n = 1 →
    Completes (.offTimeoutExpire n) s (fun t => t = s.railEnded n ∧ t.pins.sqPg.getLsbD n = false ∧ t.flag (railOff n + 0x10) 24 = false)) ∧
  (∀ (s : State) (n : Nat), n < 24 → s.railKind n = 1 → s.offExpired n = true → s.shutMode n = 2 →
    exec (.offTimeoutExpire n) s = .next ((if s.sqState = 3 then s.setSq 5 else s).event 0xD206 n none n 0)) ∧
  (∀ (s : State) (code : Nat), exec (.adcConversion 24 code) s = .next (s.holdupSample (code % 4096))) ∧
  (∀ (s : State) (n code : Nat), n < 24 → s.railKind n = 1 → exec (.adcConversion n code) s = .next (s.railSample n (code % 4096))) ∧
  (∀ (s : State) (n : Nat), n < 24 → s.railKind n = 1 → s.railState n = 2 →
    exec (.pgLowFault n) s = .next (State.railFault (State.setBit { s with pins := { s.pins with sqPg := s.pins.sqPg &&& ~~~ BitVec.ofNat 24 (2 ^ n) } } (railOff n + 0x10) 24 false) n 1)) ∧
  (∀ (s : State) (n : Nat), n < 24 → s.railState n = 5 → (s.sqState = 1 ∨ s.sqState = 2) → s.railFor n (1000 * s.fld (railOff n + 4) 31 24) = true →
    Completes (.railRetryExpire n) s (fun t => t = s.railUp n ∧ t.railState n = 1)) ∧
  (∀ s : State, s.sqState = 4 → s.pw.offTick + 10000 * s.fld SQ 7 0 ≤ s.tb.tick → exec .minOffExpire s = .next (s.setSq 0).tryPowerUp) ∧
  (∀ s : State, s.pins.faultDrive = false → s.fld SQ 17 16 = 0 →
    Completes .faultNExternal s (fun t => t.pins.faultIn = true ∧ t = State.event { s with pins := { s.pins with faultIn := true } } 0xD205 0 none 0 0)) ∧
  (∀ s : State, s.pins.faultDrive = false → s.fld SQ 17 16 = 1 → s.power < 4 →
    exec .faultNExternal s = .next ((State.event { s with pins := { s.pins with faultIn := true } } 0xD205 0 none 0 0).enterOff .faultWait)) ∧
  (∀ s : State, s.pins.faultDrive = true → exec .faultNExternal s = .next s) ∧
  (∀ s : State, s.sqState ≠ 0 → Completes .faultNRelease s (fun t => t.pins.faultIn = false ∧ t.regs = s.regs)) ∧
  (∀ s : State, s.pins.faultDrive = true → s.pw.faultTick + 1000 * s.fld SQ 15 8 ≤ s.tb.tick → s.sqState ≠ 2 → (∀ n ∈ s.rails, s.railEn n = false ∧ s.railState n ≠ 3) →
    Completes .faultHoldExpire s (fun t => t.pw.faultHold = false ∧ t.pins.faultDrive = false ∧ t.flag (SQ + 4) 9 = false)) ∧
  (∀ s : State, s.power = 3 → Completes .biasStep s (fun t => t.fld (PW + 0x20) 23 16 = 30 ∧ t.fld (PW + 0x20) 7 0 = s.fld (PW + 0x20) 7 0)) ∧
  (∀ s : State, s.power < 3 → Completes .biasStep s (fun t => t.fld (PW + 0x20) 23 16 = 0))

/-- Recovery and the power states complete (07: R219, R220; 15: R404 to R415; 18: R460 to R474; 19: R486, R493). -/
def Obligations.PowerCommands : Prop :=
  (∀ (s : State) (ms : Nat), s.recStep = 7 → s.areaErasing = false → s.wb.recovered = false → s.power = 0 → s.flag PW 7 = false → ms ≤ 400 →
    exec (.recoveryComplete ms) s = .next ((((s.persist64 (WP + 0x30) (s.reg64 (WP + 0x30) + 1)).setFld (WP + 0x2C) 11 8 0).setReg (WP + 0x50)
      (BitVec.ofNat 32 ms)).startEngines)) ∧
  (∀ (s : State) (f : RecoveryFinding), s.wb.recovered = true → exec (.recovery f) s = .next s) ∧
  (∀ (s : State) (f : RecoveryFinding), s.wb.recovered = false → s.recStep = 0 → s.power = 0 → s.sqState = 2 → s.flag PW 7 = false → s.channelsSettled = true →
    s.media.mixedReported = false → s.wb.image = none → s.tp.ckptA = none → s.tp.ckptB = none →
    Completes (.recovery f) s (fun t => t = (s.uncleanLoss.event 0x3106 0 none 0 0).setFld (WP + 0x2C) 11 8 2 ∧ t.recStep = 2)) ∧
  (∀ (s u : State) (f : RecoveryFinding), s.wb.recovered = false → s.recStep = 0 → s.power = 0 → s.sqState = 2 → s.flag PW 7 = false → s.channelsSettled = true →
    s.media.mixedReported = false → s.wb.image = none → s.uncleanLoss.mapBase f = (true, u) → u.wb.image = none → f.gorseRecords = true →
    Completes (.recovery f) s (fun t => t.recStep = 7 ∧ ∃ v : State, v = State.meterGap { u with tp := { u.tp with nextSeq := u.lastSeq + 1, unverified := [] } } ∧
      t = ((((State.restoreDrift { v with gx := { v.gx with sweep := some 0 } } false).newSalt).anchorScan false f.badAnchors).restartMigrations.listSpares.eraseIdleArea
        ).recomputeX.setFld (WP + 0x2C) 11 8 7)) ∧
  (∀ (s : State) (f : RecoveryFinding), s.media.mixedReported = true → exec (.recovery f) s = .next s) ∧
  (∀ s : State, exec (.sidebandPowerRequest 1) s = .next (if s.responderUp then s.emit (.sideband false) else s)) ∧
  (∀ (s : State) (x : Nat), s.responderUp = true → (x = 0 ∨ x = 4) → s.flag (TH + 4) 31 = false → (s.power = 4 → s.heading 0 = true → s.recalled = true) →
    exec (.sidebandPowerRequest x) s = .next ((s.requestState x).2.emit (.sideband true))) ∧
  (∀ s : State, s.wakeAt ≤ s.tb.ztime → s.wakeAt ≠ noInstant → exec .wakeTimer s = .next (s.wake 1)) ∧
  (∀ s : State, s.entering = true → s.heading 2 = true → s.atRest = true → s.host.fetches = [] → s.standbyAll true = true →
    exec .a2DrainComplete s = .next ((s.arrive 2).latchedExit)) ∧
  (∀ s : State, s.entering = true → s.heading 2 = true → s.atRest = true → s.host.fetches = [] → s.standbyAll true = false →
    exec .a2DrainComplete s = .next ((s.setFld PW 19 16 4).setStandby true)) ∧
  (∀ s : State, s.a3Drained = true → s.wb.writing = none → exec .a3DrainComplete s = .next (s.writeImage 4)) ∧
  (∀ s : State, s.a3Drained = true → s.imageSealed = true → exec .a3DrainComplete s = .next s.a3Down) ∧
  (∀ s : State, s.entering = true → s.fld (SQ + 4) 3 0 = 2 → s.pw.since + 1000 * s.fld (PW + 4) 23 16 ≤ s.tb.tick → Completes .drainTimeout s (fun t => t = s.abortEntry 2 ∧ t.flag PW 7 = false ∧
    t.reg (PW + 0x1C) = BitVec.ofNat 32 (s.fld PW 27 24 + 16 + 2 * 256))) ∧
  (∀ s : State, s.power = 2 → s.heading 0 = true → s.standbyAll false = true →
    Completes .a2ExitComplete s (fun t => t.power = 0 ∧ t.fld PW 11 8 = 2 ∧ t.flag PW 7 = false)) ∧
  (∀ (s : State) (v : Bool), s.power = 3 → s.heading 0 = true → s.sqState = 2 → s.channelsSettled = true → s.fld PW 19 16 ≠ 8 →
    exec (.a3ExitComplete v) s = .next (s.a3Restore v)) ∧
  (∀ (s : State) (v : Bool), s.power = 3 → s.heading 0 = true → s.sqState = 2 → s.channelsSettled = true → s.fld PW 19 16 = 8 → s.areaErasing = false →
    Completes (.a3ExitComplete v) s (fun t => ∃ u w : State, u = (State.persist64 { s with wb := { s.wb with tablesSaved := false } } (WP + 0x30)
      (s.reg64 (WP + 0x30) + 1)).recomputeX.arrive 0 ∧ w = State.putG { u with qs := { u.qs with gNew := u.capG } } u.capG ∧ t = w.copyWaiting)) ∧
  (∀ s : State, Completes .vddAonLow s (fun t => t.power = 4 ∧ t.host.corrected = 0 ∧ t.sd.queue = [] ∧ t.pins.sqEn = 0)) ∧
  (∀ s : State, Completes .vddAonRemoved s (fun t => t.pins.thermtripLow = false ∧ t.flag (TH + 4) 31 = false)) ∧
  (∀ s : State, Completes .coldPowerOn s (fun t => t = State.tryPowerUp (let u := s.supplyLost.setFld PW 3 0 4; { u with pw := { u.pw with after := .coldOn } }))) ∧
  (∀ (s : State) (b : Byte) (pages : List Nat), s.power = 4 → s.heading 0 = true → s.recalled = false →
    Completes (.strapLatch ⟨b, pages⟩) s (fun t => t.pins.strap = b ∧ t.sd.unread = pages ∧ t.reg (GLB + 8) = BitVec.ofNat 32 b.toNat ∧ t.flag CP 27 = b.toNat.testBit 7)) ∧
  (∀ s : State, s.power = 4 → s.heading 0 = true → s.recalled = false →
    exec .seedRecallComplete s = .next s.recallEnd.beginUp) ∧
  (∀ s : State, s.power ≠ 4 → exec .glbRstWarm s = .next (s.enterOff (.warm 2)) ∧ exec .glbRstCold s = .next (s.cutOff (.coldRestart 3)))

/-- Sensors, trips and the thermal timers complete (06: R166; 16: R425 to R435). -/
def Obligations.ThermalCommands : Prop :=
  (∀ (s : State) (rs : List (Int × Bool)), s.power < 3 → exec (.ondieSensorRead rs) s = .next ((List.range 32).foldl State.showTs
    (s.readings (((List.range 32).zip rs).map (fun (x : Nat × (Int × Bool)) => (x.1, x.2.1, x.2.2)))))) ∧
  (∀ (s : State) (k : Nat) (v : Int) (b : Bool), k < 2 → s.power < 3 → exec (.remoteDiodeRead k v b) s = .next (s.readings [(0x400 + k, v, b)])) ∧
  (∀ (s : State) (k : Nat) (v : Int) (b : Bool), k < 2 → 3 ≤ s.power → exec (.remoteDiodeRead k v b) s = .next s) ∧
  (∀ (s : State) (vs : List Int) (rs : List (Nat × Int)), 3 ≤ s.power →
    rs = (((List.range 8).zip vs).map (fun (x : Nat × Int) => (24 + x.1, x.2))).filter (fun (x : Nat × Int) => !s.sensorAbsent x.1) →
    exec (.aonSensorRead vs) s = .next (rs.foldl (fun (t : State) x => t.tripCheck x.1) (rs.foldl (fun (t : State) x => t.sense x.1 x.2) s))) ∧
  (∀ (s : State) (c tag : Nat) (q : MCmd) (ds : List Int) (hub : Int), s.Answers c tag [.temp] q →
    exec (.tempResponse c tag .dieFailed ds hub) s = .next (((s.handBack c tag).dieStatus c (addrDie q.addr)).settle c)) ∧
  (∀ (s : State) (c tag : Nat) (q : MCmd) (ds : List Int) (hub : Int), s.Answers c tag [.temp] q →
    Completes (.tempResponse c tag .success ds hub) s (fun t => ∃ h u v : State, h = s.handBack c tag ∧
      u = State.readings { h with th := { h.th with tempTick := Tbl.put h.th.tempTick c h.tb.tick } } ((0x100 + c, hub, decide (hub ≤ -128) || decide (127 ≤ hub)) ::
        ((List.range 8).zip ds).map (fun (x : Nat × Int) => (0x200 + 8 * c + x.1, x.2, decide (x.2 ≤ -128) || decide (127 ≤ x.2)))) ∧
      v.regs = u.regs ∧ v.th = u.th ∧ v.media = u.media ∧ t = (v.configDone c).settle c)) ∧
  (∀ (s : State) (c : Nat), c < 40 → s.power < 3 → s.sensorAbsent (0x100 + c) = false →
    (Tbl.find s.th.tempTick c).getD 0 + (if s.power = 2 then 120000000 else 10000) ≤ s.tb.tick →
    exec (.tempMissingTimeout c) s = .next (((((0x100 + c) :: (List.range 8).map (fun d => 0x200 + 8 * c + d)).foldl (fun (t : State) i =>
      (if (t.sensor i).isNone then t.setSensor i (Sensor.fresh t.tb.tick 0) else t).judge i true) s).showBroken).thermalUpdate)) ∧
  (∀ (s : State) (g z : Nat), g < 6 → Tbl.find s.th.rateHold g = some z → z ≤ s.tb.tick →
    exec (.rateHoldExpire g) s = .next (State.thermalUpdate { s with th := { s.th with rateHold := Tbl.del s.th.rateHold g } })) ∧
  (∀ s : State, 3 ≤ s.thLevel → Completes .bgLevelTimer s (fun t => t.bgLevel = 7)) ∧
  (∀ s : State, s.thLevel = 2 → s.bgLevel < 7 → s.th.bgAt + 100000 ≤ s.tb.tick → Completes .bgLevelTimer s (fun t => t.bgLevel = s.bgLevel + 1)) ∧
  (∀ s : State, s.thLevel < 2 → s.th.bgAt + 1000000 ≤ s.tb.tick → Completes .bgLevelTimer s (fun t => t.bgLevel = s.bgLevel - 1)) ∧
  (∀ s : State, s.thRequest = true → 2 ≤ s.thLevel → s.th.requestAt + s.fld TH 23 16 * 10000 ≤ s.tb.tick → exec .graceExpire s = .next s.endGrace) ∧
  (∀ s : State, 2 ≤ s.thLevel → s.th.graceEnd = true → s.th.stepAt + s.fld TH 15 8 * 10000 ≤ s.tb.tick → Completes .stepRiseTimer s (fun t => t.thStep = min 7 (s.thStep + 1))) ∧
  (∀ s : State, s.thLevel < 2 → s.th.stepAt + s.fld TH 7 0 * 100000 ≤ s.tb.tick → Completes .stepFallTimer s (fun t => t.thStep = s.thStep - 1)) ∧
  (∀ s : State, exec .comparatorTrip s = .next (s.trip none))

/-- The post mailboxes and Lark's own events complete (13: R344, R348 to R355, R360, R365 to R369; 18: R466). -/
def Obligations.MailboxCommands : Prop :=
  (∀ (s : State) (who : Requester) (k : Nat) (v : Word), k < 40 → s.mailboxesUp = true → mailboxOf who k = true → s.inFull k = false →
    Completes (.cpInTagWrite who k v) s (fun t => t = s.post k v ∧ t.reg (mbOff k + 8) = v ∧ t.inFull k = true ∧ t.flag (mbOff k + 0x24) 0 = true)) ∧
  (∀ (s : State) (k : Nat) (v : Word), k < 32 → s.mailboxesUp = true → s.inFull k = true →
    Completes (.cpInTagWrite (.host k) k v) s (fun t => t.reg (mbOff k + 8) = s.reg (mbOff k + 8) ∧ t.flag (mbOff k + 0x0C) 1 = true ∧
      t.fld (CP + 0x20) 15 0 = satAdd (s.fld (CP + 0x20) 15 0) 1 (2 ^ 16 - 1) ∧ t.out = .advisoryNonFatal (s.portOf (.host k)) :: s.out)) ∧
  (∀ (s : State) (k : Nat) (x : Nat × Word), k < 40 → s.mailboxesUp = true → s.lark.kept.find? (fun y => decide (y.1 = k)) = some x → s.inFull k = false →
    Completes (.internalNoticeRetry k) s (fun t => t.reg (mbOff k + 8) = x.2 ∧ t.inFull k = true ∧ t.lark.kept = s.lark.kept.erase x)) ∧
  (∀ (s : State) (who : Requester) (k : Nat), k < 40 → s.mailboxesUp = true → mailboxOf who k = true → s.outFull k = true →
    Completes (.cpOutRelease who k) s (fun t => t.outFull k = false ∧ t.flag (mbOff k + 0x24) 1 = true ∧ t.lark = s.lark)) ∧
  (∀ (s : State) (who : Requester) (k : Nat) (v : Word), k < 40 → s.mailboxesUp = true → mailboxOf who k = true →
    exec (.doorbellSet who k v) s = .next (s.setReg (mbOff k + 0x24) (s.reg (mbOff k + 0x24) ||| (v &&& 3)))) ∧
  (∀ (s t : State) (e : Nat), e < 64 → s.larkUp = true → s.Takes 0x12 e t →
    exec (.larkDoorbell e) s = .next ((t.timedDoorbells e).endEntry e)) ∧
  (∀ (s : State) (k : Nat) (bytes : List Byte), s.mailboxesUp = true → s.flag CP 31 = true → s.flag CP 28 = false → s.lark.taken = none →
    s.nextMailbox = some k → exec (.larkTakeCommand bytes) s = .next (s.takeFrom k bytes)) ∧
  (∀ (s : State) (k : Nat) (bytes m : List Byte), s.mailboxesUp = true → s.flag CP 31 = true → s.flag CP 30 = false → s.flag CP 28 = false →
    s.lark.taken = none → s.nextMailbox = some k → k < 34 → s.message k (BitVec.ofNat 64 (s.reg64 (mbOff k))) bytes = some m →
    s.lark.longOp = none → s.wb.recovered = true → msgNat m 0 1 = 3 → msgNat m 4 4 % 4 = 0 → 32 + msgNat m 4 4 + 16 ≤ msgNat m 8 4 →
    msgNat m 2 2 ∈ [0x0001, 0x0002, 0x0003, 0x0004] →
    Completes (.larkTakeCommand bytes) s (fun t => t.lark.taken = some (takenOf k (s.reg (mbOff k + 8)) (BitVec.ofNat 64 (s.reg64 (mbOff k))) m) ∧
      t.lark.lastMb = k ∧ t.inFull k = false)) ∧
  (∀ (s : State) (k : Nat), k < 40 → (∀ x ∈ s.lark.lockout, x.1 = k → x.2 + 1000000 ≤ s.tb.tick) →
    Completes (.authLockoutExpire k) s (fun t => k ∉ t.lark.lockout.map Prod.fst ∧ (∀ x : Nat × Nat, x.1 ≠ k → (x ∈ t.lark.lockout ↔ x ∈ s.lark.lockout)) ∧
    t.regs = s.regs)) ∧
  (∀ (s : State) (k at0 : Nat), k < 40 → (k, at0) ∈ s.lark.lockout → s.tb.tick < at0 + 1000000 →
    Completes (.authLockoutExpire k) s (fun t => (k, at0) ∈ t.lark.lockout ∧ t.regs = s.regs)) ∧
  (∀ (s : State) (l : LongOp) (r : Nat), s.lark.longOp = some l → s.longDone l = true → l.opcode ≠ 0x0702 →
    Completes (.longOperationEnd r) s (fun t => t = s.endLong r ∧ t.lark.longOp = none ∧ t.flag CP 29 = false ∧ t.fld (CP + 8) 15 14 = if r % 256 = 0 then 2 else 3)) ∧
  (∀ (s : State) (l : LongOp) (r : Nat), s.lark.longOp = some l → l.opcode = 0x0702 → s.sw.migState = 1 → r % 256 ≠ 0 →
    exec (.longOperationEnd r) s = .next ((s.migFail).endLong r)) ∧
  (∀ s : State, s.mailboxesUp = true → s.lark.fwRunning = true → Completes .larkWatchdogExpire s (fun t => t.lark.fwRunning = false ∧ t.lark.taken = none ∧
    t.flag CP 31 = false ∧ (t.reg (GLB + 0x104)).toNat = 6 + 1 * 256)) ∧
  (∀ s : State, s.mailboxesUp = true → Completes .glbRstControl s (fun t => t.lark.fwRunning = false ∧ t.lark.taken = none ∧
    t.flag CP 31 = false ∧ (t.reg (GLB + 0x104)).toNat = 6 + 2 * 256)) ∧
  (∀ (s u : State) (b : Bool), s.sqState = 2 → s.regsUp = true → s.lark.fwRunning = false → s.flag CP 30 = false → s.chooseSlot = (some b, u) →
    exec .larkStart s = .next (u.bootFrom b)) ∧
  (∀ (s u : State), s.sqState = 2 → s.regsUp = true → s.lark.fwRunning = false → s.flag CP 30 = false → s.chooseSlot = (none, u) →
    Completes .larkStart s (fun t => t.flag CP 30 = true ∧ t.lark.fwRunning = u.lark.fwRunning)) ∧
  (∀ (s : State) (a : Activation), s.lark.act = some a →
    Completes (.activationImageReady true) s (fun t => t = s.activated a ∧ t.lark.act = none ∧ t.lark.longOp = none) ∧
    Completes (.activationImageReady false) s (fun t => t = s.abandon a ∧ t.lark.act = none ∧ t.lark.longOp = none)) ∧
  (∀ (s : State) (a : Activation), s.lark.act = some a → a.start + 2000000 ≤ s.tb.tick →
    Completes .activationTimeout s (fun t => t = s.abandon a ∧ t.lark.act = none ∧ t.slotRuns = s.slotRuns)) ∧
  (∀ (s : State) (a : Activation), s.lark.act = some a → s.tb.tick < a.start + 2000000 → exec .activationTimeout s = .next s)

/-- The VCS commands that read, make or change domains, keys and delegates complete (13: R351 to R363; 10: R289, R293; 11: R300, R302; 14: R395). -/
def Obligations.VcsDomainCommands : Prop :=
  (∀ (s : State) (c : Taken), s.Executes c 0x0001 → exec .vcsIdentify s = .next (s.concluded c 0 0
    (leBytes 4 3 ++ leBytes 4 (s.reg (CP + 0x10)).toNat ++ leBytes 4 (s.reg (CP + 0x14)).toNat ++ leBytes 8 Config.uid.toNat ++ leBytes 4 s.presence))) ∧
  (∀ (s : State) (c : Taken) (a : Nat), s.Executes c 0x0002 → a < 9 → exec (.getCounter a) s = .next (s.concluded c 0 0 (leBytes 8 (s.counter a)))) ∧
  (∀ (s : State) (c : Taken), s.Executes c 0x0003 → exec .getProgress s = .next (s.concluded c 0 0
    (leBytes 4 (s.reg (CP + 8)).toNat ++ leBytes 4 (s.reg (CP + 0xC)).toNat))) ∧
  (∀ (s : State) (c : Taken), s.Executes c 0x0004 → s.fitsIn c (8 * s.lark.notices.length) = true →
    Completes .getNotices s (fun t => t.lark.notices = [] ∧ t.lark.taken = none)) ∧
  (∀ (s u : State) (c : Taken), s.Executes c 0x0101 → domainBad c.payload = none → s.ldScope c (domainOf c.payload).ld = true →
    s.createDomain (domainOf c.payload) = (0, u) → exec .createDomain s = .next (u.concluded c 0 0 [])) ∧
  (∀ (s u : State) (c : Taken) (n : Nat), s.Executes c 0x0101 → domainBad c.payload = none → s.ldScope c (domainOf c.payload).ld = true →
    s.createDomain (domainOf c.payload) = (n + 1, u) → exec .createDomain s = .next (u.concluded c 4 (n + 1) [])) ∧
  (∀ (s : State) (c : Taken) (d : Nat), s.Executes c 0x0102 → d < 4096 → s.domValid d = true → s.ldScope c (s.domLd d) = true → s.extentAccepted d = false →
    exec (.deleteDomain d) s = .next ((s.deleteDomain d).concluded c 0 0 [])) ∧
  (∀ (s : State) (c : Taken) (d : Nat), s.Executes c 0x0102 → d < 4096 → s.domValid d = true → s.ldScope c (s.domLd d) = true → s.extentAccepted d = true →
    exec (.deleteDomain d) s = .next (s.concluded c 4 334 [])) ∧
  (∀ (s u : State) (c : Taken) (d : Nat) (x : DomainChange), s.Executes c 0x0103 → d < 4096 → s.domValid d = true → s.ldScope c (s.domLd d) = true →
    s.modifyDomain d x = (0, u) → exec (.modifyDomain d x) s = .next (u.concluded c 0 0 [])) ∧
  (∀ (s u : State) (c : Taken) (plan : List DomainSpec) (k : Nat), s.Executes c 0x0104 → s.createAll plan = ((0, k), u) →
    exec (.loadDomainPlan plan) s = .next (u.concluded c 0 0 [])) ∧
  (∀ (s : State) (c : Taken), s.Executes c 0x0105 → 32 ≤ c.mb → exec .listDomains s = .next (s.concluded c 0 0
    ((s.validDoms.map (fun d => leBytes 4 (s.reg (QD + d * 0x20)).toNat)).flatten))) ∧
  (∀ (s : State) (c : Taken), s.Executes c 0x0105 → c.mb < 32 → exec .listDomains s = .next (s.concluded c 0 0
    (((s.validDoms.filter (fun d => decide (s.domLd d = c.mb))).map (fun d => leBytes 4 (s.reg (QD + d * 0x20)).toNat)).flatten))) ∧
  (∀ (s : State) (c : Taken) (d : Nat), s.Executes c 0x0201 → d < 4096 → s.domValid d = true → s.ldScope c (s.domLd d) = true → s.snapsOf d = [] →
    s.gx.rotation = none → exec (.rotateDomainKey d) s = .next (((s.beginRotation d false).beginLong 0x0201 c.mb c.authority d).concluded c 0x0A 0 [])) ∧
  (∀ (s : State) (c : Taken) (d : Nat), s.Executes c 0x0201 → d < 4096 → s.domValid d = true → s.ldScope c (s.domLd d) = true → s.snapsOf d ≠ [] →
    exec (.rotateDomainKey d) s = .next (s.concluded c 4 395 [])) ∧
  (∀ (s : State) (c : Taken) (d : Nat), s.Executes c 0x0202 → d < 4096 → exec (.clearQuarantine d) s = .next
    (((s.persist (gxDom d) (putBits (s.reg (gxDom d)) 31 31 0)).setFld (gxDom d) 15 0 0).concluded c 0 0 [])) ∧
  (∀ (s u : State) (c : Taken) (i : Nat) (key : List Byte) (g l : Word), s.Executes c 0x0203 → 1 ≤ i → i ≤ 8 → key.length = 32 → s.freshPlace i = some u →
    exec (.setDelegate i key g l) s = .next ((u.installKey i key g l).concluded c 0 0 [])) ∧
  (∀ (s : State) (c : Taken) (i : Nat), s.Executes c 0x0204 → 1 ≤ i → i ≤ 8 → exec (.revokeDelegate i) s = .next
    ((({ s with lark := { s.lark with auths := Tbl.put s.lark.auths i Authority.absent } }).setLock i true).concluded c 0 0 [])) ∧
  (∀ (s u : State) (c : Taken) (i : Nat) (key : List Byte), s.Executes c 0x0205 → i ≤ 8 → key.length = 32 → s.flag CP 27 = true → s.freshPlace i = some u →
    exec (.rekeyAuthority i key) s = .next
      (((u.installKey i key (s.auth i).groups (s.auth i).lds).event 0xB204 c.mb none c.mb i).concluded c 0 0 [])) ∧
  (∀ (s : State) (c : Taken) (i : Nat) (key : List Byte), s.Executes c 0x0205 → 1 ≤ i → i ≤ 8 → key.length = 32 → s.flag CP 27 = false →
    exec (.rekeyAuthority i key) s = .next (s.concluded c 4 363 []))

/-- The VCS commands over media, Rick, the time base and the schedule complete (01: R27; 02: R44 to R53, R512; 03: R515; 09: R246, R256; 13: R355). -/
def Obligations.VcsMediaTimeCommands : Prop :=
  (∀ (s : State) (c : Taken) (u : Nat), s.Executes c 0x0301 → s.usableOk u = true →
    exec (.mediaReformatting u) s = .next (((s.format u).beginLong 0x0301 c.mb c.authority u).concluded c 0x0A 0 [])) ∧
  (∀ (s : State) (c : Taken) (u : Nat), s.Executes c 0x0301 → s.usableOk u = false → exec (.mediaReformatting u) s = .next (s.concluded c 4 27 [])) ∧
  (∀ (s : State) (c : Taken), s.Executes c 0x0302 →
    exec .overwriteSanitize s = .next ((s.beginLong 0x0302 c.mb c.authority 0).concluded c 0x0A 0 [])) ∧
  (∀ (s : State) (c : Taken) (k : Nat) (v : Bool), s.Executes c 0x0303 → k < 40 → exec (.setChannelDisable k v) s = .next
    (((s.persistFld (MC + k * 0x1000) 30 30 (if v then 1 else 0)).persistDone (MC + k * 0x1000) (s.reg (MC + k * 0x1000))).concluded c 0 0 [])) ∧
  (∀ (s : State) (c : Taken) (op n : Nat) (key : DWord), s.Executes c 0x0401 → op ≤ 4 → 1 ≤ n → n ≤ 65536 → key.toNat < 2 ^ 39 → s.flag (RK + 0x3C) 31 = false →
    exec (.rickMaintenance op n key) s = .next
      ((State.maintPump n (s.maintGo op key.toNat n)).concluded c 0 0 (leBytes 4 ((State.maintPump n (s.maintGo op key.toNat n)).reg (RK + 0x3C)).toNat))) ∧
  (∀ (s : State) (c : Taken) (op n : Nat) (key : DWord), s.Executes c 0x0401 → op ≤ 4 → 1 ≤ n → n ≤ 65536 → key.toNat < 2 ^ 39 → s.flag (RK + 0x3C) 31 = true →
    exec (.rickMaintenance op n key) s = .next ((s.setBit (RK + 0x3C) 30 true).concluded c 4 256 [])) ∧
  (∀ (s : State) (c : Taken) (n : Nat), s.Executes c 0x0402 → 4 ≤ n → n ≤ 64 → exec (.setCommonsSize n) s = .next ((s.persistFld RK 6 0 n).concluded c 0 0 [])) ∧
  (∀ (s : State) (c : Taken), s.Executes c 0x0501 → s.flag TB 11 = true → exec .confirmBackwardStep s = .next (s.stepBack.concluded c 0 0 [])) ∧
  (∀ (s : State) (c : Taken), s.Executes c 0x0501 → s.flag TB 11 = false → exec .confirmBackwardStep s = .next (s.concluded c 4 44 [])) ∧
  (∀ (s : State) (c : Taken), s.Executes c 0x0502 → s.flag TB 11 = true →
    Completes .discardBackwardStep s (fun t => t.flag TB 11 = false ∧ t.reg64 (TB + 0x1C) = 0 ∧ t.tb.ztime = s.tb.ztime ∧ t.tb.ignoring = true)) ∧
  (∀ (s : State) (c : Taken) (e : Nat) (ctl period window : Word) (phase : DWord), s.Executes c 0x0503 → e < 64 → bits ctl 7 0 ≤ 0x12 →
    (s.schedPut e ctl period window phase).schedValid e = true →
    exec (.writeScheduleEntry e ctl period window phase) s = .next ((State.schedChanged s (s.schedPut e ctl period window phase) e).concluded c 0 0 [])) ∧
  (∀ (s : State) (c : Taken), s.Executes c 0x0504 → Completes .saveSchedule s (fun t => ∃ words, t.sd.schedule = some words ∧ words.length = 63 * 5 ∧
    ∀ e, 1 ≤ e → e < 64 → (schedOff e + 4, s.reg (schedOff e + 4)) ∈ words ∧ (schedOff e, s.reg (schedOff e) &&& 0xE00000FF) ∈ words)) ∧
  (∀ (s : State) (c : Taken) (n : Nat) (v : Word), s.Executes c 0x0505 → n < 16 → bits v 29 24 ≤ 35 →
    exec (.setTimedDoorbell n v) s = .next ((s.plainWrite .lark (CP + 0x40 + 4 * n) v).concluded c 0 0 []))

/-- The VCS commands over images, mirroring, cuts, power, telemetry and persistent fields complete (13: R341, R346, R367; 14: R383, R388 to R400; 15: R404, R415;
17: R445, R455; 20: R508; 18: R473). -/
def Obligations.VcsSystemCommands : Prop :=
  (∀ (s : State) (c : Taken) (off : Nat) (b : List Byte), s.Executes c 0x0601 → off + b.length ≤ 0x100000 →
    Completes (.transferImageChunk off b) s (fun t => (t.slotOf (!s.slotRuns)).factory = false ∧
      (t.slotOf (!s.slotRuns)).bytes = (s.slotOf (!s.slotRuns)).bytes.writeBytes off b ∧ t.slotOf s.slotRuns = s.slotOf s.slotRuns)) ∧
  (∀ (s : State) (c : Taken), s.Executes c 0x0602 → (s.slotOf (!s.slotRuns)).good s.svnMin = true →
    (s.slotOf (!s.slotRuns)).handoffMin ≤ (s.slotOf s.slotRuns).handoff → s.flushing = false → s.wb.recovered = true →
    Completes .activateInactiveSlot s (fun t => (∃ a, t.lark.act = some a ∧ a.step = 1 ∧ a.version = (s.slotOf (!s.slotRuns)).version) ∧
      t.lark.longOp = some ⟨0x0602, c.mb, c.authority, 0⟩)) ∧
  (∀ (s : State) (c : Taken), s.Executes c 0x0602 → (s.slotOf (!s.slotRuns)).good s.svnMin = false → exec .activateInactiveSlot s = .next (s.concluded c 4 367 [])) ∧
  (∀ (s : State) (c : Taken), s.Executes c 0x0603 → exec .raiseSvnMin s = .next
    ((State.showAlt (s.persistFld (CP + 0x18) 15 0 (max s.svnMin (s.slotOf s.slotRuns).svn))).concluded c 0 0 [])) ∧
  (∀ (s : State) (c : Taken) (uid : DWord), s.Executes c 0x0701 → s.bitmapTooBig = false → uid.toNat ≠ s.partnerUid →
    exec (.setMirrorPartner uid false false) s = .next ((s.namePartner uid).concluded c 0 0 [])) ∧
  (∀ (s : State) (c : Taken) (uid : DWord), s.Executes c 0x0701 → s.bitmapTooBig = false → uid.toNat = s.partnerUid →
    exec (.setMirrorPartner uid false false) s = .next (s.concluded c 0 0 []) ∧
    (s.mirrorState = 4 → s.leads = false → exec (.setMirrorPartner uid true false) s = .next (s.promote.concluded c 0 0 [])) ∧
    (s.leads = true → exec (.setMirrorPartner uid false true) s = .next (s.demote.concluded c 0 0 []))) ∧
  (∀ (s : State) (c : Taken) (d node dst ld dpa pool : Nat), s.Executes c 0x0702 → d < 4096 → s.domValid d = true → node < 256 → node ≠ s.nodeId → dst < 4096 →
    ld < 32 → s.domMirror d = false → s.migActive = false →
    Completes (.startLiveDomainMigration d node dst ld dpa pool none) s (fun t => t.sw.migState = 1 ∧ t.sw.migDom = d ∧ t.sw.migNode = node ∧ t.sw.migDst = dst ∧
      t.sw.migSource = true ∧ t.lark.longOp = some ⟨0x0702, c.mb, c.authority, d⟩)) ∧
  (∀ (s : State) (c : Taken) (x : CutSpec), s.Executes c 0x0703 → x.pairs.length ≤ 64 → (∀ p ∈ x.pairs, p.1 < 256 ∧ p.2 < 4096) → s.cutLead ≤ x.at_ → s.swState ≠ 1 →
    exec (.armSnapshotOrResetCut x) s = .next
      (((s.installCut x s.nodeId).otherNodes.foldl (fun (u : State) n => u.sendPeer n 0x0713 (armVals x)) (s.installCut x s.nodeId)).concluded c 0 0 [])) ∧
  (∀ (s u : State) (c : Taken) (x : Nat), s.Executes c 0x0801 → s.requestState x = (0, u) →
    exec (.requestPowerState false x) s = .next (u.concluded c 0 0 [])) ∧
  (∀ (s : State) (x : Nat), exec (.requestPowerState true x) s = .next (s.sideband x)) ∧
  (∀ (s : State) (c : Taken), s.Executes c 0x0901 →
    exec .clearEventRecorder s = .next (((({ s with ev := { s.ev with staging := [], ring := [], archive := [] } } : State)).event 0xF101 0 none
      (min ((s.heldRecords.map (fun e => e.seq)).eraseDups).length (2 ^ 32 - 1)) (c.mb + c.authority % 16 * 256)).concluded c 0 0 [])) ∧
  (∀ (s : State) (c : Taken), s.Executes c 0x0902 →
    Completes .flushMeterStream s (fun t => t.mt.units = [] ∧ t.mt.tail = 0 ∧ t.lark.taken = none)) ∧
  (∀ (s : State) (c : Taken) (o : Nat) (mask v : Word), s.Executes c 0x0A01 → c.payload.length = 20 → msgNat c.payload 0 4 = o → rwaHere o = true →
    o = TH + 0x60 ∨ o = TH + 0x64 ∨ o = TH + 0x68 → BitVec.ofNat 32 (msgNat c.payload 4 4) = mask → mask &&& ~~~ rwaMask o = 0 →
    BitVec.ofNat 32 (msgNat c.payload 8 4) = v → msgNat c.payload 12 4 = 0 → s.seedOpen o = true →
    exec .writeRwaField s = .next (((s.persist o (rwaWord o (s.reg o) mask v)).rwaDone o v).concluded c 0 0 [])) ∧
  (∀ (s : State) (c : Taken) (l : List (Nat × Word)), s.Executes c 0x0A02 → l.length ≤ 2048 →
    Completes (.saveControlProfile l) s (fun t => t.sd.profile = l ∧ t.sd.profileLost = false ∧ t.fld (CP + 0x30) 11 0 = l.length)) ∧
  (∀ (s : State) (c : Taken) (off n : Nat), s.Executes c 0x0A03 → off + n ≤ 65536 → n % 4 = 0 →
    exec (.readOwnerDataArea off n) s = .next (s.concluded c 0 0 (s.sd.ownerData.readBytes off n))) ∧
  (∀ (s : State) (c : Taken) (off : Nat) (b : List Byte), s.Executes c 0x0A04 → b.length ≤ 4096 → off + b.length ≤ 65536 →
    exec (.writeOwnerDataArea off b) s = .next ((s.queueSeed (.ownerData off b)).concluded c 0 0 [])) ∧
  (∀ (s : State) (c : Taken), s.Executes c 0x0B01 → Completes .fmApiTunnel s (fun t => ∃ b u, b.length = 8 ∧ u.regs = s.regs ∧ t = State.concluded u c 0 0 b)) ∧
  (∀ (s : State) (c : Taken) (op : Nat), s.Executes c op → op ∉ vcsOpcodes → peerOpcode op = false →
    exec .vcsUnsupportedOpcode s = .next (s.concluded c 2 0 []))

/-- The Sward links and the formation of the fabric complete (14: R371 to R381). -/
def Obligations.FabricCommands : Prop :=
  (∀ (s : State) (p : Nat), p < 8 → s.sqState = 2 → s.flag SW (16 + p) = true → (Tbl.find s.gx.chains 1).isSome = true → p ∉ s.sw.held → s.flag (portOff p) 0 = false →
    Completes (.swardLinkUp p) s (fun t => t.flag (portOff p) 0 = true ∧ t.swPort p = SwPort.fresh ∧ t.out = s.out)) ∧
  (∀ (s : State) (p : Nat), p < 8 → s.flag (portOff p) 0 = true → exec (.swardLinkDown p) s = .next (s.swDown p false)) ∧
  (∀ (s : State) (p : Nat), p < 8 → s.flag (portOff p) 0 = true → s.flag SW 31 = true →
    exec (.swardLinkSession p true) s = .next ((s.setBit (portOff p) 1 true).sendHello p)) ∧
  (∀ (s : State) (p : Nat), p < 8 → s.flag (portOff p) 0 = true →
    exec (.swardLinkSession p false) s = .next (((s.swDown p true).bump (SW + 0x804) 31 0 1).event 0xC103 p none p 0)) ∧
  (∀ (s : State) (p : Nat) (uid partner : DWord) (l : Bool), p < 6 → s.flag (portOff p) 0 = true → s.flag (portOff p) 1 = true → s.flag SW 31 = true →
    uid.toNat ≠ s.partnerUid →
    exec (.swardHello p (if p % 2 = 0 then p + 1 else p - 1) (s.fld SW 15 0) uid partner l) s = .next
      (((s.setSwPort p { s.swPort p with peerUid := uid, peerPort := if p % 2 = 0 then p + 1 else p - 1, helloOk := true }).setFld (portOff p) 18 16
        (if p % 2 = 0 then p + 1 else p - 1)).reform)) ∧
  (∀ (s : State) (p q f : Nat) (uid partner : DWord) (l : Bool), p < 8 → s.flag (portOff p) 0 = true → s.flag (portOff p) 1 = true → s.flag SW 31 = true →
    f ≠ s.fld SW 15 0 → exec (.swardHello p q f uid partner l) s = .next ((s.swDown p true).event 0xC103 p none p 0)) ∧
  (∀ (s : State) (p : Nat), p < 8 → s.flag (portOff p) 0 = true → (s.swPort p).replays < 7 →
    Completes (.swardReplayTimeout p) s (fun t => (t.swPort p).replays = (s.swPort p).replays + 1 ∧ t.out = s.out ∧ t.sw.sends = s.sw.sends)) ∧
  (∀ (s : State) (p : Nat), p < 8 → s.flag (portOff p) 0 = true → (s.swPort p).replays = 7 →
    exec (.swardReplayTimeout p) s = .next (((s.count 9 0xB8 8 1).swRetrain p).event 0xC101 p none p 0)) ∧
  (∀ (s : State) (p : Nat), p < 8 → (s.swPort p).replays = 8 →
    exec (.swardRetrainTimeout p) s = .next ((s.setSwPort p { s.swPort p with replays := 0 }).swDown p false)) ∧
  (∀ (s : State) (p : Nat), p < 8 → s.flag (portOff p) 1 = true → exec (.swardKeyUpdateCount p) s = .next (s.sendOn p 2 msgKeyUpdate [])) ∧
  (∀ (s : State) (p : Nat) (uid : DWord), p < 8 → s.flag SW 31 = true → s.swUp p = true → s.swState = 1 → uid.toNat < s.sw.lowUid.toNat →
    Completes (.formationUidFlood p uid) s (fun t => t.sw.lowUid = uid ∧ t.sw.rootPort = some p ∧ t.reg64 (SW + 0xC) = uid.toNat ∧ t.swState = 1 ∧
      t.flag (SW + 8) 28 = false)) ∧
  (∀ (s : State) (p : Nat) (uid : DWord), p < 8 → s.flag SW 31 = true → s.swUp p = true → s.swState = 1 → s.sw.lowUid.toNat ≤ uid.toNat →
    exec (.formationUidFlood p uid) s = .next s) ∧
  (∀ (s : State) (ls : List LinkRep), s.swState = 1 → s.sw.lowUid = Config.uid →
    Completes (.formationLinkReport ls) s (fun t => ∃ u : State, t = u.formTry ∧ u.regs = s.regs ∧
      u.sw.links = s.sw.links.filter (fun (l : LinkRep) => !ls.any (fun (x : LinkRep) => decide (x.uidA = l.uidA))) ++ ls)) ∧
  (∀ (s : State) (id m1 : Nat) (ext tree : List Nat) (w : Bool) (ids : List (DWord × Nat)) (rows : List (Nat × Word)), s.swState = 1 → s.sw.lowUid ≠ Config.uid →
    id < 256 → exec (.routingTables id m1 ext w tree ids rows) s = .next (s.formed id m1 ext w tree ids rows)) ∧
  (∀ (s : State) (dest msg : Nat) (x : Sending), s.sw.sends.find? (fun y => decide (y.dest = dest) && decide (y.msg = msg)) = some x →
    x.tick + 100 ≤ s.tb.tick → (Tbl.find s.sw.peerBusy msg).isSome = false → x.times < 8 →
    exec (.endToEndResend dest msg) s = .next ((((s.setSends dest msg (x.times + 1)).bump (SW + 0x808) 31 0 1).count 9 0xBD 8 1).sendAgain dest msg)) ∧
  (∀ (s : State) (dest msg : Nat) (x : Sending), s.sw.sends.find? (fun y => decide (y.dest = dest) && decide (y.msg = msg)) = some x →
    x.tick + 100 ≤ s.tb.tick → (Tbl.find s.sw.peerBusy msg).isSome = false → 8 ≤ x.times →
    exec (.endToEndResend dest msg) s = .next (s.unreachable dest msg)) ∧
  (∀ (s : State) (p d : Nat), p < 8 → s.swUp p = true →
    Completes (.linkDelayExchange p d) s (fun t => (t.swPort p).delayNs = d ∧ (t.swPort p).peerUid = (s.swPort p).peerUid ∧ t.regs = s.regs)) ∧
  (∀ (s : State) (p hops master ann : Nat) (z leap : Int), p < 8 → s.swState = 2 → s.swUp p = true → s.source ≠ 2 →
    Completes (.fabricTimeMessage p z leap ann hops master) s (fun t => t.tb.fabricTick = some s.tb.tick ∧ t.tb.primarySeen = true ∧
      t.flag (SW + 8) 26 = true ∧ t.flag (SW + 8) 27 = false ∧ (t.reg (SW + 0x30)).toNat = master % 256 + min hops 15 * 256))

/-- Mirroring, live migration, the peers' commands, the global operations and the cuts complete (14: R382 to R401). -/
def Obligations.MirrorCommands : Prop :=
  (∀ (s : State) (r : MirrorRec), (r.seq < migBase ∨ s.sw.migSource = false) → s.admitting = true → s.mirrorRole r.dom = .leader → r.seq ∉ s.sw.fwdSeen →
    exec (.forwardedWrite r) s = .next (State.streamPump (State.count
      { s with sw := { s.sw with fwd := s.sw.fwd ++ [r], fwdSeen := s.sw.fwdSeen ++ [r.seq] } } 9 0xB4 8 1))) ∧
  (∀ (s : State) (r : MirrorRec), r.seq < migBase → s.admitting = true → s.domMirror r.dom = true → s.flag (SW + 0x1C) 27 = false → s.mirrorState = 2 →
    r.seq < s.sw.nextSeq → exec (.mirrorRecord r .none) s = .next ((s.count 9 0xB4 8 1).mirrorAckOut r.seq)) ∧
  (∀ (s : State) (r : MirrorRec), r.seq < migBase → s.admitting = true → s.domMirror r.dom = true → s.flag (SW + 0x1C) 27 = false → s.mirrorState = 2 →
    s.sw.nextSeq ≤ r.seq → (∀ x ∈ s.sw.early, x.seq ≠ r.seq) → exec (.mirrorRecord r .none) s = .next
      (State.streamPump { s.count 9 0xB4 8 1 with sw := { (s.count 9 0xB4 8 1).sw with early := s.sw.early ++ [r] } })) ∧
  (∀ (s : State) (q : Nat), s.host.reqs = [] → s.sw.resyncUnacked = [] → Completes (.mirrorAck q) s (fun t =>
    t.sw.outstanding = s.sw.outstanding.filter (fun r => ¬ r.seq = q) ∧ t.host = s.host ∧ t.out = s.out)) ∧
  (∀ (s : State) (r : Req) (q : Nat), s.host.reqs = [r] → r.st = .mirrorWait q → 0 < q → s.sw.resyncUnacked = [] → Completes (.mirrorAck q) s (fun t =>
    ∃ u : State, t.out = (u.finishWrite r 0).out ∧ u.host = s.host ∧ u.sw.outstanding = s.sw.outstanding.filter (fun x => ¬ x.seq = q) ∧ u.out = s.out)) ∧
  (∀ s : State, Completes (.keepalive false .plain) s (fun t => t.sw.lastKeepalive = s.tb.tick ∧ t.regs = s.regs ∧ t.sw.migState = s.sw.migState)) ∧
  (∀ s : State, s.sw.migSource = false → s.sw.migState = 1 → s.sw.migSnap = none → Completes (.keepalive true .synced) s (fun t => t.sw.migState = 2 ∧ t.regs = s.regs)) ∧
  (∀ s : State, s.sw.migSource = false → s.sw.migState = 2 → Completes (.keepalive true .gone) s (fun t => t.sw.migState = 0 ∧ t.regs = s.regs)) ∧
  (∀ s : State, s.mirrorState = 2 ∨ s.mirrorState = 5 → s.sw.lastKeepalive + 1000 ≤ s.tb.tick → exec .partnerLoss s = .next s.partnerLost) ∧
  (∀ s : State, s.mirrorState = 2 ∨ s.mirrorState = 5 → s.pairWaits = true → s.sw.lastAck + s.fld (SW + 4) 15 0 ≤ s.tb.tick →
    exec .partnerLoss s = .next s.partnerLost) ∧
  (∀ (s u : State) (m : Meas) (p d line : Nat) (v : List (Option Byte) × Bool), s.admitting = true → s.mirrorState ≠ 5 → s.sw.migSnap = none →
    (s.dirtyFrom (s.sw.resyncLine / 16384)).find? (fun x => s.copies x) = some p → s.domOfPlot p = some d → line = max s.sw.resyncLine (p * 16384) →
    u = State.readLine { s.chargeBg 4 with sw := { (s.chargeBg 4).sw with resyncLine := line + 1 } } line →
    u.quarantined d = false → u.bufferView line = some v → v.2 = false → bufferFull v = true →
    exec (.resyncStep m) s = .next (State.resyncSend u line d (bufferBytes v) false)) ∧
  (∀ (s : State) (op n : Nat) (x : Sending), s.sw.sends.find? (fun y => decide (y.msg = op)) = some x → x.tick + 10000 ≤ s.tb.tick →
    (Tbl.find s.sw.peerBusy op).getD 0 = n → n < 100 →
    exec (.peerBusyResend op) s = .next
      (State.sendTo (State.setSends { s with sw := { s.sw with peerBusy := Tbl.put s.sw.peerBusy op (n + 1) } } x.dest op x.times) x.dest 2 msgResend [op])) ∧
  (∀ (s : State) (d n size : Nat), d < 4096 → s.partnerNode = some n → s.swState = 2 → s.larkUp = true → s.lark.longOp = none → s.wb.recovered = true → s.domValid d = true →
    s.domMirror d = true → s.domSize d = size → Completes (.mirrorBind d size true false) s (fun t => ∃ u : State, t = u.pairTry ∧
      u.sw.confirmed = s.sw.confirmed.filter (fun x => ¬ x = d) ++ [d] ∧ u.sw.peerNames = true ∧ u.sw.peerLeads = false)) ∧
  (∀ (s u : State) (x : DomainSpec) (n code : Nat) (b : Bool), x.dom < 4096 → s.swState = 2 → s.larkUp = true → s.lark.longOp = none → s.wb.recovered = true →
    (s.count 9 0xB6 8 1).createDomain { x with mirror := false } = (code + 1, u) →
    exec (.prepareTarget x n b) s = .next (u.sendTo n 2 msgPeer [0x0712, 4, code + 1])) ∧
  (∀ (s u : State) (x : DomainSpec) (n : Nat), x.dom < 4096 → s.swState = 2 → s.larkUp = true → s.lark.longOp = none → s.wb.recovered = true →
    (s.count 9 0xB6 8 1).createDomain { x with mirror := false } = (0, u) →
    Completes (.prepareTarget x n false) s (fun t => t.sw.migState = 1 ∧ t.sw.migDom = x.dom ∧ t.sw.migNode = n ∧ t.sw.migSource = false)) ∧
  (∀ (s : State) (c : CutSpec) (o : Nat), o < 256 → s.larkUp = true → s.lark.longOp = none → s.wb.recovered = true → s.swState = 2 →
    exec (.peerArm c o) s = .next ((s.count 9 0xB6 8 1).installCut c o)) ∧
  (∀ (s : State) (c : CutSpec) (o : Nat), o < 256 → s.larkUp = true → s.swState = 1 →
    exec (.peerArm c o) s = .next { s with sw := { s.sw with armWait := s.sw.armWait ++ [(c, o)] } }) ∧
  (∀ (s : State) (n tag : Nat) (ok : Bool), n < 256 → s.swState = 2 → s.larkUp = true → s.lark.longOp = none → s.wb.recovered = true →
    Completes (.cutReport n tag ok) s (fun t => (n, tag, ok) ∈ t.sw.reports ∧ (∀ r ∈ s.sw.reports, ¬ (r.1 = n ∧ r.2.1 = tag) → r ∈ t.sw.reports))) ∧
  (∀ (s : State) (src left : Nat) (b : List Byte), s.swState = 2 → s.inOrder = true → exec (.broadcast src 8 left b) s = .next (s.spread3 0 src b)) ∧
  (∀ (s : State) (src left : Nat) (b : List Byte), s.swState = 2 → s.inOrder = false → s.flag (SW + 8) 28 = true →
    exec (.broadcast src 8 left b) s = .next (s.downTree src b)) ∧
  (∀ (s : State) (n k : Nat), n < 256 → s.swState = 2 → s.flag (SW + 8) 28 = true → s.larkUp = true → s.lark.longOp = none → s.wb.recovered = true →
    (s.sw.barrierArrived.filter (fun x => ¬ x = n)).length + 1 < k → Completes (.barrier n k false) s (fun t =>
      t.sw.barrierArrived = s.sw.barrierArrived.filter (fun x => ¬ x = n) ++ [n] ∧ t.out = s.out)) ∧
  (∀ (s : State) (n k : Nat), n < 256 → s.swState = 2 → s.flag (SW + 8) 28 = true → s.larkUp = true → s.lark.longOp = none → s.wb.recovered = true →
    k ≤ (s.sw.barrierArrived.filter (fun x => ¬ x = n)).length + 1 → Completes (.barrier n k false) s (fun t => ∃ u : State, u.sw.barrierArrived = [] ∧
      u.out = s.out ∧ t = u.rootCast [])) ∧
  (∀ (s t : State) (e : Nat) (c : CutSpec), e < 64 → s.Takes 0x0D e t → Tbl.find t.sw.cuts e = some c → c.op = .release →
    exec (.snapshotCut e) s = .next (((t.releaseTag c.ftag).freeCut e true).endEntry e)) ∧
  (∀ (s t : State) (e : Nat) (c : CutSpec), e < 64 → s.Takes 0x0D e t → Tbl.find t.sw.cuts e = some c → c.op = .snapshot →
    (∀ d ∈ t.cutDoms c, t.mirrorRole d ≠ .isolated) → t.cutRefused (t.cutDoms c) = false →
    exec (.snapshotCut e) s = .next ((((t.cutDoms c).foldl (fun (u : State) d => u.snapshotDom c.ftag d) t).freeCut e true).endEntry e)) ∧
  (∀ (s : State) (d n k : Nat) (x : SnapSt), d < 4096 → s.sw.snaps.find? (fun y => decide (y.2.dom = d)) = some (k, x) → x.ending = false → s.admitting = false →
    (∀ p, s.plotTaken p = false) → Completes (.cowWalkerAdvance d n) s (fun t => ∃ y, Tbl.find t.sw.snaps k = some y ∧ y.dom = d ∧
      y.walker = x.walker + min n (s.domSize d - x.walker))) ∧
  (∀ (s t : State) (e : Nat), e < 64 → s.Takes 0x0E e t → exec (.fabricResetCut e) s = .next (((t.freeCut e true).fabricReset).endEntry e)) ∧
  (∀ (s : State) (who : Requester), s.regsUp = true → mayWrite who = true → exec (.swCtlReset who) s = .next s.fabricReset)
end

