-- ==== Sys2Proof/Laws/Tbl.lean ====
section
/-! SUPPORT. Laws/Tbl.lean: sparse tables and byte memories: what a read gives after a write, and the canonical form that every write keeps. -/

namespace Sys2Proof.Machine

section
variable {α : Type}

/-- Below its first key a table holds the default. -/
theorem Tbl.get_dropWhile (d : Nat → α) (t : Tbl α) (k k' : Nat) (h : k < k') :
    Tbl.get d (t.dropWhile (fun e => decide (e.1 ≤ k))) k' = Tbl.get d t k' := by
  induction t with
  | nil => rfl
  | cons x t ih =>
    obtain ⟨j, w⟩ := x
    by_cases hj : j ≤ k
    · have h1 : ¬ k' < j := by omega
      have h2 : ¬ k' = j := by omega
      simp [List.dropWhile, hj, ih, Tbl.get, h1, h2]
    · simp [List.dropWhile, hj]

theorem Tbl.get_dropWhile_le (d : Nat → α) (t : Tbl α) (k k' : Nat) (h : k' ≤ k) :
    Tbl.get d (t.dropWhile (fun e => decide (e.1 ≤ k))) k' = d k' := by
  induction t with
  | nil => rfl
  | cons x t ih =>
    obtain ⟨j, w⟩ := x
    by_cases hj : j ≤ k
    · simp [List.dropWhile, hj, ih]
    · have h1 : k' < j := by omega
      simp [List.dropWhile, hj, Tbl.get, h1]

end

section
variable {α : Type} [DecidableEq α]

/-- A read of the key just written gives the value written. -/
@[simp] theorem Tbl.get_set_same (d : Nat → α) (t : Tbl α) (k : Nat) (v : α) : Tbl.get d (Tbl.set d t k v) k = v := by
  induction t with
  | nil => by_cases h : v = d k <;> simp [Tbl.set, Tbl.get, h]
  | cons x t ih =>
    obtain ⟨j, w⟩ := x
    by_cases h1 : k < j
    · by_cases h : v = d k <;> simp [Tbl.set, Tbl.get, h, h1]
    · by_cases h2 : k = j
      · subst h2
        by_cases h : v = d k
        · simp [Tbl.set, h, Tbl.get_dropWhile_le]
        · simp [Tbl.set, Tbl.get, h]
      · simp [Tbl.set, Tbl.get, h1, h2, ih]

/-- A write leaves every other key as it was. -/
theorem Tbl.get_set_other (d : Nat → α) (t : Tbl α) (k : Nat) (v : α) (k' : Nat) (hk : k' ≠ k) :
    Tbl.get d (Tbl.set d t k v) k' = Tbl.get d t k' := by
  induction t with
  | nil =>
    by_cases h : v = d k
    · simp [Tbl.set, h]
    · by_cases h1 : k' < k <;> simp [Tbl.set, Tbl.get, h, h1, hk]
  | cons x t ih =>
    obtain ⟨j, w⟩ := x
    by_cases h1 : k < j
    · by_cases h : v = d k
      · simp [Tbl.set, h, h1]
      · by_cases h2 : k' < k
        · have h3 : k' < j := by omega
          simp [Tbl.set, Tbl.get, h, h1, h2, h3]
        · simp [Tbl.set, Tbl.get, h, h1, h2, hk]
    · by_cases h2 : k = j
      · subst h2
        by_cases h : v = d k
        · by_cases h3 : k' < k
          · simp [Tbl.set, Tbl.get, h, h3, Tbl.get_dropWhile_le d t k k' (by omega)]
          · simp [Tbl.set, Tbl.get, h, h3, hk, Tbl.get_dropWhile d t k k' (by omega)]
        · simp [Tbl.set, Tbl.get, h, hk]
      · simp [Tbl.set, Tbl.get, h1, h2, ih]

/-- What a table holds at `k'` after a write at `k`. -/
theorem Tbl.get_set (d : Nat → α) (t : Tbl α) (k : Nat) (v : α) (k' : Nat) :
    Tbl.get d (Tbl.set d t k v) k' = if k' = k then v else Tbl.get d t k' := by
  by_cases h : k' = k
  · subst h; simp
  · simp [h, Tbl.get_set_other d t k v k' h]

@[simp] theorem Tbl.wf_nil (d : Nat → α) : Tbl.wf d [] = true := rfl

theorem Tbl.wfFrom_mono (d : Nat → α) (t : Tbl α) (a b : Nat) (h : a ≤ b) (hw : Tbl.wfFrom d b t = true) : Tbl.wfFrom d a t = true := by
  cases t with
  | nil => rfl
  | cons x t =>
    obtain ⟨j, w⟩ := x
    simp only [Tbl.wfFrom, Bool.and_eq_true, decide_eq_true_eq] at hw ⊢
    exact ⟨by omega, hw.2⟩

theorem Tbl.dropWhile_of_wfFrom (d : Nat → α) (t : Tbl α) (k : Nat) (hw : Tbl.wfFrom d (k + 1) t = true) :
    t.dropWhile (fun e => decide (e.1 ≤ k)) = t := by
  cases t with
  | nil => rfl
  | cons x t =>
    obtain ⟨j, w⟩ := x
    simp only [Tbl.wfFrom, Bool.and_eq_true, decide_eq_true_eq] at hw
    have : ¬ j ≤ k := by omega
    simp [List.dropWhile, this]

theorem Tbl.set_wfFrom (d : Nat → α) (t : Tbl α) (k : Nat) (v : α) (lo : Nat) (hlo : lo ≤ k) (hw : Tbl.wfFrom d lo t = true) :
    Tbl.wfFrom d lo (Tbl.set d t k v) = true := by
  induction t generalizing lo with
  | nil => by_cases h : v = d k <;> simp [Tbl.set, Tbl.wfFrom, h, hlo]
  | cons x t ih =>
    obtain ⟨j, w⟩ := x
    have hw' := hw
    simp only [Tbl.wfFrom, Bool.and_eq_true, decide_eq_true_eq] at hw
    obtain ⟨hj, hwj, ht⟩ := hw
    by_cases h1 : k < j
    · by_cases h : v = d k
      · simpa [Tbl.set, h, h1] using hw'
      · simp [Tbl.set, h1, h, Tbl.wfFrom, hlo, hwj, ht, Nat.succ_le_of_lt h1]
    · by_cases h2 : k = j
      · subst h2
        by_cases h : v = d k
        · simp only [Tbl.set, Nat.lt_irrefl, if_false, if_true, h]
          rw [Tbl.dropWhile_of_wfFrom d t k ht]
          exact Tbl.wfFrom_mono d t lo (k + 1) (by omega) ht
        · simp [Tbl.set, h, Tbl.wfFrom, hlo, ht]
      · have := ih (j + 1) (by omega) ht
        simp [Tbl.set, h1, h2, Tbl.wfFrom, hj, hwj, this]

/-- A write keeps the canonical form. -/
theorem Tbl.set_wf (d : Nat → α) (t : Tbl α) (k : Nat) (v : α) (hw : Tbl.wf d t = true) : Tbl.wf d (Tbl.set d t k v) = true :=
  Tbl.set_wfFrom d t k v 0 (Nat.zero_le k) hw

/-- Two tables in canonical form that read alike are one. -/
theorem Tbl.wf_ext (d : Nat → α) (t u : Tbl α) (lo : Nat) (ht : Tbl.wfFrom d lo t = true) (hu : Tbl.wfFrom d lo u = true)
    (h : ∀ k, Tbl.get d t k = Tbl.get d u k) : t = u := by
  induction t generalizing u lo with
  | nil =>
    cases u with
    | nil => rfl
    | cons y u =>
      obtain ⟨j, w⟩ := y
      simp only [Tbl.wfFrom, Bool.and_eq_true, decide_eq_true_eq] at hu
      have := h j
      simp only [Tbl.get, Nat.lt_irrefl, if_false, if_true] at this
      exact absurd this.symm hu.2.1
  | cons x t ih =>
    obtain ⟨i, v⟩ := x
    simp only [Tbl.wfFrom, Bool.and_eq_true, decide_eq_true_eq] at ht
    cases u with
    | nil =>
      have := h i
      simp only [Tbl.get, Nat.lt_irrefl, if_false, if_true] at this
      exact absurd this ht.2.1
    | cons y u =>
      obtain ⟨j, w⟩ := y
      simp only [Tbl.wfFrom, Bool.and_eq_true, decide_eq_true_eq] at hu
      have hij : i = j := by
        rcases Nat.lt_trichotomy i j with hlt | heq | hgt
        · have := h i
          simp only [Tbl.get, Nat.lt_irrefl, if_false, if_true, hlt] at this
          exact absurd this ht.2.1
        · exact heq
        · have := h j
          simp only [Tbl.get, Nat.lt_irrefl, if_false, if_true, hgt] at this
          exact absurd this.symm hu.2.1
      subst hij
      have hv : v = w := by simpa [Tbl.get] using h i
      subst hv
      have : t = u := by
        refine ih u (i + 1) ht.2.2 hu.2.2 (fun k => ?_)
        have low (l : Tbl α) (hl : Tbl.wfFrom d (i + 1) l = true) (hk : k ≤ i) : Tbl.get d l k = d k := by
          cases l with
          | nil => rfl
          | cons z l =>
            obtain ⟨m, q⟩ := z
            simp only [Tbl.wfFrom, Bool.and_eq_true, decide_eq_true_eq] at hl
            have : k < m := by omega
            simp [Tbl.get, this]
        by_cases hk : k ≤ i
        · rw [low t ht.2.2 hk, low u hu.2.2 hk]
        · have h1 : ¬ k < i := by omega
          have h2 : ¬ k = i := by omega
          simpa [Tbl.get, h1, h2] using h k
      rw [this]

end

section
variable {α : Type}

@[simp] theorem Tbl.find_nil (k : Nat) : Tbl.find ([] : Tbl α) k = none := rfl

@[simp] theorem Tbl.find_put_same (t : Tbl α) (k : Nat) (v : α) : Tbl.find (Tbl.put t k v) k = some v := by
  induction t with
  | nil => simp [Tbl.put, Tbl.find]
  | cons x t ih =>
    obtain ⟨j, w⟩ := x
    by_cases h1 : k < j
    · simp [Tbl.put, Tbl.find, h1]
    · by_cases h2 : k = j <;> simp [Tbl.put, Tbl.find, h1, h2, ih]

theorem Tbl.find_put_other (t : Tbl α) (k : Nat) (v : α) (k' : Nat) (hk : k' ≠ k) : Tbl.find (Tbl.put t k v) k' = Tbl.find t k' := by
  induction t with
  | nil => simp [Tbl.put, Tbl.find, hk]
  | cons x t ih =>
    obtain ⟨j, w⟩ := x
    by_cases h1 : k < j
    · simp [Tbl.put, Tbl.find, h1, hk]
    · by_cases h2 : k = j
      · subst h2; simp [Tbl.put, Tbl.find, hk]
      · simp [Tbl.put, Tbl.find, h1, h2, ih]

@[simp] theorem Tbl.find_del_same (t : Tbl α) (k : Nat) : Tbl.find (Tbl.del t k) k = none := by
  induction t with
  | nil => rfl
  | cons x t ih =>
    obtain ⟨j, w⟩ := x
    by_cases h : j = k
    · simpa [Tbl.del, h] using ih
    · have h' : ¬ k = j := fun e => h e.symm
      simpa [Tbl.del, h, Tbl.find, h'] using ih

theorem Tbl.find_del_other (t : Tbl α) (k k' : Nat) (hk : k' ≠ k) : Tbl.find (Tbl.del t k) k' = Tbl.find t k' := by
  induction t with
  | nil => rfl
  | cons x t ih =>
    obtain ⟨j, w⟩ := x
    by_cases h : j = k
    · subst h
      simpa [Tbl.del, Tbl.find, hk] using ih
    · have e : Tbl.del ((j, w) :: t) k = (j, w) :: Tbl.del t k := by simp [Tbl.del, h]
      rw [e]; simp [Tbl.find, ih]

end

/-! ### Byte memories -/

@[simp] theorem Memory.read_write_same (m : Memory) (a : Nat) (v : Byte) : Memory.read (Memory.write m a v) a = v := by
  simp [Memory.read, Memory.write]

theorem Memory.read_write_other (m : Memory) (a : Nat) (v : Byte) (b : Nat) (h : b ≠ a) : Memory.read (Memory.write m a v) b = Memory.read m b := by
  simp [Memory.read, Memory.write, Tbl.get_set_other _ _ _ _ _ h]

/-- Bytes outside a written stretch are as before. -/
theorem Memory.read_writeBytes_out (bs : List Byte) (m : Memory) (a b : Nat) (h : b < a ∨ a + bs.length ≤ b) :
    Memory.read (Memory.writeBytes m a bs) b = Memory.read m b := by
  induction bs generalizing m a with
  | nil => rfl
  | cons x bs ih =>
    simp only [List.length_cons] at h
    rw [Memory.writeBytes, ih _ (a + 1) (by omega), Memory.read_write_other _ _ _ _ (by omega)]

/-- Bytes of a written stretch are those written. -/
theorem Memory.read_writeBytes_in (bs : List Byte) (m : Memory) (a i : Nat) (h : i < bs.length) :
    Memory.read (Memory.writeBytes m a bs) (a + i) = bs[i] := by
  induction bs generalizing m a i with
  | nil => simp at h
  | cons x bs ih =>
    cases i with
    | zero => rw [Memory.writeBytes, Memory.read_writeBytes_out _ _ _ _ (by omega)]; simp
    | succ n =>
      have e : a + (n + 1) = (a + 1) + n := by omega
      rw [e, Memory.writeBytes, ih _ (a + 1) n (by simpa using h)]; simp

@[simp] theorem Memory.wf_nil : Memory.wf [] = true := rfl

theorem Memory.write_wf (m : Memory) (a : Nat) (v : Byte) (h : Memory.wf m = true) : Memory.wf (Memory.write m a v) = true :=
  Tbl.set_wf _ _ _ _ h

theorem Memory.writeBytes_wf (bs : List Byte) (m : Memory) (a : Nat) (h : Memory.wf m = true) : Memory.wf (Memory.writeBytes m a bs) = true := by
  induction bs generalizing m a with
  | nil => exact h
  | cons x bs ih => exact ih _ _ (Memory.write_wf _ _ _ h)

end Sys2Proof.Machine
end

