-- ==== Sys2Proof/Laws/State.lean ====
section
/-! SUPPORT. Laws/State.lean: which fields the primitive updates of State leave as they are: one lemma per field and update. -/

namespace Sys2Proof.Machine

section
variable (s : State)

@[simp] theorem State.setReg_pending (o : Nat) (v : Word) : (s.setReg o v).pending = s.pending := rfl
@[simp] theorem State.setReg_latches (o : Nat) (v : Word) : (s.setReg o v).latches = s.latches := rfl
@[simp] theorem State.setReg_holds (o : Nat) (v : Word) : (s.setReg o v).holds = s.holds := rfl
@[simp] theorem State.setReg_tb (o : Nat) (v : Word) : (s.setReg o v).tb = s.tb := rfl
@[simp] theorem State.setReg_media (o : Nat) (v : Word) : (s.setReg o v).media = s.media := rfl
@[simp] theorem State.setReg_codes (o : Nat) (v : Word) : (s.setReg o v).codes = s.codes := rfl
@[simp] theorem State.setReg_tp (o : Nat) (v : Word) : (s.setReg o v).tp = s.tp := rfl
@[simp] theorem State.setReg_log (o : Nat) (v : Word) : (s.setReg o v).log = s.log := rfl
@[simp] theorem State.setReg_df (o : Nat) (v : Word) : (s.setReg o v).df = s.df := rfl
@[simp] theorem State.setReg_wb (o : Nat) (v : Word) : (s.setReg o v).wb = s.wb := rfl
@[simp] theorem State.setReg_host (o : Nat) (v : Word) : (s.setReg o v).host = s.host := rfl
@[simp] theorem State.setReg_rk (o : Nat) (v : Word) : (s.setReg o v).rk = s.rk := rfl
@[simp] theorem State.setReg_gx (o : Nat) (v : Word) : (s.setReg o v).gx = s.gx := rfl
@[simp] theorem State.setReg_qs (o : Nat) (v : Word) : (s.setReg o v).qs = s.qs := rfl
@[simp] theorem State.setReg_lark (o : Nat) (v : Word) : (s.setReg o v).lark = s.lark := rfl
@[simp] theorem State.setReg_sw (o : Nat) (v : Word) : (s.setReg o v).sw = s.sw := rfl
@[simp] theorem State.setReg_pw (o : Nat) (v : Word) : (s.setReg o v).pw = s.pw := rfl
@[simp] theorem State.setReg_th (o : Nat) (v : Word) : (s.setReg o v).th = s.th := rfl
@[simp] theorem State.setReg_ev (o : Nat) (v : Word) : (s.setReg o v).ev = s.ev := rfl
@[simp] theorem State.setReg_mt (o : Nat) (v : Word) : (s.setReg o v).mt = s.mt := rfl
@[simp] theorem State.setReg_pm (o : Nat) (v : Word) : (s.setReg o v).pm = s.pm := rfl
@[simp] theorem State.setReg_sd (o : Nat) (v : Word) : (s.setReg o v).sd = s.sd := rfl
@[simp] theorem State.setReg_pins (o : Nat) (v : Word) : (s.setReg o v).pins = s.pins := rfl
@[simp] theorem State.setReg_out (o : Nat) (v : Word) : (s.setReg o v).out = s.out := rfl
@[simp] theorem State.setReg_free (o : Nat) (v : Word) : (s.setReg o v).free = s.free := rfl

@[simp] theorem State.setFld_pending (o hi lo x : Nat) : (s.setFld o hi lo x).pending = s.pending := rfl
@[simp] theorem State.setFld_latches (o hi lo x : Nat) : (s.setFld o hi lo x).latches = s.latches := rfl
@[simp] theorem State.setFld_holds (o hi lo x : Nat) : (s.setFld o hi lo x).holds = s.holds := rfl
@[simp] theorem State.setFld_tb (o hi lo x : Nat) : (s.setFld o hi lo x).tb = s.tb := rfl
@[simp] theorem State.setFld_media (o hi lo x : Nat) : (s.setFld o hi lo x).media = s.media := rfl
@[simp] theorem State.setFld_codes (o hi lo x : Nat) : (s.setFld o hi lo x).codes = s.codes := rfl
@[simp] theorem State.setFld_tp (o hi lo x : Nat) : (s.setFld o hi lo x).tp = s.tp := rfl
@[simp] theorem State.setFld_log (o hi lo x : Nat) : (s.setFld o hi lo x).log = s.log := rfl
@[simp] theorem State.setFld_df (o hi lo x : Nat) : (s.setFld o hi lo x).df = s.df := rfl
@[simp] theorem State.setFld_wb (o hi lo x : Nat) : (s.setFld o hi lo x).wb = s.wb := rfl
@[simp] theorem State.setFld_host (o hi lo x : Nat) : (s.setFld o hi lo x).host = s.host := rfl
@[simp] theorem State.setFld_rk (o hi lo x : Nat) : (s.setFld o hi lo x).rk = s.rk := rfl
@[simp] theorem State.setFld_gx (o hi lo x : Nat) : (s.setFld o hi lo x).gx = s.gx := rfl
@[simp] theorem State.setFld_qs (o hi lo x : Nat) : (s.setFld o hi lo x).qs = s.qs := rfl
@[simp] theorem State.setFld_lark (o hi lo x : Nat) : (s.setFld o hi lo x).lark = s.lark := rfl
@[simp] theorem State.setFld_sw (o hi lo x : Nat) : (s.setFld o hi lo x).sw = s.sw := rfl
@[simp] theorem State.setFld_pw (o hi lo x : Nat) : (s.setFld o hi lo x).pw = s.pw := rfl
@[simp] theorem State.setFld_th (o hi lo x : Nat) : (s.setFld o hi lo x).th = s.th := rfl
@[simp] theorem State.setFld_ev (o hi lo x : Nat) : (s.setFld o hi lo x).ev = s.ev := rfl
@[simp] theorem State.setFld_mt (o hi lo x : Nat) : (s.setFld o hi lo x).mt = s.mt := rfl
@[simp] theorem State.setFld_pm (o hi lo x : Nat) : (s.setFld o hi lo x).pm = s.pm := rfl
@[simp] theorem State.setFld_sd (o hi lo x : Nat) : (s.setFld o hi lo x).sd = s.sd := rfl
@[simp] theorem State.setFld_pins (o hi lo x : Nat) : (s.setFld o hi lo x).pins = s.pins := rfl
@[simp] theorem State.setFld_out (o hi lo x : Nat) : (s.setFld o hi lo x).out = s.out := rfl
@[simp] theorem State.setFld_free (o hi lo x : Nat) : (s.setFld o hi lo x).free = s.free := rfl

@[simp] theorem State.setBit_pending (o b : Nat) (v : Bool) : (s.setBit o b v).pending = s.pending := rfl
@[simp] theorem State.setBit_latches (o b : Nat) (v : Bool) : (s.setBit o b v).latches = s.latches := rfl
@[simp] theorem State.setBit_holds (o b : Nat) (v : Bool) : (s.setBit o b v).holds = s.holds := rfl
@[simp] theorem State.setBit_tb (o b : Nat) (v : Bool) : (s.setBit o b v).tb = s.tb := rfl
@[simp] theorem State.setBit_media (o b : Nat) (v : Bool) : (s.setBit o b v).media = s.media := rfl
@[simp] theorem State.setBit_codes (o b : Nat) (v : Bool) : (s.setBit o b v).codes = s.codes := rfl
@[simp] theorem State.setBit_tp (o b : Nat) (v : Bool) : (s.setBit o b v).tp = s.tp := rfl
@[simp] theorem State.setBit_log (o b : Nat) (v : Bool) : (s.setBit o b v).log = s.log := rfl
@[simp] theorem State.setBit_df (o b : Nat) (v : Bool) : (s.setBit o b v).df = s.df := rfl
@[simp] theorem State.setBit_wb (o b : Nat) (v : Bool) : (s.setBit o b v).wb = s.wb := rfl
@[simp] theorem State.setBit_host (o b : Nat) (v : Bool) : (s.setBit o b v).host = s.host := rfl
@[simp] theorem State.setBit_rk (o b : Nat) (v : Bool) : (s.setBit o b v).rk = s.rk := rfl
@[simp] theorem State.setBit_gx (o b : Nat) (v : Bool) : (s.setBit o b v).gx = s.gx := rfl
@[simp] theorem State.setBit_qs (o b : Nat) (v : Bool) : (s.setBit o b v).qs = s.qs := rfl
@[simp] theorem State.setBit_lark (o b : Nat) (v : Bool) : (s.setBit o b v).lark = s.lark := rfl
@[simp] theorem State.setBit_sw (o b : Nat) (v : Bool) : (s.setBit o b v).sw = s.sw := rfl
@[simp] theorem State.setBit_pw (o b : Nat) (v : Bool) : (s.setBit o b v).pw = s.pw := rfl
@[simp] theorem State.setBit_th (o b : Nat) (v : Bool) : (s.setBit o b v).th = s.th := rfl
@[simp] theorem State.setBit_ev (o b : Nat) (v : Bool) : (s.setBit o b v).ev = s.ev := rfl
@[simp] theorem State.setBit_mt (o b : Nat) (v : Bool) : (s.setBit o b v).mt = s.mt := rfl
@[simp] theorem State.setBit_pm (o b : Nat) (v : Bool) : (s.setBit o b v).pm = s.pm := rfl
@[simp] theorem State.setBit_sd (o b : Nat) (v : Bool) : (s.setBit o b v).sd = s.sd := rfl
@[simp] theorem State.setBit_pins (o b : Nat) (v : Bool) : (s.setBit o b v).pins = s.pins := rfl
@[simp] theorem State.setBit_out (o b : Nat) (v : Bool) : (s.setBit o b v).out = s.out := rfl
@[simp] theorem State.setBit_free (o b : Nat) (v : Bool) : (s.setBit o b v).free = s.free := rfl

@[simp] theorem State.setReg64_pending (o x : Nat) : (s.setReg64 o x).pending = s.pending := rfl
@[simp] theorem State.setReg64_latches (o x : Nat) : (s.setReg64 o x).latches = s.latches := rfl
@[simp] theorem State.setReg64_holds (o x : Nat) : (s.setReg64 o x).holds = s.holds := rfl
@[simp] theorem State.setReg64_tb (o x : Nat) : (s.setReg64 o x).tb = s.tb := rfl
@[simp] theorem State.setReg64_media (o x : Nat) : (s.setReg64 o x).media = s.media := rfl
@[simp] theorem State.setReg64_codes (o x : Nat) : (s.setReg64 o x).codes = s.codes := rfl
@[simp] theorem State.setReg64_tp (o x : Nat) : (s.setReg64 o x).tp = s.tp := rfl
@[simp] theorem State.setReg64_log (o x : Nat) : (s.setReg64 o x).log = s.log := rfl
@[simp] theorem State.setReg64_df (o x : Nat) : (s.setReg64 o x).df = s.df := rfl
@[simp] theorem State.setReg64_wb (o x : Nat) : (s.setReg64 o x).wb = s.wb := rfl
@[simp] theorem State.setReg64_host (o x : Nat) : (s.setReg64 o x).host = s.host := rfl
@[simp] theorem State.setReg64_rk (o x : Nat) : (s.setReg64 o x).rk = s.rk := rfl
@[simp] theorem State.setReg64_gx (o x : Nat) : (s.setReg64 o x).gx = s.gx := rfl
@[simp] theorem State.setReg64_qs (o x : Nat) : (s.setReg64 o x).qs = s.qs := rfl
@[simp] theorem State.setReg64_lark (o x : Nat) : (s.setReg64 o x).lark = s.lark := rfl
@[simp] theorem State.setReg64_sw (o x : Nat) : (s.setReg64 o x).sw = s.sw := rfl
@[simp] theorem State.setReg64_pw (o x : Nat) : (s.setReg64 o x).pw = s.pw := rfl
@[simp] theorem State.setReg64_th (o x : Nat) : (s.setReg64 o x).th = s.th := rfl
@[simp] theorem State.setReg64_ev (o x : Nat) : (s.setReg64 o x).ev = s.ev := rfl
@[simp] theorem State.setReg64_mt (o x : Nat) : (s.setReg64 o x).mt = s.mt := rfl
@[simp] theorem State.setReg64_pm (o x : Nat) : (s.setReg64 o x).pm = s.pm := rfl
@[simp] theorem State.setReg64_sd (o x : Nat) : (s.setReg64 o x).sd = s.sd := rfl
@[simp] theorem State.setReg64_pins (o x : Nat) : (s.setReg64 o x).pins = s.pins := rfl
@[simp] theorem State.setReg64_out (o x : Nat) : (s.setReg64 o x).out = s.out := rfl
@[simp] theorem State.setReg64_free (o x : Nat) : (s.setReg64 o x).free = s.free := rfl

@[simp] theorem State.bump_pending (o hi lo n : Nat) : (s.bump o hi lo n).pending = s.pending := rfl
@[simp] theorem State.bump_latches (o hi lo n : Nat) : (s.bump o hi lo n).latches = s.latches := rfl
@[simp] theorem State.bump_holds (o hi lo n : Nat) : (s.bump o hi lo n).holds = s.holds := rfl
@[simp] theorem State.bump_tb (o hi lo n : Nat) : (s.bump o hi lo n).tb = s.tb := rfl
@[simp] theorem State.bump_media (o hi lo n : Nat) : (s.bump o hi lo n).media = s.media := rfl
@[simp] theorem State.bump_codes (o hi lo n : Nat) : (s.bump o hi lo n).codes = s.codes := rfl
@[simp] theorem State.bump_tp (o hi lo n : Nat) : (s.bump o hi lo n).tp = s.tp := rfl
@[simp] theorem State.bump_log (o hi lo n : Nat) : (s.bump o hi lo n).log = s.log := rfl
@[simp] theorem State.bump_df (o hi lo n : Nat) : (s.bump o hi lo n).df = s.df := rfl
@[simp] theorem State.bump_wb (o hi lo n : Nat) : (s.bump o hi lo n).wb = s.wb := rfl
@[simp] theorem State.bump_host (o hi lo n : Nat) : (s.bump o hi lo n).host = s.host := rfl
@[simp] theorem State.bump_rk (o hi lo n : Nat) : (s.bump o hi lo n).rk = s.rk := rfl
@[simp] theorem State.bump_gx (o hi lo n : Nat) : (s.bump o hi lo n).gx = s.gx := rfl
@[simp] theorem State.bump_qs (o hi lo n : Nat) : (s.bump o hi lo n).qs = s.qs := rfl
@[simp] theorem State.bump_lark (o hi lo n : Nat) : (s.bump o hi lo n).lark = s.lark := rfl
@[simp] theorem State.bump_sw (o hi lo n : Nat) : (s.bump o hi lo n).sw = s.sw := rfl
@[simp] theorem State.bump_pw (o hi lo n : Nat) : (s.bump o hi lo n).pw = s.pw := rfl
@[simp] theorem State.bump_th (o hi lo n : Nat) : (s.bump o hi lo n).th = s.th := rfl
@[simp] theorem State.bump_ev (o hi lo n : Nat) : (s.bump o hi lo n).ev = s.ev := rfl
@[simp] theorem State.bump_mt (o hi lo n : Nat) : (s.bump o hi lo n).mt = s.mt := rfl
@[simp] theorem State.bump_pm (o hi lo n : Nat) : (s.bump o hi lo n).pm = s.pm := rfl
@[simp] theorem State.bump_sd (o hi lo n : Nat) : (s.bump o hi lo n).sd = s.sd := rfl
@[simp] theorem State.bump_pins (o hi lo n : Nat) : (s.bump o hi lo n).pins = s.pins := rfl
@[simp] theorem State.bump_out (o hi lo n : Nat) : (s.bump o hi lo n).out = s.out := rfl
@[simp] theorem State.bump_free (o hi lo n : Nat) : (s.bump o hi lo n).free = s.free := rfl

@[simp] theorem State.setChanState_pending (c x : Nat) : (s.setChanState c x).pending = s.pending := rfl
@[simp] theorem State.setChanState_latches (c x : Nat) : (s.setChanState c x).latches = s.latches := rfl
@[simp] theorem State.setChanState_holds (c x : Nat) : (s.setChanState c x).holds = s.holds := rfl
@[simp] theorem State.setChanState_tb (c x : Nat) : (s.setChanState c x).tb = s.tb := rfl
@[simp] theorem State.setChanState_media (c x : Nat) : (s.setChanState c x).media = s.media := rfl
@[simp] theorem State.setChanState_codes (c x : Nat) : (s.setChanState c x).codes = s.codes := rfl
@[simp] theorem State.setChanState_tp (c x : Nat) : (s.setChanState c x).tp = s.tp := rfl
@[simp] theorem State.setChanState_log (c x : Nat) : (s.setChanState c x).log = s.log := rfl
@[simp] theorem State.setChanState_df (c x : Nat) : (s.setChanState c x).df = s.df := rfl
@[simp] theorem State.setChanState_wb (c x : Nat) : (s.setChanState c x).wb = s.wb := rfl
@[simp] theorem State.setChanState_host (c x : Nat) : (s.setChanState c x).host = s.host := rfl
@[simp] theorem State.setChanState_rk (c x : Nat) : (s.setChanState c x).rk = s.rk := rfl
@[simp] theorem State.setChanState_gx (c x : Nat) : (s.setChanState c x).gx = s.gx := rfl
@[simp] theorem State.setChanState_qs (c x : Nat) : (s.setChanState c x).qs = s.qs := rfl
@[simp] theorem State.setChanState_lark (c x : Nat) : (s.setChanState c x).lark = s.lark := rfl
@[simp] theorem State.setChanState_sw (c x : Nat) : (s.setChanState c x).sw = s.sw := rfl
@[simp] theorem State.setChanState_pw (c x : Nat) : (s.setChanState c x).pw = s.pw := rfl
@[simp] theorem State.setChanState_th (c x : Nat) : (s.setChanState c x).th = s.th := rfl
@[simp] theorem State.setChanState_ev (c x : Nat) : (s.setChanState c x).ev = s.ev := rfl
@[simp] theorem State.setChanState_mt (c x : Nat) : (s.setChanState c x).mt = s.mt := rfl
@[simp] theorem State.setChanState_pm (c x : Nat) : (s.setChanState c x).pm = s.pm := rfl
@[simp] theorem State.setChanState_sd (c x : Nat) : (s.setChanState c x).sd = s.sd := rfl
@[simp] theorem State.setChanState_pins (c x : Nat) : (s.setChanState c x).pins = s.pins := rfl
@[simp] theorem State.setChanState_out (c x : Nat) : (s.setChanState c x).out = s.out := rfl
@[simp] theorem State.setChanState_free (c x : Nat) : (s.setChanState c x).free = s.free := rfl

@[simp] theorem State.emit_pending (x : Out) : (s.emit x).pending = s.pending := rfl
@[simp] theorem State.emit_regs (x : Out) : (s.emit x).regs = s.regs := rfl
@[simp] theorem State.emit_latches (x : Out) : (s.emit x).latches = s.latches := rfl
@[simp] theorem State.emit_holds (x : Out) : (s.emit x).holds = s.holds := rfl
@[simp] theorem State.emit_tb (x : Out) : (s.emit x).tb = s.tb := rfl
@[simp] theorem State.emit_media (x : Out) : (s.emit x).media = s.media := rfl
@[simp] theorem State.emit_codes (x : Out) : (s.emit x).codes = s.codes := rfl
@[simp] theorem State.emit_tp (x : Out) : (s.emit x).tp = s.tp := rfl
@[simp] theorem State.emit_log (x : Out) : (s.emit x).log = s.log := rfl
@[simp] theorem State.emit_df (x : Out) : (s.emit x).df = s.df := rfl
@[simp] theorem State.emit_wb (x : Out) : (s.emit x).wb = s.wb := rfl
@[simp] theorem State.emit_host (x : Out) : (s.emit x).host = s.host := rfl
@[simp] theorem State.emit_rk (x : Out) : (s.emit x).rk = s.rk := rfl
@[simp] theorem State.emit_gx (x : Out) : (s.emit x).gx = s.gx := rfl
@[simp] theorem State.emit_qs (x : Out) : (s.emit x).qs = s.qs := rfl
@[simp] theorem State.emit_lark (x : Out) : (s.emit x).lark = s.lark := rfl
@[simp] theorem State.emit_sw (x : Out) : (s.emit x).sw = s.sw := rfl
@[simp] theorem State.emit_pw (x : Out) : (s.emit x).pw = s.pw := rfl
@[simp] theorem State.emit_th (x : Out) : (s.emit x).th = s.th := rfl
@[simp] theorem State.emit_ev (x : Out) : (s.emit x).ev = s.ev := rfl
@[simp] theorem State.emit_mt (x : Out) : (s.emit x).mt = s.mt := rfl
@[simp] theorem State.emit_pm (x : Out) : (s.emit x).pm = s.pm := rfl
@[simp] theorem State.emit_sd (x : Out) : (s.emit x).sd = s.sd := rfl
@[simp] theorem State.emit_pins (x : Out) : (s.emit x).pins = s.pins := rfl
@[simp] theorem State.emit_free (x : Out) : (s.emit x).free = s.free := rfl

@[simp] theorem State.draw_pending : (s.draw.2).pending = s.pending := rfl
@[simp] theorem State.draw_regs : (s.draw.2).regs = s.regs := rfl
@[simp] theorem State.draw_latches : (s.draw.2).latches = s.latches := rfl
@[simp] theorem State.draw_holds : (s.draw.2).holds = s.holds := rfl
@[simp] theorem State.draw_tb : (s.draw.2).tb = s.tb := rfl
@[simp] theorem State.draw_media : (s.draw.2).media = s.media := rfl
@[simp] theorem State.draw_codes : (s.draw.2).codes = s.codes := rfl
@[simp] theorem State.draw_tp : (s.draw.2).tp = s.tp := rfl
@[simp] theorem State.draw_log : (s.draw.2).log = s.log := rfl
@[simp] theorem State.draw_df : (s.draw.2).df = s.df := rfl
@[simp] theorem State.draw_wb : (s.draw.2).wb = s.wb := rfl
@[simp] theorem State.draw_host : (s.draw.2).host = s.host := rfl
@[simp] theorem State.draw_rk : (s.draw.2).rk = s.rk := rfl
@[simp] theorem State.draw_gx : (s.draw.2).gx = s.gx := rfl
@[simp] theorem State.draw_qs : (s.draw.2).qs = s.qs := rfl
@[simp] theorem State.draw_lark : (s.draw.2).lark = s.lark := rfl
@[simp] theorem State.draw_sw : (s.draw.2).sw = s.sw := rfl
@[simp] theorem State.draw_pw : (s.draw.2).pw = s.pw := rfl
@[simp] theorem State.draw_th : (s.draw.2).th = s.th := rfl
@[simp] theorem State.draw_ev : (s.draw.2).ev = s.ev := rfl
@[simp] theorem State.draw_mt : (s.draw.2).mt = s.mt := rfl
@[simp] theorem State.draw_pm : (s.draw.2).pm = s.pm := rfl
@[simp] theorem State.draw_sd : (s.draw.2).sd = s.sd := rfl
@[simp] theorem State.draw_pins : (s.draw.2).pins = s.pins := rfl
@[simp] theorem State.draw_out : (s.draw.2).out = s.out := rfl

@[simp] theorem State.setLd_pending (i : Nat) (l : Ld) : (s.setLd i l).pending = s.pending := rfl
@[simp] theorem State.setLd_regs (i : Nat) (l : Ld) : (s.setLd i l).regs = s.regs := rfl
@[simp] theorem State.setLd_latches (i : Nat) (l : Ld) : (s.setLd i l).latches = s.latches := rfl
@[simp] theorem State.setLd_holds (i : Nat) (l : Ld) : (s.setLd i l).holds = s.holds := rfl
@[simp] theorem State.setLd_tb (i : Nat) (l : Ld) : (s.setLd i l).tb = s.tb := rfl
@[simp] theorem State.setLd_media (i : Nat) (l : Ld) : (s.setLd i l).media = s.media := rfl
@[simp] theorem State.setLd_codes (i : Nat) (l : Ld) : (s.setLd i l).codes = s.codes := rfl
@[simp] theorem State.setLd_tp (i : Nat) (l : Ld) : (s.setLd i l).tp = s.tp := rfl
@[simp] theorem State.setLd_log (i : Nat) (l : Ld) : (s.setLd i l).log = s.log := rfl
@[simp] theorem State.setLd_df (i : Nat) (l : Ld) : (s.setLd i l).df = s.df := rfl
@[simp] theorem State.setLd_wb (i : Nat) (l : Ld) : (s.setLd i l).wb = s.wb := rfl
@[simp] theorem State.setLd_rk (i : Nat) (l : Ld) : (s.setLd i l).rk = s.rk := rfl
@[simp] theorem State.setLd_gx (i : Nat) (l : Ld) : (s.setLd i l).gx = s.gx := rfl
@[simp] theorem State.setLd_qs (i : Nat) (l : Ld) : (s.setLd i l).qs = s.qs := rfl
@[simp] theorem State.setLd_lark (i : Nat) (l : Ld) : (s.setLd i l).lark = s.lark := rfl
@[simp] theorem State.setLd_sw (i : Nat) (l : Ld) : (s.setLd i l).sw = s.sw := rfl
@[simp] theorem State.setLd_pw (i : Nat) (l : Ld) : (s.setLd i l).pw = s.pw := rfl
@[simp] theorem State.setLd_th (i : Nat) (l : Ld) : (s.setLd i l).th = s.th := rfl
@[simp] theorem State.setLd_ev (i : Nat) (l : Ld) : (s.setLd i l).ev = s.ev := rfl
@[simp] theorem State.setLd_mt (i : Nat) (l : Ld) : (s.setLd i l).mt = s.mt := rfl
@[simp] theorem State.setLd_pm (i : Nat) (l : Ld) : (s.setLd i l).pm = s.pm := rfl
@[simp] theorem State.setLd_sd (i : Nat) (l : Ld) : (s.setLd i l).sd = s.sd := rfl
@[simp] theorem State.setLd_pins (i : Nat) (l : Ld) : (s.setLd i l).pins = s.pins := rfl
@[simp] theorem State.setLd_out (i : Nat) (l : Ld) : (s.setLd i l).out = s.out := rfl
@[simp] theorem State.setLd_free (i : Nat) (l : Ld) : (s.setLd i l).free = s.free := rfl

@[simp] theorem State.setSpread_pending (q : Nat) (p : Spread) : (s.setSpread q p).pending = s.pending := rfl
@[simp] theorem State.setSpread_regs (q : Nat) (p : Spread) : (s.setSpread q p).regs = s.regs := rfl
@[simp] theorem State.setSpread_latches (q : Nat) (p : Spread) : (s.setSpread q p).latches = s.latches := rfl
@[simp] theorem State.setSpread_holds (q : Nat) (p : Spread) : (s.setSpread q p).holds = s.holds := rfl
@[simp] theorem State.setSpread_tb (q : Nat) (p : Spread) : (s.setSpread q p).tb = s.tb := rfl
@[simp] theorem State.setSpread_media (q : Nat) (p : Spread) : (s.setSpread q p).media = s.media := rfl
@[simp] theorem State.setSpread_codes (q : Nat) (p : Spread) : (s.setSpread q p).codes = s.codes := rfl
@[simp] theorem State.setSpread_tp (q : Nat) (p : Spread) : (s.setSpread q p).tp = s.tp := rfl
@[simp] theorem State.setSpread_log (q : Nat) (p : Spread) : (s.setSpread q p).log = s.log := rfl
@[simp] theorem State.setSpread_df (q : Nat) (p : Spread) : (s.setSpread q p).df = s.df := rfl
@[simp] theorem State.setSpread_wb (q : Nat) (p : Spread) : (s.setSpread q p).wb = s.wb := rfl
@[simp] theorem State.setSpread_host (q : Nat) (p : Spread) : (s.setSpread q p).host = s.host := rfl
@[simp] theorem State.setSpread_rk (q : Nat) (p : Spread) : (s.setSpread q p).rk = s.rk := rfl
@[simp] theorem State.setSpread_gx (q : Nat) (p : Spread) : (s.setSpread q p).gx = s.gx := rfl
@[simp] theorem State.setSpread_qs (q : Nat) (p : Spread) : (s.setSpread q p).qs = s.qs := rfl
@[simp] theorem State.setSpread_lark (q : Nat) (p : Spread) : (s.setSpread q p).lark = s.lark := rfl
@[simp] theorem State.setSpread_sw (q : Nat) (p : Spread) : (s.setSpread q p).sw = s.sw := rfl
@[simp] theorem State.setSpread_pw (q : Nat) (p : Spread) : (s.setSpread q p).pw = s.pw := rfl
@[simp] theorem State.setSpread_th (q : Nat) (p : Spread) : (s.setSpread q p).th = s.th := rfl
@[simp] theorem State.setSpread_ev (q : Nat) (p : Spread) : (s.setSpread q p).ev = s.ev := rfl
@[simp] theorem State.setSpread_mt (q : Nat) (p : Spread) : (s.setSpread q p).mt = s.mt := rfl
@[simp] theorem State.setSpread_pm (q : Nat) (p : Spread) : (s.setSpread q p).pm = s.pm := rfl
@[simp] theorem State.setSpread_pins (q : Nat) (p : Spread) : (s.setSpread q p).pins = s.pins := rfl
@[simp] theorem State.setSpread_out (q : Nat) (p : Spread) : (s.setSpread q p).out = s.out := rfl
@[simp] theorem State.setSpread_free (q : Nat) (p : Spread) : (s.setSpread q p).free = s.free := rfl

@[simp] theorem State.moveCounter_pending (q f c : Nat) : (s.moveCounter q f c).pending = s.pending := rfl
@[simp] theorem State.moveCounter_regs (q f c : Nat) : (s.moveCounter q f c).regs = s.regs := rfl
@[simp] theorem State.moveCounter_latches (q f c : Nat) : (s.moveCounter q f c).latches = s.latches := rfl
@[simp] theorem State.moveCounter_holds (q f c : Nat) : (s.moveCounter q f c).holds = s.holds := rfl
@[simp] theorem State.moveCounter_tb (q f c : Nat) : (s.moveCounter q f c).tb = s.tb := rfl
@[simp] theorem State.moveCounter_media (q f c : Nat) : (s.moveCounter q f c).media = s.media := rfl
@[simp] theorem State.moveCounter_codes (q f c : Nat) : (s.moveCounter q f c).codes = s.codes := rfl
@[simp] theorem State.moveCounter_tp (q f c : Nat) : (s.moveCounter q f c).tp = s.tp := rfl
@[simp] theorem State.moveCounter_log (q f c : Nat) : (s.moveCounter q f c).log = s.log := rfl
@[simp] theorem State.moveCounter_df (q f c : Nat) : (s.moveCounter q f c).df = s.df := rfl
@[simp] theorem State.moveCounter_wb (q f c : Nat) : (s.moveCounter q f c).wb = s.wb := rfl
@[simp] theorem State.moveCounter_host (q f c : Nat) : (s.moveCounter q f c).host = s.host := rfl
@[simp] theorem State.moveCounter_rk (q f c : Nat) : (s.moveCounter q f c).rk = s.rk := rfl
@[simp] theorem State.moveCounter_gx (q f c : Nat) : (s.moveCounter q f c).gx = s.gx := rfl
@[simp] theorem State.moveCounter_qs (q f c : Nat) : (s.moveCounter q f c).qs = s.qs := rfl
@[simp] theorem State.moveCounter_lark (q f c : Nat) : (s.moveCounter q f c).lark = s.lark := rfl
@[simp] theorem State.moveCounter_sw (q f c : Nat) : (s.moveCounter q f c).sw = s.sw := rfl
@[simp] theorem State.moveCounter_pw (q f c : Nat) : (s.moveCounter q f c).pw = s.pw := rfl
@[simp] theorem State.moveCounter_th (q f c : Nat) : (s.moveCounter q f c).th = s.th := rfl
@[simp] theorem State.moveCounter_ev (q f c : Nat) : (s.moveCounter q f c).ev = s.ev := rfl
@[simp] theorem State.moveCounter_mt (q f c : Nat) : (s.moveCounter q f c).mt = s.mt := rfl
@[simp] theorem State.moveCounter_pm (q f c : Nat) : (s.moveCounter q f c).pm = s.pm := rfl
@[simp] theorem State.moveCounter_pins (q f c : Nat) : (s.moveCounter q f c).pins = s.pins := rfl
@[simp] theorem State.moveCounter_out (q f c : Nat) : (s.moveCounter q f c).out = s.out := rfl
@[simp] theorem State.moveCounter_free (q f c : Nat) : (s.moveCounter q f c).free = s.free := rfl

@[simp] theorem State.emit_out (x : Out) : (s.emit x).out = x :: s.out := rfl
@[simp] theorem State.draw_free : s.draw.2.free = s.free + 1 := rfl
@[simp] theorem State.draw_val : s.draw.1 = Config.freeValue s.free := rfl

end

end Sys2Proof.Machine
end

