-- ==== Sys2Proof/Laws/Reg.lean ====
section
/-! SUPPORT. Laws/Reg.lean: registers and their fields after a write. -/

namespace Sys2Proof.Machine

/-! ### Bit fields of a word -/

theorem bits_lt (v : Word) (hi lo : Nat) : bits v hi lo < 2 ^ (hi + 1 - lo) := Nat.mod_lt _ (Nat.two_pow_pos _)

/-- The word after a field has been put: what lies below, the field, what lies above. -/
theorem putBits_toNat (v : Word) (hi lo x : Nat) (h : hi < 32) (hl : lo ≤ hi) :
    (putBits v hi lo x).toNat = v.toNat % 2 ^ lo + 2 ^ lo * (x % 2 ^ (hi + 1 - lo) + 2 ^ (hi + 1 - lo) * (v.toNat / 2 ^ lo / 2 ^ (hi + 1 - lo))) := by
  have hv := v.isLt
  have hp : 0 < 2 ^ lo := Nat.two_pow_pos lo
  have hq : 0 < 2 ^ (hi + 1 - lo) := Nat.two_pow_pos _
  have e32 : 2 ^ 32 = 2 ^ lo * (2 ^ (hi + 1 - lo) * 2 ^ (32 - (hi + 1))) := by
    rw [← Nat.pow_add, ← Nat.pow_add]; congr 1; omega
  unfold putBits bits
  rw [BitVec.toNat_ofNat]
  generalize 2 ^ lo = L at *
  generalize 2 ^ (hi + 1 - lo) = W at *
  generalize 2 ^ (32 - (hi + 1)) = T at *
  have hvd : v.toNat = v.toNat % L + L * (v.toNat / L % W + W * (v.toNat / L / W)) := by
    rw [Nat.mod_add_div (v.toNat / L) W, Nat.mod_add_div]
  have ht : v.toNat / L / W < T := by
    rw [Nat.div_div_eq_div_mul]; apply Nat.div_lt_of_lt_mul; rw [Nat.mul_assoc, ← e32]; exact hv
  have hlow' : v.toNat % L < L := Nat.mod_lt _ hp
  have hx : x % W < W := Nat.mod_lt _ hq
  generalize v.toNat / L / W = t at *
  generalize v.toNat / L % W = f at *
  generalize v.toNat % L = low at *
  generalize x % W = y at *
  have hsum : v.toNat - f * L + y * L = low + L * (y + W * t) := by
    rw [hvd]
    have : low + L * (f + W * t) - f * L = low + L * (W * t) := by
      rw [Nat.mul_add, Nat.mul_comm L f]; omega
    rw [this, Nat.mul_add, Nat.mul_comm y L]; omega
  have hlt : low + L * (y + W * t) < 2 ^ 32 := by
    rw [e32]
    calc low + L * (y + W * t) < L + L * (y + W * t) := by omega
      _ = L * (1 + (y + W * t)) := by ring
      _ ≤ L * (W * T) := by
        apply Nat.mul_le_mul_left
        calc 1 + (y + W * t) ≤ W + W * t := by omega
          _ = W * (t + 1) := by ring
          _ ≤ W * T := Nat.mul_le_mul_left _ ht
  rw [hsum, Nat.mod_eq_of_lt hlt]

/-- A field just put reads as what was put, cut to its width. -/
theorem bits_putBits (v : Word) (hi lo x : Nat) (h : hi < 32) (hl : lo ≤ hi) : bits (putBits v hi lo x) hi lo = x % 2 ^ (hi + 1 - lo) := by
  have hlow' : v.toNat % 2 ^ lo < 2 ^ lo := Nat.mod_lt _ (Nat.two_pow_pos lo)
  unfold bits
  rw [putBits_toNat v hi lo x h hl, Nat.add_mul_div_left _ _ (Nat.two_pow_pos lo), Nat.div_eq_of_lt hlow', Nat.zero_add, Nat.add_mul_mod_self_left,
    Nat.mod_mod]

/-- Another field of the same word is as before. -/
theorem bits_putBits_other (v : Word) (hi lo x hi' lo' : Nat) (h : hi < 32) (hl : lo ≤ hi) (hd : hi' < lo ∨ hi < lo') :
    bits (putBits v hi lo x) hi' lo' = bits v hi' lo' := by
  unfold bits
  rw [putBits_toNat v hi lo x h hl]
  have hp : 0 < 2 ^ lo := Nat.two_pow_pos lo
  have hq : 0 < 2 ^ (hi + 1 - lo) := Nat.two_pow_pos _
  rcases hd with hd | hd
  · rcases Nat.lt_or_ge hi' lo' with he | he
    · have : hi' + 1 - lo' = 0 := by omega
      simp [this, Nat.mod_one]
    · have e : 2 ^ lo = 2 ^ lo' * (2 ^ (hi' + 1 - lo') * 2 ^ (lo - (hi' + 1))) := by
        rw [← Nat.pow_add, ← Nat.pow_add]; congr 1; omega
      have hp' : 0 < 2 ^ lo' := Nat.two_pow_pos lo'
      generalize x % 2 ^ (hi + 1 - lo) + 2 ^ (hi + 1 - lo) * (v.toNat / 2 ^ lo / 2 ^ (hi + 1 - lo)) = z
      have key (a : Nat) : (v.toNat % 2 ^ lo + 2 ^ lo * a) / 2 ^ lo' % 2 ^ (hi' + 1 - lo') = v.toNat % 2 ^ lo / 2 ^ lo' % 2 ^ (hi' + 1 - lo') := by
        rw [e, Nat.mul_assoc, Nat.add_mul_div_left _ _ hp', Nat.mul_assoc, Nat.add_mul_mod_self_left]
      rw [key z, ← key (v.toNat / 2 ^ lo), Nat.mod_add_div]
  · have e : 2 ^ lo' = 2 ^ lo * (2 ^ (hi + 1 - lo) * 2 ^ (lo' - (hi + 1))) := by
      rw [← Nat.pow_add, ← Nat.pow_add]; congr 1; omega
    have hlow' : v.toNat % 2 ^ lo < 2 ^ lo := Nat.mod_lt _ hp
    have hx : x % 2 ^ (hi + 1 - lo) < 2 ^ (hi + 1 - lo) := Nat.mod_lt _ hq
    rw [e, ← Nat.div_div_eq_div_mul, ← Nat.div_div_eq_div_mul, Nat.add_mul_div_left _ _ hp, Nat.div_eq_of_lt hlow', Nat.zero_add,
      Nat.add_mul_div_left _ _ hq, Nat.div_eq_of_lt hx, Nat.zero_add, ← Nat.div_div_eq_div_mul, ← Nat.div_div_eq_div_mul]

/-! ### Registers -/

@[simp] theorem State.reg_setReg_same (s : State) (o : Nat) (v : Word) : (s.setReg o v).reg o = v := by simp [State.reg, State.setReg]

theorem State.reg_setReg_other (s : State) (o o' : Nat) (v : Word) (h : o' ≠ o) : (s.setReg o v).reg o' = s.reg o' := by
  simp [State.reg, State.setReg, Tbl.get_set_other _ _ _ _ _ h]

/-- What the register at `o'` holds after a write at `o`. -/
theorem State.reg_setReg (s : State) (o o' : Nat) (v : Word) : (s.setReg o v).reg o' = if o' = o then v else s.reg o' := by
  simp [State.reg, State.setReg, Tbl.get_set]

theorem State.reg_setFld (s : State) (o hi lo x o' : Nat) : (s.setFld o hi lo x).reg o' = if o' = o then putBits (s.reg o) hi lo x else s.reg o' := by
  rw [State.setFld, State.reg_setReg]

/-- The field written. -/
theorem State.fld_setFld_same (s : State) (o hi lo x : Nat) (h : hi < 32) (hl : lo ≤ hi) : (s.setFld o hi lo x).fld o hi lo = x % 2 ^ (hi + 1 - lo) := by
  simp [State.fld, State.reg_setFld, bits_putBits _ _ _ _ h hl]

/-- Another field of the register written. -/
theorem State.fld_setFld_other (s : State) (o hi lo x hi' lo' : Nat) (h : hi < 32) (hl : lo ≤ hi) (hd : hi' < lo ∨ hi < lo') :
    (s.setFld o hi lo x).fld o hi' lo' = s.fld o hi' lo' := by
  simp [State.fld, State.reg_setFld, bits_putBits_other _ _ _ _ _ _ h hl hd]

/-- A field of another register. -/
theorem State.fld_setFld_reg (s : State) (o hi lo x o' hi' lo' : Nat) (h : o' ≠ o) : (s.setFld o hi lo x).fld o' hi' lo' = s.fld o' hi' lo' := by
  simp [State.fld, State.reg_setFld, h]

theorem State.fld_setReg_other (s : State) (o : Nat) (v : Word) (o' hi lo : Nat) (h : o' ≠ o) : (s.setReg o v).fld o' hi lo = s.fld o' hi lo := by
  simp [State.fld, State.reg_setReg, h]

@[simp] theorem State.fld_setReg_same (s : State) (o : Nat) (v : Word) (hi lo : Nat) : (s.setReg o v).fld o hi lo = bits v hi lo := by
  simp [State.fld]

/-- The bit written. -/
theorem State.flag_setBit_same (s : State) (o b : Nat) (v : Bool) (h : b < 32) : (s.setBit o b v).flag o b = v := by
  have e : b + 1 - b = 1 := by omega
  cases v <;> simp [State.flag, State.setBit, State.fld_setFld_same _ _ _ _ _ h (Nat.le_refl b), e]

theorem State.flag_setBit_other (s : State) (o b : Nat) (v : Bool) (b' : Nat) (h : b < 32) (hd : b' ≠ b) :
    (s.setBit o b v).flag o b' = s.flag o b' := by
  simp [State.flag, State.setBit, State.fld_setFld_other s o b b _ b' b' h (Nat.le_refl b) (by omega)]

theorem State.reg_setBit (s : State) (o b : Nat) (v : Bool) (o' : Nat) :
    (s.setBit o b v).reg o' = if o' = o then putBits (s.reg o) b b (if v then 1 else 0) else s.reg o' := by
  rw [State.setBit, State.reg_setFld]

theorem State.reg_bump (s : State) (o hi lo n o' : Nat) (h : o' ≠ o) : (s.bump o hi lo n).reg o' = s.reg o' := by
  simp [State.bump, State.reg_setFld, h]

/-- A counter field after it has counted (R506). -/
theorem State.fld_bump (s : State) (o hi lo n : Nat) (h : hi < 32) (hl : lo ≤ hi) :
    (s.bump o hi lo n).fld o hi lo = min (s.fld o hi lo + n) (2 ^ (hi + 1 - lo) - 1) := by
  rw [State.bump, State.fld_setFld_same _ _ _ _ _ h hl, satAdd, Nat.mod_eq_of_lt]
  have : 0 < 2 ^ (hi + 1 - lo) := Nat.two_pow_pos _
  omega

theorem State.reg_setReg64 (s : State) (o x o' : Nat) :
    (s.setReg64 o x).reg o' = if o' = o + 4 then BitVec.ofNat 32 (x / 2 ^ 32) else if o' = o then BitVec.ofNat 32 x else s.reg o' := by
  rw [State.setReg64, State.reg_setReg, State.reg_setReg]

/-- The 64-bit quantity written. -/
theorem State.reg64_setReg64_same (s : State) (o x : Nat) : (s.setReg64 o x).reg64 o = x % 2 ^ 64 := by
  have e : ¬ o = o + 4 := by omega
  simp only [State.reg64, State.reg_setReg64, if_true, if_neg e, BitVec.toNat_ofNat]
  omega

@[simp] theorem State.reg_emit (s : State) (x : Out) (o : Nat) : (s.emit x).reg o = s.reg o := rfl
@[simp] theorem State.fld_emit (s : State) (x : Out) (o hi lo : Nat) : (s.emit x).fld o hi lo = s.fld o hi lo := rfl
@[simp] theorem State.flag_emit (s : State) (x : Out) (o b : Nat) : (s.emit x).flag o b = s.flag o b := rfl

/-- Registers in the canonical form stay so. -/
theorem State.setReg_wf (s : State) (o : Nat) (v : Word) (h : Tbl.wf resetWord s.regs = true) : Tbl.wf resetWord (s.setReg o v).regs = true :=
  Tbl.set_wf _ _ _ _ h

end Sys2Proof.Machine
end

