-- ==== Sys2Proof/Laws/Canonical.lean ====
section
/-! SUPPORT. Laws/Canonical.lean: how a state of canonical form (State.Canonical) is kept: by what leaves the tables alone, by choices, and by folds. -/

namespace Sys2Proof.Machine

theorem State.Canonical.step {x y : State} (h : x.Canonical) (k : x.Canonical → y.Canonical) : y.Canonical := k h

/-- A state that differs in nothing but fields that no table of `State.Canonical` stands in. -/
theorem State.Canonical.congr {s t : State} (h1 : t.regs = s.regs) (h2 : t.rk.commons = s.rk.commons) (h3 : t.sd.ownerData = s.sd.ownerData)
    (h4 : t.lark.slotA.bytes = s.lark.slotA.bytes) (h5 : t.lark.slotB.bytes = s.lark.slotB.bytes) (h : s.Canonical) : t.Canonical := by
  unfold State.Canonical at *
  rw [h1, h2, h3, h4, h5]; exact h

/-- The same for a state written out in full. -/
theorem State.Canonical.mk' {s : State} {pending : List Instr} {regs : Tbl Word} {latches : List HalfLatch} {holds : List HalfLatch} {tb : TimeBase} {media : Media} {codes : Codes} {tp : Plots} {log : LogField} {df : Drift} {wb : WriteBuf} {host : HostIf} {rk : Rick} {gx : Gorse} {qs : Regul} {lark : Lark} {sw : Sward} {pw : Power} {th : Thermal} {ev : Recorder} {mt : Meter} {pm : Perf} {sd : Seed} {pins : Pins} {out : List Out} {free : Nat}
    (h1 : regs = s.regs) (h2 : rk.commons = s.rk.commons) (h3 : sd.ownerData = s.sd.ownerData)
    (h4 : lark.slotA.bytes = s.lark.slotA.bytes) (h5 : lark.slotB.bytes = s.lark.slotB.bytes) (h : s.Canonical) :
    (State.mk pending regs latches holds tb media codes tp log df wb host rk gx qs lark sw pw th ev mt pm sd pins out free).Canonical := State.Canonical.congr h1 h2 h3 h4 h5 h

theorem State.Canonical.ite {a b : State} {c : Prop} [Decidable c] (ha : a.Canonical) (hb : b.Canonical) : (if c then a else b).Canonical := by
  split <;> assumption

theorem State.Canonical.foldl {α : Type} {f : State → α → State} {l : List α} {s : State} (hf : ∀ t x, t.Canonical → (f t x).Canonical)
    (h : s.Canonical) : (l.foldl f s).Canonical := by
  induction l generalizing s with
  | nil => exact h
  | cons x l ih => exact ih (hf s x h)

/-- Folds that carry a value beside the state. -/
theorem State.Canonical.foldl_fst {α β : Type} {f : State × β → α → State × β} {l : List α} {p : State × β}
    (hf : ∀ q x, q.1.Canonical → (f q x).1.Canonical) (h : p.1.Canonical) : (l.foldl f p).1.Canonical := by
  induction l generalizing p with
  | nil => exact h
  | cons x l ih => exact ih (hf p x h)

theorem State.Canonical.foldl_snd {α β : Type} {f : β × State → α → β × State} {l : List α} {p : β × State}
    (hf : ∀ q x, q.2.Canonical → (f q x).2.Canonical) (h : p.2.Canonical) : (l.foldl f p).2.Canonical := by
  induction l generalizing p with
  | nil => exact h
  | cons x l ih => exact ih (hf p x h)

/-- Every next state that the answer gives has canonical form. -/
def Answer.Keeps (a : Answer) : Prop := ∀ t, a = .next t → t.Canonical

theorem Answer.Keeps.next {t : State} (h : t.Canonical) : Answer.Keeps (.next t) := by
  intro u e; cases e; exact h

theorem Answer.Keeps.fault (f : Fault) : Answer.Keeps (.fault f) := by
  intro u e; cases e

theorem Answer.Keeps.below {i n : Nat} {s : State} {a : Answer} (hs : s.Canonical) (h : Answer.Keeps a) : Answer.Keeps (below i n s a) := by
  unfold Sys2Proof.Machine.below; split
  · exact h
  · exact Answer.Keeps.next hs

theorem Answer.Keeps.ite {a b : Answer} {c : Prop} [Decidable c] (ha : Answer.Keeps a) (hb : Answer.Keeps b) : Answer.Keeps (if c then a else b) := by
  split <;> assumption

end Sys2Proof.Machine
end

