-- ==== Sys2Proof/Laws/Event.lean ====
section
/-! SUPPORT. Laws/Event.lean: what recording an event may change (R436 to R446, R337): the recorder, the performance monitor, the CXL event logs, the spread
counter of record numbers, what is sent out, and the counts of lost records; everything else stays. -/

namespace Sys2Proof.Machine

/-- A register that recording an event never writes. -/
def quietReg (o : Nat) : Prop := o ≠ EV + 0x1C ∧ o ≠ HI + 0xC4 ∧ (o < PM ∨ PM + 0x1000 ≤ o)

/-- `t` is `s` but for what recording events changes. -/
structure State.Logs (s t : State) : Prop where
  pending : t.pending = s.pending
  latches : t.latches = s.latches
  holds : t.holds = s.holds
  tb : t.tb = s.tb
  media : t.media = s.media
  codes : t.codes = s.codes
  tp : t.tp = s.tp
  log : t.log = s.log
  df : t.df = s.df
  wb : t.wb = s.wb
  rk : t.rk = s.rk
  gx : t.gx = s.gx
  qs : t.qs = s.qs
  lark : t.lark = s.lark
  sw : t.sw = s.sw
  pw : t.pw = s.pw
  th : t.th = s.th
  mt : t.mt = s.mt
  pins : t.pins = s.pins
  free : t.free = s.free
  ring : t.ev.ring = s.ev.ring
  archive : t.ev.archive = s.ev.archive
  archived : t.ev.archived = s.ev.archived
  page : t.ev.page = s.ev.page
  ringAt : t.ev.ringAt = s.ev.ringAt
  lastRing : t.ev.lastRing = s.ev.lastRing
  latched : t.ev.latched = s.ev.latched
  lds : (({ t.host with lds := s.host.lds }) : HostIf) = s.host
  seed : (({ t.sd with spread := s.sd.spread, moved := s.sd.moved }) : Seed) = s.sd
  reg : ∀ o, quietReg o → t.reg o = s.reg o

theorem State.Logs.refl (s : State) : State.Logs s s := by
  constructor <;> intros <;> rfl

theorem State.Logs.trans {s t u : State} (a : State.Logs s t) (b : State.Logs t u) : State.Logs s u where
  pending := b.pending.trans a.pending
  latches := b.latches.trans a.latches
  holds := b.holds.trans a.holds
  tb := b.tb.trans a.tb
  media := b.media.trans a.media
  codes := b.codes.trans a.codes
  tp := b.tp.trans a.tp
  log := b.log.trans a.log
  df := b.df.trans a.df
  wb := b.wb.trans a.wb
  rk := b.rk.trans a.rk
  gx := b.gx.trans a.gx
  qs := b.qs.trans a.qs
  lark := b.lark.trans a.lark
  sw := b.sw.trans a.sw
  pw := b.pw.trans a.pw
  th := b.th.trans a.th
  mt := b.mt.trans a.mt
  pins := b.pins.trans a.pins
  free := b.free.trans a.free
  ring := b.ring.trans a.ring
  archive := b.archive.trans a.archive
  archived := b.archived.trans a.archived
  page := b.page.trans a.page
  ringAt := b.ringAt.trans a.ringAt
  lastRing := b.lastRing.trans a.lastRing
  latched := b.latched.trans a.latched
  lds := by
    have h1 := a.lds; have h2 := b.lds
    rw [← h1, ← h2]
  seed := by
    have h1 := a.seed; have h2 := b.seed
    rw [← h1, ← h2]
  reg := fun o h => (b.reg o h).trans (a.reg o h)

theorem State.Logs.ite {s a b : State} {c : Prop} [Decidable c] (ha : State.Logs s a) (hb : State.Logs s b) : State.Logs s (if c then a else b) := by
  split <;> assumption

theorem State.Logs.foldl {α : Type} (f : State → α → State) (hf : ∀ t x, State.Logs t (f t x)) (l : List α) (s : State) : State.Logs s (l.foldl f s) := by
  induction l generalizing s with
  | nil => exact State.Logs.refl s
  | cons x l ih => exact (hf s x).trans (ih _)

/-- A write to a register that is not quiet. -/
theorem State.Logs.setReg (s : State) (o : Nat) (v : Word) (h : ¬ quietReg o) : State.Logs s (s.setReg o v) := by
  constructor <;> try rfl
  intro o' ho
  exact State.reg_setReg_other s o o' v (fun e => h (e ▸ ho))

theorem State.Logs.step {a x y : State} (h : State.Logs a x) (k : State.Logs a x → State.Logs a y) : State.Logs a y := k h

/-- A state that differs in the recorder, the performance monitor or what is sent out. -/
theorem State.Logs.upd {a s : State} (h : State.Logs a s) (staging : List Staged) (lostSince : Nat) (marks : List (Nat × Nat × Nat)) (next covered : Nat)
    (pm : Perf) (out : List Out) :
    State.Logs a { s with ev := { s.ev with staging := staging, lostSince := lostSince, marks := marks, next := next, covered := covered }, pm := pm, out := out } :=
  h.trans (by constructor <;> intros <;> rfl)

theorem State.Logs.updSeed {a s : State} (h : State.Logs a s) (sp : Tbl Spread) (mv : Tbl Nat) :
    State.Logs a { s with sd := { s.sd with spread := sp, moved := mv } } :=
  h.trans (by constructor <;> intros <;> rfl)

theorem State.Logs.updLd {a s : State} (h : State.Logs a s) (i : Nat) (l : Ld) : State.Logs a (s.setLd i l) :=
  h.trans (by constructor <;> intros <;> rfl)

theorem State.emit_logs {a s : State} (h : State.Logs a s) (x : Out) : State.Logs a (s.emit x) := h.trans (by constructor <;> intros <;> rfl)

theorem State.setBit_logs {a s : State} (h : State.Logs a s) (o b : Nat) (v : Bool) (hq : ¬ quietReg o) : State.Logs a (s.setBit o b v) :=
  h.trans (State.Logs.setReg s o _ hq)

theorem State.bump_logs {a s : State} (h : State.Logs a s) (o hi lo n : Nat) (hq : ¬ quietReg o) : State.Logs a (s.bump o hi lo n) :=
  h.trans (State.Logs.setReg s o _ hq)

theorem not_quiet_pm (o : Nat) (h : PM ≤ o) (h' : o < PM + 0x1000) : ¬ quietReg o := by unfold quietReg; omega

theorem State.pmOverflow_logs {a s : State} (h : State.Logs a s) (b k : Nat) (hk : 16 * b + k < 4096) : State.Logs a (s.pmOverflow b k) := by
  have hr : ¬ quietReg (PM + 0xD00 + 4 * ((16 * b + k) / 32)) := not_quiet_pm _ (by omega) (by omega)
  have h4 : ¬ quietReg (PM + 4) := not_quiet_pm _ (by omega) (by omega)
  have h1 := State.setBit_logs h _ ((16 * b + k) % 32) true hr
  unfold State.pmOverflow
  dsimp only
  generalize s.setBit (PM + 0xD00 + 4 * ((16 * b + k) / 32)) ((16 * b + k) % 32) true = t at h1 ⊢
  repeat' split
  · exact State.bump_logs h1 _ _ _ _ h4
  · exact State.bump_logs h1 _ _ _ _ h4
  · exact h1.upd t.ev.staging t.ev.lostSince t.ev.marks t.ev.next t.ev.covered _ t.out
  · exact h1

theorem State.countOne_logs {a s : State} (h : State.Logs a s) (b e i n k : Nat) (hk : 16 * b + k < 4096) : State.Logs a (s.countOne b e i n k) := by
  unfold State.countOne
  dsimp only
  repeat' split
  · exact State.pmOverflow_logs (h.upd s.ev.staging s.ev.lostSince s.ev.marks s.ev.next s.ev.covered _ s.out) b k hk
  · exact h.upd s.ev.staging s.ev.lostSince s.ev.marks s.ev.next s.ev.covered _ s.out
  · exact h

/-- Counting a performance event. -/
theorem State.count_logs {a s : State} (h : State.Logs a s) (b e i n : Nat) (hb : b < 12) : State.Logs a (s.count b e i n) := by
  unfold State.count
  split
  · have key : ∀ (l : List Nat), (∀ k ∈ l, k < 16) → ∀ t, State.Logs a t → State.Logs a (l.foldl (fun t k => t.countOne b e i n k) t) := by
      intro l
      induction l with
      | nil => intro _ t ht; exact ht
      | cons x l ih =>
        intro hl t ht
        exact ih (fun k hk => hl k (by simp [hk])) _ (State.countOne_logs ht b e i n x (by have := hl x (by simp); omega))
    exact key _ (fun k hk => by simpa using hk) s h
  · exact h

theorem State.countGlobal_logs' {a s : State} (h : State.Logs a s) (e n : Nat) : State.Logs a (s.countGlobal e n) :=
  State.count_logs (State.count_logs h 10 e 8 n (by omega)) 11 e 8 n (by omega)

theorem State.stage_logs {a s : State} (h : State.Logs a s) (e : EventRec) : State.Logs a (s.stage e) := by
  unfold State.stage
  dsimp only
  split
  · exact h.upd _ s.ev.lostSince s.ev.marks s.ev.next s.ev.covered s.pm s.out
  · have h1 : State.Logs a (({ s with ev := { s.ev with lostSince := s.ev.lostSince + 1 } }).bump (EV + 0x1C) 31 0 1) :=
      State.bump_logs (h.upd s.ev.staging _ s.ev.marks s.ev.next s.ev.covered s.pm s.out) _ _ _ _ (by unfold quietReg; simp)
    generalize ({ s with ev := { s.ev with lostSince := s.ev.lostSince + 1 } } : State).bump (EV + 0x1C) 31 0 1 = t at h1 ⊢
    split
    · exact h1.upd _ t.ev.lostSince t.ev.marks t.ev.next t.ev.covered t.pm t.out
    · exact h1

theorem State.advanceCounter_logs {a s : State} (h : State.Logs a s) (q c : Nat) : State.Logs a (s.advanceCounter q c).2 := by
  unfold State.advanceCounter
  dsimp only
  split
  · exact h.updSeed _ s.sd.moved
  · split
    · exact h.updSeed _ s.sd.moved
    · split
      · exact h.updSeed _ _
      · exact h.updSeed _ s.sd.moved

theorem State.nextSeq_logs {a s : State} (h : State.Logs a s) : State.Logs a s.nextSeq.2 := by
  unfold State.nextSeq
  split
  · exact h
  · have h1 := State.advanceCounter_logs h 9 (s.counter 9 + 256)
    generalize hq : s.advanceCounter 9 (s.counter 9 + 256) = q at h1
    have h2 : State.Logs a { q.2 with ev := { q.2.ev with covered := s.counter 9 + 256, next := max q.2.ev.next (s.counter 9 + 256 - 256) } } :=
      h1.upd q.2.ev.staging q.2.ev.lostSince q.2.ev.marks _ _ q.2.pm q.2.out
    simpa only [hq] using h2

theorem State.putRecord_logs {a s : State} (h : State.Logs a s) (code inst : Nat) (dom : Option Nat) (p0 p1 : Nat) :
    State.Logs a (s.putRecord code inst dom p0 p1) := by
  unfold State.putRecord
  refine State.countGlobal_logs' ?_ _ _
  have h1 := State.stage_logs (h.upd s.ev.staging s.ev.lostSince s.ev.marks (s.ev.next + 1) s.ev.covered s.pm s.out)
    { seq := s.ev.next, ztime := s.tb.ztime, code := code, block := codeBlock code, inst := inst, dom := dom, sev := codeSeverity code
      flags := (if s.tbState = 2 then 0 else 1) + (if s.flag TB 8 then 0 else 2) + (if s.wb.recovered then 0 else 4)
      p0 := p0 % 2 ^ 32, p1 := p1 % 2 ^ 32 }
  exact State.Logs.ite (State.emit_logs (State.Logs.ite (State.emit_logs h1 _) h1) _) (State.Logs.ite (State.emit_logs h1 _) h1)

/-- Recording an event. -/
theorem State.record_logs {a s : State} (h : State.Logs a s) (code inst : Nat) (dom : Option Nat) (p0 p1 : Nat) :
    State.Logs a (s.record code inst dom p0 p1) := by
  have h1 := State.putRecord_logs (State.nextSeq_logs h) code inst dom p0 p1
  unfold State.record
  split
  rename_i m t e
  rw [e] at h1
  split
  · exact State.putRecord_logs h1 _ _ _ _ _
  · exact h1

theorem State.recordOnce_logs {a s : State} (h : State.Logs a s) (key code inst : Nat) (dom : Option Nat) (p0 p1 : Nat) :
    State.Logs a (s.recordOnce key code inst dom p0 p1) := by
  unfold State.recordOnce
  split
  · exact h
  · exact State.record_logs (h.upd s.ev.staging s.ev.lostSince _ s.ev.next s.ev.covered s.pm s.out) _ _ _ _ _

theorem State.cxlRecord_logs {a s : State} (h : State.Logs a s) (i log code p0 : Nat) : State.Logs a (s.cxlRecord i log code p0) := by
  unfold State.cxlRecord
  dsimp only
  split
  · split
    · exact State.emit_logs (h.updLd _ _) _
    · exact h.updLd _ _
  · exact State.recordOnce_logs (State.bump_logs (h.updLd _ _) _ _ _ _ (by unfold quietReg; simp)) _ _ _ _ _ _

theorem State.cxlEvents_logs {a s : State} (h : State.Logs a s) (code : Nat) (dom : Option Nat) (p0 : Nat) : State.Logs a (s.cxlEvents code dom p0) := by
  unfold State.cxlEvents
  split
  · exact h
  · split
    · split
      · exact State.cxlRecord_logs h _ _ _ _
      · exact h
    · refine h.trans (State.Logs.foldl _ (fun t x => ?_) _ s)
      split
      · exact State.cxlRecord_logs (State.Logs.refl t) _ _ _ _
      · exact State.Logs.refl t

theorem State.event_logs' {a s : State} (h : State.Logs a s) (code inst : Nat) (dom : Option Nat) (p0 p1 : Nat) :
    State.Logs a (s.event code inst dom p0 p1) := State.cxlEvents_logs (State.record_logs h code inst dom p0 p1) _ _ _

/-- Recording an event with its CXL records. -/
theorem State.event_logs (s : State) (code inst : Nat) (dom : Option Nat) (p0 p1 : Nat) : State.Logs s (s.event code inst dom p0 p1) :=
  State.event_logs' (State.Logs.refl s) code inst dom p0 p1

theorem State.countGlobal_logs (s : State) (e n : Nat) : State.Logs s (s.countGlobal e n) := State.countGlobal_logs' (State.Logs.refl s) e n

theorem State.eventOnce_logs (s : State) (key code inst : Nat) (dom : Option Nat) (p0 p1 : Nat) :
    State.Logs s (s.eventOnce key code inst dom p0 p1) := by
  unfold State.eventOnce
  split
  · exact State.Logs.refl s
  · exact State.event_logs' ((State.Logs.refl s).upd s.ev.staging s.ev.lostSince _ s.ev.next s.ev.covered s.pm s.out) _ _ _ _ _

theorem State.advanceTo_logs (s : State) (q c : Nat) : State.Logs s (s.advanceTo q c) := by
  have h1 := State.advanceCounter_logs (State.Logs.refl s) q c
  unfold State.advanceTo
  split
  rename_i m t e
  rw [e] at h1
  split
  · exact State.event_logs' h1 _ _ _ _ _
  · exact h1

/-! ### The same, field by field -/

@[simp] theorem State.event_pending (s : State) (code inst : Nat) (dom : Option Nat) (p0 p1 : Nat) : (s.event code inst dom p0 p1).pending = s.pending := (State.event_logs s code inst dom p0 p1).pending
@[simp] theorem State.event_latches (s : State) (code inst : Nat) (dom : Option Nat) (p0 p1 : Nat) : (s.event code inst dom p0 p1).latches = s.latches := (State.event_logs s code inst dom p0 p1).latches
@[simp] theorem State.event_holds (s : State) (code inst : Nat) (dom : Option Nat) (p0 p1 : Nat) : (s.event code inst dom p0 p1).holds = s.holds := (State.event_logs s code inst dom p0 p1).holds
@[simp] theorem State.event_tb (s : State) (code inst : Nat) (dom : Option Nat) (p0 p1 : Nat) : (s.event code inst dom p0 p1).tb = s.tb := (State.event_logs s code inst dom p0 p1).tb
@[simp] theorem State.event_media (s : State) (code inst : Nat) (dom : Option Nat) (p0 p1 : Nat) : (s.event code inst dom p0 p1).media = s.media := (State.event_logs s code inst dom p0 p1).media
@[simp] theorem State.event_codes (s : State) (code inst : Nat) (dom : Option Nat) (p0 p1 : Nat) : (s.event code inst dom p0 p1).codes = s.codes := (State.event_logs s code inst dom p0 p1).codes
@[simp] theorem State.event_tp (s : State) (code inst : Nat) (dom : Option Nat) (p0 p1 : Nat) : (s.event code inst dom p0 p1).tp = s.tp := (State.event_logs s code inst dom p0 p1).tp
@[simp] theorem State.event_log (s : State) (code inst : Nat) (dom : Option Nat) (p0 p1 : Nat) : (s.event code inst dom p0 p1).log = s.log := (State.event_logs s code inst dom p0 p1).log
@[simp] theorem State.event_df (s : State) (code inst : Nat) (dom : Option Nat) (p0 p1 : Nat) : (s.event code inst dom p0 p1).df = s.df := (State.event_logs s code inst dom p0 p1).df
@[simp] theorem State.event_wb (s : State) (code inst : Nat) (dom : Option Nat) (p0 p1 : Nat) : (s.event code inst dom p0 p1).wb = s.wb := (State.event_logs s code inst dom p0 p1).wb
@[simp] theorem State.event_rk (s : State) (code inst : Nat) (dom : Option Nat) (p0 p1 : Nat) : (s.event code inst dom p0 p1).rk = s.rk := (State.event_logs s code inst dom p0 p1).rk
@[simp] theorem State.event_gx (s : State) (code inst : Nat) (dom : Option Nat) (p0 p1 : Nat) : (s.event code inst dom p0 p1).gx = s.gx := (State.event_logs s code inst dom p0 p1).gx
@[simp] theorem State.event_qs (s : State) (code inst : Nat) (dom : Option Nat) (p0 p1 : Nat) : (s.event code inst dom p0 p1).qs = s.qs := (State.event_logs s code inst dom p0 p1).qs
@[simp] theorem State.event_lark (s : State) (code inst : Nat) (dom : Option Nat) (p0 p1 : Nat) : (s.event code inst dom p0 p1).lark = s.lark := (State.event_logs s code inst dom p0 p1).lark
@[simp] theorem State.event_sw (s : State) (code inst : Nat) (dom : Option Nat) (p0 p1 : Nat) : (s.event code inst dom p0 p1).sw = s.sw := (State.event_logs s code inst dom p0 p1).sw
@[simp] theorem State.event_pw (s : State) (code inst : Nat) (dom : Option Nat) (p0 p1 : Nat) : (s.event code inst dom p0 p1).pw = s.pw := (State.event_logs s code inst dom p0 p1).pw
@[simp] theorem State.event_th (s : State) (code inst : Nat) (dom : Option Nat) (p0 p1 : Nat) : (s.event code inst dom p0 p1).th = s.th := (State.event_logs s code inst dom p0 p1).th
@[simp] theorem State.event_mt (s : State) (code inst : Nat) (dom : Option Nat) (p0 p1 : Nat) : (s.event code inst dom p0 p1).mt = s.mt := (State.event_logs s code inst dom p0 p1).mt
@[simp] theorem State.event_pins (s : State) (code inst : Nat) (dom : Option Nat) (p0 p1 : Nat) : (s.event code inst dom p0 p1).pins = s.pins := (State.event_logs s code inst dom p0 p1).pins
@[simp] theorem State.event_free (s : State) (code inst : Nat) (dom : Option Nat) (p0 p1 : Nat) : (s.event code inst dom p0 p1).free = s.free := (State.event_logs s code inst dom p0 p1).free
@[simp] theorem State.event_ring (s : State) (code inst : Nat) (dom : Option Nat) (p0 p1 : Nat) : (s.event code inst dom p0 p1).ev.ring = s.ev.ring := (State.event_logs s code inst dom p0 p1).ring
@[simp] theorem State.event_archive (s : State) (code inst : Nat) (dom : Option Nat) (p0 p1 : Nat) : (s.event code inst dom p0 p1).ev.archive = s.ev.archive := (State.event_logs s code inst dom p0 p1).archive
@[simp] theorem State.event_archived (s : State) (code inst : Nat) (dom : Option Nat) (p0 p1 : Nat) : (s.event code inst dom p0 p1).ev.archived = s.ev.archived := (State.event_logs s code inst dom p0 p1).archived
@[simp] theorem State.event_page (s : State) (code inst : Nat) (dom : Option Nat) (p0 p1 : Nat) : (s.event code inst dom p0 p1).ev.page = s.ev.page := (State.event_logs s code inst dom p0 p1).page
@[simp] theorem State.event_ringAt (s : State) (code inst : Nat) (dom : Option Nat) (p0 p1 : Nat) : (s.event code inst dom p0 p1).ev.ringAt = s.ev.ringAt := (State.event_logs s code inst dom p0 p1).ringAt
@[simp] theorem State.event_lastRing (s : State) (code inst : Nat) (dom : Option Nat) (p0 p1 : Nat) : (s.event code inst dom p0 p1).ev.lastRing = s.ev.lastRing := (State.event_logs s code inst dom p0 p1).lastRing
@[simp] theorem State.event_latched (s : State) (code inst : Nat) (dom : Option Nat) (p0 p1 : Nat) : (s.event code inst dom p0 p1).ev.latched = s.ev.latched := (State.event_logs s code inst dom p0 p1).latched
theorem State.event_fld (s : State) (code inst : Nat) (dom : Option Nat) (p0 p1 : Nat) (o hi lo : Nat) (h : quietReg o) : (s.event code inst dom p0 p1).fld o hi lo = s.fld o hi lo := by
  simp only [State.fld, (State.event_logs s code inst dom p0 p1).reg o h]
theorem State.event_flag (s : State) (code inst : Nat) (dom : Option Nat) (p0 p1 : Nat) (o b : Nat) (h : quietReg o) : (s.event code inst dom p0 p1).flag o b = s.flag o b :=
  congrArg (fun w => decide (bits w b b = 1)) ((State.event_logs s code inst dom p0 p1).reg o h)
@[simp] theorem State.event_reqs (s : State) (code inst : Nat) (dom : Option Nat) (p0 p1 : Nat) : (s.event code inst dom p0 p1).host.reqs = s.host.reqs := by
  have := congrArg HostIf.reqs (State.event_logs s code inst dom p0 p1).lds; exact this
@[simp] theorem State.event_nextReq (s : State) (code inst : Nat) (dom : Option Nat) (p0 p1 : Nat) : (s.event code inst dom p0 p1).host.nextReq = s.host.nextReq := by
  have := congrArg HostIf.nextReq (State.event_logs s code inst dom p0 p1).lds; exact this
@[simp] theorem State.event_fetches (s : State) (code inst : Nat) (dom : Option Nat) (p0 p1 : Nat) : (s.event code inst dom p0 p1).host.fetches = s.host.fetches := by
  have := congrArg HostIf.fetches (State.event_logs s code inst dom p0 p1).lds; exact this
@[simp] theorem State.event_nextFetch (s : State) (code inst : Nat) (dom : Option Nat) (p0 p1 : Nat) : (s.event code inst dom p0 p1).host.nextFetch = s.host.nextFetch := by
  have := congrArg HostIf.nextFetch (State.event_logs s code inst dom p0 p1).lds; exact this
@[simp] theorem State.event_corrected (s : State) (code inst : Nat) (dom : Option Nat) (p0 p1 : Nat) : (s.event code inst dom p0 p1).host.corrected = s.host.corrected := by
  have := congrArg HostIf.corrected (State.event_logs s code inst dom p0 p1).lds; exact this
@[simp] theorem State.event_spdm (s : State) (code inst : Nat) (dom : Option Nat) (p0 p1 : Nat) : (s.event code inst dom p0 p1).host.spdm = s.host.spdm := by
  have := congrArg HostIf.spdm (State.event_logs s code inst dom p0 p1).lds; exact this
@[simp] theorem State.event_gpfWait (s : State) (code inst : Nat) (dom : Option Nat) (p0 p1 : Nat) : (s.event code inst dom p0 p1).host.gpfWait = s.host.gpfWait := by
  have := congrArg HostIf.gpfWait (State.event_logs s code inst dom p0 p1).lds; exact this
@[simp] theorem State.event_ldCfg (s : State) (code inst : Nat) (dom : Option Nat) (p0 p1 : Nat) : (s.event code inst dom p0 p1).host.ldCfg = s.host.ldCfg := by
  have := congrArg HostIf.ldCfg (State.event_logs s code inst dom p0 p1).lds; exact this
@[simp] theorem State.event_portCfg (s : State) (code inst : Nat) (dom : Option Nat) (p0 p1 : Nat) : (s.event code inst dom p0 p1).host.portCfg = s.host.portCfg := by
  have := congrArg HostIf.portCfg (State.event_logs s code inst dom p0 p1).lds; exact this
@[simp] theorem State.event_ownerPort (s : State) (code inst : Nat) (dom : Option Nat) (p0 p1 : Nat) : (s.event code inst dom p0 p1).host.ownerPort = s.host.ownerPort := by
  have := congrArg HostIf.ownerPort (State.event_logs s code inst dom p0 p1).lds; exact this
@[simp] theorem State.event_queue (s : State) (code inst : Nat) (dom : Option Nat) (p0 p1 : Nat) : (s.event code inst dom p0 p1).sd.queue = s.sd.queue := by
  have := congrArg Seed.queue (State.event_logs s code inst dom p0 p1).seed; exact this
@[simp] theorem State.event_slots (s : State) (code inst : Nat) (dom : Option Nat) (p0 p1 : Nat) : (s.event code inst dom p0 p1).sd.slots = s.sd.slots := by
  have := congrArg Seed.slots (State.event_logs s code inst dom p0 p1).seed; exact this
@[simp] theorem State.event_frozen (s : State) (code inst : Nat) (dom : Option Nat) (p0 p1 : Nat) : (s.event code inst dom p0 p1).sd.frozen = s.sd.frozen := by
  have := congrArg Seed.frozen (State.event_logs s code inst dom p0 p1).seed; exact this
@[simp] theorem State.event_regMoved (s : State) (code inst : Nat) (dom : Option Nat) (p0 p1 : Nat) : (s.event code inst dom p0 p1).sd.regMoved = s.sd.regMoved := by
  have := congrArg Seed.regMoved (State.event_logs s code inst dom p0 p1).seed; exact this
@[simp] theorem State.event_wornPlaces (s : State) (code inst : Nat) (dom : Option Nat) (p0 p1 : Nat) : (s.event code inst dom p0 p1).sd.wornPlaces = s.sd.wornPlaces := by
  have := congrArg Seed.wornPlaces (State.event_logs s code inst dom p0 p1).seed; exact this
@[simp] theorem State.event_wornOn (s : State) (code inst : Nat) (dom : Option Nat) (p0 p1 : Nat) : (s.event code inst dom p0 p1).sd.wornOn = s.sd.wornOn := by
  have := congrArg Seed.wornOn (State.event_logs s code inst dom p0 p1).seed; exact this
@[simp] theorem State.event_schedule (s : State) (code inst : Nat) (dom : Option Nat) (p0 p1 : Nat) : (s.event code inst dom p0 p1).sd.schedule = s.sd.schedule := by
  have := congrArg Seed.schedule (State.event_logs s code inst dom p0 p1).seed; exact this
@[simp] theorem State.event_profile (s : State) (code inst : Nat) (dom : Option Nat) (p0 p1 : Nat) : (s.event code inst dom p0 p1).sd.profile = s.sd.profile := by
  have := congrArg Seed.profile (State.event_logs s code inst dom p0 p1).seed; exact this
@[simp] theorem State.event_ownerData (s : State) (code inst : Nat) (dom : Option Nat) (p0 p1 : Nat) : (s.event code inst dom p0 p1).sd.ownerData = s.sd.ownerData := by
  have := congrArg Seed.ownerData (State.event_logs s code inst dom p0 p1).seed; exact this
@[simp] theorem State.event_keyBlobs (s : State) (code inst : Nat) (dom : Option Nat) (p0 p1 : Nat) : (s.event code inst dom p0 p1).sd.keyBlobs = s.sd.keyBlobs := by
  have := congrArg Seed.keyBlobs (State.event_logs s code inst dom p0 p1).seed; exact this
@[simp] theorem State.event_pagesRelocated (s : State) (code inst : Nat) (dom : Option Nat) (p0 p1 : Nat) : (s.event code inst dom p0 p1).sd.pagesRelocated = s.sd.pagesRelocated := by
  have := congrArg Seed.pagesRelocated (State.event_logs s code inst dom p0 p1).seed; exact this
@[simp] theorem State.event_reserveUsed (s : State) (code inst : Nat) (dom : Option Nat) (p0 p1 : Nat) : (s.event code inst dom p0 p1).sd.reserveUsed = s.sd.reserveUsed := by
  have := congrArg Seed.reserveUsed (State.event_logs s code inst dom p0 p1).seed; exact this
@[simp] theorem State.event_profileLost (s : State) (code inst : Nat) (dom : Option Nat) (p0 p1 : Nat) : (s.event code inst dom p0 p1).sd.profileLost = s.sd.profileLost := by
  have := congrArg Seed.profileLost (State.event_logs s code inst dom p0 p1).seed; exact this
@[simp] theorem State.event_crownLostA (s : State) (code inst : Nat) (dom : Option Nat) (p0 p1 : Nat) : (s.event code inst dom p0 p1).sd.crownLostA = s.sd.crownLostA := by
  have := congrArg Seed.crownLostA (State.event_logs s code inst dom p0 p1).seed; exact this
@[simp] theorem State.event_crownLostB (s : State) (code inst : Nat) (dom : Option Nat) (p0 p1 : Nat) : (s.event code inst dom p0 p1).sd.crownLostB = s.sd.crownLostB := by
  have := congrArg Seed.crownLostB (State.event_logs s code inst dom p0 p1).seed; exact this
theorem State.event_reg (s : State) (code inst : Nat) (dom : Option Nat) (p0 p1 : Nat) (o : Nat) (h : quietReg o) : (s.event code inst dom p0 p1).reg o = s.reg o := (State.event_logs s code inst dom p0 p1).reg o h

@[simp] theorem State.eventOnce_pending (s : State) (key code inst : Nat) (dom : Option Nat) (p0 p1 : Nat) : (s.eventOnce key code inst dom p0 p1).pending = s.pending := (State.eventOnce_logs s key code inst dom p0 p1).pending
@[simp] theorem State.eventOnce_latches (s : State) (key code inst : Nat) (dom : Option Nat) (p0 p1 : Nat) : (s.eventOnce key code inst dom p0 p1).latches = s.latches := (State.eventOnce_logs s key code inst dom p0 p1).latches
@[simp] theorem State.eventOnce_holds (s : State) (key code inst : Nat) (dom : Option Nat) (p0 p1 : Nat) : (s.eventOnce key code inst dom p0 p1).holds = s.holds := (State.eventOnce_logs s key code inst dom p0 p1).holds
@[simp] theorem State.eventOnce_tb (s : State) (key code inst : Nat) (dom : Option Nat) (p0 p1 : Nat) : (s.eventOnce key code inst dom p0 p1).tb = s.tb := (State.eventOnce_logs s key code inst dom p0 p1).tb
@[simp] theorem State.eventOnce_media (s : State) (key code inst : Nat) (dom : Option Nat) (p0 p1 : Nat) : (s.eventOnce key code inst dom p0 p1).media = s.media := (State.eventOnce_logs s key code inst dom p0 p1).media
@[simp] theorem State.eventOnce_codes (s : State) (key code inst : Nat) (dom : Option Nat) (p0 p1 : Nat) : (s.eventOnce key code inst dom p0 p1).codes = s.codes := (State.eventOnce_logs s key code inst dom p0 p1).codes
@[simp] theorem State.eventOnce_tp (s : State) (key code inst : Nat) (dom : Option Nat) (p0 p1 : Nat) : (s.eventOnce key code inst dom p0 p1).tp = s.tp := (State.eventOnce_logs s key code inst dom p0 p1).tp
@[simp] theorem State.eventOnce_log (s : State) (key code inst : Nat) (dom : Option Nat) (p0 p1 : Nat) : (s.eventOnce key code inst dom p0 p1).log = s.log := (State.eventOnce_logs s key code inst dom p0 p1).log
@[simp] theorem State.eventOnce_df (s : State) (key code inst : Nat) (dom : Option Nat) (p0 p1 : Nat) : (s.eventOnce key code inst dom p0 p1).df = s.df := (State.eventOnce_logs s key code inst dom p0 p1).df
@[simp] theorem State.eventOnce_wb (s : State) (key code inst : Nat) (dom : Option Nat) (p0 p1 : Nat) : (s.eventOnce key code inst dom p0 p1).wb = s.wb := (State.eventOnce_logs s key code inst dom p0 p1).wb
@[simp] theorem State.eventOnce_rk (s : State) (key code inst : Nat) (dom : Option Nat) (p0 p1 : Nat) : (s.eventOnce key code inst dom p0 p1).rk = s.rk := (State.eventOnce_logs s key code inst dom p0 p1).rk
@[simp] theorem State.eventOnce_gx (s : State) (key code inst : Nat) (dom : Option Nat) (p0 p1 : Nat) : (s.eventOnce key code inst dom p0 p1).gx = s.gx := (State.eventOnce_logs s key code inst dom p0 p1).gx
@[simp] theorem State.eventOnce_qs (s : State) (key code inst : Nat) (dom : Option Nat) (p0 p1 : Nat) : (s.eventOnce key code inst dom p0 p1).qs = s.qs := (State.eventOnce_logs s key code inst dom p0 p1).qs
@[simp] theorem State.eventOnce_lark (s : State) (key code inst : Nat) (dom : Option Nat) (p0 p1 : Nat) : (s.eventOnce key code inst dom p0 p1).lark = s.lark := (State.eventOnce_logs s key code inst dom p0 p1).lark
@[simp] theorem State.eventOnce_sw (s : State) (key code inst : Nat) (dom : Option Nat) (p0 p1 : Nat) : (s.eventOnce key code inst dom p0 p1).sw = s.sw := (State.eventOnce_logs s key code inst dom p0 p1).sw
@[simp] theorem State.eventOnce_pw (s : State) (key code inst : Nat) (dom : Option Nat) (p0 p1 : Nat) : (s.eventOnce key code inst dom p0 p1).pw = s.pw := (State.eventOnce_logs s key code inst dom p0 p1).pw
@[simp] theorem State.eventOnce_th (s : State) (key code inst : Nat) (dom : Option Nat) (p0 p1 : Nat) : (s.eventOnce key code inst dom p0 p1).th = s.th := (State.eventOnce_logs s key code inst dom p0 p1).th
@[simp] theorem State.eventOnce_mt (s : State) (key code inst : Nat) (dom : Option Nat) (p0 p1 : Nat) : (s.eventOnce key code inst dom p0 p1).mt = s.mt := (State.eventOnce_logs s key code inst dom p0 p1).mt
@[simp] theorem State.eventOnce_pins (s : State) (key code inst : Nat) (dom : Option Nat) (p0 p1 : Nat) : (s.eventOnce key code inst dom p0 p1).pins = s.pins := (State.eventOnce_logs s key code inst dom p0 p1).pins
@[simp] theorem State.eventOnce_free (s : State) (key code inst : Nat) (dom : Option Nat) (p0 p1 : Nat) : (s.eventOnce key code inst dom p0 p1).free = s.free := (State.eventOnce_logs s key code inst dom p0 p1).free
@[simp] theorem State.eventOnce_ring (s : State) (key code inst : Nat) (dom : Option Nat) (p0 p1 : Nat) : (s.eventOnce key code inst dom p0 p1).ev.ring = s.ev.ring := (State.eventOnce_logs s key code inst dom p0 p1).ring
@[simp] theorem State.eventOnce_archive (s : State) (key code inst : Nat) (dom : Option Nat) (p0 p1 : Nat) : (s.eventOnce key code inst dom p0 p1).ev.archive = s.ev.archive := (State.eventOnce_logs s key code inst dom p0 p1).archive
@[simp] theorem State.eventOnce_archived (s : State) (key code inst : Nat) (dom : Option Nat) (p0 p1 : Nat) : (s.eventOnce key code inst dom p0 p1).ev.archived = s.ev.archived := (State.eventOnce_logs s key code inst dom p0 p1).archived
@[simp] theorem State.eventOnce_page (s : State) (key code inst : Nat) (dom : Option Nat) (p0 p1 : Nat) : (s.eventOnce key code inst dom p0 p1).ev.page = s.ev.page := (State.eventOnce_logs s key code inst dom p0 p1).page
@[simp] theorem State.eventOnce_ringAt (s : State) (key code inst : Nat) (dom : Option Nat) (p0 p1 : Nat) : (s.eventOnce key code inst dom p0 p1).ev.ringAt = s.ev.ringAt := (State.eventOnce_logs s key code inst dom p0 p1).ringAt
@[simp] theorem State.eventOnce_lastRing (s : State) (key code inst : Nat) (dom : Option Nat) (p0 p1 : Nat) : (s.eventOnce key code inst dom p0 p1).ev.lastRing = s.ev.lastRing := (State.eventOnce_logs s key code inst dom p0 p1).lastRing
@[simp] theorem State.eventOnce_latched (s : State) (key code inst : Nat) (dom : Option Nat) (p0 p1 : Nat) : (s.eventOnce key code inst dom p0 p1).ev.latched = s.ev.latched := (State.eventOnce_logs s key code inst dom p0 p1).latched
theorem State.eventOnce_fld (s : State) (key code inst : Nat) (dom : Option Nat) (p0 p1 : Nat) (o hi lo : Nat) (h : quietReg o) : (s.eventOnce key code inst dom p0 p1).fld o hi lo = s.fld o hi lo := by
  simp only [State.fld, (State.eventOnce_logs s key code inst dom p0 p1).reg o h]
theorem State.eventOnce_flag (s : State) (key code inst : Nat) (dom : Option Nat) (p0 p1 : Nat) (o b : Nat) (h : quietReg o) : (s.eventOnce key code inst dom p0 p1).flag o b = s.flag o b :=
  congrArg (fun w => decide (bits w b b = 1)) ((State.eventOnce_logs s key code inst dom p0 p1).reg o h)
@[simp] theorem State.eventOnce_reqs (s : State) (key code inst : Nat) (dom : Option Nat) (p0 p1 : Nat) : (s.eventOnce key code inst dom p0 p1).host.reqs = s.host.reqs := by
  have := congrArg HostIf.reqs (State.eventOnce_logs s key code inst dom p0 p1).lds; exact this
@[simp] theorem State.eventOnce_nextReq (s : State) (key code inst : Nat) (dom : Option Nat) (p0 p1 : Nat) : (s.eventOnce key code inst dom p0 p1).host.nextReq = s.host.nextReq := by
  have := congrArg HostIf.nextReq (State.eventOnce_logs s key code inst dom p0 p1).lds; exact this
@[simp] theorem State.eventOnce_fetches (s : State) (key code inst : Nat) (dom : Option Nat) (p0 p1 : Nat) : (s.eventOnce key code inst dom p0 p1).host.fetches = s.host.fetches := by
  have := congrArg HostIf.fetches (State.eventOnce_logs s key code inst dom p0 p1).lds; exact this
@[simp] theorem State.eventOnce_nextFetch (s : State) (key code inst : Nat) (dom : Option Nat) (p0 p1 : Nat) : (s.eventOnce key code inst dom p0 p1).host.nextFetch = s.host.nextFetch := by
  have := congrArg HostIf.nextFetch (State.eventOnce_logs s key code inst dom p0 p1).lds; exact this
@[simp] theorem State.eventOnce_corrected (s : State) (key code inst : Nat) (dom : Option Nat) (p0 p1 : Nat) : (s.eventOnce key code inst dom p0 p1).host.corrected = s.host.corrected := by
  have := congrArg HostIf.corrected (State.eventOnce_logs s key code inst dom p0 p1).lds; exact this
@[simp] theorem State.eventOnce_spdm (s : State) (key code inst : Nat) (dom : Option Nat) (p0 p1 : Nat) : (s.eventOnce key code inst dom p0 p1).host.spdm = s.host.spdm := by
  have := congrArg HostIf.spdm (State.eventOnce_logs s key code inst dom p0 p1).lds; exact this
@[simp] theorem State.eventOnce_gpfWait (s : State) (key code inst : Nat) (dom : Option Nat) (p0 p1 : Nat) : (s.eventOnce key code inst dom p0 p1).host.gpfWait = s.host.gpfWait := by
  have := congrArg HostIf.gpfWait (State.eventOnce_logs s key code inst dom p0 p1).lds; exact this
@[simp] theorem State.eventOnce_ldCfg (s : State) (key code inst : Nat) (dom : Option Nat) (p0 p1 : Nat) : (s.eventOnce key code inst dom p0 p1).host.ldCfg = s.host.ldCfg := by
  have := congrArg HostIf.ldCfg (State.eventOnce_logs s key code inst dom p0 p1).lds; exact this
@[simp] theorem State.eventOnce_portCfg (s : State) (key code inst : Nat) (dom : Option Nat) (p0 p1 : Nat) : (s.eventOnce key code inst dom p0 p1).host.portCfg = s.host.portCfg := by
  have := congrArg HostIf.portCfg (State.eventOnce_logs s key code inst dom p0 p1).lds; exact this
@[simp] theorem State.eventOnce_ownerPort (s : State) (key code inst : Nat) (dom : Option Nat) (p0 p1 : Nat) : (s.eventOnce key code inst dom p0 p1).host.ownerPort = s.host.ownerPort := by
  have := congrArg HostIf.ownerPort (State.eventOnce_logs s key code inst dom p0 p1).lds; exact this
@[simp] theorem State.eventOnce_queue (s : State) (key code inst : Nat) (dom : Option Nat) (p0 p1 : Nat) : (s.eventOnce key code inst dom p0 p1).sd.queue = s.sd.queue := by
  have := congrArg Seed.queue (State.eventOnce_logs s key code inst dom p0 p1).seed; exact this
@[simp] theorem State.eventOnce_slots (s : State) (key code inst : Nat) (dom : Option Nat) (p0 p1 : Nat) : (s.eventOnce key code inst dom p0 p1).sd.slots = s.sd.slots := by
  have := congrArg Seed.slots (State.eventOnce_logs s key code inst dom p0 p1).seed; exact this
@[simp] theorem State.eventOnce_frozen (s : State) (key code inst : Nat) (dom : Option Nat) (p0 p1 : Nat) : (s.eventOnce key code inst dom p0 p1).sd.frozen = s.sd.frozen := by
  have := congrArg Seed.frozen (State.eventOnce_logs s key code inst dom p0 p1).seed; exact this
@[simp] theorem State.eventOnce_regMoved (s : State) (key code inst : Nat) (dom : Option Nat) (p0 p1 : Nat) : (s.eventOnce key code inst dom p0 p1).sd.regMoved = s.sd.regMoved := by
  have := congrArg Seed.regMoved (State.eventOnce_logs s key code inst dom p0 p1).seed; exact this
@[simp] theorem State.eventOnce_wornPlaces (s : State) (key code inst : Nat) (dom : Option Nat) (p0 p1 : Nat) : (s.eventOnce key code inst dom p0 p1).sd.wornPlaces = s.sd.wornPlaces := by
  have := congrArg Seed.wornPlaces (State.eventOnce_logs s key code inst dom p0 p1).seed; exact this
@[simp] theorem State.eventOnce_wornOn (s : State) (key code inst : Nat) (dom : Option Nat) (p0 p1 : Nat) : (s.eventOnce key code inst dom p0 p1).sd.wornOn = s.sd.wornOn := by
  have := congrArg Seed.wornOn (State.eventOnce_logs s key code inst dom p0 p1).seed; exact this
@[simp] theorem State.eventOnce_schedule (s : State) (key code inst : Nat) (dom : Option Nat) (p0 p1 : Nat) : (s.eventOnce key code inst dom p0 p1).sd.schedule = s.sd.schedule := by
  have := congrArg Seed.schedule (State.eventOnce_logs s key code inst dom p0 p1).seed; exact this
@[simp] theorem State.eventOnce_profile (s : State) (key code inst : Nat) (dom : Option Nat) (p0 p1 : Nat) : (s.eventOnce key code inst dom p0 p1).sd.profile = s.sd.profile := by
  have := congrArg Seed.profile (State.eventOnce_logs s key code inst dom p0 p1).seed; exact this
@[simp] theorem State.eventOnce_ownerData (s : State) (key code inst : Nat) (dom : Option Nat) (p0 p1 : Nat) : (s.eventOnce key code inst dom p0 p1).sd.ownerData = s.sd.ownerData := by
  have := congrArg Seed.ownerData (State.eventOnce_logs s key code inst dom p0 p1).seed; exact this
@[simp] theorem State.eventOnce_keyBlobs (s : State) (key code inst : Nat) (dom : Option Nat) (p0 p1 : Nat) : (s.eventOnce key code inst dom p0 p1).sd.keyBlobs = s.sd.keyBlobs := by
  have := congrArg Seed.keyBlobs (State.eventOnce_logs s key code inst dom p0 p1).seed; exact this
@[simp] theorem State.eventOnce_pagesRelocated (s : State) (key code inst : Nat) (dom : Option Nat) (p0 p1 : Nat) : (s.eventOnce key code inst dom p0 p1).sd.pagesRelocated = s.sd.pagesRelocated := by
  have := congrArg Seed.pagesRelocated (State.eventOnce_logs s key code inst dom p0 p1).seed; exact this
@[simp] theorem State.eventOnce_reserveUsed (s : State) (key code inst : Nat) (dom : Option Nat) (p0 p1 : Nat) : (s.eventOnce key code inst dom p0 p1).sd.reserveUsed = s.sd.reserveUsed := by
  have := congrArg Seed.reserveUsed (State.eventOnce_logs s key code inst dom p0 p1).seed; exact this
@[simp] theorem State.eventOnce_profileLost (s : State) (key code inst : Nat) (dom : Option Nat) (p0 p1 : Nat) : (s.eventOnce key code inst dom p0 p1).sd.profileLost = s.sd.profileLost := by
  have := congrArg Seed.profileLost (State.eventOnce_logs s key code inst dom p0 p1).seed; exact this
@[simp] theorem State.eventOnce_crownLostA (s : State) (key code inst : Nat) (dom : Option Nat) (p0 p1 : Nat) : (s.eventOnce key code inst dom p0 p1).sd.crownLostA = s.sd.crownLostA := by
  have := congrArg Seed.crownLostA (State.eventOnce_logs s key code inst dom p0 p1).seed; exact this
@[simp] theorem State.eventOnce_crownLostB (s : State) (key code inst : Nat) (dom : Option Nat) (p0 p1 : Nat) : (s.eventOnce key code inst dom p0 p1).sd.crownLostB = s.sd.crownLostB := by
  have := congrArg Seed.crownLostB (State.eventOnce_logs s key code inst dom p0 p1).seed; exact this
theorem State.eventOnce_reg (s : State) (key code inst : Nat) (dom : Option Nat) (p0 p1 : Nat) (o : Nat) (h : quietReg o) : (s.eventOnce key code inst dom p0 p1).reg o = s.reg o := (State.eventOnce_logs s key code inst dom p0 p1).reg o h

@[simp] theorem State.countGlobal_pending (s : State) (e n : Nat) : (s.countGlobal e n).pending = s.pending := (State.countGlobal_logs s e n).pending
@[simp] theorem State.countGlobal_latches (s : State) (e n : Nat) : (s.countGlobal e n).latches = s.latches := (State.countGlobal_logs s e n).latches
@[simp] theorem State.countGlobal_holds (s : State) (e n : Nat) : (s.countGlobal e n).holds = s.holds := (State.countGlobal_logs s e n).holds
@[simp] theorem State.countGlobal_tb (s : State) (e n : Nat) : (s.countGlobal e n).tb = s.tb := (State.countGlobal_logs s e n).tb
@[simp] theorem State.countGlobal_media (s : State) (e n : Nat) : (s.countGlobal e n).media = s.media := (State.countGlobal_logs s e n).media
@[simp] theorem State.countGlobal_codes (s : State) (e n : Nat) : (s.countGlobal e n).codes = s.codes := (State.countGlobal_logs s e n).codes
@[simp] theorem State.countGlobal_tp (s : State) (e n : Nat) : (s.countGlobal e n).tp = s.tp := (State.countGlobal_logs s e n).tp
@[simp] theorem State.countGlobal_log (s : State) (e n : Nat) : (s.countGlobal e n).log = s.log := (State.countGlobal_logs s e n).log
@[simp] theorem State.countGlobal_df (s : State) (e n : Nat) : (s.countGlobal e n).df = s.df := (State.countGlobal_logs s e n).df
@[simp] theorem State.countGlobal_wb (s : State) (e n : Nat) : (s.countGlobal e n).wb = s.wb := (State.countGlobal_logs s e n).wb
@[simp] theorem State.countGlobal_rk (s : State) (e n : Nat) : (s.countGlobal e n).rk = s.rk := (State.countGlobal_logs s e n).rk
@[simp] theorem State.countGlobal_gx (s : State) (e n : Nat) : (s.countGlobal e n).gx = s.gx := (State.countGlobal_logs s e n).gx
@[simp] theorem State.countGlobal_qs (s : State) (e n : Nat) : (s.countGlobal e n).qs = s.qs := (State.countGlobal_logs s e n).qs
@[simp] theorem State.countGlobal_lark (s : State) (e n : Nat) : (s.countGlobal e n).lark = s.lark := (State.countGlobal_logs s e n).lark
@[simp] theorem State.countGlobal_sw (s : State) (e n : Nat) : (s.countGlobal e n).sw = s.sw := (State.countGlobal_logs s e n).sw
@[simp] theorem State.countGlobal_pw (s : State) (e n : Nat) : (s.countGlobal e n).pw = s.pw := (State.countGlobal_logs s e n).pw
@[simp] theorem State.countGlobal_th (s : State) (e n : Nat) : (s.countGlobal e n).th = s.th := (State.countGlobal_logs s e n).th
@[simp] theorem State.countGlobal_mt (s : State) (e n : Nat) : (s.countGlobal e n).mt = s.mt := (State.countGlobal_logs s e n).mt
@[simp] theorem State.countGlobal_pins (s : State) (e n : Nat) : (s.countGlobal e n).pins = s.pins := (State.countGlobal_logs s e n).pins
@[simp] theorem State.countGlobal_free (s : State) (e n : Nat) : (s.countGlobal e n).free = s.free := (State.countGlobal_logs s e n).free
@[simp] theorem State.countGlobal_ring (s : State) (e n : Nat) : (s.countGlobal e n).ev.ring = s.ev.ring := (State.countGlobal_logs s e n).ring
@[simp] theorem State.countGlobal_archive (s : State) (e n : Nat) : (s.countGlobal e n).ev.archive = s.ev.archive := (State.countGlobal_logs s e n).archive
@[simp] theorem State.countGlobal_archived (s : State) (e n : Nat) : (s.countGlobal e n).ev.archived = s.ev.archived := (State.countGlobal_logs s e n).archived
@[simp] theorem State.countGlobal_page (s : State) (e n : Nat) : (s.countGlobal e n).ev.page = s.ev.page := (State.countGlobal_logs s e n).page
@[simp] theorem State.countGlobal_ringAt (s : State) (e n : Nat) : (s.countGlobal e n).ev.ringAt = s.ev.ringAt := (State.countGlobal_logs s e n).ringAt
@[simp] theorem State.countGlobal_lastRing (s : State) (e n : Nat) : (s.countGlobal e n).ev.lastRing = s.ev.lastRing := (State.countGlobal_logs s e n).lastRing
@[simp] theorem State.countGlobal_latched (s : State) (e n : Nat) : (s.countGlobal e n).ev.latched = s.ev.latched := (State.countGlobal_logs s e n).latched
theorem State.countGlobal_fld (s : State) (e n : Nat) (o hi lo : Nat) (h : quietReg o) : (s.countGlobal e n).fld o hi lo = s.fld o hi lo := by
  simp only [State.fld, (State.countGlobal_logs s e n).reg o h]
theorem State.countGlobal_flag (s : State) (e n : Nat) (o b : Nat) (h : quietReg o) : (s.countGlobal e n).flag o b = s.flag o b :=
  congrArg (fun w => decide (bits w b b = 1)) ((State.countGlobal_logs s e n).reg o h)
@[simp] theorem State.countGlobal_reqs (s : State) (e n : Nat) : (s.countGlobal e n).host.reqs = s.host.reqs := by
  have := congrArg HostIf.reqs (State.countGlobal_logs s e n).lds; exact this
@[simp] theorem State.countGlobal_nextReq (s : State) (e n : Nat) : (s.countGlobal e n).host.nextReq = s.host.nextReq := by
  have := congrArg HostIf.nextReq (State.countGlobal_logs s e n).lds; exact this
@[simp] theorem State.countGlobal_fetches (s : State) (e n : Nat) : (s.countGlobal e n).host.fetches = s.host.fetches := by
  have := congrArg HostIf.fetches (State.countGlobal_logs s e n).lds; exact this
@[simp] theorem State.countGlobal_nextFetch (s : State) (e n : Nat) : (s.countGlobal e n).host.nextFetch = s.host.nextFetch := by
  have := congrArg HostIf.nextFetch (State.countGlobal_logs s e n).lds; exact this
@[simp] theorem State.countGlobal_corrected (s : State) (e n : Nat) : (s.countGlobal e n).host.corrected = s.host.corrected := by
  have := congrArg HostIf.corrected (State.countGlobal_logs s e n).lds; exact this
@[simp] theorem State.countGlobal_spdm (s : State) (e n : Nat) : (s.countGlobal e n).host.spdm = s.host.spdm := by
  have := congrArg HostIf.spdm (State.countGlobal_logs s e n).lds; exact this
@[simp] theorem State.countGlobal_gpfWait (s : State) (e n : Nat) : (s.countGlobal e n).host.gpfWait = s.host.gpfWait := by
  have := congrArg HostIf.gpfWait (State.countGlobal_logs s e n).lds; exact this
@[simp] theorem State.countGlobal_ldCfg (s : State) (e n : Nat) : (s.countGlobal e n).host.ldCfg = s.host.ldCfg := by
  have := congrArg HostIf.ldCfg (State.countGlobal_logs s e n).lds; exact this
@[simp] theorem State.countGlobal_portCfg (s : State) (e n : Nat) : (s.countGlobal e n).host.portCfg = s.host.portCfg := by
  have := congrArg HostIf.portCfg (State.countGlobal_logs s e n).lds; exact this
@[simp] theorem State.countGlobal_ownerPort (s : State) (e n : Nat) : (s.countGlobal e n).host.ownerPort = s.host.ownerPort := by
  have := congrArg HostIf.ownerPort (State.countGlobal_logs s e n).lds; exact this
@[simp] theorem State.countGlobal_queue (s : State) (e n : Nat) : (s.countGlobal e n).sd.queue = s.sd.queue := by
  have := congrArg Seed.queue (State.countGlobal_logs s e n).seed; exact this
@[simp] theorem State.countGlobal_slots (s : State) (e n : Nat) : (s.countGlobal e n).sd.slots = s.sd.slots := by
  have := congrArg Seed.slots (State.countGlobal_logs s e n).seed; exact this
@[simp] theorem State.countGlobal_frozen (s : State) (e n : Nat) : (s.countGlobal e n).sd.frozen = s.sd.frozen := by
  have := congrArg Seed.frozen (State.countGlobal_logs s e n).seed; exact this
@[simp] theorem State.countGlobal_regMoved (s : State) (e n : Nat) : (s.countGlobal e n).sd.regMoved = s.sd.regMoved := by
  have := congrArg Seed.regMoved (State.countGlobal_logs s e n).seed; exact this
@[simp] theorem State.countGlobal_wornPlaces (s : State) (e n : Nat) : (s.countGlobal e n).sd.wornPlaces = s.sd.wornPlaces := by
  have := congrArg Seed.wornPlaces (State.countGlobal_logs s e n).seed; exact this
@[simp] theorem State.countGlobal_wornOn (s : State) (e n : Nat) : (s.countGlobal e n).sd.wornOn = s.sd.wornOn := by
  have := congrArg Seed.wornOn (State.countGlobal_logs s e n).seed; exact this
@[simp] theorem State.countGlobal_schedule (s : State) (e n : Nat) : (s.countGlobal e n).sd.schedule = s.sd.schedule := by
  have := congrArg Seed.schedule (State.countGlobal_logs s e n).seed; exact this
@[simp] theorem State.countGlobal_profile (s : State) (e n : Nat) : (s.countGlobal e n).sd.profile = s.sd.profile := by
  have := congrArg Seed.profile (State.countGlobal_logs s e n).seed; exact this
@[simp] theorem State.countGlobal_ownerData (s : State) (e n : Nat) : (s.countGlobal e n).sd.ownerData = s.sd.ownerData := by
  have := congrArg Seed.ownerData (State.countGlobal_logs s e n).seed; exact this
@[simp] theorem State.countGlobal_keyBlobs (s : State) (e n : Nat) : (s.countGlobal e n).sd.keyBlobs = s.sd.keyBlobs := by
  have := congrArg Seed.keyBlobs (State.countGlobal_logs s e n).seed; exact this
@[simp] theorem State.countGlobal_pagesRelocated (s : State) (e n : Nat) : (s.countGlobal e n).sd.pagesRelocated = s.sd.pagesRelocated := by
  have := congrArg Seed.pagesRelocated (State.countGlobal_logs s e n).seed; exact this
@[simp] theorem State.countGlobal_reserveUsed (s : State) (e n : Nat) : (s.countGlobal e n).sd.reserveUsed = s.sd.reserveUsed := by
  have := congrArg Seed.reserveUsed (State.countGlobal_logs s e n).seed; exact this
@[simp] theorem State.countGlobal_profileLost (s : State) (e n : Nat) : (s.countGlobal e n).sd.profileLost = s.sd.profileLost := by
  have := congrArg Seed.profileLost (State.countGlobal_logs s e n).seed; exact this
@[simp] theorem State.countGlobal_crownLostA (s : State) (e n : Nat) : (s.countGlobal e n).sd.crownLostA = s.sd.crownLostA := by
  have := congrArg Seed.crownLostA (State.countGlobal_logs s e n).seed; exact this
@[simp] theorem State.countGlobal_crownLostB (s : State) (e n : Nat) : (s.countGlobal e n).sd.crownLostB = s.sd.crownLostB := by
  have := congrArg Seed.crownLostB (State.countGlobal_logs s e n).seed; exact this
theorem State.countGlobal_reg (s : State) (e n : Nat) (o : Nat) (h : quietReg o) : (s.countGlobal e n).reg o = s.reg o := (State.countGlobal_logs s e n).reg o h

@[simp] theorem State.advanceTo_pending (s : State) (q c : Nat) : (s.advanceTo q c).pending = s.pending := (State.advanceTo_logs s q c).pending
@[simp] theorem State.advanceTo_latches (s : State) (q c : Nat) : (s.advanceTo q c).latches = s.latches := (State.advanceTo_logs s q c).latches
@[simp] theorem State.advanceTo_holds (s : State) (q c : Nat) : (s.advanceTo q c).holds = s.holds := (State.advanceTo_logs s q c).holds
@[simp] theorem State.advanceTo_tb (s : State) (q c : Nat) : (s.advanceTo q c).tb = s.tb := (State.advanceTo_logs s q c).tb
@[simp] theorem State.advanceTo_media (s : State) (q c : Nat) : (s.advanceTo q c).media = s.media := (State.advanceTo_logs s q c).media
@[simp] theorem State.advanceTo_codes (s : State) (q c : Nat) : (s.advanceTo q c).codes = s.codes := (State.advanceTo_logs s q c).codes
@[simp] theorem State.advanceTo_tp (s : State) (q c : Nat) : (s.advanceTo q c).tp = s.tp := (State.advanceTo_logs s q c).tp
@[simp] theorem State.advanceTo_log (s : State) (q c : Nat) : (s.advanceTo q c).log = s.log := (State.advanceTo_logs s q c).log
@[simp] theorem State.advanceTo_df (s : State) (q c : Nat) : (s.advanceTo q c).df = s.df := (State.advanceTo_logs s q c).df
@[simp] theorem State.advanceTo_wb (s : State) (q c : Nat) : (s.advanceTo q c).wb = s.wb := (State.advanceTo_logs s q c).wb
@[simp] theorem State.advanceTo_rk (s : State) (q c : Nat) : (s.advanceTo q c).rk = s.rk := (State.advanceTo_logs s q c).rk
@[simp] theorem State.advanceTo_gx (s : State) (q c : Nat) : (s.advanceTo q c).gx = s.gx := (State.advanceTo_logs s q c).gx
@[simp] theorem State.advanceTo_qs (s : State) (q c : Nat) : (s.advanceTo q c).qs = s.qs := (State.advanceTo_logs s q c).qs
@[simp] theorem State.advanceTo_lark (s : State) (q c : Nat) : (s.advanceTo q c).lark = s.lark := (State.advanceTo_logs s q c).lark
@[simp] theorem State.advanceTo_sw (s : State) (q c : Nat) : (s.advanceTo q c).sw = s.sw := (State.advanceTo_logs s q c).sw
@[simp] theorem State.advanceTo_pw (s : State) (q c : Nat) : (s.advanceTo q c).pw = s.pw := (State.advanceTo_logs s q c).pw
@[simp] theorem State.advanceTo_th (s : State) (q c : Nat) : (s.advanceTo q c).th = s.th := (State.advanceTo_logs s q c).th
@[simp] theorem State.advanceTo_mt (s : State) (q c : Nat) : (s.advanceTo q c).mt = s.mt := (State.advanceTo_logs s q c).mt
@[simp] theorem State.advanceTo_pins (s : State) (q c : Nat) : (s.advanceTo q c).pins = s.pins := (State.advanceTo_logs s q c).pins
@[simp] theorem State.advanceTo_free (s : State) (q c : Nat) : (s.advanceTo q c).free = s.free := (State.advanceTo_logs s q c).free
@[simp] theorem State.advanceTo_ring (s : State) (q c : Nat) : (s.advanceTo q c).ev.ring = s.ev.ring := (State.advanceTo_logs s q c).ring
@[simp] theorem State.advanceTo_archive (s : State) (q c : Nat) : (s.advanceTo q c).ev.archive = s.ev.archive := (State.advanceTo_logs s q c).archive
@[simp] theorem State.advanceTo_archived (s : State) (q c : Nat) : (s.advanceTo q c).ev.archived = s.ev.archived := (State.advanceTo_logs s q c).archived
@[simp] theorem State.advanceTo_page (s : State) (q c : Nat) : (s.advanceTo q c).ev.page = s.ev.page := (State.advanceTo_logs s q c).page
@[simp] theorem State.advanceTo_ringAt (s : State) (q c : Nat) : (s.advanceTo q c).ev.ringAt = s.ev.ringAt := (State.advanceTo_logs s q c).ringAt
@[simp] theorem State.advanceTo_lastRing (s : State) (q c : Nat) : (s.advanceTo q c).ev.lastRing = s.ev.lastRing := (State.advanceTo_logs s q c).lastRing
@[simp] theorem State.advanceTo_latched (s : State) (q c : Nat) : (s.advanceTo q c).ev.latched = s.ev.latched := (State.advanceTo_logs s q c).latched
theorem State.advanceTo_fld (s : State) (q c : Nat) (o hi lo : Nat) (h : quietReg o) : (s.advanceTo q c).fld o hi lo = s.fld o hi lo := by
  simp only [State.fld, (State.advanceTo_logs s q c).reg o h]
theorem State.advanceTo_flag (s : State) (q c : Nat) (o b : Nat) (h : quietReg o) : (s.advanceTo q c).flag o b = s.flag o b :=
  congrArg (fun w => decide (bits w b b = 1)) ((State.advanceTo_logs s q c).reg o h)
@[simp] theorem State.advanceTo_reqs (s : State) (q c : Nat) : (s.advanceTo q c).host.reqs = s.host.reqs := by
  have := congrArg HostIf.reqs (State.advanceTo_logs s q c).lds; exact this
@[simp] theorem State.advanceTo_nextReq (s : State) (q c : Nat) : (s.advanceTo q c).host.nextReq = s.host.nextReq := by
  have := congrArg HostIf.nextReq (State.advanceTo_logs s q c).lds; exact this
@[simp] theorem State.advanceTo_fetches (s : State) (q c : Nat) : (s.advanceTo q c).host.fetches = s.host.fetches := by
  have := congrArg HostIf.fetches (State.advanceTo_logs s q c).lds; exact this
@[simp] theorem State.advanceTo_nextFetch (s : State) (q c : Nat) : (s.advanceTo q c).host.nextFetch = s.host.nextFetch := by
  have := congrArg HostIf.nextFetch (State.advanceTo_logs s q c).lds; exact this
@[simp] theorem State.advanceTo_corrected (s : State) (q c : Nat) : (s.advanceTo q c).host.corrected = s.host.corrected := by
  have := congrArg HostIf.corrected (State.advanceTo_logs s q c).lds; exact this
@[simp] theorem State.advanceTo_spdm (s : State) (q c : Nat) : (s.advanceTo q c).host.spdm = s.host.spdm := by
  have := congrArg HostIf.spdm (State.advanceTo_logs s q c).lds; exact this
@[simp] theorem State.advanceTo_gpfWait (s : State) (q c : Nat) : (s.advanceTo q c).host.gpfWait = s.host.gpfWait := by
  have := congrArg HostIf.gpfWait (State.advanceTo_logs s q c).lds; exact this
@[simp] theorem State.advanceTo_ldCfg (s : State) (q c : Nat) : (s.advanceTo q c).host.ldCfg = s.host.ldCfg := by
  have := congrArg HostIf.ldCfg (State.advanceTo_logs s q c).lds; exact this
@[simp] theorem State.advanceTo_portCfg (s : State) (q c : Nat) : (s.advanceTo q c).host.portCfg = s.host.portCfg := by
  have := congrArg HostIf.portCfg (State.advanceTo_logs s q c).lds; exact this
@[simp] theorem State.advanceTo_ownerPort (s : State) (q c : Nat) : (s.advanceTo q c).host.ownerPort = s.host.ownerPort := by
  have := congrArg HostIf.ownerPort (State.advanceTo_logs s q c).lds; exact this
@[simp] theorem State.advanceTo_queue (s : State) (q c : Nat) : (s.advanceTo q c).sd.queue = s.sd.queue := by
  have := congrArg Seed.queue (State.advanceTo_logs s q c).seed; exact this
@[simp] theorem State.advanceTo_slots (s : State) (q c : Nat) : (s.advanceTo q c).sd.slots = s.sd.slots := by
  have := congrArg Seed.slots (State.advanceTo_logs s q c).seed; exact this
@[simp] theorem State.advanceTo_frozen (s : State) (q c : Nat) : (s.advanceTo q c).sd.frozen = s.sd.frozen := by
  have := congrArg Seed.frozen (State.advanceTo_logs s q c).seed; exact this
@[simp] theorem State.advanceTo_regMoved (s : State) (q c : Nat) : (s.advanceTo q c).sd.regMoved = s.sd.regMoved := by
  have := congrArg Seed.regMoved (State.advanceTo_logs s q c).seed; exact this
@[simp] theorem State.advanceTo_wornPlaces (s : State) (q c : Nat) : (s.advanceTo q c).sd.wornPlaces = s.sd.wornPlaces := by
  have := congrArg Seed.wornPlaces (State.advanceTo_logs s q c).seed; exact this
@[simp] theorem State.advanceTo_wornOn (s : State) (q c : Nat) : (s.advanceTo q c).sd.wornOn = s.sd.wornOn := by
  have := congrArg Seed.wornOn (State.advanceTo_logs s q c).seed; exact this
@[simp] theorem State.advanceTo_schedule (s : State) (q c : Nat) : (s.advanceTo q c).sd.schedule = s.sd.schedule := by
  have := congrArg Seed.schedule (State.advanceTo_logs s q c).seed; exact this
@[simp] theorem State.advanceTo_profile (s : State) (q c : Nat) : (s.advanceTo q c).sd.profile = s.sd.profile := by
  have := congrArg Seed.profile (State.advanceTo_logs s q c).seed; exact this
@[simp] theorem State.advanceTo_ownerData (s : State) (q c : Nat) : (s.advanceTo q c).sd.ownerData = s.sd.ownerData := by
  have := congrArg Seed.ownerData (State.advanceTo_logs s q c).seed; exact this
@[simp] theorem State.advanceTo_keyBlobs (s : State) (q c : Nat) : (s.advanceTo q c).sd.keyBlobs = s.sd.keyBlobs := by
  have := congrArg Seed.keyBlobs (State.advanceTo_logs s q c).seed; exact this
@[simp] theorem State.advanceTo_pagesRelocated (s : State) (q c : Nat) : (s.advanceTo q c).sd.pagesRelocated = s.sd.pagesRelocated := by
  have := congrArg Seed.pagesRelocated (State.advanceTo_logs s q c).seed; exact this
@[simp] theorem State.advanceTo_reserveUsed (s : State) (q c : Nat) : (s.advanceTo q c).sd.reserveUsed = s.sd.reserveUsed := by
  have := congrArg Seed.reserveUsed (State.advanceTo_logs s q c).seed; exact this
@[simp] theorem State.advanceTo_profileLost (s : State) (q c : Nat) : (s.advanceTo q c).sd.profileLost = s.sd.profileLost := by
  have := congrArg Seed.profileLost (State.advanceTo_logs s q c).seed; exact this
@[simp] theorem State.advanceTo_crownLostA (s : State) (q c : Nat) : (s.advanceTo q c).sd.crownLostA = s.sd.crownLostA := by
  have := congrArg Seed.crownLostA (State.advanceTo_logs s q c).seed; exact this
@[simp] theorem State.advanceTo_crownLostB (s : State) (q c : Nat) : (s.advanceTo q c).sd.crownLostB = s.sd.crownLostB := by
  have := congrArg Seed.crownLostB (State.advanceTo_logs s q c).seed; exact this
theorem State.advanceTo_reg (s : State) (q c : Nat) (o : Nat) (h : quietReg o) : (s.advanceTo q c).reg o = s.reg o := (State.advanceTo_logs s q c).reg o h

end Sys2Proof.Machine
end

