-- ==== Sys2Proof/Tests/Slice0.lean ====
section
/-! SUPPORT. Tests/Slice0.lean: the model's own tests. First the states that they use; then, for each statement of
Certificates/Slice0/Obligations.lean that has hypotheses, a theorem witness_(its name): for each of its clauses a state and operands, at the ends of
their ranges, that meet its hypotheses; then, for each check of WellFormed.lean, a command that it refuses; then worked examples of the spec. -/

open Sys2Proof Sys2Proof.Machine

namespace Sys2Proof.Tests

/-! ### States -/

set_option Elab.async false
set_option linter.unusedVariables false

/-- A part that answers: recall is over and it is in A0. -/
def up : State := (State.reset.setFld SD 31 31 1).setFld PW 3 0 0
/-- `up` with the record of channel `c` changed and its state set. -/
def chanUp (c st : Nat) (x : Chan) : State := (up.setChan c x).setChanState c st
/-- A command of the media and one that runs on tag `tag`. -/
def mcmd (op : MOp) (why : Why) : MCmd := MCmd.of op (mediaAddr 7 15 0 0) 0 6 why
def flying (q : MCmd) : Chan := { Chan.fresh with flight := [{ tag := 5, cmd := q, tokens := 0, issued := 0 }] }
/-- A flit of number 0 with its CRC, a TOD frame with its CRC, and a slot that does not decode. -/
def goodFlit : List Byte := let b : List Byte := List.replicate 29 7 ++ [0]; b ++ leBytes 2 (crc16 0x8BB7 b)
def padFlit (n : Nat) : List Byte := let b : List Byte := List.replicate 29 0 ++ [BitVec.ofNat 8 n]; b ++ leBytes 2 (crc16 0x8BB7 b)
def goodTod : List Byte := let b : List Byte := [0xA5, 1, 0, 0, 0, 0, 0, 37, 0, 2, 0]; b ++ leBytes 2 (crc16 0x1021 b)
def badSlot : List Byte := (List.range 80).map (BitVec.ofNat 8)
def meas : Meas := ⟨250, 0⟩
def job3 : Job := { id := 3, kind := .margin, plot := 7, page := 0, reads := 2, progs := 0, slots := [], weak := [], failed := [], clean := [], phase := 0, entry := 0, node := false }
/-- A part whose read cache has one set, with line 0 in its last way: whatever the cache hash, line 0 is found there. -/
def pinUp : State := (({ up with rk := { up.rk with lines := [(15, ⟨false, 0, List.replicate 64 3, false⟩)] } } : State).setFld TP 15 0 4).setFld (RK + 8) 19 0 1
theorem pinUp_set : pinUp.cacheSet false 0 = 0 := by
  have h : max 1 (pinUp.fld (RK + 8) 19 0) = 1 := by decide +kernel
  unfold State.cacheSet
  rw [h, Nat.mod_one]
theorem pinUp_way : pinUp.cacheWay false 0 = some 15 := by
  unfold State.cacheWay
  simp only [pinUp_set]
  decide +kernel
theorem pinUp_full : pinUp.pinFull false 0 = false := by
  unfold State.pinFull
  simp only [pinUp_set]
  decide +kernel
theorem pinUp_key : pinUp.cacheWay ((pinUp.reg64 (RK + 0x30)).testBit 38) (pinUp.reg64 (RK + 0x30) % 2 ^ 38) = some 15 := by
  have h : pinUp.reg64 (RK + 0x30) = 0 := by decide +kernel
  rw [h]; exact pinUp_way
/-- `up` after recovery with an action of the schedule started by entry 9; with two erased spares; a migration, a page delta, a frame and a leaf. -/
def recovd : State := { up with wb := { up.wb with recovered := true } }
def acts (a : Nat) : State := { recovd with tb := { recovd.tb with started := [(9, a)] } }
def spare2 : State := (({ recovd with tp := { recovd.tp with plots := [(7000, ⟨0, 0, 0⟩), (7001, ⟨1, 0, 0⟩)] } } : State).setSpares 5000).setReady 5
def mig (step : Nat) : Migration := { kind := 1, entry := 7, node := true, src := 7001, tgt := 7000, gen := 1, hour := 2, step := step, page := 0, dual := 0, saved := false, retire := false, durable := none }
def migs (m : Migration) : State := { recovd with tp := { recovd.tp with migs := [m] } }
def pageDelta (n : Nat) (e : Option (List (List Byte))) : Delta := { delta := [], count := n, first := 0, engine := e, parity := [] }
def deltas (d : Delta) (z : Nat) : State := { recovd with codes := { recovd.codes with deltas := [(7 * 256 + 255, d)] }, tb := { recovd.tb with ztime := z } }
def frame1 : Frame := { tag := 9, state := .eligible, poison := false, stamp := 0, bankA := List.replicate 64 0x105, bankB := List.replicate 64 0x105, order := 1, dom := 4095, anchor := false, progs := 0, stage := .idle, failed := false }
def frames1 : State := { recovd with wb := { recovd.wb with frames := [(frameKey 65535 7, frame1)] } }
def leaf1 (w : Bool) : Leaf := { node := { major := 1, minors := [] }, first := 0, changedAt := none, writing := w, restored := false, progs := 0 }
def leaves1 (w : Bool) (z : Nat) : State := { recovd with wb := { recovd.wb with leaves := [(77, leaf1 w)] }, tb := { recovd.tb with ztime := z } }
def req1 (w : Bool) (st : ReqState) : Req :=
  { id := 1, port := 1, link := 0, ld := 0, tag := 3, dpa := 0, write := w, data := List.replicate 64 5, mask := 0xFFFFFFFFFFFFFFFF, poison := false, dom := 4095, line := 5, cls := 0, tier := 0, anchor := false, st := st, wasHeld := false, woke := false }
def reqs1 (w : Bool) (st : ReqState) : State := { recovd with host := { recovd.host with reqs := [req1 w st] } }
def wanting : State := { spare2 with tp := { spare2.tp with migQueue := [(3, true, 7)] } }
def spareU : State := ((wanting.takeSpare false).map (fun x => x.2)).getD up
def mapRec : JRec := { seq := 1, pos := none, type := 1, kind := 1, dom := 0, node := true, entry := 7, plotA := 7001, plotB := 7000, gen := 1, flags := 0, value := 0 }
def longJournal : State := { recovd with log := { recovd.log with pos := ringSlots }, tp := { recovd.tp with unverified := [{ mapRec with pos := some 5 }] } }
def placed : JRec := { mapRec with pos := some 5 }
def rot1 : Rotation := { dom := 4095, forced := false, next := 0, left := 0, target := false, stepAt := 0 }
def regraft1 : State := { recovd with gx := { recovd.gx with regrafts := [⟨0, 77, 1, 2, []⟩] } }
def frames2 : State := { recovd with wb := { recovd.wb with frames := [(frameKey 65535 7, { frame1 with state := .applying, stage := .reading })] } }
def anchor1 : AnchorRec := { seq := 9, pos := none, type := 1, poison := false, dom := 4095, line := 5, mask := 1, data := [1], ver := ⟨1, 2⟩, verified := false }
def heldReqs : State := (({ reqs1 false .held with qs := { up.qs with buckets := [(4095, ⟨-1, -1⟩)] } } : State).setFld QS 0 0 1).setFld QS 1 1 1
/-- `recovd` with link 3 of port 1 up, LD 31 there, and domain 4095 valid on it: DPA 0 to 3 MiB, pool plots from 0. -/
def hostUp : State := ((((({ recovd with host := { recovd.host with ldCfg := [(31, 0x80000004)], portCfg := [0x50, 0x52] } } : State).setReg (linkOff 1 3) 0x80000000).setReg
  (QD + 4095 * 0x20) 0x9F000000).setReg (QD + 4095 * 0x20 + 8) 4).setReg (QD + 4095 * 0x20 + 4) 0)
def withSpdm (x : Spdm) : State := { hostUp with host := { hostUp.host with spdm := [(1, x), (2, x)] } }
def withLd (x : Ld) : State := { hostUp with host := { hostUp.host with lds := [(31, x)] } }
def larkUp : State := { hostUp with lark := { up.lark with fwRunning := true } }
/-- The hold-up bank at full scale with a channel in service; its voltage shown; a test that runs. -/
def hu : State := (((recovd.setFld (TP + 4) 5 0 1).setChanState 39 4).setFld (SQ + 8) 11 0 4095).setFld (WP + 0x20) 23 0 0xFFFFFF
def shown (s : State) : State := s.setFld (WP + 0x28) 15 0 (min 65535 (s.huEnergy (s.fld (SQ + 8) 11 0) / (512 * 4096 ^ 2) / 10 ^ 9))
def huReady (a : Nat) : State := { acts a with pw := { up.pw with huTrend := some (0, 0), huDue := some 1000000 }, tb := { (acts a).tb with tick := 1000000 } }
def huRuns (v : Nat) : State := { hu with pw := { up.pw with huTest := some ⟨v, 0⟩ }, tb := { up.tb with tick := 10000 } }
def sealedFlush : State :=
  ({ recovd with wb := { recovd.wb with writing := some (recovd.image 1), sealing := none, sealed := 1 } } : State).setBit (WP + 0x2C) 0 true
/-- Rail channel `n` of kind rail in a state of its own, the sequencer in state `q`; a power transition to `x`. -/
def rail (n st q : Nat) : State := ((up.setFld (railOff n) 31 30 1).setFld (railOff n + 0x10) 15 12 st).setFld (SQ + 4) 3 0 q
def driven : State := { up with pins := { up.pins with faultDrive := true } }
def toState (p x : Nat) : State := (((recovd.setFld PW 3 0 p).setFld PW 7 7 1).setFld PW 27 24 x).setFld (SQ + 4) 3 0 2
def a3Sealed : State := { toState 0 3 with wb := { (toState 0 3).wb with writing := some ((toState 0 3).image 4), sealing := none, sealed := 2 } }
def ckpt1 : Ckpt :=
  { s := 1, start := 0, done := 0, crc := 0, map := [], nodeMap := [], plots := [], own := [], snapAt := 0, snapLen := 0, bumps := 0, l2 := [], l3 := [], l4 := [], crown := [], eff := [], lastDrift := 0, hourly := [], daily := [] }
def ckRun (q : Nat) : CkptRun := { s := q, start := 0, own := [], snapLen := 0, copy := some ckpt1 }
def settled (s : State) : State := (List.range 40).foldl (fun (t : State) c => t.setChanState c 4) s
def cold : State := settled (up.setFld (SQ + 4) 3 0 2)
def coldCkpt : State := { cold with tp := { cold.tp with ckptA := some ckpt1 } }
def found (a g : Bool) : RecoveryFinding := { ckptA := a, ckptB := false, image := false, gorseRecords := g, badAnchors := [] }
def based : State := (coldCkpt.uncleanLoss.mapBase (found true true)).2
def offUp (r : Nat) : State := ((up.setFld SD 31 31 r).setFld PW 3 0 4).setFld PW 7 7 1
def hot (l : Nat) : State := { up.setFld (TH + 4) 2 0 l with th := { up.th with graceEnd := true } }
/-- Lark, ready for commands; a message in host memory for mailbox 31; a command taken, with its opcode and payload; an operation that runs long. -/
def larkIdle : State := (larkUp.setBit CP 31 true).setFld TP 15 0 4
def message1 : List Byte := [3, 0, 1, 0] ++ leBytes 4 0 ++ leBytes 4 64 ++ List.replicate 52 0
def posted : State := ((larkIdle.setReg (mbOff 31 + 4) 0x80000000).setReg (mbOff 31 + 8) 9).setBit (mbOff 31 + 0x0C) 0 true
def taken1 (op : Nat) (p : List Byte) : Taken :=
  { mb := 32, tag := 9, ptr := 0x380000, opcode := op, auth := false, authority := 0, counter := 0, buffer := 4096, payload := p, lost := false }
def runs (op : Nat) (p : List Byte) : State := { larkIdle with lark := { larkIdle.lark with taken := some (taken1 op p) } }
def long (op : Nat) : State := { larkIdle with lark := { larkIdle.lark with longOp := some ⟨op, 32, 0, 4095⟩ } }
def started (f : Bool) : State := { cold with lark := { cold.lark with slotA := { factory := f, bytes := [] } } }
def activating : State := { larkIdle with lark := { larkIdle.lark with act := some ⟨1, 2, 0⟩, longOp := some ⟨0x0602, 32, 0, 0⟩ } }
def newDomain (d : Nat) : List Byte := leBytes 2 d ++ [31, 0] ++ leBytes 4 8 ++ leBytes 4 9 ++ leBytes 4 100 ++ List.replicate 16 0
def extents (st : Nat) : State := { runs 0x0102 [] with host := { hostUp.host with lds := [(31, { Ld.fresh with extents := [⟨4095, st⟩] })] } }
def snap1 : SnapSt := { dom := 4095, number := 1, ftag := 2, since := 0, cut := true, walker := 0, ending := false, aborted := false, held := [], nodePlots := [], saved := [], recs := 0 }
def noChange : DomainChange := { tier := none, cls := none, g := none, burst := none, beCeiling := none, anchor := none, meterEn := none, userCtr := none }
def sized : State := ((runs 0x0301 []).setFld (TP + 4) 5 0 40).setFld (TP + 4) 7 6 1
def bothSlots : State := { runs 0x0602 [] with lark := { (runs 0x0602 []).lark with slotB := { factory := true, bytes := [] } } }
def mirror1 (op st lead : Nat) : State := ((runs op []).setFld (SW + 0x1C) 31 28 st).setFld (SW + 0x1C) 27 27 lead
def rwaPayload : List Byte := leBytes 4 (TH + 0x60) ++ leBytes 4 1 ++ leBytes 4 1 ++ List.replicate 8 0
/-- Sward port 7 up and secure, its hello good; the fabric in a state; a mirrored domain, and the mirror state and leader bit. -/
def port7 (n : Nat) : State :=
  ((({ larkIdle with sw := { up.sw with ports := [(7, { SwPort.fresh with helloOk := true, replays := n })] } } : State).setBit (portOff 7) 0 true).setBit (portOff 7) 1 true).setBit SW 31 true
def formed (st : Nat) : State := (port7 0).setFld (SW + 8) 31 29 st
def lowUid (x : DWord) : State := { formed 1 with sw := { (formed 1).sw with lowUid := x } }
theorem uid_moves : (lowUid (Config.uid + 1)).sw.lowUid ≠ Config.uid := by
  show Config.uid + 1 ≠ Config.uid
  intro h
  have h2 : (1 : DWord) = 0 := by simp at h
  exact absurd h2 (by decide)
theorem pair_eq {α β : Type} {a : α} {x : α × β} (h : x.1 = a) : x = (a, x.2) := by rw [← h]
def timed (n : Nat) (s : State) : State := { s with tb := { s.tb with tick := n } }
def sends (n : Nat) : State := { formed 2 with sw := { (formed 2).sw with sends := [⟨5, 0xFFFFFFFF, n, 0⟩] } }
def mrec (q : Nat) : MirrorRec := ⟨q, 4095, 5, 1, List.replicate 64 3, false⟩
def mirrored (st lead : Nat) : State :=
  ((({ formed 2 with sw := { (formed 2).sw with confirmed := [4095], lastKeepalive := 0 }, tb := { up.tb with tick := 1000 } } : State).setFld (SW + 0x1C) 31 28 st).setFld (SW + 0x1C) 27 27 lead).setBit (QD + 4095 * 0x20) 14 true
def paired : State := { mirrored 1 0 with sw := { (mirrored 1 0).sw with ids := [(7, 9)] } }.setReg (SW + 0x14) 7
def copying : State :=
  State.setDirty { (larkIdle.setReg QD 0x9F000000).setReg (QD + 8) 4 with
    sw := { up.sw with migState := 1, migDom := 0, migSource := true }
    wb := { larkIdle.wb with frames := [(frameKey 0 0, { frame1 with tag := 0 })] } } 0 true
def target7 : DomainSpec := domainOf (newDomain 7)
def cutting (op : CutOp) : State :=
  { larkIdle with tb := { up.tb with started := [(63, 0x0D)] }, sw := { up.sw with cuts := [(63, ⟨op, 5, 6, [(0, 4095)]⟩)] } }
def snapped : State := { up with sw := { up.sw with snaps := [(3, snap1)] } }
theorem snapped_free (p : Nat) : snapped.plotTaken p = false := rfl
/-- A field of a register that satisfies a test; a low half held. -/
def fieldOf (o : Nat) (p : Fld → Bool) : Fld := ((fieldsAt o).filter p).headD ⟨0, 0, .ro, 0, .x, .any⟩
def holding (who : Requester) (o : Nat) : State := { up with holds := [⟨who, o, 9⟩] }

/-! ### Witnesses of the statements about the machine as a whole -/

theorem witness_StepTakesOne : ∃ (s t : State) (c : Instr) (rest : List Instr), s.pending = c :: rest ∧ step s = .next t :=
  ⟨{ up with pending := [.mtrCsRise, .ppsEdge] }, _, .mtrCsRise, [.ppsEdge], rfl, rfl⟩
theorem witness_StepKeepsCanonical : ∃ s t : State, s.Canonical ∧ step s = .next t :=
  ⟨{ up with pending := [.mtrCsRise] }, _, by unfold State.Canonical; decide +kernel, rfl⟩
theorem witness_ImagesKept : ∃ s t : State, step s = .next t ∧ ∀ off b rest, s.pending ≠ .transferImageChunk off b :: rest :=
  ⟨{ up with pending := [.mtrCsRise] }, _, rfl, fun _ _ _ h => by cases h⟩
theorem witness_PlainWriteFields :
    (∃ (o : Nat) (v : Word), wholeOk o v = false) ∧
    (∃ (o : Nat) (old v : Word) (f : Fld), wholeOk o v = true ∧ f ∈ fieldsAt o ∧ f.acc = .rw ∧ f.legal.ok (bits v f.hi f.lo) = true ∧ crossOk o f old v = true) ∧
    (∃ (o : Nat) (v : Word) (f : Fld), wholeOk o v = true ∧ f ∈ fieldsAt o ∧ f.acc = .rw ∧ f.legal.ok (bits v f.hi f.lo) = false) ∧
    (∃ (o : Nat) (v : Word) (f : Fld), wholeOk o v = true ∧ f ∈ fieldsAt o ∧ f.acc = .w1c) ∧
    (∃ (o : Nat) (v : Word) (f : Fld), wholeOk o v = true ∧ f ∈ fieldsAt o ∧ f.acc = .rc) ∧
    (∃ (o : Nat) (v : Word) (f : Fld), wholeOk o v = true ∧ f ∈ fieldsAt o ∧ f.acc = .wo) ∧
    (∃ (o : Nat) (v : Word) (b : Nat), wholeOk o v = true ∧ b < 32 ∧ ∀ f ∈ fieldsAt o, b < f.lo ∨ f.hi < b) :=
  ⟨⟨MC + 8, 0, by decide +kernel⟩,
   ⟨TB + 4, 0, 0xFF, fieldOf (TB + 4) (fun f => f.acc = .rw), by decide +kernel⟩,
   ⟨MC, 0, fieldOf MC (fun f => f.acc = .rw && !f.legal.ok 0), by decide +kernel⟩,
   ⟨GLB + 0x10, 0, fieldOf (GLB + 0x10) (fun f => f.acc = .w1c), by decide +kernel⟩,
   ⟨GLB + 0x14, 0, fieldOf (GLB + 0x14) (fun f => f.acc = .rc), by decide +kernel⟩,
   ⟨MC, 0, fieldOf MC (fun f => f.acc = .wo), by decide +kernel⟩,
   ⟨TB + 4, 0, 31, by decide +kernel⟩⟩
theorem witness_HalvesRead :
    (∃ (s : State) (who : Requester) (o p : Nat), s.regsUp = true ∧ s.sd.queue = [] ∧ o % 4 = 0 ∧ regTarget who o = some p ∧ readRight who p = true ∧
      regTarget who (o + 4) = some (p + 4) ∧ readRight who (p + 4) = true ∧ pairLow p = true ∧ pairLow (p + 4) = false) ∧
    (∃ (u : State) (who : Requester) (p : Nat) (v : Word), u.regsUp = true ∧ u.sd.queue = [] ∧ u.latchAt who p = some v) :=
  ⟨⟨up, .host 31, 0x18010, mbOff 31 + 0x10, by decide +kernel⟩,
   ⟨{ up with latches := [⟨.mctp, WP + 0x30, 7⟩] }, .mctp, WP + 0x30, 7, by decide +kernel⟩⟩
def quiet (who : Requester) (o : Nat) : Prop :=
  mayWrite who = true ∧ o % 4 = 0 ∧ pairLow o = true ∧ pairLow (o + 4) = false ∧ o + 4 ≠ EV + 0x34 ∧ boxOf o = none ∧ boxOf (o + 4) = none ∧
  ¬ (TB + 0x1000 ≤ o ∧ o < TB + 0x1800) ∧ ¬ (TB + 0x1000 ≤ o + 4 ∧ o + 4 < TB + 0x1800)
theorem witness_HalvesWrite :
    (∃ (s : State) (who : Requester) (o : Nat) (l : Word), s.regsUp = true ∧ quiet who o ∧ ¬ (PM + 0x100 ≤ o ∧ o < PM + 0xD00) ∧ hasPersist o = false ∧
      hasPersist (o + 4) = false ∧ s.holdAt who o = some l) ∧
    (∃ (s : State) (who : Requester) (o : Nat), s.regsUp = true ∧ quiet who o ∧ ¬ (PM + 0x100 ≤ o ∧ o < PM + 0xD00) ∧ hasPersist o = false ∧
      hasPersist (o + 4) = false ∧ s.holdAt who o = none) ∧
    (∃ (s : State) (who : Requester) (o : Nat) (l : Word), s.regsUp = true ∧ quiet who o ∧ ¬ (PM + 0x100 ≤ o ∧ o < PM + 0xD00) ∧ hasPersist o = true ∧
      s.holdAt who o = some l) ∧
    (∃ (s : State) (who : Requester) (o : Nat) (l : Word), s.regsUp = true ∧ quiet who o ∧ PM + 0x100 ≤ o ∧ o < PM + 0xD00 ∧
      s.flag (PM + 0x100 + (o - (PM + 0x100)) / 16 * 16) 31 = false ∧ s.holdAt who o = some l) ∧
    (∃ (s : State) (who : Requester) (k o : Nat) (l : Word), s.regsUp = true ∧ k < 40 ∧ mailboxOf who k = true ∧ o % 4 = 0 ∧ regTarget who o = some (mbOff k) ∧
      regTarget who (o + 4) = some (mbOff k + 4) ∧ s.inFull k = false ∧ s.holdAt who (mbOff k) = some l) ∧
    (∃ (s : State) (who : Requester) (n : Nat) (l v : Word), s.regsUp = true ∧ mayWrite who = true ∧ 0 < n ∧ n < 64 ∧ s.holdAt who (schedOff n + 0x10) = some l ∧
      ((s.setReg (schedOff n + 0x10) l).setReg (schedOff n + 0x14) v).schedValid n = true) ∧
    (∃ (s : State) (who : Requester) (l : Word), s.regsUp = true ∧ mayWrite who = true ∧ s.holdAt who (EV + 0x30) = some l) :=
  ⟨⟨holding .owner (RK + 0x30), .owner, RK + 0x30, 9, by unfold quiet; decide +kernel⟩,
   ⟨up, .lark, RK + 0x30, by unfold quiet; decide +kernel⟩,
   ⟨holding .owner (TB + 0x28), .owner, (TB + 0x28), 9, by unfold quiet; decide +kernel⟩,
   ⟨holding .owner (PM + 0xCF8), .owner, PM + 0xCF8, 9, by unfold quiet; decide +kernel⟩,
   ⟨holding (.host 31) (mbOff 31), .host 31, 31, 0x18000, 9, by decide +kernel⟩,
   ⟨(holding .owner (schedOff 63 + 0x10)).setReg (schedOff 63 + 4) 60000, .owner, 63, 9, 0, by decide +kernel⟩,
   ⟨holding .lark (EV + 0x30), .lark, 9, by decide +kernel⟩⟩
theorem witness_ArbMap :
    (∃ (s : State) (who : Requester) (c : Nat) (v : Word), c < 40 ∧ s.regsUp = true ∧ mayWrite who = true ∧
      ∃ i j, i < 8 ∧ j < 8 ∧ i ≠ j ∧ bits v (3 * i + 2) (3 * i) = bits v (3 * j + 2) (3 * j)) ∧
    (∃ (s : State) (who : Requester) (c : Nat) (v : Word), c < 40 ∧ s.regsUp = true ∧ mayWrite who = true ∧
      ∀ i j, i < 8 → j < 8 → bits v (3 * i + 2) (3 * i) = bits v (3 * j + 2) (3 * j) → i = j) :=
  ⟨⟨up, .owner, 39, 0, by decide +kernel, by decide +kernel, rfl, 0, 7, by decide +kernel⟩,
   ⟨up, .lark, 39, 0x00053977, by decide +kernel, by decide +kernel, rfl, by
      have h : ∀ i < 8, ∀ j < 8, bits (0x00053977 : Word) (3 * i + 2) (3 * i) = bits (0x00053977 : Word) (3 * j + 2) (3 * j) → i = j := by decide +kernel
      exact fun i j hi hj => h i hi j hj⟩⟩
theorem witness_ScheduleOrder :
    (∃ s t : State, exec (.scheduleTick 1) s = .next t) ∧ (∃ (s : State) (n : Nat), n < 64 ∧ s.schedAction n ≠ 0) :=
  ⟨⟨up, _, rfl⟩, ⟨up.setFld (schedOff 63) 7 0 1, 63, by decide +kernel⟩⟩
theorem witness_SpreadAdvance :
    (∃ (p : Spread) (c : Nat), c ≤ p.value) ∧ (∃ (p : Spread) (c : Nat), p.value < c ∧ c - p.value ≤ 1920 - p.tally) ∧
    (∃ (p : Spread) (c : Nat), p.value < c ∧ 1920 - p.tally < c - p.value ∧ p.seqA ≤ p.seqB) ∧
    (∃ (p : Spread) (c : Nat), p.value < c ∧ 1920 - p.tally < c - p.value ∧ p.seqB < p.seqA) :=
  ⟨⟨Spread.fresh, 0, by decide +kernel⟩, ⟨Spread.fresh, 1920, by decide +kernel⟩, ⟨Spread.fresh, 1921, by decide +kernel⟩,
   ⟨{ Spread.fresh with seqA := 1 }, 1921, by decide +kernel⟩⟩
theorem witness_RecordRules : (∃ s : State, s.StagingOk) ∧ (∃ (s : State) (code : Nat), s.ev.next < s.ev.covered ∧ s.ev.staging.length < 256 ∧ cxlLog code = none) :=
  ⟨⟨up, by decide +kernel, fun x h => by cases h⟩, ⟨{ up with ev := { up.ev with covered := 1 } }, 0x1105, by decide +kernel⟩⟩
theorem vcsTag_short (key h p : List Byte) : (vcsTag key h p).take 16 = vcsTag key h p :=
  List.take_of_length_le (by unfold vcsTag; simp only [List.length_map, List.length_take]; omega)
/-- A message whose header is `h`, with its own tag behind it. -/
def tagged (key h : List Byte) : List Byte := h ++ vcsTag key h []
theorem tagged_ok (key h : List Byte) (n : h.length = 32) :
    ((tagged key h).drop (32 + ([] : List Byte).length)).take 16 = vcsTag key ((tagged key h).take 32) [] := by
  unfold tagged
  rw [List.take_left' n, List.length_nil, List.drop_left' n, vcsTag_short]
theorem untagged (key h : List Byte) (n : h.length = 32) :
    ∃ m : List Byte, (m.drop (32 + ([] : List Byte).length)).take 16 ≠ vcsTag key (m.take 32) [] := by
  by_cases e : vcsTag key h [] = []
  · refine ⟨h ++ [0], ?_⟩
    rw [List.take_left' n, List.length_nil, List.drop_left' n, e]; decide
  · refine ⟨h, ?_⟩
    rw [List.take_of_length_le (by omega : h.length ≤ 32), List.length_nil, List.drop_of_length_le (by omega : h.length ≤ 32 + 0)]
    exact fun x => e x.symm
def key1 : List Byte := List.replicate 32 7
def keyed (locked : Bool) : State := { larkIdle with lark := { larkIdle.lark with auths := [(0, { key := some key1, groups := 0, lds := 0, locked := locked })] } }
def critical (n : Nat) : Taken := { taken1 0x0101 [] with auth := true, counter := n }
theorem witness_AuthenticationOrder :
    (∃ (s : State) (c : Taken) (m key : List Byte), (c.auth = true ∧ c.mb ∉ s.lark.lockout.map Prod.fst ∧ c.authority ≤ 8 ∧ (s.auth c.authority).key = some key) ∧
      (m.drop (32 + c.payload.length)).take 16 ≠ vcsTag key (m.take 32) c.payload) ∧
    (∃ (s : State) (c : Taken) (m key : List Byte), (c.auth = true ∧ c.mb ∉ s.lark.lockout.map Prod.fst ∧ c.authority ≤ 8 ∧ (s.auth c.authority).key = some key) ∧
      (m.drop (32 + c.payload.length)).take 16 = vcsTag key (m.take 32) c.payload ∧ (s.auth c.authority).locked = true) ∧
    (∃ (s : State) (c : Taken) (m key : List Byte), (c.auth = true ∧ c.mb ∉ s.lark.lockout.map Prod.fst ∧ c.authority ≤ 8 ∧ (s.auth c.authority).key = some key) ∧
      (m.drop (32 + c.payload.length)).take 16 = vcsTag key (m.take 32) c.payload ∧ (s.auth c.authority).locked = false ∧ c.counter ≤ s.counter c.authority) ∧
    (∃ (s : State) (c : Taken) (m key : List Byte), (c.auth = true ∧ c.mb ∉ s.lark.lockout.map Prod.fst ∧ c.authority ≤ 8 ∧ (s.auth c.authority).key = some key) ∧
      (m.drop (32 + c.payload.length)).take 16 = vcsTag key (m.take 32) c.payload ∧ c.authority = 0 ∧ (s.auth 0).locked = false ∧ s.counter 0 < c.counter ∧
      ((s.spread 0).advance c.counter).wornOut = false) :=
  ⟨(untagged key1 (List.replicate 32 1) rfl).elim fun m h => ⟨keyed false, critical 1, m, key1, by decide +kernel, h⟩,
   ⟨keyed true, critical 1, tagged key1 (List.replicate 32 1), key1, by decide +kernel, tagged_ok _ _ rfl, rfl⟩,
   ⟨keyed false, critical 0, tagged key1 (List.replicate 32 1), key1, by decide +kernel, tagged_ok _ _ rfl, by decide +kernel⟩,
   ⟨keyed false, critical 1, tagged key1 (List.replicate 32 1), key1, by decide +kernel, tagged_ok _ _ rfl, by decide +kernel⟩⟩
theorem witness_MailboxOrder :
    (∃ (s : State) (k : Nat), s.nextMailbox = some k ∧ k < 36) ∧ (∃ (s : State) (k : Nat), s.nextMailbox = some k ∧ 36 ≤ k) ∧
    (∃ (s : State) (k : Nat), s.mailboxesUp = true ∧ s.flag CP 31 = true ∧ s.flag CP 28 = false ∧ s.lark.taken = none ∧ s.nextMailbox = some k) ∧
    (∃ s : State, s.lark.taken.isSome = true) :=
  ⟨⟨posted, 31, by decide +kernel⟩, ⟨posted.setBit (mbOff 39 + 0x0C) 0 true, 39, by decide +kernel⟩, ⟨posted, 31, by decide +kernel⟩, ⟨runs 1 [], rfl⟩⟩
theorem witness_AnswerWritten : ∃ (c : Taken) (p : List Byte), c.lost = false ∧ c.auth = false ∧ c.mb < 40 ∧ c.ptr.toNat < 2 ^ 63 ∧ 32 + p.length ≤ c.buffer :=
  ⟨{ taken1 1 [] with mb := 39, buffer := 48 }, List.replicate 16 5, by decide +kernel⟩
theorem witness_StoredBytes :
    (∃ (s : State) (off : Nat) (b : List Byte) (rest : List SeedWrite), s.sd.queue = .ownerData off b :: rest) ∧
    (∃ (s : State) (c : Taken) (off : Nat) (b : List Byte), s.Executes c 0x0601 ∧ off + b.length ≤ 0x100000) :=
  ⟨⟨{ up with sd := { up.sd with queue := [.ownerData 65535 [1]] } }, 65535, [1], [], rfl⟩,
   ⟨runs 0x0601 [], taken1 0x0601 [], 0xFFFFF, [1], ⟨rfl, rfl⟩, by decide +kernel⟩⟩
theorem witness_ControlResetKeeps : ∃ s : State, s.mailboxesUp = true ∧ s.lark.fwRunning = true := ⟨larkIdle, by decide +kernel⟩
theorem witness_PowerRequests :
    (∃ (s : State) (c : Taken) (x : Nat), s.Executes c 0x0801 ∧ 1 ≤ x ∧ x ≤ 3 ∧ s.refuseCode x ≠ 0) ∧
    (∃ (s : State) (c : Taken), s.Executes c 0x0801 ∧ s.power = 0 ∧ s.flag PW 7 = false) :=
  ⟨⟨(runs 0x0801 []).setFld PW 3 0 1, taken1 0x0801 [], 3, ⟨rfl, rfl⟩, by decide +kernel⟩, ⟨runs 0x0801 [], taken1 0x0801 [], ⟨rfl, rfl⟩, by decide +kernel⟩⟩
theorem witness_SecurityAlarm :
    (∃ (s : State) (d : Nat), d < 4096 ∧ s.fld (GX + 8) 15 0 ≠ 0 ∧ s.fld (GX + 8) 15 0 ≤ satAdd (s.fld (gxDom d) 15 0) 1 (2 ^ 16 - 1)) ∧
    (∃ (s : State) (d : Nat), d < 4096 ∧ s.fld (GX + 8) 15 0 = 0) :=
  ⟨⟨up.setFld (GX + 8) 15 0 1, 4095, by decide +kernel⟩, ⟨up.setFld (GX + 8) 15 0 0, 4095, by decide +kernel⟩⟩
theorem witness_FrameMailboxReads : ∃ (s t : State) (i : Nat), exec (.cxlIdentify i) s = .next t := ⟨hostUp, _, 31, rfl⟩
theorem witness_FramePosts : ∃ (s t : State) (k : Nat) (v : Word), exec (.doorbellSet .owner k v) s = .next t := ⟨up, _, 32, 1, rfl⟩
theorem witness_FrameLinks : ∃ (s t : State) (c : Nat) (f : List Byte), (flitIntact f = true → (f.getD 29 0).toNat ≠ (s.chan c).link.rxSeq) ∧
    exec (.flitReceive c f) s = .next t :=
  ⟨chanUp 39 4 Chan.fresh, _, 39, [], by decide +kernel, rfl⟩
theorem witness_FrameMemArrivals : ∃ (s t : State) (p l ld tag dpa d : Nat), (s.power ≠ 2 ∧ s.wb.recovered = true ∧ s.resolveDom ld dpa = some d ∧
    s.mirrorRole d ≠ .unconfirmed) ∧ exec (.memRd p l ld tag dpa) s = .next t :=
  ⟨hostUp, _, 1, 3, 31, 65535, 4194240, 4095, by decide +kernel, rfl⟩
theorem witness_FrameVcsReads :
    (∃ (s t : State) (c : Taken), s.lark.taken = some c ∧ c.mb < 40 ∧ c.auth = false ∧ exec .getProgress s = .next t) ∧ (∃ s : State, s.lark.taken = none) :=
  ⟨⟨runs 3 [], _, taken1 3 [], rfl, by decide +kernel, rfl, rfl⟩, ⟨up, rfl⟩⟩
theorem witness_FrameTelemetry : ∃ (s t : State) (n : Nat), n + s.mt.portPos ≤ 64 ∧ s.mt.portCmd ≠ some 1 ∧ exec (.meterReadStream n) s = .next t :=
  ⟨up, _, 64, by decide +kernel, by decide +kernel, rfl⟩

/-! ### Witnesses of the completion statements -/

theorem witness_RecorderCommands :
    (∃ (s : State), s.unoffered ≠ [] ∧ ((s.ev.lastRing = none ∨ ∃ t0, s.ev.lastRing = some t0 ∧ s.fld EV 7 0 * 1000000 ≤ s.tb.tick - t0))) ∧
    (∃ (s : State) (who : Requester) (v : Word), s.regsUp = true ∧ mayWrite who = true) ∧
    (∃ (s : State) (u : Nat × List Byte) (rest : List (Nat × List Byte)), s.mt.units = u :: rest ∧ s.meterAvail = true ∧ s.mt.portCmd = none) ∧
    (∃ (s : State) (u : Nat × List Byte) (rest : List (Nat × List Byte)), s.mt.units = u :: rest ∧ s.meterAvail = true ∧ s.mt.portCmd = some 1 ∧ s.mt.cut = false ∧ 0 < s.mt.portPos ∧ s.mt.portPos < 64) ∧
    (∃ (s : State), s.meterAvail = false ∧ s.mt.portCmd = none) ∧
    (∃ (s : State), s.mt.portCmd = none) ∧
    (∃ (s : State) (cmd : Nat), s.mt.portCmd = none ∧ cmd % 256 ≠ 1 ∧ cmd % 256 ≠ 2) ∧
    (∃ (s : State) (c : Nat) (cmd : Nat), s.mt.portCmd = some c ∧ c ≠ 1) ∧
    (∃ (s : State) (b : Nat) (k : Nat), b < 12 ∧ k < 16 ∧ s.flag PM 0 = true ∧ s.flag (PM + 0x100 + (16 * b + k) * 0x10) 31 = true) ∧
    (∃ (s : State) (who : Requester), s.regsUp = true ∧ mayWrite who = true) :=
  ⟨⟨up.event 0x1105 4 none 4 0, by decide +kernel, .inl (by decide +kernel)⟩,
   ⟨up, .owner, 7, by and_intros <;> decide +kernel⟩,
   ⟨{ up with mt := { up.mt with units := [(3, [1, 2])] } }, (3, [1, 2]), [], rfl, by decide +kernel, by decide +kernel⟩,
   ⟨{ up with mt := { up.mt with units := [(3, [1, 2])], portCmd := some 1, portPos := 63 } }, (3, [1, 2]), [], rfl, by decide +kernel, by decide +kernel, by decide +kernel, by decide +kernel, by decide +kernel⟩,
   ⟨up, by and_intros <;> decide +kernel⟩,
   ⟨up, by decide +kernel⟩,
   ⟨up, 9, by and_intros <;> decide +kernel⟩,
   ⟨{ up with mt := { up.mt with portCmd := some 9 } }, 9, 1, by and_intros <;> decide +kernel⟩,
   ⟨((up.setFld PM 0 0 1).setFld (PM + 0x100 + 191 * 0x10) 31 31 1), 11, 15, by and_intros <;> decide +kernel⟩,
   ⟨up, .lark, by and_intros <;> decide +kernel⟩⟩
theorem witness_ChannelLinkCommands :
    (∃ (s : State) (c : Nat) (i : Nat) (m : MCmd), c < 40 ∧ ((s.slotStart c).chan c).grant = none ∧ ¬ (((s.slotStart c).heads c).any (fun p => (s.slotStart c).bucketHolds p.2)) = true ∧ (s.slotStart c).linkReady c = true ∧ (s.slotStart c).nextAsk c = some (i, m)) ∧
    (∃ (s : State) (c : Nat), c < 40 ∧ ((s.chanState c = 3 ∨ s.chanState c = 4)) ∧ (s.chan c).link.unacked.length < 64) ∧
    (∃ (s : State) (c : Nat) (f : List Byte), c < 40 ∧ f.length = 32 ∧ leNat (f.drop 30) = crc16 0x8BB7 (f.take 30) ∧ (f.getD 29 0).toNat = (s.chan c).link.rxSeq ∧ ((∀ b ∈ f.take 29, b = 0)) ∧ (s.chan c).link.rxBytes = [] ∧ (s.chan c).link.rxPending < 15) ∧
    (∃ (s : State) (c : Nat) (f : List Byte), c < 40 ∧ ((f.length ≠ 32 ∨ leNat (f.drop 30) ≠ crc16 0x8BB7 (f.take 30) ∨ (f.getD 29 0).toNat ≠ (s.chan c).link.rxSeq))) ∧
    (∃ (s : State) (c : Nat) (n : Nat), c < 40 ∧ ((∃ f ∈ (s.chan c).link.unacked, (f.1 + 1) % 256 = n % 256))) ∧
    (∃ (s : State) (c : Nat) (n : Nat), c < 40 ∧ ((∀ f ∈ (s.chan c).link.unacked, (f.1 + 1) % 256 ≠ n % 256)) ∧ (s.chan c).link.replayMark = some (n % 256)) ∧
    (∃ (s : State) (c : Nat), c < 40 ∧ 0 < (s.chan c).link.rxPending) ∧
    (∃ (s : State) (c : Nat), c < 40 ∧ (s.chan c).link.unacked ≠ []) ∧
    (∃ (s : State) (c : Nat), c < 40 ∧ ((s.chanState c = 3 ∨ s.chanState c = 4))) ∧
    (∃ (s : State) (c : Nat), c < 40 ∧ s.chanState c = 5 ∧ (s.chan c).before = 4) :=
  ⟨⟨(chanUp 39 4 { Chan.fresh with queue := [mcmd .temp .ctl] }), 39, 6, mcmd .temp .ctl, by and_intros <;> decide +kernel⟩,
   ⟨(chanUp 39 3 { Chan.fresh with link := { Chan.fresh.link with txSeq := 255, tx := [List.replicate 40 9, [5]] } }), 39, by decide +kernel, .inl (by decide +kernel), by decide +kernel⟩,
   ⟨(chanUp 39 4 { Chan.fresh with link := { Chan.fresh.link with rxSeq := 7, rxPending := 14 } }), 39, padFlit 7, by and_intros <;> decide +kernel⟩,
   ⟨up, 39, padFlit 7, by decide +kernel, .inr (.inr (by decide +kernel))⟩,
   ⟨(chanUp 39 4 { Chan.fresh with link := { Chan.fresh.link with unacked := [(254, []), (255, [])] } }), 39, 256, by decide +kernel, ⟨(255, []), by decide +kernel, rfl⟩⟩,
   ⟨(chanUp 39 4 { Chan.fresh with link := { Chan.fresh.link with unacked := [(3, [])], replayMark := some 3 } }), 39, 3, by and_intros <;> decide +kernel⟩,
   ⟨(chanUp 39 4 { Chan.fresh with link := { Chan.fresh.link with rxPending := 1, tx := [[1,2]], txOpen := true } }), 39, by and_intros <;> decide +kernel⟩,
   ⟨(chanUp 39 4 { Chan.fresh with link := { Chan.fresh.link with unacked := [(0, [])], replays := 7 } }), 39, by and_intros <;> decide +kernel⟩,
   ⟨(chanUp 39 3 Chan.fresh), 39, by decide +kernel, .inl (by decide +kernel)⟩,
   ⟨(chanUp 39 5 { Chan.fresh with before := 4 }), 39, by and_intros <;> decide +kernel⟩⟩
theorem witness_TimeBaseCommands :
    (∃ (s : State), s.source ≠ 1) ∧
    (∃ (s : State), s.source = 1 ∧ s.tbState = 1 ∧ 63 ≤ s.tb.inPhase ∧ secondsOff ((s.tb.ztime : Int) + s.absorbLeft - s.fld (TB + 0x14) 15 0) * 1000000000 = (s.tb.ztime : Int) + s.absorbLeft - s.fld (TB + 0x14) 15 0) ∧
    (∃ (s : State) (b : List Byte), (todOk (s.fld (TB + 4) 7 0) b && s.todTimely) = false) ∧
    (∃ (s : State) (b : List Byte), todOk (s.fld (TB + 4) 7 0) b = true ∧ s.todTimely = true ∧ s.timeValid = false ∧ s.tb.leapTaken = false ∧ s.source ≠ 1) ∧
    (∃ (s : State) (t0 : Nat), s.source ≠ 1 ∧ s.ppsValid = true ∧ s.tb.ppsSince = some t0 ∧ 3000000 ≤ s.tb.tick - t0) ∧
    (∃ (s : State) (t0 : Nat), ((s.source = 0 ∨ s.source = 3)) ∧ s.fabricValid = true ∧ s.tb.fabricSince = some t0 ∧ 3000000 ≤ s.tb.tick - t0) ∧
    (∃ (s : State) (t0 : Nat), s.source = 1 ∧ s.tb.edgeTick = some t0 ∧ 1500000 ≤ s.tb.tick - t0 ∧ s.tb.fabricSince = none) ∧
    (∃ (s : State), 600000000 ≤ s.tb.lockedUs) ∧
    (∃ (s : State) (a : Absorb), s.tb.absorb = some a ∧ a.left = 0) ∧
    (∃ (s : State), s.tb.leapArmed = 1 ∧ s.tb.leapAt ≤ s.tb.ztime) ∧
    (∃ (s : State), s.tb.leapArmed = 2 ∧ s.tb.leapAt ≤ s.tb.ztime) ∧
    (∃ (s : State) (n : Nat), s.tb.absorb = none ∧ s.tb.stale = [] ∧ ((∀ e, e < 64 → s.schedEnabled e = false))) :=
  ⟨⟨up, by decide +kernel⟩,
   ⟨(({ up with tb := { up.tb with inPhase := 63 } }).setFld TB 5 4 1).setFld TB 2 0 1, by and_intros <;> decide +kernel⟩,
   ⟨up, [0xA5], by decide +kernel⟩,
   ⟨{ up with tb := { up.tb with tick := 900000, edgeTick := some 0 } }, goodTod, by and_intros <;> decide +kernel⟩,
   ⟨{ up with tb := { up.tb with tick := 3000000, edgeTick := some 2000000, edgeUsed := true, ppsSince := some 0 } }, 0, by and_intros <;> decide +kernel⟩,
   ⟨({ up with tb := { up.tb with tick := 3000000, fabricTick := some 2000000, fabricSince := some 0 } }).setFld TB 5 4 3, 0, .inr (by decide +kernel), by decide +kernel, by decide +kernel, by decide +kernel⟩,
   ⟨(({ up with tb := { up.tb with tick := 1500000, edgeTick := some 0, wasLocked := true } }).setFld TB 5 4 1).setFld TB 2 0 2, 0, by and_intros <;> decide +kernel⟩,
   ⟨{ up with tb := { up.tb with lockedUs := 600000000 } }, by decide +kernel⟩,
   ⟨{ up with tb := { up.tb with absorb := some ⟨0, true⟩ } }, ⟨0, true⟩, by and_intros <;> decide +kernel⟩,
   ⟨{ up with tb := { up.tb with leapArmed := 1, leapAt := 5, ztime := 5 } }, by and_intros <;> decide +kernel⟩,
   ⟨{ up with tb := { up.tb with leapArmed := 2 } }, by and_intros <;> decide +kernel⟩,
   ⟨{ up.setReg (schedOff 0) 0 with tb := { up.tb with stale := [] } }, 1, by and_intros <;> decide +kernel⟩⟩
theorem witness_ScheduleCommands :
    (∃ (s : State) (e : Nat), e < 64 ∧ s.windowPassed e = true ∧ e ∉ s.tb.deferred) ∧
    (∃ (s : State) (e : Nat), e < 64 ∧ e ∈ s.tb.deferred ∧ s.schedEnabled e = true ∧ s.schedDue e ≤ s.tb.ztime ∧ s.paused (s.schedAction e) = false ∧ s.windowPassed e = false ∧ s.missesNow e = false ∧ s.actionBusy (s.schedAction e) = false) ∧
    (∃ (s : State) (who : Requester) (e : Nat) (w : Nat) (v : Word), e < 64 ∧ e ≠ 0 ∧ ((w = 1 ∨ w = 2)) ∧ s.regsUp = true ∧ mayWrite who = true ∧ (s.setReg (schedOff e + 4 * w) v).schedValid e = true ∧ s.schedAction e ≠ 0x10) ∧
    (∃ (s : State) (who : Requester) (e : Nat) (w : Nat) (v : Word), e < 64 ∧ e ≠ 0 ∧ ((w = 1 ∨ w = 2)) ∧ s.regsUp = true ∧ mayWrite who = true ∧ (s.setReg (schedOff e + 4 * w) v).schedValid e = false) ∧
    (∃ (s : State) (who : Requester) (w : Nat) (v : Word), w < 8 ∧ w ≠ 2 ∧ s.regsUp = true ∧ mayWrite who = true) ∧
    (∃ (s : State) (t0 : State) (n : Nat), s.takeAction 0x01 = some (n, t0)) ∧
    (∃ (s : State) (t0 : State) (n : Nat), s.takeAction 0x10 = some (n, t0)) ∧
    (∃ (s : State), s.takeAction 0x10 = none ∧ s.ownSaveDue = true) :=
  ⟨⟨{ ((up.setFld (schedOff 63) 31 31 1).setFld (schedOff 63) 7 0 1) with tb := { up.tb with ztime := 1 } }, 63, by and_intros <;> decide +kernel⟩,
   ⟨{ ((up.setFld (schedOff 63) 31 31 1).setFld (schedOff 63) 7 0 1) with tb := { up.tb with deferred := [63] } }, 63, by and_intros <;> decide +kernel⟩,
   ⟨up, .owner, 63, 1, 100, by decide +kernel, by decide +kernel, .inl rfl, by decide +kernel, by decide +kernel, by decide +kernel, by decide +kernel⟩,
   ⟨up, .lark, 63, 2, 1, by decide +kernel, by decide +kernel, .inr rfl, by decide +kernel, by decide +kernel, by decide +kernel⟩,
   ⟨up, .owner, 7, 5, by and_intros <;> decide +kernel⟩,
   ⟨{ up with tb := { up.tb with started := [(9, 1)] } }, up, 9, rfl⟩,
   ⟨{ up with tb := { up.tb with started := [(9, 0x10)] } }, up, 9, rfl⟩,
   ⟨{ up.setReg (schedOff 0) 0 with tb := { up.tb with ztime := 3600000000000 } }, rfl, by decide +kernel⟩⟩
theorem witness_HubReadResponses :
    (∃ (s : State) (c : Nat) (tag : Nat) (q : MCmd) (rs : Bool) (dev : Int) (slot : List Byte) (b : List Byte) (m : Meas), s.Answers c tag [.read] q ∧ lineDecode slot [] = some b) ∧
    (∃ (s : State) (c : Nat) (tag : Nat) (q : MCmd) (rs : Bool) (dev : Int) (slot : List Byte) (m : Meas), s.Answers c tag [.read] q ∧ lineDecode slot [] = none) ∧
    (∃ (s : State) (c : Nat) (tag : Nat) (q : MCmd) (rs : Bool) (dev : Int) (slot : List Byte) (m : Meas), s.Answers c tag [.read] q) ∧
    (∃ (s : State) (c : Nat) (tag : Nat) (q : MCmd) (st : HubStatus) (rs : Bool) (dev : Int) (slot : List Byte) (m : Meas), s.Answers c tag [.read] q ∧ ((st = .planeSuspended ∨ st = .standby ∨ st = .addressError))) ∧
    (∃ (s : State) (c : Nat) (tag : Nat) (q : MCmd) (rs : Bool) (dev : Int) (slot : List Byte) (m : Meas), s.Answers c tag [.read] q ∧ (s.handBack c tag).flag (WP + 0x2C) 0 = false) ∧
    (∃ (s : State) (c : Nat) (tag : Nat) (q : MCmd) (slot : List Byte) (b : List Byte) (er : List Nat) (m : Meas), s.Answers c tag [.readSoft] q ∧ lineDecode slot (er.filter (fun n => n < 80)) = some b) ∧
    (∃ (s : State) (c : Nat) (tag : Nat) (q : MCmd) (slot : List Byte) (er : List Nat) (m : Meas), s.Answers c tag [.readSoft] q ∧ lineDecode slot (er.filter (fun n => n < 80)) = none) ∧
    (∃ (s : State) (c : Nat) (tag : Nat) (q : MCmd) (slot : List Byte) (er : List Nat) (m : Meas), s.Answers c tag [.readSoft] q) ∧
    (∃ (s : State) (c : Nat) (tag : Nat) (id : Nat) (item : Nat) (weak : Nat) (q : MCmd) (j : Job), s.Answers c tag [.marginRead] q ∧ q.why = .job id item ∧ (s.handBack c tag).job id = some j) ∧
    (∃ (s : State) (c : Nat) (tag : Nat) (st : HubStatus) (rs : Bool) (dev : Int) (slot : List Byte) (er : List Nat) (m : Meas), c < 40 ∧ (((s.chan c).byTag tag = none ∨ s.chanState c = 6))) :=
  ⟨⟨chanUp 39 4 (flying (mcmd .read (.node 0 0 0 0))), 39, 5, mcmd .read (.node 0 0 0 0), true, -7, List.replicate 80 0, List.replicate 80 0, meas, ⟨by decide +kernel, by decide +kernel, by decide +kernel, _, rfl, rfl⟩, by decide +kernel⟩,
   ⟨chanUp 39 4 (flying (mcmd .read (.node 0 0 0 0))), 39, 5, mcmd .read (.node 0 0 0 0), true, -7, badSlot, meas, ⟨by decide +kernel, by decide +kernel, by decide +kernel, _, rfl, rfl⟩, by decide +kernel⟩,
   ⟨chanUp 39 4 (flying (mcmd .read (.node 0 0 0 0))), 39, 5, mcmd .read (.node 0 0 0 0), true, -7, badSlot, meas, ⟨by decide +kernel, by decide +kernel, by decide +kernel, _, rfl, rfl⟩⟩,
   ⟨chanUp 39 4 (flying (mcmd .read (.node 0 0 0 0))), 39, 5, mcmd .read (.node 0 0 0 0), .standby, false, 0, badSlot, meas, ⟨by decide +kernel, by decide +kernel, by decide +kernel, _, rfl, rfl⟩, .inr (.inl rfl)⟩,
   ⟨chanUp 39 4 (flying (mcmd .read (.node 0 0 0 0))), 39, 5, mcmd .read (.node 0 0 0 0), false, 0, badSlot, meas, ⟨by decide +kernel, by decide +kernel, by decide +kernel, _, rfl, rfl⟩, by decide +kernel⟩,
   ⟨chanUp 39 4 (flying (mcmd .readSoft (.node 0 0 0 0))), 39, 5, mcmd .readSoft (.node 0 0 0 0), List.replicate 80 0, List.replicate 80 0, [81, 79], meas, ⟨by decide +kernel, by decide +kernel, by decide +kernel, _, rfl, rfl⟩, by decide +kernel⟩,
   ⟨chanUp 39 4 (flying (mcmd .readSoft (.node 0 0 0 0))), 39, 5, mcmd .readSoft (.node 0 0 0 0), badSlot, [], meas, ⟨by decide +kernel, by decide +kernel, by decide +kernel, _, rfl, rfl⟩, by decide +kernel⟩,
   ⟨chanUp 39 4 (flying (mcmd .readSoft (.node 0 0 0 0))), 39, 5, mcmd .readSoft (.node 0 0 0 0), badSlot, [], meas, ⟨by decide +kernel, by decide +kernel, by decide +kernel, _, rfl, rfl⟩⟩,
   ⟨{ chanUp 39 4 (flying ((mcmd .marginRead (.job 3 4)))) with codes := { up.codes with jobs := [job3] } }, 39, 5, 3, 4, 9, (mcmd .marginRead (.job 3 4)), job3, ⟨by decide +kernel, by decide +kernel, by decide +kernel, _, rfl, rfl⟩, rfl, rfl⟩,
   ⟨up, 39, 5, .success, true, 0, badSlot, [], meas, by decide +kernel, .inl rfl⟩⟩
theorem witness_HubControlResponses :
    (∃ (s : State) (c : Nat) (tag : Nat) (q : MCmd) (st : HubStatus), s.Answers c tag [.program] q) ∧
    (∃ (s : State) (c : Nat) (tag : Nat) (q : MCmd) (st : HubStatus), s.Answers c tag [.copy] q) ∧
    (∃ (s : State) (c : Nat) (tag : Nat) (p : Nat) (n : Nat) (q : MCmd), s.Answers c tag [.erase] q ∧ q.why = .erase p n) ∧
    (∃ (s : State) (c : Nat) (tag : Nat) (p : Nat) (n : Nat) (q : MCmd) (st : HubStatus), s.Answers c tag [.erase] q ∧ q.why = .erase p n ∧ ((st = .aborted ∨ st = .planeSuspended ∨ st = .standby)) ∧ (s.handBack c tag).flag (WP + 0x2C) 0 = false) ∧
    (∃ (s : State) (c : Nat) (tag : Nat) (q : MCmd) (f : InFlight), s.Answers c tag [.suspend] q ∧ ((s.handBack c tag).chan c).running (planeKey q.addr) = some f ∧ f.cmd.op.suspendable = true) ∧
    (∃ (s : State) (c : Nat) (tag : Nat) (q : MCmd), s.Answers c tag [.resume] q) ∧
    (∃ (s : State) (c : Nat) (tag : Nat) (q : MCmd) (v : Word), s.Answers c tag [.config] q ∧ q.param = 0) ∧
    (∃ (s : State) (c : Nat) (tag : Nat) (q : MCmd) (v : Word), s.Answers c tag [.config] q ∧ q.param = 0x90) ∧
    (∃ (s : State) (c : Nat) (tag : Nat) (q : MCmd) (st : HubStatus) (w : Word), s.Answers c tag [.status] q ∧ st ≠ .dieFailed) ∧
    (∃ (s : State) (c : Nat) (tag : Nat) (q : MCmd) (w : Word), s.Answers c tag [.status] q) :=
  ⟨⟨chanUp 39 4 (flying (mcmd .program .ctl)), 39, 5, mcmd .program .ctl, .programFailed, ⟨by decide +kernel, by decide +kernel, by decide +kernel, _, rfl, rfl⟩⟩,
   ⟨chanUp 39 4 (flying (mcmd .copy .ctl)), 39, 5, mcmd .copy .ctl, .success, ⟨by decide +kernel, by decide +kernel, by decide +kernel, _, rfl, rfl⟩⟩,
   ⟨chanUp 39 4 (flying (mcmd .erase (.erase 7 0))), 39, 5, 7, 0, mcmd .erase (.erase 7 0), ⟨by decide +kernel, by decide +kernel, by decide +kernel, _, rfl, rfl⟩, rfl⟩,
   ⟨chanUp 39 4 (flying (mcmd .erase (.erase 7 0))), 39, 5, 7, 0, mcmd .erase (.erase 7 0), .aborted, ⟨by decide +kernel, by decide +kernel, by decide +kernel, _, rfl, rfl⟩, rfl, .inl rfl, by decide +kernel⟩,
   ⟨chanUp 39 4 { Chan.fresh with flight := [{ tag := 5, cmd := mcmd .suspend .ctl, tokens := 0, issued := 0 }, { tag := 6, cmd := mcmd .erase (.erase 7 0), tokens := 0, issued := 0 }] }, 39, 5, mcmd .suspend .ctl, { tag := 6, cmd := mcmd .erase (.erase 7 0), tokens := 0, issued := 0 }, ⟨by decide +kernel, by decide +kernel, by decide +kernel, _, rfl, rfl⟩, rfl, by decide +kernel⟩,
   ⟨chanUp 39 4 (flying (mcmd .resume .ctl)), 39, 5, mcmd .resume .ctl, ⟨by decide +kernel, by decide +kernel, by decide +kernel, _, rfl, rfl⟩⟩,
   ⟨chanUp 39 4 (flying (mcmd .config .ctl)), 39, 5, mcmd .config .ctl, 7, ⟨by decide +kernel, by decide +kernel, by decide +kernel, _, rfl, rfl⟩, by decide +kernel⟩,
   ⟨chanUp 39 4 (flying ({ mcmd .config .ctl with param := 0x90, dst := 1 })), 39, 5, { mcmd .config .ctl with param := 0x90, dst := 1 }, 7, ⟨by decide +kernel, by decide +kernel, by decide +kernel, _, rfl, rfl⟩, by decide +kernel⟩,
   ⟨chanUp 39 4 (flying (mcmd .status .ctl)), 39, 5, mcmd .status .ctl, .success, 7, ⟨by decide +kernel, by decide +kernel, by decide +kernel, _, rfl, rfl⟩, by decide +kernel⟩,
   ⟨chanUp 39 4 (flying (mcmd .status .ctl)), 39, 5, mcmd .status .ctl, 7, ⟨by decide +kernel, by decide +kernel, by decide +kernel, _, rfl, rfl⟩⟩⟩
theorem witness_ChannelControlCommands :
    (∃ (s : State) (c : Nat), c < 40 ∧ s.chanState c = 4) ∧
    (∃ (s : State) (c : Nat) (d : Nat) (p : Nat) (t0 : Nat), c < 40 ∧ d < 8 ∧ p < 16 ∧ ((s.chan c).plane (16 * d + p)).suspendedAt = some t0 ∧ t0 + s.fld (MC + c * 0x1000 + 0x10) 15 8 ≤ s.tb.tick) ∧
    (∃ (s : State) (c : Nat), c < 40 ∧ s.chanState c = 6) ∧
    (∃ (s : State) (c : Nat), c < 40 ∧ s.chanState c = 5 ∧ s.thirdReset c = false) ∧
    (∃ (s : State) (c : Nat) (i : Nat) (e : Nat) (t0 : Nat), c < 40 ∧ ((s.chanState c = 4 ∨ s.chanState c = 5)) ∧ s.thirdReset c = false ∧ (s.chan c).grant = some (i, e, t0) ∧ t0 + s.fld (MC + c * 0x1000 + 0xC) 15 0 ≤ s.tb.tick) ∧
    (∃ (s : State) (c : Nat) (tag : Nat) (f : InFlight), c < 40 ∧ ((s.chanState c = 4 ∨ s.chanState c = 5)) ∧ s.thirdReset c = false ∧ (s.chan c).byTag tag = some f ∧ f.cmd.op.isData = true ∧ f.issued + 10000 ≤ s.tb.tick) ∧
    (∃ (s : State) (who : Requester) (c : Nat), c < 40 ∧ s.regsUp = true ∧ mayWrite who = true ∧ ((s.chanState c = 4 ∨ s.chanState c = 5)) ∧ s.thirdReset c = false) ∧
    (∃ (s : State) (c : Nat), c < 40 ∧ s.chanState c = 6) ∧
    (∃ (s : State) (g : Nat) (c : Nat), g < 5 ∧ s.groupPopulated g = true ∧ 8 * g ≤ c ∧ c < 8 * g + 8 ∧ s.chanState c = 0) ∧
    (∃ (s : State) (g : Nat) (c : Nat), g < 5 ∧ s.groupPopulated g = true ∧ 8 * g ≤ c ∧ c < 8 * g + 8 ∧ s.chanState c = 1) ∧
    (∃ (s : State) (c : Nat), c < 40 ∧ s.chanState c = 2) ∧
    (∃ (s : State) (c : Nat), c < 40 ∧ ((s.chanState c = 1 ∨ s.chanState c = 2 ∨ s.chanState c = 3))) :=
  ⟨⟨chanUp 39 4 Chan.fresh, 39, by and_intros <;> decide +kernel⟩,
   ⟨{ chanUp 39 4 { Chan.fresh with queue := [mcmd .read .ctl], planes := [(127, ⟨[], some 5, none, some 0⟩)] } with tb := { up.tb with tick := 255 } }, 39, 7, 15, 0, by and_intros <;> decide +kernel⟩,
   ⟨chanUp 39 6 Chan.fresh, 39, by and_intros <;> decide +kernel⟩,
   ⟨chanUp 39 5 Chan.fresh, 39, by and_intros <;> decide +kernel⟩,
   ⟨{ chanUp 39 4 { Chan.fresh with grant := some (6, 6, 0) } with tb := { up.tb with tick := 20 } }, 39, 6, 6, 0, by decide +kernel, .inl (by decide +kernel), by decide +kernel, by decide +kernel, by decide +kernel⟩,
   ⟨{ chanUp 39 4 (flying (mcmd .erase (.erase 7 0))) with tb := { up.tb with tick := 10000 } }, 39, 5, { tag := 5, cmd := mcmd .erase (.erase 7 0), tokens := 0, issued := 0 }, by decide +kernel, .inl (by decide +kernel), by decide +kernel, rfl, by decide +kernel, by decide +kernel⟩,
   ⟨chanUp 39 5 Chan.fresh, .lark, 39, by decide +kernel, by decide +kernel, by decide +kernel, .inr (by decide +kernel), by decide +kernel⟩,
   ⟨chanUp 39 6 Chan.fresh, 39, by and_intros <;> decide +kernel⟩,
   ⟨up.setReg (SQ + 0x100) 0x40A00000, 4, 39, by and_intros <;> decide +kernel⟩,
   ⟨(chanUp 39 1 Chan.fresh).setReg (SQ + 0x100) 0x40A00000, 4, 39, by and_intros <;> decide +kernel⟩,
   ⟨chanUp 39 2 Chan.fresh, 39, by and_intros <;> decide +kernel⟩,
   ⟨chanUp 39 3 Chan.fresh, 39, by decide +kernel, .inr (.inr (by decide +kernel))⟩⟩
theorem witness_ChannelRegisterCommands :
    (∃ (s : State) (g : Nat), g < 5) ∧
    (∃ (s : State) (who : Requester) (c : Nat) (v : Bool), c < 40 ∧ s.regsUp = true ∧ mayWrite who = true) ∧
    (∃ (s : State) (c : Nat), c < 40 ∧ (s.chan c).disabling = true ∧ (s.chan c).flight = [] ∧ s.chanState c ≠ 7 ∧ s.chanState c ≠ 8) ∧
    (∃ (s : State) (who : Requester) (c : Nat) (v : Word), c < 40 ∧ s.regsUp = true ∧ mayWrite who = true ∧ wholeOk (MC + c * 0x1000 + 8) v = true) ∧
    (∃ (s : State) (who : Requester) (c : Nat) (v : Word), c < 40 ∧ s.regsUp = true ∧ mayWrite who = true ∧ wholeOk (MC + c * 0x1000 + 8) v = false) ∧
    (∃ (s : State) (c : Nat) (w : Word), c < 40 ∧ s.mapHeld c = some w ∧ s.reg (MC + c * 0x1000 + 8) ≠ w) :=
  ⟨⟨up, 4, by decide +kernel⟩,
   ⟨up, .lark, 39, true, by and_intros <;> decide +kernel⟩,
   ⟨chanUp 39 4 { Chan.fresh with disabling := true }, 39, by and_intros <;> decide +kernel⟩,
   ⟨up, .owner, 39, 0x00053977, by and_intros <;> decide +kernel⟩,
   ⟨up, .owner, 39, 0, by and_intros <;> decide +kernel⟩,
   ⟨{ up with qs := { up.qs with escal := [(39, 2)] } }, 39, escalMap 2, by decide +kernel, rfl, by decide +kernel⟩⟩
theorem witness_ReadCacheCommands :
    (∃ (s : State) (e : EvLine) (rest : List EvLine), s.rk.evb = e :: rest ∧ s.rk.maint = none ∧ s.flag (RK + 4) 1 = true) ∧
    (∃ (s : State) (e : EvLine) (rest : List EvLine), s.rk.evb = e :: rest ∧ s.rk.maint = none ∧ s.flag (RK + 4) 1 = false) ∧
    (∃ (s : State), s.regsUp = true ∧ s.flag (RK + 0x3C) 31 = false ∧ s.rk.maint = none) ∧
    (∃ (s : State), s.regsUp = true ∧ s.flag (RK + 0x3C) 31 = true ∧ s.rk.maint = none) ∧
    (∃ (s : State), s.regsUp = true ∧ s.flag (RK + 0x3C) 31 = false ∧ s.fld (RK + 0x38) 15 0 = 0 ∧ s.reg64 (RK + 0x30) % 2 ^ 38 < s.keyLimit ((s.reg64 (RK + 0x30)).testBit 38)) ∧
    (∃ (s : State), s.regsUp = true ∧ s.flag (RK + 0x3C) 31 = false ∧ s.fld (RK + 0x38) 15 0 = 0 ∧ s.reg64 (RK + 0x30) % 2 ^ 38 < s.keyLimit ((s.reg64 (RK + 0x30)).testBit 38) ∧ s.filling ((s.reg64 (RK + 0x30)).testBit 38) (s.reg64 (RK + 0x30) % 2 ^ 38) = false) ∧
    (∃ (s : State) (w : Nat), s.regsUp = true ∧ s.flag (RK + 0x3C) 31 = false ∧ s.fld (RK + 0x38) 15 0 = 0 ∧ s.reg64 (RK + 0x30) % 2 ^ 38 < s.keyLimit ((s.reg64 (RK + 0x30)).testBit 38) ∧ s.filling ((s.reg64 (RK + 0x30)).testBit 38) (s.reg64 (RK + 0x30) % 2 ^ 38) = false ∧ s.cacheWay ((s.reg64 (RK + 0x30)).testBit 38) (s.reg64 (RK + 0x30) % 2 ^ 38) = some w ∧ s.pinFull ((s.reg64 (RK + 0x30)).testBit 38) (s.reg64 (RK + 0x30) % 2 ^ 38) = false) ∧
    (∃ (s : State), s.regsUp = true ∧ s.flag (RK + 0x3C) 31 = false ∧ s.fld (RK + 0x38) 15 0 = 0 ∧ s.reg64 (RK + 0x30) % 2 ^ 38 < s.keyLimit ((s.reg64 (RK + 0x30)).testBit 38)) ∧
    (∃ (s : State) (c : Instr), c ∈ [Instr.maintProbe, .maintInvalidate, .maintPin, .maintUnpin] ∧ s.regsUp = true ∧ s.flag (RK + 0x3C) 31 = false ∧ s.keyLimit ((s.reg64 (RK + 0x30)).testBit 38) ≤ s.reg64 (RK + 0x30) % 2 ^ 38) ∧
    (∃ (s : State) (who : Requester) (v : Word), s.regsUp = true ∧ mayWrite who = true) :=
  ⟨⟨(({ up with rk := { up.rk with evb := [⟨⟨false, 5, List.replicate 64 1, true⟩, 0, 0, false, 0, 0⟩] } } : State).setFld (RK + 4) 1 1 1), ⟨⟨false, 5, List.replicate 64 1, true⟩, 0, 0, false, 0, 0⟩, [], by and_intros <;> decide +kernel⟩,
   ⟨(({ up with rk := { up.rk with evb := [⟨⟨false, 5, List.replicate 64 1, true⟩, 0, 0, false, 0, 0⟩] } } : State).setFld (RK + 4) 1 1 0), ⟨⟨false, 5, List.replicate 64 1, true⟩, 0, 0, false, 0, 0⟩, [], by and_intros <;> decide +kernel⟩,
   ⟨up, by and_intros <;> decide +kernel⟩,
   ⟨(up.setFld (RK + 0x3C) 31 31 1), by and_intros <;> decide +kernel⟩,
   ⟨(up.setFld TP 15 0 4), by and_intros <;> decide +kernel⟩,
   ⟨(up.setFld TP 15 0 4), by and_intros <;> decide +kernel⟩,
   ⟨pinUp, 15, by decide +kernel, by decide +kernel, by decide +kernel, by decide +kernel, by decide +kernel, pinUp_key, (by rw [show pinUp.reg64 (RK + 0x30) = 0 by decide +kernel]; exact pinUp_full)⟩,
   ⟨(up.setFld TP 15 0 4), by and_intros <;> decide +kernel⟩,
   ⟨up, .maintPin, by and_intros <;> decide +kernel⟩,
   ⟨up, .lark, 4095, by and_intros <;> decide +kernel⟩⟩
theorem witness_CommonsCommands :
    (∃ (s : State) (who : Requester) (off : Nat) (bs : List Byte), ((∀ i, i < bs.length → s.commonsAllowed who (off + i) true = true))) ∧
    (∃ (s : State) (who : Requester) (off : Nat) (bs : List Byte) (i : Nat), i < bs.length ∧ s.commonsAllowed who (off + i) true = false) ∧
    (∃ (s : State) (who : Requester) (off : Nat), s.commonsAllowed who off false = false) ∧
    (∃ (s : State) (off : Nat), s.commonsAllowed .owner off true = false) :=
  ⟨⟨up, .host 39, 0x3FFFF0, List.replicate 16 9, by decide +kernel⟩,
   ⟨up, .owner, 0x17FFFF, [1, 2], 0, by and_intros <;> decide +kernel⟩,
   ⟨up, .peer, 0, by decide +kernel⟩,
   ⟨up, 0x17FFFF, by decide +kernel⟩⟩
theorem witness_PlotCommands :
    (∃ (s : State) (kind : Nat) (i : Nat) (p : Nat) (node : Bool) (u : State), (kind, node, i) ∈ s.tp.migQueue ∧ s.stillness = 0 ∧ s.migrationOf node i = none ∧ s.migsActive < s.fld (TP + 0x28) 8 0 ∧ s.mayAllocate (decide (kind = 4)) false = true ∧ s.takeSpare (decide (kind = 1) && decide ((s.plotRec (s.entry node i).phys).cycles + 1 ≤ s.fld (TP + 0x48) 20 0)) = some (p, u)) ∧
    (∃ (s : State) (kind : Nat) (i : Nat) (node : Bool), (kind, node, i) ∈ s.tp.migQueue ∧ s.stillness = 0 ∧ s.migrationOf node i = none ∧ s.migsActive < s.fld (TP + 0x28) 8 0 ∧ s.mayAllocate (decide (kind = 4)) false = false) ∧
    (∃ (s : State) (i : Nat) (node : Bool) (m : Migration), s.migrationOf node i = some m ∧ m.step = 3 ∧ m.dual = 0 ∧ m.kind ≠ 4) ∧
    (∃ (s : State) (plot : Nat) (m : Migration), (s.tp.migs.find? (fun m => m.src = plot ∧ m.step = 5 ∧ ¬ m.retire ∧ m.kind ≠ 4) = some m) ∧ s.plotReads plot = false ∧ s.plotWrites plot = false ∧ Tbl.find s.tp.erasing plot = none) ∧
    (∃ (s : State) (plot : Nat), (s.plotRec plot).state = 1 ∧ Tbl.find s.tp.erasing plot = none ∧ s.ready < s.fld (TP + 0x14) 15 0 ∧ s.plotWrites plot = false ∧ (s.tp.migs.any (fun m => decide (m.src = plot ∧ m.step = 5)) = false) ∧ s.plotOut plot = false) ∧
    (∃ (s : State) (plot : Nat), (s.plotRec plot).state = 1 ∧ Tbl.find s.tp.erasing plot = none ∧ s.ready < s.fld (TP + 0x14) 15 0 ∧ s.plotWrites plot = false ∧ (s.tp.migs.any (fun m => decide (m.src = plot ∧ m.step = 5)) = false) ∧ s.plotOut plot = true) ∧
    (∃ (s : State) (t0 : State) (n : Nat), s.Takes 0x05 n t0 ∧ t0.tp.ckptRun = none ∧ t0.usable ≠ 0 ∧ t0.wb.recovered = true) ∧
    (∃ (s : State), ((ringSlots < 2 * s.journalUse ∨ s.ringStuck = true))) ∧
    (∃ (s : State) (crc : DWord) (r : CkptRun) (c : Ckpt), s.tp.ckptRun = some r ∧ r.copy = some c ∧ s.ckptVerified c = true ∧ s.log.dir < s.log.dirRoom) ∧
    (∃ (s : State) (t0 : State) (n : Nat), s.Takes 0x0A n t0) ∧
    (∃ (s : State) (u : State) (r : JRec) (rest : List JRec), s.tp.unverified = r :: rest ∧ s.recordDone r = true ∧ u = { s with tp := { s.tp with unverified := rest, verified := r :: s.tp.verified } }) ∧
    (∃ (s : State) (r : JRec) (rest : List JRec), s.tp.unverified = r :: rest ∧ s.recordDone r = false) :=
  ⟨⟨wanting, 3, 7, 7000, true, spareU, by and_intros <;> decide +kernel⟩,
   ⟨{ recovd with tp := { recovd.tp with migQueue := [(3, true, 7)] } }, 3, 7, true, by and_intros <;> decide +kernel⟩,
   ⟨migs (mig 3), 7, true, mig 3, rfl, by decide +kernel, by decide +kernel, by decide +kernel⟩,
   ⟨migs (mig 5), 7001, mig 5, rfl, by decide +kernel, rfl, by decide +kernel⟩,
   ⟨(spare2.setReady 0).setFld (TP + 0x14) 15 0 1, 7001, by decide +kernel, rfl, by decide +kernel, by decide +kernel, by decide +kernel, by decide +kernel⟩,
   ⟨((({ spare2 with media := { spare2.media with chans := [(7001 % 40, { Chan.fresh with diesFailed := 255 })] } } : State).setFld (TP + 4) 5 0 40).setReady 0).setFld (TP + 0x14) 15 0 1, 7001, by decide +kernel, rfl, by decide +kernel, by decide +kernel, by decide +kernel, by decide +kernel⟩,
   ⟨(acts 5).setFld TP 15 0 4, { (acts 5).setFld TP 15 0 4 with tb := { recovd.tb with started := [] } }, 9, rfl, by decide +kernel, by decide +kernel, by decide +kernel⟩,
   ⟨longJournal, .inl (by decide +kernel)⟩,
   ⟨{ recovd with tp := { recovd.tp with ckptRun := some (ckRun 7) }, log := { recovd.log with dir := 0, dirRoom := 128 } }, 0, ckRun 7, ckpt1, rfl, rfl, by decide +kernel, by decide +kernel⟩,
   ⟨acts 0x0A, { acts 0x0A with tb := { recovd.tb with started := [] } }, 9, rfl⟩,
   ⟨{ recovd with tp := { recovd.tp with unverified := [placed] } }, { recovd with tp := { recovd.tp with unverified := [], verified := [placed] } }, placed, [], rfl, by decide +kernel, rfl⟩,
   ⟨{ recovd with tp := { recovd.tp with unverified := [mapRec] } }, mapRec, [], rfl, by decide +kernel⟩⟩
theorem witness_DriftCommands :
    (∃ (s : State) (t0 : State) (n : Nat), s.Takes 0x02 n t0) ∧
    (∃ (s : State), s.tb.hourDue = true ∧ ((∀ p ∈ s.tb.started, p.2 ≠ 2)) ∧ s.stillness < 3 ∧ s.wb.recovered = true) ∧
    (∃ (s : State), s.ageUncertain = true ∧ 86400000000 ≤ s.tb.tick ∧ s.tb.tick % 86400000000 = 0) ∧
    (∃ (s : State) (t0 : State) (n : Nat), s.Takes 0x09 n t0) ∧
    (∃ (s : State) (plot : Nat) (q : Nat × Nat), s.df.queue.find? (fun q => q.1 = plot) = some q ∧ ((s.stillness = 0 ∨ s.stillness = 1 ∧ 2 ≤ q.2))) ∧
    (∃ (s : State) (plot : Nat) (r : Nat × Nat × Nat), s.df.refreshing.find? (fun r => r.1 = plot) = some r ∧ s.codes.jobs.any (fun j => decide (j.kind = JobKind.refreshPage) && decide (j.plot = plot)) = false ∧ s.migrating plot = false ∧ Tbl.find s.df.refreshOn plot = none ∧ s.refreshAsked plot = false) ∧
    (∃ (s : State) (p : Nat) (page : Nat) (sl : Nat) (rest : List (Nat × Nat × Nat)), s.df.rewrite = (p, page, sl) :: rest ∧ s.stillness = 0) ∧
    (∃ (s : State) (t0 : State) (n : Nat), s.Takes 0x08 n t0 ∧ t0.df.margin = none) ∧
    (∃ (s : State) (t0 : State) (n : Nat), s.Takes 0x07 n t0 ∧ t0.df.scrub = none) ∧
    (∃ (s : State) (i : Nat) (page : Nat), s.df.scrub = some (i, page) ∧ s.stillness = 0 ∧ s.codes.jobs.any (fun j => decide (j.kind = JobKind.scrubPage)) = false) :=
  ⟨⟨acts 2, { acts 2 with tb := { recovd.tb with started := [] } }, 9, rfl⟩,
   ⟨{ recovd with tb := { recovd.tb with ztime := 3600000001000, hourDue := true, started := [(9, 1)] } }, by and_intros <;> decide +kernel⟩,
   ⟨{ recovd with tb := { recovd.tb with tick := 86400000000 } }, by and_intros <;> decide +kernel⟩,
   ⟨acts 9, { acts 9 with tb := { recovd.tb with started := [] } }, 9, rfl⟩,
   ⟨{ recovd with df := { recovd.df with queue := [(7001, 3)] } }, 7001, (7001, 3), rfl, .inl (by decide +kernel)⟩,
   ⟨{ recovd with df := { recovd.df with refreshing := [(7001, 3, 0)] } }, 7001, (7001, 3, 0), rfl, by decide +kernel, by decide +kernel, by decide +kernel, by decide +kernel⟩,
   ⟨{ recovd with df := { recovd.df with rewrite := [(7001, 255, 63)] } }, 7001, 255, 63, [], rfl, by decide +kernel⟩,
   ⟨acts 8, { acts 8 with tb := { recovd.tb with started := [] } }, 9, rfl, rfl⟩,
   ⟨acts 7, { acts 7 with tb := { recovd.tb with started := [] } }, 9, rfl, rfl⟩,
   ⟨{ recovd with df := { recovd.df with scrub := some (7, 255) } }, 7, 255, rfl, by decide +kernel, by decide +kernel⟩⟩
theorem witness_ParityTreeCommands :
    (∃ (s : State) (t0 : State) (n : Nat), s.Takes 0x0B n t0) ∧
    (∃ (s : State) (p : Nat) (page : Nat) (d : Delta), s.delta p page = some d ∧ ((s.fld (CD + 4) 15 0 * 800000 ≤ s.tb.ztime - d.first ∨ s.entering = true))) ∧
    (∃ (s : State) (p : Nat) (page : Nat) (d : Delta), s.delta p page = some d ∧ s.fld (CD + 4) 15 0 * 1000000 ≤ s.tb.ztime - d.first) ∧
    (∃ (s : State) (p : Nat) (page : Nat) (d : Delta), s.delta p page = some d ∧ s.parityOver p page = true ∧ d.count = 0) ∧
    (∃ (s : State) (p : Nat) (page : Nat) (d : Delta), s.delta p page = some d ∧ s.parityOver p page = true ∧ d.count ≠ 0) ∧
    (∃ (s : State) (p : Nat) (page : Nat), p * 256 + page ∈ s.codes.marked ∧ s.applyBusy p page = false) ∧
    (∃ (s : State) (p : Nat) (page : Nat) (j : Job), s.codes.jobs.find? (fun j => decide (j.kind = JobKind.rebuild) && decide (j.plot = p) && decide (j.page = page)) = some j ∧ p * 256 + page ∈ s.codes.rebuilding ∧ j.phase = 2 ∧ j.progs = 0) ∧
    (∃ (s : State) (level : Nat) (index : Nat) (r : Regraft), s.regraftTry.regraftOf level index = some r ∧ r.level = level ∧ r.index = index ∧ r.stage = 2 ∧ s.regraftTry.regraftJob level index = false ∧ ((level = 0 → Tbl.find s.regraftTry.wb.leaves index = none))) ∧
    (∃ (s : State) (n : Nat), ((s.leafWanted n = true ∨ s.entering = true))) ∧
    (∃ (s : State) (n : Nat) (l : Leaf), Tbl.find s.wb.leaves n = some l ∧ s.fld (WP + 0x10) 15 0 * 1000000 ≤ s.tb.ztime - l.first) ∧
    (∃ (s : State) (n : Nat) (l : Leaf), Tbl.find s.wb.leaves n = some l ∧ l.writing = true ∧ l.progs = 0 ∧ l.changedAt = none) ∧
    (∃ (s : State) (t0 : State) (n : Nat), s.Takes 0x0C n t0) ∧
    (∃ (s : State) (r : Rotation), s.gx.rotation = some r ∧ s.actionCarried 0x0C = false ∧ s.larkUp = true ∧ r.stepAt + 100000000 ≤ s.tb.ztime) ∧
    (∃ (s : State) (n : Nat), s.gx.sweep = some n) :=
  ⟨⟨acts 0x0B, { acts 0x0B with tb := { recovd.tb with started := [] } }, 9, rfl⟩,
   ⟨(deltas (pageDelta 1 none) 1).setFld (CD + 4) 15 0 0, 7, 255, pageDelta 1 none, rfl, .inl (by decide +kernel)⟩,
   ⟨(deltas (pageDelta 1 none) 1).setFld (CD + 4) 15 0 0, 7, 255, pageDelta 1 none, rfl, by decide +kernel⟩,
   ⟨deltas (pageDelta 0 (some [])) 1, 7, 255, pageDelta 0 (some []), rfl, by decide +kernel, by decide +kernel⟩,
   ⟨deltas (pageDelta 1 (some [])) 1, 7, 255, pageDelta 1 (some []), rfl, by decide +kernel, by decide +kernel⟩,
   ⟨{ recovd with codes := { recovd.codes with marked := [7 * 256 + 255] } }, 7, 255, by and_intros <;> decide +kernel⟩,
   ⟨{ recovd with codes := { recovd.codes with rebuilding := [7 * 256 + 255], jobs := [{ job3 with kind := .rebuild, plot := 7, page := 255, phase := 2 }] } }, 7, 255, { job3 with kind := .rebuild, plot := 7, page := 255, phase := 2 }, rfl, by decide +kernel, by decide +kernel, by decide +kernel⟩,
   ⟨regraft1, 0, 77, ⟨0, 77, 1, 2, []⟩, by decide +kernel, by decide +kernel, by decide +kernel, by decide +kernel, by decide +kernel, (fun _ => by decide +kernel)⟩,
   ⟨recovd.setFld (WP + 0x2C) 1 1 1, 77, .inl (by decide +kernel)⟩,
   ⟨leaves1 false 3600000000000, 77, leaf1 false, rfl, by decide +kernel⟩,
   ⟨leaves1 true 0, 77, leaf1 true, rfl, by decide +kernel, by decide +kernel, rfl⟩,
   ⟨acts 0x0C, { acts 0x0C with tb := { recovd.tb with started := [] } }, 9, rfl⟩,
   ⟨{ larkUp with gx := { recovd.gx with rotation := some rot1 }, tb := { recovd.tb with ztime := 100000000 } }, rot1, rfl, by decide +kernel, by decide +kernel, by decide +kernel⟩,
   ⟨{ recovd with gx := { recovd.gx with sweep := some 77 } }, 77, rfl⟩⟩
theorem witness_WriteBufferCommands :
    (∃ (s : State) (u : State) (set : Nat) (way : Nat) (f0 : Frame) (f : Frame), set < 65536 ∧ way < 8 ∧ s.frame set way = some f0 ∧ u = s.readFrame set way (lineOf s.wb.salt set f0.tag) ∧ u.frame set way = some f ∧ u.mayApply set way f = true) ∧
    (∃ (s : State) (u : State) (set : Nat) (way : Nat) (f0 : Frame) (f : Frame), set < 65536 ∧ way < 8 ∧ s.frame set way = some f0 ∧ u = s.readFrame set way (lineOf s.wb.salt set f0.tag) ∧ u.frame set way = some f ∧ u.mayApply set way f = false) ∧
    (∃ (s : State) (t0 : State) (n : Nat), s.Takes 0x03 n t0 ∧ t0.wb.anchorRun = none ∧ t0.wb.recovered = true) ∧
    (∃ (s : State) (t0 : State) (n : Nat), s.Takes 0x03 n t0 ∧ ((t0.wb.anchorRun.isSome = true ∨ t0.wb.recovered = false))) ∧
    (∃ (s : State), 32768 ≤ s.wb.anchorSince) ∧
    (∃ (s : State) (x : Nat) (z : Nat), s.wb.anchorRun = some (x, z) ∧ s.wb.anchorFrames = [] ∧ s.anchorClosing = false ∧ s.wb.anchors.any (s.anchorPending x z) = false) ∧
    (∃ (s : State) (q : Nat) (a : AnchorRec), (s.wb.anchors.find? (fun a => a.seq = q ∧ ¬ a.verified) = some a) ∧ s.anchorDone a = true) ∧
    (∃ (s : State) (q : Nat) (a : AnchorRec), (s.wb.anchors.find? (fun a => a.seq = q ∧ ¬ a.verified) = some a) ∧ s.anchorDone a = false) ∧
    (∃ (s : State) (set : Nat), set < 65536 ∧ s.admitting = true) ∧
    (∃ (s : State) (u : State) (d : Nat) (m : Meas) (r : Req) (b : Bucket), d < 4096 ∧ s.admitting = true ∧ u = s.retryWrites (fun r => decide (r.dom = d)) ∧ u.admitting = true ∧ (u.host.reqs.find? (fun r => decide (r.dom = d) && decide (r.st = .arrived ∨ r.st = .held)) = some r) ∧ u.mirrorRole d ≠ .unconfirmed ∧ ((r.write = true ∨ u.readWaits r = false)) ∧ u.admitTest d (u.requestCost r) = some b) ∧
    (∃ (s : State) (u : State) (d : Nat) (e : Perr) (m : Meas) (r : Req), d < 4096 ∧ s.admitting = true ∧ u = s.retryWrites (fun r => decide (r.dom = d)) ∧ u.admitting = true ∧ (u.host.reqs.find? (fun r => decide (r.dom = d) && decide (r.st = .arrived ∨ r.st = .held)) = some r) ∧ u.mirrorRole d ≠ .unconfirmed ∧ ((r.write = true ∨ u.readWaits r = false)) ∧ u.admitTest d (u.requestCost r) = none) :=
  ⟨⟨frames1, frames1.readFrame 65535 7 (lineOf frames1.wb.salt 65535 frame1.tag), 65535, 7, frame1, frame1, by decide +kernel, by decide +kernel, rfl, rfl, by decide +kernel, by decide +kernel⟩,
   ⟨frames2, frames2.readFrame 65535 7 (lineOf frames2.wb.salt 65535 frame1.tag), 65535, 7, { frame1 with state := .applying, stage := .reading }, { frame1 with state := .applying, stage := .reading }, by decide +kernel, by decide +kernel, rfl, rfl, by decide +kernel, by decide +kernel⟩,
   ⟨acts 3, { acts 3 with tb := { recovd.tb with started := [] } }, 9, rfl, rfl, by decide +kernel⟩,
   ⟨{ acts 3 with wb := up.wb }, { acts 3 with wb := up.wb, tb := { recovd.tb with started := [] } }, 9, rfl, .inr rfl⟩,
   ⟨{ recovd with wb := { recovd.wb with anchorSince := 32768 } }, by decide +kernel⟩,
   ⟨{ recovd with wb := { recovd.wb with anchorRun := some (5, 6) } }, 5, 6, rfl, by decide +kernel, by decide +kernel, by decide +kernel⟩,
   ⟨{ recovd with wb := { recovd.wb with anchors := [{ anchor1 with pos := some 7 }] } }, 9, { anchor1 with pos := some 7 }, rfl, by decide +kernel⟩,
   ⟨{ recovd with wb := { recovd.wb with anchors := [anchor1] } }, 9, anchor1, rfl, by decide +kernel⟩,
   ⟨recovd, 65535, by and_intros <;> decide +kernel⟩,
   ⟨reqs1 true .arrived, (reqs1 true .arrived).retryWrites (fun r => decide (r.dom = 4095)), 4095, meas, req1 true .arrived, ⟨-4, 0⟩, by decide +kernel, by decide +kernel, rfl, by decide +kernel, by decide +kernel, by decide +kernel, .inl rfl, by decide +kernel⟩,
   ⟨heldReqs, heldReqs.retryWrites (fun r => decide (r.dom = 4095)), 4095, .none, meas, req1 false .held, by decide +kernel, by decide +kernel, rfl, by decide +kernel, by decide +kernel, by decide +kernel, .inr (by decide +kernel), by decide +kernel⟩⟩
theorem witness_MemRequests :
    (∃ (s : State) (p : Nat) (l : Nat) (ld : Nat) (tag : Nat) (dpa : Nat) (d : Nat), p < 2 ∧ l < 4 ∧ ld < 32 ∧ s.linkUp p l = true ∧ s.portHolds p < 4095 ∧ s.power ≠ 2 ∧ s.wb.recovered = true ∧ s.resolveDom ld dpa = some d ∧ s.mirrorRole d ≠ .unconfirmed) ∧
    (∃ (s : State) (p : Nat) (l : Nat) (ld : Nat) (tag : Nat) (dpa : Nat) (d : Nat) (data : List Byte) (poison : Bool), p < 2 ∧ l < 4 ∧ ld < 32 ∧ s.linkUp p l = true ∧ s.portHolds p < 4095 ∧ s.power ≠ 2 ∧ s.wb.recovered = true ∧ s.resolveDom ld dpa = some d ∧ s.mirrorRole d ≠ .unconfirmed ∧ s.flushing = false) ∧
    (∃ (s : State) (p : Nat) (l : Nat) (ld : Nat) (tag : Nat) (dpa : Nat) (d : Nat) (data : List Byte) (mask : BitVec 64) (poison : Bool), p < 2 ∧ l < 4 ∧ ld < 32 ∧ s.linkUp p l = true ∧ s.portHolds p < 4095 ∧ s.power ≠ 2 ∧ s.wb.recovered = true ∧ s.resolveDom ld dpa = some d ∧ s.mirrorRole d ≠ .unconfirmed ∧ s.flushing = false) ∧
    (∃ (s : State) (p : Nat) (l : Nat) (ld : Nat) (tag : Nat) (dpa : Nat) (data : List Byte) (mask : BitVec 64) (poison : Bool), p < 2 ∧ l < 4 ∧ ld < 32 ∧ s.linkUp p l = false) ∧
    (∃ (s : State) (p : Nat) (l : Nat) (ld : Nat) (tag : Nat) (dpa : Nat), p < 2 ∧ l < 4 ∧ ld < 32 ∧ s.linkUp p l = true ∧ s.power ≠ 2) ∧
    (∃ (s : State) (p : Nat) (l : Nat) (ld : Nat) (tag : Nat) (dpa : Nat), p < 2 ∧ l < 4 ∧ ld < 32 ∧ s.linkUp p l = true) ∧
    (∃ (s : State) (p : Nat) (l : Nat) (tag : Nat) (op : Nat), p < 2 ∧ l < 4 ∧ s.linkUp p l = true ∧ s.power ≠ 2) :=
  ⟨⟨hostUp, 1, 3, 31, 65535, 4194240, 4095, by and_intros <;> decide +kernel⟩,
   ⟨hostUp, 1, 3, 31, 65535, 4194240, 4095, List.replicate 64 7, true, by and_intros <;> decide +kernel⟩,
   ⟨hostUp, 1, 3, 31, 65535, 4194240, 4095, List.replicate 64 7, 0x8000000000000000, false, by and_intros <;> decide +kernel⟩,
   ⟨hostUp, 1, 2, 31, 65535, 0, List.replicate 64 7, 1, false, by and_intros <;> decide +kernel⟩,
   ⟨hostUp, 1, 3, 31, 9, 0, by and_intros <;> decide +kernel⟩,
   ⟨hostUp, 1, 3, 31, 9, 0, by and_intros <;> decide +kernel⟩,
   ⟨hostUp, 1, 3, 9, 0x7F, by and_intros <;> decide +kernel⟩⟩
theorem witness_HostLinkCommands :
    (∃ (s : State) (p : Nat) (l : Nat) (w : Nat) (r : Nat) (f : Bool), p < 2 ∧ l < 4 ∧ w < 17 ∧ r < 6 ∧ l < s.portLinks p ∧ s.perstLow p = false ∧ s.power ≤ 2) ∧
    (∃ (s : State) (p : Nat) (l : Nat) (w : Nat) (r : Nat) (f : Bool), p < 2 ∧ l < 4 ∧ w < 17 ∧ r < 6 ∧ ((s.portLinks p ≤ l ∨ s.perstLow p = true ∨ 2 < s.power))) ∧
    (∃ (s : State) (p : Nat) (l : Nat), p < 2 ∧ l < 4 ∧ s.linkUp p l = true) ∧
    (∃ (s : State) (p : Nat), p < 2 ∧ s.flag (PW + 4) 24 = false) ∧
    (∃ (s : State) (p : Nat), p < 2 ∧ s.perstLow p = true ∧ s.power ≠ 4 ∧ 100 ≤ s.tb.tick - (if p = 0 then s.pins.perstAt0 else s.pins.perstAt1) ∧ s.warmPerst p = true ∧ s.warmPerstHeld p = true) ∧
    (∃ (s : State) (p : Nat), p < 2 ∧ s.perstLow p = true ∧ s.power ≠ 4 ∧ 100 ≤ s.tb.tick - (if p = 0 then s.pins.perstAt0 else s.pins.perstAt1) ∧ (s.warmPerst p && s.warmPerstHeld p) = false) ∧
    (∃ (s : State) (p : Nat), p < 2) ∧
    (∃ (s : State) (i : Nat), i < 32 ∧ s.ldThere i = true) :=
  ⟨⟨hostUp, 1, 3, 16, 5, true, by and_intros <;> decide +kernel⟩,
   ⟨up, 1, 3, 16, 5, true, by decide +kernel, by decide +kernel, by decide +kernel, by decide +kernel, .inl (by decide +kernel)⟩,
   ⟨hostUp, 1, 3, by and_intros <;> decide +kernel⟩,
   ⟨up.setReg (PW + 4) 0, 1, by and_intros <;> decide +kernel⟩,
   ⟨{ up with pins := { up.pins with perstLow0 := true, perstLow1 := true }, tb := { up.tb with tick := 100 } }, 1, by and_intros <;> decide +kernel⟩,
   ⟨{ up with pins := { up.pins with perstLow1 := true }, tb := { up.tb with tick := 100 } }, 1, by and_intros <;> decide +kernel⟩,
   ⟨up, 1, by decide +kernel⟩,
   ⟨hostUp, 31, by and_intros <;> decide +kernel⟩⟩
theorem witness_SpdmCommands :
    (∃ (s : State) (c : Nat), c < 3) ∧
    (∃ (s : State) (c : Nat), c < 3 ∧ (s.spdm c).phase = 1) ∧
    (∃ (s : State) (c : Nat), c < 3 ∧ (s.spdm c).phase = 2) ∧
    (∃ (s : State) (c : Nat), c < 3 ∧ s.spdmReady c = true) ∧
    (∃ (s : State) (c : Nat) (k : Nat), c < 3 ∧ s.spdmReady c = true ∧ s.hasChain k = true) ∧
    (∃ (s : State) (c : Nat) (k : Nat), c < 3 ∧ s.spdmReady c = true ∧ s.hasChain k = false) ∧
    (∃ (s : State) (c : Nat) (k : Nat), c < 3 ∧ s.spdmReady c = true ∧ 0 < k ∧ k ≤ 5) ∧
    (∃ (s : State) (c : Nat), c < 3 ∧ (s.spdm c).session = 1) ∧
    (∃ (s : State) (c : Nat), c < 3 ∧ s.spdmSecure c = true) ∧
    (∃ (s : State) (c : Nat) (k : Nat) (chain : List Byte), c < 3 ∧ 0 < k ∧ k < 8 ∧ s.spdmSecure c = true) ∧
    (∃ (s : State) (c : Nat) (k : Nat) (chain : List Byte), c < 3 ∧ s.spdmSecure c = true) ∧
    (∃ (s : State) (c : Nat), c < 3 ∧ s.spdmReady c = false ∧ s.spdmSecure c = false) ∧
    (∃ (s : State) (p : Nat) (l : Nat), p < 2 ∧ l < 4 ∧ s.spdmSecure p = true ∧ s.linkUp p l = true) ∧
    (∃ (s : State) (p : Nat) (l : Nat), p < 2 ∧ l < 4 ∧ s.linkUp p l = true ∧ s.flag (linkOff p l) 3 = true) :=
  ⟨⟨up, 2, by decide +kernel⟩,
   ⟨withSpdm ⟨1, 2⟩, 2, by and_intros <;> decide +kernel⟩,
   ⟨withSpdm ⟨2, 0⟩, 2, by and_intros <;> decide +kernel⟩,
   ⟨withSpdm ⟨3, 0⟩, 2, by and_intros <;> decide +kernel⟩,
   ⟨withSpdm ⟨3, 0⟩, 2, 0, by and_intros <;> decide +kernel⟩,
   ⟨withSpdm ⟨3, 0⟩, 2, 7, by and_intros <;> decide +kernel⟩,
   ⟨withSpdm ⟨3, 0⟩, 2, 5, by and_intros <;> decide +kernel⟩,
   ⟨withSpdm ⟨3, 1⟩, 2, by and_intros <;> decide +kernel⟩,
   ⟨withSpdm ⟨3, 2⟩, 2, by and_intros <;> decide +kernel⟩,
   ⟨withSpdm ⟨3, 2⟩, 2, 7, [1, 2], by and_intros <;> decide +kernel⟩,
   ⟨withSpdm ⟨3, 2⟩, 2, 7, [1, 2], by and_intros <;> decide +kernel⟩,
   ⟨withSpdm ⟨2, 1⟩, 2, by and_intros <;> decide +kernel⟩,
   ⟨withSpdm ⟨3, 2⟩, 1, 3, by and_intros <;> decide +kernel⟩,
   ⟨hostUp.setBit (linkOff 1 3) 3 true, 1, 3, by and_intros <;> decide +kernel⟩⟩
theorem witness_MailboxReads : ∃ (s : State) (i : Nat), s.MailOpen i :=
  ⟨hostUp, 31, ⟨by decide +kernel, by decide +kernel, by decide +kernel, by decide +kernel⟩⟩
theorem witness_MailboxWrites :
    (∃ (s : State) (i : Nat) (stamp : Nat), s.MailOpen i ∧ s.tb.primarySeen = true) ∧
    (∃ (s : State) (i : Nat) (stamp : Nat), s.MailOpen i ∧ s.tb.primarySeen = false) ∧
    (∃ (s : State) (i : Nat) (log : Nat) (n : Nat), s.MailOpen i ∧ log < 5 ∧ n ≤ ((Tbl.find (s.ld i).logs log).getD []).length) ∧
    (∃ (s : State) (i : Nat) (w : Word), s.MailOpen i) ∧
    (∃ (s : State) (i : Nat) (a : Nat) (b : Nat) (c : Nat), s.MailOpen i) ∧
    (∃ (s : State) (i : Nat) (v : Bool), s.MailOpen i) ∧
    (∃ (s : State) (i : Nat) (op : Nat), s.MailOpen i) ∧
    (∃ (s : State) (i : Nat) (dpa : Nat), s.MailOpen i ∧ s.flag HI 31 = false) ∧
    (∃ (s : State) (u : State) (i : Nat) (dpa : Nat) (d : Nat), s.MailOpen i ∧ s.flag HI 31 = true ∧ s.resolveDom i dpa = some d ∧ s.localWrite d (s.lineOfDpa d dpa) (List.replicate 64 0) 0 true = some u) ∧
    (∃ (s : State) (u : State) (i : Nat) (dpa : Nat) (d : Nat) (data : List Byte), s.MailOpen i ∧ s.resolveDom i dpa = some d ∧ s.localWrite d (s.lineOfDpa d dpa) data fullMask false = some u) ∧
    (∃ (s : State) (i : Nat), i < 32 ∧ s.ldThere i = true ∧ ¬ 2 < s.power ∧ (s.ld i).bgState ≠ 1) :=
  ⟨⟨{ hostUp with tb := { up.tb with primarySeen := true } }, 31, 9, ⟨by decide +kernel, by decide +kernel, by decide +kernel, by decide +kernel⟩, by decide +kernel⟩,
   ⟨hostUp, 31, 9, ⟨by decide +kernel, by decide +kernel, by decide +kernel, by decide +kernel⟩, by decide +kernel⟩,
   ⟨withLd { Ld.fresh with logs := [(4, [(1, 2), (3, 4)])] }, 31, 4, 2, ⟨by decide +kernel, by decide +kernel, by decide +kernel, by decide +kernel⟩, by decide +kernel, by decide +kernel⟩,
   ⟨hostUp, 31, 7, ⟨by decide +kernel, by decide +kernel, by decide +kernel, by decide +kernel⟩⟩,
   ⟨hostUp, 31, 1, 2, 3, ⟨by decide +kernel, by decide +kernel, by decide +kernel, by decide +kernel⟩⟩,
   ⟨hostUp, 31, true, ⟨by decide +kernel, by decide +kernel, by decide +kernel, by decide +kernel⟩⟩,
   ⟨hostUp, 31, 9, ⟨by decide +kernel, by decide +kernel, by decide +kernel, by decide +kernel⟩⟩,
   ⟨hostUp.setFld HI 31 31 0, 31, 0, ⟨by decide +kernel, by decide +kernel, by decide +kernel, by decide +kernel⟩, by decide +kernel⟩,
   ⟨hostUp.setFld HI 31 31 1, ((hostUp.setFld HI 31 31 1).localWrite 4095 ((hostUp.setFld HI 31 31 1).lineOfDpa 4095 0) (List.replicate 64 0) 0 true).getD up, 31, 0, 4095, ⟨by decide +kernel, by decide +kernel, by decide +kernel, by decide +kernel⟩, by decide +kernel, by decide +kernel, by decide +kernel⟩,
   ⟨hostUp, (hostUp.localWrite 4095 (hostUp.lineOfDpa 4095 64) (List.replicate 64 9) fullMask false).getD up, 31, 64, 4095, List.replicate 64 9, ⟨by decide +kernel, by decide +kernel, by decide +kernel, by decide +kernel⟩, by decide +kernel, by decide +kernel⟩,
   ⟨hostUp, 31, by and_intros <;> decide +kernel⟩⟩
theorem witness_CapacityCommands :
    (∃ (s : State) (i : Nat) (dpa : Nat) (n : Nat), s.MailOpen i ∧ (s.ld i).bgState ≠ 1 ∧ dpa + n * 64 ≤ s.ldCapacity i * 2 ^ 28) ∧
    (∃ (s : State) (i : Nat), s.MailOpen i ∧ (s.ld i).bgState ≠ 1) ∧
    (∃ (s : State) (i : Nat), i < 32 ∧ (s.ld i).bgState = 1 ∧ (s.ld i).bgOp = 0x4304 ∧ s.bgDone i = true) ∧
    (∃ (s : State) (i : Nat) (d : Nat) (e : Extent), s.MailOpen i ∧ e ∈ (s.ld i).extents ∧ e.dom = d ∧ e.st = 0) ∧
    (∃ (s : State) (i : Nat) (d : Nat) (e : Extent), s.MailOpen i ∧ e ∈ (s.ld i).extents ∧ e.dom = d ∧ e.st = 1) ∧
    (∃ (s : State) (i : Nat) (d : Nat) (e : Extent), i < 32 ∧ d < 4096 ∧ s.domValid d = true ∧ e ∈ (s.ld i).extents ∧ e.dom = d ∧ e.st = 2 ∧ s.domLd d = i ∧ ((∀ r ∈ s.host.reqs, r.dom ≠ d))) ∧
    (∃ (s : State), s.larkUp = true) ∧
    (∃ (s : State) (i : Nat) (n : Nat), s.larkUp = true ∧ i < 32) ∧
    (∃ (s : State) (i : Nat) (k : Nat) (b : Nat) (n : Nat), s.larkUp = true ∧ i < 32 ∧ k < 8 ∧ 0 < n ∧ s.ldStatic i ≤ b ∧ ((∀ r ∈ (s.ld i).regions, r.1 ≠ k → r.2.1 + r.2.2 ≤ b ∨ b + n ≤ r.2.1))) ∧
    (∃ (s : State) (i : Nat) (k : Nat) (b : Nat), s.larkUp = true ∧ i < 32 ∧ k < 8) ∧
    (∃ (s : State) (i : Nat) (d : Nat) (n : Nat) (r : Nat × Nat × Nat), s.larkUp = true ∧ i < 32 ∧ d < 4096 ∧ s.domValid d = true ∧ s.domLd d = i ∧ s.fld (QD + d * 0x20 + 8) 23 0 = s.fld (QD + d * 0x20 + 4) 23 0 + n ∧ r ∈ (s.ld i).regions ∧ r.2.1 * 256 ≤ s.fld (QD + d * 0x20 + 4) 23 0 ∧ s.fld (QD + d * 0x20 + 4) 23 0 + n ≤ (r.2.1 + r.2.2) * 256 ∧ ((∀ e ∈ (s.ld i).extents, e.dom ≠ d))) ∧
    (∃ (s : State) (i : Nat) (d : Nat) (e : Extent), s.larkUp = true ∧ i < 32 ∧ s.sanitizing = false ∧ (s.ld i).extents.find? (fun e => e.dom = d) = some e ∧ e.st = 0) ∧
    (∃ (s : State) (i : Nat) (d : Nat) (e : Extent), s.larkUp = true ∧ i < 32 ∧ s.sanitizing = false ∧ (s.ld i).extents.find? (fun e => e.dom = d) = some e ∧ e.st ≠ 0) :=
  ⟨⟨hostUp, 31, 1073741632, 3, ⟨by decide +kernel, by decide +kernel, by decide +kernel, by decide +kernel⟩, by decide +kernel, by decide +kernel⟩,
   ⟨hostUp, 31, ⟨by decide +kernel, by decide +kernel, by decide +kernel, by decide +kernel⟩, by decide +kernel⟩,
   ⟨withLd { Ld.fresh with bgState := 1, bgOp := 0x4304 }, 31, by and_intros <;> decide +kernel⟩,
   ⟨withLd { Ld.fresh with extents := [⟨4095, 0⟩] }, 31, 4095, ⟨4095, 0⟩, ⟨by decide +kernel, by decide +kernel, by decide +kernel, by decide +kernel⟩, by decide +kernel, by decide +kernel, by decide +kernel⟩,
   ⟨withLd { Ld.fresh with extents := [⟨4095, 1⟩] }, 31, 4095, ⟨4095, 1⟩, ⟨by decide +kernel, by decide +kernel, by decide +kernel, by decide +kernel⟩, by decide +kernel, by decide +kernel, by decide +kernel⟩,
   ⟨withLd { Ld.fresh with extents := [⟨4095, 2⟩] }, 31, 4095, ⟨4095, 2⟩, by and_intros <;> decide +kernel⟩,
   ⟨larkUp, by decide +kernel⟩,
   ⟨larkUp, 31, 0xC000, by and_intros <;> decide +kernel⟩,
   ⟨larkUp, 31, 7, 4, 1, by and_intros <;> decide +kernel⟩,
   ⟨larkUp, 31, 7, 4, by and_intros <;> decide +kernel⟩,
   ⟨{ (withLd { Ld.fresh with regions := [(7, (0, 1))] }) with lark := larkUp.lark }, 31, 4095, 4, (7, (0, 1)), by and_intros <;> decide +kernel⟩,
   ⟨{ (withLd { Ld.fresh with extents := [⟨4095, 0⟩] }) with lark := larkUp.lark }, 31, 4095, ⟨4095, 0⟩, by and_intros <;> decide +kernel⟩,
   ⟨{ (withLd { Ld.fresh with extents := [⟨4095, 1⟩] }) with lark := larkUp.lark }, 31, 4095, ⟨4095, 1⟩, by and_intros <;> decide +kernel⟩⟩
theorem witness_RegisterRows :
    (∃ (s : State) (o : Nat) (v : Word), s.regsUp = true ∧ plainOffset o = true) ∧
    (∃ (s : State) (o : Nat) (v : Word) (who : Requester), s.regsUp = true ∧ o % 4 = 0 ∧ boxOf o = none ∧ (who = .mctp ∨ who = .peer ∨ who = .engine)) ∧
    (∃ (s : State) (o : Nat) (w : Bool), s.regsUp = true) ∧
    (∃ (s : State) (o : Nat), s.regsUp = true ∧ s.sd.queue = [] ∧ o % 4 = 0 ∧ pairLow o = true ∧ ladderLow o = false) ∧
    (∃ (s : State) (o : Nat) (v : Word), s.regsUp = true ∧ o % 4 = 0 ∧ pairLow o = true ∧ boxOf o = none ∧ (¬ (TB + 0x1000 ≤ o ∧ o < TB + 0x1800))) ∧
    (∃ (s : State) (o : Nat) (l : Word) (v : Word), s.regsUp = true ∧ o % 4 = 0 ∧ pairLow o = true ∧ pairLow (o + 4) = false ∧ o + 4 ≠ EV + 0x34 ∧ boxOf o = none ∧ boxOf (o + 4) = none ∧ (¬ (TB + 0x1000 ≤ o + 4 ∧ o + 4 < TB + 0x1800)) ∧ (¬ (PM + 0x100 ≤ o ∧ o < PM + 0xD00)) ∧ hasPersist o = false ∧ hasPersist (o + 4) = false ∧ s.holdAt .owner o = some l) ∧
    (∃ (s : State) (o : Nat), s.regsUp = true ∧ s.sd.queue = [] ∧ o % 4 = 0 ∧ pairLow o = false ∧ pairHigh o = false) ∧
    (∃ (s : State) (k : Nat), s.regsUp = true ∧ s.sd.queue = [] ∧ k < 5) ∧
    (∃ (s : State) (n : Nat) (o : Nat), s.regsUp = true ∧ 0 < n ∧ n ≤ 64 ∧ o % 4 = 0 ∧ o + 4 * n ≤ 0x200000) ∧
    (∃ (s : State) (w : SeedWrite) (rest : List SeedWrite), s.sd.queue = w :: rest) ∧
    (∃ (s : State) (t0 : State) (n : Nat) (pages : List (Nat × PageFinding)), s.Takes 0x0F n t0) ∧
    (∃ (s : State) (who : Requester) (o : Nat) (v : Word) (rest : List SeedWrite) (a : Nat) (b : Nat), s.sd.queue = .register who o v :: rest) ∧
    (∃ (s : State) (o : Nat) (bytes : List Byte) (rest : List SeedWrite) (a : Nat) (b : Nat), s.sd.queue = .ownerData o bytes :: rest) ∧
    (∃ (s : State) (a : Nat) (b : Nat), s.sd.queue = []) :=
  ⟨⟨up, TB + 4, 5, by and_intros <;> decide +kernel⟩,
   ⟨up, TB + 4, 7, .engine, by decide +kernel, by decide +kernel, by decide +kernel, .inr (.inr rfl)⟩,
   ⟨up, 3, true, by decide +kernel⟩,
   ⟨up, WP + 0x30, by and_intros <;> decide +kernel⟩,
   ⟨up, WP + 0x30, 9, by and_intros <;> decide +kernel⟩,
   ⟨{ up with holds := [⟨.owner, RK + 0x30, 5⟩] }, RK + 0x30, 5, 1, by and_intros <;> decide +kernel⟩,
   ⟨up, TB + 4, by and_intros <;> decide +kernel⟩,
   ⟨up, 4, by and_intros <;> decide +kernel⟩,
   ⟨up, 64, 0x1FFF00, by and_intros <;> decide +kernel⟩,
   ⟨{ up with sd := { up.sd with queue := [.register .owner (TB + 4) 5] } }, .register .owner (TB + 4) 5, [], rfl⟩,
   ⟨acts 0x0F, { acts 0x0F with tb := { recovd.tb with started := [] } }, 9, [(7, .rewriteFailed)], rfl⟩,
   ⟨{ up with sd := { up.sd with queue := [.register .owner (TB + 4) 5] } }, .owner, TB + 4, 5, [], 0, 0, rfl⟩,
   ⟨{ up with sd := { up.sd with queue := [.ownerData 4095 [1, 2]] } }, 4095, [1, 2], [], 1, 0, rfl⟩,
   ⟨up, 0, 0, by decide +kernel⟩⟩
theorem witness_HoldUpCommands :
    (∃ (s : State) (u : State), u = s.setFld (WP + 0x28) 15 0 (min 65535 (s.huEnergy (s.fld (SQ + 8) 11 0) / (512 * 4096 ^ 2) / 10 ^ 9)) ∧ u.huFactor ≤ s.wb.f) ∧
    (∃ (s : State) (u : State), u = s.setFld (WP + 0x28) 15 0 (min 65535 (s.huEnergy (s.fld (SQ + 8) 11 0) / (512 * 4096 ^ 2) / 10 ^ 9)) ∧ s.wb.f < u.huFactor ∧ s.wb.fUp = none) ∧
    (∃ (s : State) (u : State) (g : Nat) (z : Nat), u = s.setFld (WP + 0x28) 15 0 (min 65535 (s.huEnergy (s.fld (SQ + 8) 11 0) / (512 * 4096 ^ 2) / 10 ^ 9)) ∧ s.wb.f < u.huFactor ∧ s.wb.fUp = some (g, z) ∧ 100000 ≤ s.tb.tick - z) ∧
    (∃ (s : State) (t0 : State) (n : Nat), s.Takes 0x06 n t0 ∧ t0.startHuTest.pw.huTest = none) ∧
    (∃ (s : State) (t0 : State) (n : Nat), s.Takes 0x06 n t0 ∧ t0.pw.huTest = none ∧ t0.startHuTest.pw.huTest.isSome = true) ∧
    (∃ (s : State) (d : Nat), s.takeAction 0x06 = none ∧ s.pw.huDue = some d ∧ d ≤ s.tb.tick) ∧
    (∃ (s : State) (d : Nat), s.pw.huDue = some d ∧ d ≤ s.tb.tick ∧ s.flag (WP + 0x2C) 2 = true) ∧
    (∃ (s : State) (h : HuTest), s.pw.huTest = some h ∧ s.fld (SQ + 8) 11 0 * 1024 ≤ h.v1 * (1024 - s.fld (WP + 0x1C) 23 16) ∧ s.fld (SQ + 8) 11 0 < h.v1) ∧
    (∃ (s : State) (h : HuTest), s.pw.huTest = some h ∧ h.v1 * (1024 - s.fld (WP + 0x1C) 23 16) < s.fld (SQ + 8) 11 0 * 1024) ∧
    (∃ (s : State) (h : HuTest), s.pw.huTest = some h ∧ s.fld (WP + 0x1C) 15 8 * 1000 ≤ s.tb.tick - h.start) ∧
    (∃ (s : State), s.flushing = false ∧ s.mayFlush = true) ∧
    (∃ (s : State), s.flushing = true) ∧
    (∃ (s : State) (a : Nat) (b : Nat), s.flushing = true ∧ s.imageSealed = true) ∧
    (∃ (s : State) (a : Nat) (b : Nat), ((s.flushing = false ∨ s.imageSealed = false))) ∧
    (∃ (s : State) (p : Nat), p < 2 ∧ s.flushing = false) :=
  ⟨⟨up, shown up, rfl, by decide +kernel⟩,
   ⟨hu, shown hu, rfl, by decide +kernel, rfl⟩,
   ⟨{ hu with wb := { hu.wb with fUp := some (200, 0) }, tb := { up.tb with tick := 100000 } }, shown { hu with wb := { hu.wb with fUp := some (200, 0) }, tb := { up.tb with tick := 100000 } }, 200, 0, rfl, by decide +kernel, rfl, by decide +kernel⟩,
   ⟨acts 6, { acts 6 with tb := { (acts 6).tb with started := [] } }, 9, rfl, by decide +kernel⟩,
   ⟨huReady 6, { huReady 6 with tb := { (huReady 6).tb with started := [] } }, 9, rfl, rfl, by decide +kernel⟩,
   ⟨{ huReady 6 with tb := { (huReady 6).tb with started := [] } }, 1000000, rfl, rfl, by decide +kernel⟩,
   ⟨(huReady 6).setBit (WP + 0x2C) 2 true, 1000000, rfl, by decide +kernel, by decide +kernel⟩,
   ⟨(huRuns 4095).setFld (SQ + 8) 11 0 4000, ⟨4095, 0⟩, rfl, by decide +kernel, by decide +kernel⟩,
   ⟨huRuns 4095, ⟨4095, 0⟩, rfl, by decide +kernel⟩,
   ⟨huRuns 4095, ⟨4095, 0⟩, rfl, by decide +kernel⟩,
   ⟨recovd.setFld (SQ + 4) 3 0 2, by decide +kernel, by decide +kernel⟩,
   ⟨recovd.setBit (WP + 0x2C) 0 true, by decide +kernel⟩,
   ⟨sealedFlush, 70000, 65537, by and_intros <;> decide +kernel⟩,
   ⟨recovd.setBit (WP + 0x2C) 0 true, 7, 8, .inr (by decide +kernel)⟩,
   ⟨up, 1, by and_intros <;> decide +kernel⟩⟩
theorem witness_SpoolRegulatorCommands :
    (∃ (s : State) (t0 : State) (n : Nat), s.Takes 0x11 n t0) ∧
    (∃ (s : State), s.wb.recovered = true ∧ s.flag (WP + 0x2C) 0 = false) ∧
    (∃ (s : State), s.larkUp = true) ∧
    (∃ (s : State) (g : Nat) (z : Nat), s.qs.gUp = some (g, z) ∧ z + 100000 ≤ s.tb.tick ∧ s.qs.gNew = g ∧ s.qs.g < g ∧ s.lark.fwRunning = true) ∧
    (∃ (s : State) (u : State), u = (s.validDoms.foldl State.refillDom s).levelUpdate) ∧
    (∃ (s : State) (t0 : State) (n : Nat), s.Takes 0x04 n t0) ∧
    (∃ (s : State) (who : Requester) (v : Word), s.regsUp = true ∧ mayWrite who = true) :=
  ⟨⟨acts 0x11, { acts 0x11 with tb := { recovd.tb with started := [] } }, 9, rfl⟩,
   ⟨recovd, by and_intros <;> decide +kernel⟩,
   ⟨larkUp, by decide +kernel⟩,
   ⟨{ larkUp with qs := { up.qs with gUp := some (9, 0), gNew := 9 }, tb := { up.tb with tick := 100000 } }, 9, 0, rfl, by decide +kernel, by decide +kernel, by decide +kernel, by decide +kernel⟩,
   ⟨hostUp, (hostUp.validDoms.foldl State.refillDom hostUp).levelUpdate, rfl⟩,
   ⟨acts 4, { acts 4 with tb := { recovd.tb with started := [] } }, 9, rfl⟩,
   ⟨up, .lark, 4095, by and_intros <;> decide +kernel⟩⟩
theorem witness_RailCommands :
    (∃ (s : State), s.sqState = 1 ∧ s.rails.any (fun n => decide (s.upStep n = s.sqStep) && decide (s.railState n = 5)) = false ∧ (s.rails.filter (fun n => s.railState n = 1)).all s.senseGood = true ∧ ((s.rails.filter (fun n => s.railState n = 1)).foldl State.railGood s).heading 4 = false) ∧
    (∃ (s : State), s.sqState = 2 ∧ (s.rails.filter (fun n => s.railState n = 1)).all s.senseGood = true) ∧
    (∃ (s : State) (n : Nat), n < 24 ∧ s.railKind n = 1 ∧ s.railState n = 1 ∧ s.railFor n (100 * s.fld (railOff n + 4) 7 0) = true) ∧
    (∃ (s : State), s.rails.any (fun n => decide (s.railState n = 3)) = false ∧ s.sqState = 3) ∧
    (∃ (s : State), s.rails.any (fun n => decide (s.railState n = 3)) = false ∧ s.sqState ≠ 3) ∧
    (∃ (s : State) (n : Nat), n < 24 ∧ s.railKind n = 1 ∧ s.offExpired n = true ∧ s.shutMode n = 1) ∧
    (∃ (s : State) (n : Nat), n < 24 ∧ s.railKind n = 1 ∧ s.offExpired n = true ∧ s.shutMode n = 2) ∧
    (∃ (s : State) (n : Nat) (code : Nat), n < 24 ∧ s.railKind n = 1) ∧
    (∃ (s : State) (n : Nat), n < 24 ∧ s.railKind n = 1 ∧ s.railState n = 2) ∧
    (∃ (s : State) (n : Nat), n < 24 ∧ s.railState n = 5 ∧ ((s.sqState = 1 ∨ s.sqState = 2)) ∧ s.railFor n (1000 * s.fld (railOff n + 4) 31 24) = true) ∧
    (∃ (s : State), s.sqState = 4 ∧ s.pw.offTick + 10000 * s.fld SQ 7 0 ≤ s.tb.tick) ∧
    (∃ (s : State), s.pins.faultDrive = false ∧ s.fld SQ 17 16 = 0) ∧
    (∃ (s : State), s.pins.faultDrive = false ∧ s.fld SQ 17 16 = 1 ∧ s.power < 4) ∧
    (∃ (s : State), s.pins.faultDrive = true) ∧
    (∃ (s : State), s.sqState ≠ 0) ∧
    (∃ (s : State), s.pins.faultDrive = true ∧ s.pw.faultTick + 1000 * s.fld SQ 15 8 ≤ s.tb.tick ∧ s.sqState ≠ 2 ∧ ((∀ n ∈ s.rails, s.railEn n = false ∧ s.railState n ≠ 3))) ∧
    (∃ (s : State), s.power = 3) ∧
    (∃ (s : State), s.power < 3) :=
  ⟨⟨rail 22 1 1, by and_intros <;> decide +kernel⟩,
   ⟨rail 22 1 2, by and_intros <;> decide +kernel⟩,
   ⟨{ rail 22 1 1 with tb := { up.tb with tick := 25500 } }, 22, by and_intros <;> decide +kernel⟩,
   ⟨rail 22 0 3, by and_intros <;> decide +kernel⟩,
   ⟨rail 22 0 2, by and_intros <;> decide +kernel⟩,
   ⟨{ (rail 22 3 3).setFld (railOff 22) 16 15 1 with tb := { up.tb with tick := 25500 } }, 22, by and_intros <;> decide +kernel⟩,
   ⟨{ (rail 22 3 3).setFld (railOff 22) 16 15 2 with tb := { up.tb with tick := 25500 } }, 22, by and_intros <;> decide +kernel⟩,
   ⟨rail 22 2 2, 22, 4095, by and_intros <;> decide +kernel⟩,
   ⟨rail 22 2 2, 22, by and_intros <;> decide +kernel⟩,
   ⟨{ rail 22 5 2 with tb := { up.tb with tick := 255000 } }, 22, by decide +kernel, by decide +kernel, .inr (by decide +kernel), by decide +kernel⟩,
   ⟨{ rail 22 0 4 with tb := { up.tb with tick := 2550000 } }, by and_intros <;> decide +kernel⟩,
   ⟨up.setFld SQ 17 16 0, by and_intros <;> decide +kernel⟩,
   ⟨up.setFld SQ 17 16 1, by and_intros <;> decide +kernel⟩,
   ⟨driven, by decide +kernel⟩,
   ⟨rail 22 0 5, by decide +kernel⟩,
   ⟨{ driven with tb := { up.tb with tick := 255000 } }, by and_intros <;> decide +kernel⟩,
   ⟨up.setFld PW 3 0 3, by decide +kernel⟩,
   ⟨up, by decide +kernel⟩⟩
theorem witness_PowerCommands :
    (∃ (s : State) (ms : Nat), s.recStep = 7 ∧ s.areaErasing = false ∧ s.wb.recovered = false ∧ s.power = 0 ∧ s.flag PW 7 = false ∧ ms ≤ 400) ∧
    (∃ (s : State) (f : RecoveryFinding), s.wb.recovered = true) ∧
    (∃ (s : State) (f : RecoveryFinding), s.wb.recovered = false ∧ s.recStep = 0 ∧ s.power = 0 ∧ s.sqState = 2 ∧ s.flag PW 7 = false ∧ s.channelsSettled = true ∧ s.media.mixedReported = false ∧ s.wb.image = none ∧ s.tp.ckptA = none ∧ s.tp.ckptB = none) ∧
    (∃ (s : State) (u : State) (f : RecoveryFinding), s.wb.recovered = false ∧ s.recStep = 0 ∧ s.power = 0 ∧ s.sqState = 2 ∧ s.flag PW 7 = false ∧ s.channelsSettled = true ∧ s.media.mixedReported = false ∧ s.wb.image = none ∧ s.uncleanLoss.mapBase f = (true, u) ∧ u.wb.image = none ∧ f.gorseRecords = true) ∧
    (∃ (s : State) (f : RecoveryFinding), s.media.mixedReported = true) ∧
    (∃ (s : State) (x : Nat), s.responderUp = true ∧ ((x = 0 ∨ x = 4)) ∧ s.flag (TH + 4) 31 = false ∧ ((s.power = 4 → s.heading 0 = true → s.recalled = true))) ∧
    (∃ (s : State), s.wakeAt ≤ s.tb.ztime ∧ s.wakeAt ≠ noInstant) ∧
    (∃ (s : State), s.entering = true ∧ s.heading 2 = true ∧ s.atRest = true ∧ s.host.fetches = [] ∧ s.standbyAll true = true) ∧
    (∃ (s : State), s.entering = true ∧ s.heading 2 = true ∧ s.atRest = true ∧ s.host.fetches = [] ∧ s.standbyAll true = false) ∧
    (∃ (s : State), s.a3Drained = true ∧ s.wb.writing = none) ∧
    (∃ (s : State), s.a3Drained = true ∧ s.imageSealed = true) ∧
    (∃ (s : State), s.entering = true ∧ s.fld (SQ + 4) 3 0 = 2 ∧ s.pw.since + 1000 * s.fld (PW + 4) 23 16 ≤ s.tb.tick) ∧
    (∃ (s : State), s.power = 2 ∧ s.heading 0 = true ∧ s.standbyAll false = true) ∧
    (∃ (s : State) (v : Bool), s.power = 3 ∧ s.heading 0 = true ∧ s.sqState = 2 ∧ s.channelsSettled = true ∧ s.fld PW 19 16 ≠ 8) ∧
    (∃ (s : State) (v : Bool), s.power = 3 ∧ s.heading 0 = true ∧ s.sqState = 2 ∧ s.channelsSettled = true ∧ s.fld PW 19 16 = 8 ∧ s.areaErasing = false) ∧
    (∃ (s : State) (b : Byte) (pages : List Nat), s.power = 4 ∧ s.heading 0 = true ∧ s.recalled = false) ∧
    (∃ (s : State), s.power = 4 ∧ s.heading 0 = true ∧ s.recalled = false) ∧
    (∃ (s : State), s.power ≠ 4) :=
  ⟨⟨up.setFld (WP + 0x2C) 11 8 7, 400, by and_intros <;> decide +kernel⟩,
   ⟨recovd, found true true, by decide +kernel⟩,
   ⟨cold, found true true, by decide +kernel, by decide +kernel, by decide +kernel, by decide +kernel, by decide +kernel, by decide +kernel, by decide +kernel, rfl, rfl, rfl⟩,
   ⟨coldCkpt, based, found true true, by decide +kernel, by decide +kernel, by decide +kernel, by decide +kernel, by decide +kernel, by decide +kernel, by decide +kernel, rfl, (pair_eq (by decide +kernel)), by decide +kernel, by decide +kernel⟩,
   ⟨{ cold with media := { cold.media with mixedReported := true } }, found true true, by decide +kernel⟩,
   ⟨up.setFld PW 3 0 3, 4, by decide +kernel, .inr rfl, by decide +kernel, by decide +kernel⟩,
   ⟨up.setReg (DF + 0x30) 0, by and_intros <;> decide +kernel⟩,
   ⟨toState 0 2, by decide +kernel, by decide +kernel, by decide +kernel, rfl, by decide +kernel⟩,
   ⟨(toState 0 2).setChanState 39 4, by decide +kernel, by decide +kernel, by decide +kernel, rfl, by decide +kernel⟩,
   ⟨toState 0 3, by decide +kernel, rfl⟩,
   ⟨a3Sealed, by decide +kernel, by decide +kernel⟩,
   ⟨{ toState 0 3 with tb := { up.tb with tick := 255000 } }, by and_intros <;> decide +kernel⟩,
   ⟨toState 2 0, by and_intros <;> decide +kernel⟩,
   ⟨settled (toState 3 0), true, by and_intros <;> decide +kernel⟩,
   ⟨(settled (toState 3 0)).setFld PW 19 16 8, true, by and_intros <;> decide +kernel⟩,
   ⟨offUp 0, 0x80, [7105, 9], by and_intros <;> decide +kernel⟩,
   ⟨{ offUp 0 with sd := { up.sd with unread := [7105, 9] } }, by and_intros <;> decide +kernel⟩,
   ⟨up, by decide +kernel⟩⟩
theorem witness_ThermalCommands :
    (∃ (s : State) (rs : List (Int × Bool)), s.power < 3) ∧
    (∃ (s : State) (k : Nat) (v : Int) (b : Bool), k < 2 ∧ s.power < 3) ∧
    (∃ (s : State) (k : Nat) (v : Int) (b : Bool), k < 2 ∧ 3 ≤ s.power) ∧
    (∃ (s : State) (vs : List Int) (rs : List (Nat × Int)), 3 ≤ s.power ∧ rs = (((List.range 8).zip vs).map (fun (x : Nat × Int) => (24 + x.1, x.2))).filter (fun (x : Nat × Int) => !s.sensorAbsent x.1)) ∧
    (∃ (s : State) (c : Nat) (tag : Nat) (q : MCmd) (ds : List Int) (hub : Int), s.Answers c tag [.temp] q) ∧
    (∃ (s : State) (c : Nat) (tag : Nat) (q : MCmd) (ds : List Int) (hub : Int), s.Answers c tag [.temp] q) ∧
    (∃ (s : State) (c : Nat), c < 40 ∧ s.power < 3 ∧ s.sensorAbsent (0x100 + c) = false ∧ (Tbl.find s.th.tempTick c).getD 0 + (if s.power = 2 then 120000000 else 10000) ≤ s.tb.tick) ∧
    (∃ (s : State) (g : Nat) (z : Nat), g < 6 ∧ Tbl.find s.th.rateHold g = some z ∧ z ≤ s.tb.tick) ∧
    (∃ (s : State), 3 ≤ s.thLevel) ∧
    (∃ (s : State), s.thLevel = 2 ∧ s.bgLevel < 7 ∧ s.th.bgAt + 100000 ≤ s.tb.tick) ∧
    (∃ (s : State), s.thLevel < 2 ∧ s.th.bgAt + 1000000 ≤ s.tb.tick) ∧
    (∃ (s : State), s.thRequest = true ∧ 2 ≤ s.thLevel ∧ s.th.requestAt + s.fld TH 23 16 * 10000 ≤ s.tb.tick) ∧
    (∃ (s : State), 2 ≤ s.thLevel ∧ s.th.graceEnd = true ∧ s.th.stepAt + s.fld TH 15 8 * 10000 ≤ s.tb.tick) ∧
    (∃ (s : State), s.thLevel < 2 ∧ s.th.stepAt + s.fld TH 7 0 * 100000 ≤ s.tb.tick) :=
  ⟨⟨up, [(-40, false), (126, true)], by decide +kernel⟩,
   ⟨up, 1, -5, true, by and_intros <;> decide +kernel⟩,
   ⟨up.setFld PW 3 0 3, 1, -5, true, by and_intros <;> decide +kernel⟩,
   ⟨up.setFld PW 3 0 3, [-5, 3], [(24, -5), (25, 3)], by and_intros <;> decide +kernel⟩,
   ⟨chanUp 39 4 (flying (mcmd .temp .ctl)), 39, 5, mcmd .temp .ctl, [], 127, ⟨by decide +kernel, by decide +kernel, by decide +kernel, _, rfl, rfl⟩⟩,
   ⟨chanUp 39 4 (flying (mcmd .temp .ctl)), 39, 5, mcmd .temp .ctl, [-128], 127, ⟨by decide +kernel, by decide +kernel, by decide +kernel, _, rfl, rfl⟩⟩,
   ⟨{ chanUp 39 4 Chan.fresh with tb := { up.tb with tick := 10000 } }, 39, by and_intros <;> decide +kernel⟩,
   ⟨{ up with th := { up.th with rateHold := [(5, 7)] }, tb := { up.tb with tick := 7 } }, 5, 7, by decide +kernel, rfl, by decide +kernel⟩,
   ⟨hot 3, by decide +kernel⟩,
   ⟨{ (hot 2) with tb := { up.tb with tick := 100000 } }, by and_intros <;> decide +kernel⟩,
   ⟨{ (hot 1) with tb := { up.tb with tick := 1000000 } }, by and_intros <;> decide +kernel⟩,
   ⟨{ (hot 2).setBit (QS + 0x1C) 1 true with tb := { up.tb with tick := 100000000 } }, by and_intros <;> decide +kernel⟩,
   ⟨{ (hot 2) with tb := { up.tb with tick := 2550000 } }, by and_intros <;> decide +kernel⟩,
   ⟨{ (hot 1) with tb := { up.tb with tick := 25500000 } }, by and_intros <;> decide +kernel⟩⟩
theorem witness_MailboxCommands :
    (∃ (s : State) (who : Requester) (k : Nat) (v : Word), k < 40 ∧ s.mailboxesUp = true ∧ mailboxOf who k = true ∧ s.inFull k = false) ∧
    (∃ (s : State) (k : Nat) (v : Word), k < 32 ∧ s.mailboxesUp = true ∧ s.inFull k = true) ∧
    (∃ (s : State) (k : Nat) (x : Nat × Word), k < 40 ∧ s.mailboxesUp = true ∧ s.lark.kept.find? (fun y => decide (y.1 = k)) = some x ∧ s.inFull k = false) ∧
    (∃ (s : State) (who : Requester) (k : Nat), k < 40 ∧ s.mailboxesUp = true ∧ mailboxOf who k = true ∧ s.outFull k = true) ∧
    (∃ (s : State) (who : Requester) (k : Nat) (v : Word), k < 40 ∧ s.mailboxesUp = true ∧ mailboxOf who k = true) ∧
    (∃ (s : State) (t : State) (e : Nat), e < 64 ∧ s.larkUp = true ∧ s.Takes 0x12 e t) ∧
    (∃ (s : State) (k : Nat) (bytes : List Byte), s.mailboxesUp = true ∧ s.flag CP 31 = true ∧ s.flag CP 28 = false ∧ s.lark.taken = none ∧ s.nextMailbox = some k) ∧
    (∃ (s : State) (k : Nat) (bytes : List Byte) (m : List Byte), s.mailboxesUp = true ∧ s.flag CP 31 = true ∧ s.flag CP 30 = false ∧ s.flag CP 28 = false ∧ s.lark.taken = none ∧ s.nextMailbox = some k ∧ k < 34 ∧ s.message k (BitVec.ofNat 64 (s.reg64 (mbOff k))) bytes = some m ∧ s.lark.longOp = none ∧ s.wb.recovered = true ∧ msgNat m 0 1 = 3 ∧ msgNat m 4 4 % 4 = 0 ∧ 32 + msgNat m 4 4 + 16 ≤ msgNat m 8 4 ∧ msgNat m 2 2 ∈ [0x0001, 0x0002, 0x0003, 0x0004]) ∧
    (∃ (s : State) (k : Nat), k < 40 ∧ ((∀ x ∈ s.lark.lockout, x.1 = k → x.2 + 1000000 ≤ s.tb.tick))) ∧
    (∃ (s : State) (k : Nat) (at0 : Nat), k < 40 ∧ (k, at0) ∈ s.lark.lockout ∧ s.tb.tick < at0 + 1000000) ∧
    (∃ (s : State) (l : LongOp) (r : Nat), s.lark.longOp = some l ∧ s.longDone l = true ∧ l.opcode ≠ 0x0702) ∧
    (∃ (s : State) (l : LongOp) (r : Nat), s.lark.longOp = some l ∧ l.opcode = 0x0702 ∧ s.sw.migState = 1 ∧ r % 256 ≠ 0) ∧
    (∃ (s : State), s.mailboxesUp = true ∧ s.lark.fwRunning = true) ∧
    (∃ (s : State), s.mailboxesUp = true) ∧
    (∃ (s : State) (u : State) (b : Bool), s.sqState = 2 ∧ s.regsUp = true ∧ s.lark.fwRunning = false ∧ s.flag CP 30 = false ∧ s.chooseSlot = (some b, u)) ∧
    (∃ (s : State) (u : State), s.sqState = 2 ∧ s.regsUp = true ∧ s.lark.fwRunning = false ∧ s.flag CP 30 = false ∧ s.chooseSlot = (none, u)) ∧
    (∃ (s : State) (a : Activation), s.lark.act = some a) ∧
    (∃ (s : State) (a : Activation), s.lark.act = some a ∧ a.start + 2000000 ≤ s.tb.tick) ∧
    (∃ (s : State) (a : Activation), s.lark.act = some a ∧ s.tb.tick < a.start + 2000000) :=
  ⟨⟨up, .engine, 39, 7, by and_intros <;> decide +kernel⟩,
   ⟨posted, 31, 7, by and_intros <;> decide +kernel⟩,
   ⟨{ up with lark := { up.lark with kept := [(39, 7)] } }, 39, (39, 7), by decide +kernel, by decide +kernel, rfl, by decide +kernel⟩,
   ⟨up.setBit (mbOff 39 + 0x1C) 0 true, .engine, 39, by and_intros <;> decide +kernel⟩,
   ⟨up, .owner, 32, 7, by and_intros <;> decide +kernel⟩,
   ⟨{ larkIdle with tb := { larkIdle.tb with started := [(63, 0x12)] } }, larkIdle, 63, by decide +kernel, by decide +kernel, rfl⟩,
   ⟨posted, 31, [], by decide +kernel, by decide +kernel, by decide +kernel, rfl, by decide +kernel⟩,
   ⟨posted, 31, message1, message1, by decide +kernel, by decide +kernel, by decide +kernel, by decide +kernel, rfl, by decide +kernel, by decide +kernel, by decide +kernel, rfl, by decide +kernel, by decide +kernel, by decide +kernel, by decide +kernel, by decide +kernel⟩,
   ⟨{ up with lark := { up.lark with lockout := [(39, 0)] }, tb := { up.tb with tick := 1000000 } }, 39, by and_intros <;> decide +kernel⟩,
   ⟨{ up with lark := { up.lark with lockout := [(39, 0)] }, tb := { up.tb with tick := 999999 } }, 39, 0, by and_intros <;> decide +kernel⟩,
   ⟨long 0x0301, ⟨0x0301, 32, 0, 4095⟩, 0, rfl, by decide +kernel, by decide +kernel⟩,
   ⟨{ long 0x0702 with sw := { up.sw with migState := 1 } }, ⟨0x0702, 32, 0, 4095⟩, 1, rfl, by decide +kernel, rfl, by decide +kernel⟩,
   ⟨larkIdle, by and_intros <;> decide +kernel⟩,
   ⟨larkIdle, by decide +kernel⟩,
   ⟨started true, ((started true).chooseSlot).2, false, by decide +kernel, by decide +kernel, by decide +kernel, by decide +kernel, (pair_eq (by decide +kernel))⟩,
   ⟨(started false).setBit (GLB + 8) 3 true, (((started false).setBit (GLB + 8) 3 true).chooseSlot).2, by decide +kernel, by decide +kernel, by decide +kernel, by decide +kernel, (pair_eq (by decide +kernel))⟩,
   ⟨activating, ⟨1, 2, 0⟩, rfl⟩,
   ⟨{ activating with tb := { activating.tb with tick := 2000000 } }, ⟨1, 2, 0⟩, rfl, by decide +kernel⟩,
   ⟨{ activating with tb := { activating.tb with tick := 1999999 } }, ⟨1, 2, 0⟩, rfl, by decide +kernel⟩⟩
theorem witness_VcsDomainCommands :
    (∃ (s : State) (c : Taken), s.Executes c 0x0001) ∧
    (∃ (s : State) (c : Taken) (a : Nat), s.Executes c 0x0002 ∧ a < 9) ∧
    (∃ (s : State) (c : Taken), s.Executes c 0x0003) ∧
    (∃ (s : State) (c : Taken), s.Executes c 0x0004 ∧ s.fitsIn c (8 * s.lark.notices.length) = true) ∧
    (∃ (s : State) (u : State) (c : Taken), s.Executes c 0x0101 ∧ domainBad c.payload = none ∧ s.ldScope c (domainOf c.payload).ld = true ∧ s.createDomain (domainOf c.payload) = (0, u)) ∧
    (∃ (s : State) (u : State) (c : Taken) (n : Nat), s.Executes c 0x0101 ∧ domainBad c.payload = none ∧ s.ldScope c (domainOf c.payload).ld = true ∧ s.createDomain (domainOf c.payload) = (n + 1, u)) ∧
    (∃ (s : State) (c : Taken) (d : Nat), s.Executes c 0x0102 ∧ d < 4096 ∧ s.domValid d = true ∧ s.ldScope c (s.domLd d) = true ∧ s.extentAccepted d = false) ∧
    (∃ (s : State) (c : Taken) (d : Nat), s.Executes c 0x0102 ∧ d < 4096 ∧ s.domValid d = true ∧ s.ldScope c (s.domLd d) = true ∧ s.extentAccepted d = true) ∧
    (∃ (s : State) (u : State) (c : Taken) (d : Nat) (x : DomainChange), s.Executes c 0x0103 ∧ d < 4096 ∧ s.domValid d = true ∧ s.ldScope c (s.domLd d) = true ∧ s.modifyDomain d x = (0, u)) ∧
    (∃ (s : State) (u : State) (c : Taken) (plan : List DomainSpec) (k : Nat), s.Executes c 0x0104 ∧ s.createAll plan = ((0, k), u)) ∧
    (∃ (s : State) (c : Taken), s.Executes c 0x0105 ∧ 32 ≤ c.mb) ∧
    (∃ (s : State) (c : Taken), s.Executes c 0x0105 ∧ c.mb < 32) ∧
    (∃ (s : State) (c : Taken) (d : Nat), s.Executes c 0x0201 ∧ d < 4096 ∧ s.domValid d = true ∧ s.ldScope c (s.domLd d) = true ∧ s.snapsOf d = [] ∧ s.gx.rotation = none) ∧
    (∃ (s : State) (c : Taken) (d : Nat), s.Executes c 0x0201 ∧ d < 4096 ∧ s.domValid d = true ∧ s.ldScope c (s.domLd d) = true ∧ s.snapsOf d ≠ []) ∧
    (∃ (s : State) (c : Taken) (d : Nat), s.Executes c 0x0202 ∧ d < 4096) ∧
    (∃ (s : State) (u : State) (c : Taken) (i : Nat) (key : List Byte) (g : Word) (l : Word), s.Executes c 0x0203 ∧ 1 ≤ i ∧ i ≤ 8 ∧ key.length = 32 ∧ s.freshPlace i = some u) ∧
    (∃ (s : State) (c : Taken) (i : Nat), s.Executes c 0x0204 ∧ 1 ≤ i ∧ i ≤ 8) ∧
    (∃ (s : State) (u : State) (c : Taken) (i : Nat) (key : List Byte), s.Executes c 0x0205 ∧ i ≤ 8 ∧ key.length = 32 ∧ s.flag CP 27 = true ∧ s.freshPlace i = some u) ∧
    (∃ (s : State) (c : Taken) (i : Nat) (key : List Byte), s.Executes c 0x0205 ∧ 1 ≤ i ∧ i ≤ 8 ∧ key.length = 32 ∧ s.flag CP 27 = false) :=
  ⟨⟨runs 1 [], taken1 1 [], ⟨rfl, rfl⟩⟩,
   ⟨runs 2 [], taken1 2 [], 8, ⟨rfl, rfl⟩, by decide +kernel⟩,
   ⟨runs 3 [], taken1 3 [], ⟨rfl, rfl⟩⟩,
   ⟨runs 4 [], taken1 4 [], ⟨rfl, rfl⟩, by decide +kernel⟩,
   ⟨runs 0x0101 (newDomain 7), ((runs 0x0101 (newDomain 7)).createDomain (domainOf (newDomain 7))).2, taken1 0x0101 (newDomain 7), ⟨rfl, rfl⟩, by decide +kernel, by decide +kernel, (pair_eq (by decide +kernel))⟩,
   ⟨runs 0x0101 (newDomain 4095), ((runs 0x0101 (newDomain 4095)).createDomain (domainOf (newDomain 4095))).2, taken1 0x0101 (newDomain 4095), 5, ⟨rfl, rfl⟩, by decide +kernel, by decide +kernel, (pair_eq (by decide +kernel))⟩,
   ⟨runs 0x0102 [], taken1 0x0102 [], 4095, ⟨rfl, rfl⟩, by decide +kernel, by decide +kernel, by decide +kernel, by decide +kernel⟩,
   ⟨extents 1, taken1 0x0102 [], 4095, ⟨rfl, rfl⟩, by decide +kernel, by decide +kernel, by decide +kernel, by decide +kernel⟩,
   ⟨runs 0x0103 [], ((runs 0x0103 []).modifyDomain 4095 noChange).2, taken1 0x0103 [], 4095, noChange, ⟨rfl, rfl⟩, by decide +kernel, by decide +kernel, by decide +kernel, (pair_eq (by decide +kernel))⟩,
   ⟨runs 0x0104 [], ((runs 0x0104 []).createAll [domainOf (newDomain 7)]).2, taken1 0x0104 [], [domainOf (newDomain 7)], 0, ⟨rfl, rfl⟩, (pair_eq (by decide +kernel))⟩,
   ⟨runs 0x0105 [], taken1 0x0105 [], ⟨rfl, rfl⟩, by decide +kernel⟩,
   ⟨{ runs 0x0105 [] with lark := { larkUp.lark with taken := some { taken1 0x0105 [] with mb := 31 } } }, { taken1 0x0105 [] with mb := 31 }, ⟨rfl, rfl⟩, by decide +kernel⟩,
   ⟨runs 0x0201 [], taken1 0x0201 [], 4095, ⟨rfl, rfl⟩, by decide +kernel, by decide +kernel, by decide +kernel, rfl, rfl⟩,
   ⟨{ runs 0x0201 [] with sw := { up.sw with snaps := [(3, snap1)] } }, taken1 0x0201 [], 4095, ⟨rfl, rfl⟩, by decide +kernel, by decide +kernel, by decide +kernel, by decide +kernel⟩,
   ⟨runs 0x0202 [], taken1 0x0202 [], 4095, ⟨rfl, rfl⟩, by decide +kernel⟩,
   ⟨runs 0x0203 [], ((runs 0x0203 []).freshPlace 8).getD up, taken1 0x0203 [], 8, List.replicate 32 7, 1, 1, ⟨rfl, rfl⟩, by decide +kernel, by decide +kernel, by decide +kernel, rfl⟩,
   ⟨runs 0x0204 [], taken1 0x0204 [], 8, ⟨rfl, rfl⟩, by decide +kernel, by decide +kernel⟩,
   ⟨(runs 0x0205 []).setBit CP 27 true, (((runs 0x0205 []).setBit CP 27 true).freshPlace 8).getD up, taken1 0x0205 [], 8, List.replicate 32 7, ⟨rfl, rfl⟩, by decide +kernel, by decide +kernel, by decide +kernel, rfl⟩,
   ⟨runs 0x0205 [], taken1 0x0205 [], 8, List.replicate 32 7, ⟨rfl, rfl⟩, by decide +kernel, by decide +kernel, by decide +kernel, by decide +kernel⟩⟩
theorem witness_VcsMediaTimeCommands :
    (∃ (s : State) (c : Taken) (u : Nat), s.Executes c 0x0301 ∧ s.usableOk u = true) ∧
    (∃ (s : State) (c : Taken) (u : Nat), s.Executes c 0x0301 ∧ s.usableOk u = false) ∧
    (∃ (s : State) (c : Taken), s.Executes c 0x0302) ∧
    (∃ (s : State) (c : Taken) (k : Nat) (v : Bool), s.Executes c 0x0303 ∧ k < 40) ∧
    (∃ (s : State) (c : Taken) (op : Nat) (n : Nat) (key : DWord), s.Executes c 0x0401 ∧ op ≤ 4 ∧ 1 ≤ n ∧ n ≤ 65536 ∧ key.toNat < 2 ^ 39 ∧ s.flag (RK + 0x3C) 31 = false) ∧
    (∃ (s : State) (c : Taken) (op : Nat) (n : Nat) (key : DWord), s.Executes c 0x0401 ∧ op ≤ 4 ∧ 1 ≤ n ∧ n ≤ 65536 ∧ key.toNat < 2 ^ 39 ∧ s.flag (RK + 0x3C) 31 = true) ∧
    (∃ (s : State) (c : Taken) (n : Nat), s.Executes c 0x0402 ∧ 4 ≤ n ∧ n ≤ 64) ∧
    (∃ (s : State) (c : Taken), s.Executes c 0x0501 ∧ s.flag TB 11 = true) ∧
    (∃ (s : State) (c : Taken), s.Executes c 0x0501 ∧ s.flag TB 11 = false) ∧
    (∃ (s : State) (c : Taken), s.Executes c 0x0502 ∧ s.flag TB 11 = true) ∧
    (∃ (s : State) (c : Taken) (e : Nat) (ctl : Word) (period : Word) (window : Word) (phase : DWord), s.Executes c 0x0503 ∧ e < 64 ∧ bits ctl 7 0 ≤ 0x12 ∧ (s.schedPut e ctl period window phase).schedValid e = true) ∧
    (∃ (s : State) (c : Taken), s.Executes c 0x0504) ∧
    (∃ (s : State) (c : Taken) (n : Nat) (v : Word), s.Executes c 0x0505 ∧ n < 16 ∧ bits v 29 24 ≤ 35) :=
  ⟨⟨sized, taken1 0x0301 [], 2048, ⟨rfl, rfl⟩, by decide +kernel⟩,
   ⟨sized, taken1 0x0301 [], 0, ⟨rfl, rfl⟩, by decide +kernel⟩,
   ⟨runs 0x0302 [], taken1 0x0302 [], ⟨rfl, rfl⟩⟩,
   ⟨runs 0x0303 [], taken1 0x0303 [], 39, true, ⟨rfl, rfl⟩, by decide +kernel⟩,
   ⟨runs 0x0401 [], taken1 0x0401 [], 4, 65536, 0x7FFFFFFFFF, ⟨rfl, rfl⟩, by decide +kernel, by decide +kernel, by decide +kernel, by decide +kernel, by decide +kernel⟩,
   ⟨(runs 0x0401 []).setBit (RK + 0x3C) 31 true, taken1 0x0401 [], 4, 65536, 0x7FFFFFFFFF, ⟨rfl, rfl⟩, by decide +kernel, by decide +kernel, by decide +kernel, by decide +kernel, by decide +kernel⟩,
   ⟨runs 0x0402 [], taken1 0x0402 [], 64, ⟨rfl, rfl⟩, by decide +kernel, by decide +kernel⟩,
   ⟨(runs 0x0501 []).setBit TB 11 true, taken1 0x0501 [], ⟨rfl, rfl⟩, by decide +kernel⟩,
   ⟨runs 0x0501 [], taken1 0x0501 [], ⟨rfl, rfl⟩, by decide +kernel⟩,
   ⟨(runs 0x0502 []).setBit TB 11 true, taken1 0x0502 [], ⟨rfl, rfl⟩, by decide +kernel⟩,
   ⟨runs 0x0503 [], taken1 0x0503 [], 63, 0x80000012, 60000, 60000, 0, ⟨rfl, rfl⟩, by decide +kernel, by decide +kernel, by decide +kernel⟩,
   ⟨runs 0x0504 [], taken1 0x0504 [], ⟨rfl, rfl⟩⟩,
   ⟨runs 0x0505 [], taken1 0x0505 [], 15, 0x23000000, ⟨rfl, rfl⟩, by decide +kernel, by decide +kernel⟩⟩
theorem witness_VcsSystemCommands :
    (∃ (s : State) (c : Taken) (off : Nat) (b : List Byte), s.Executes c 0x0601 ∧ off + b.length ≤ 0x100000) ∧
    (∃ (s : State) (c : Taken), s.Executes c 0x0602 ∧ (s.slotOf (!s.slotRuns)).good s.svnMin = true ∧ (s.slotOf (!s.slotRuns)).handoffMin ≤ (s.slotOf s.slotRuns).handoff ∧ s.flushing = false ∧ s.wb.recovered = true) ∧
    (∃ (s : State) (c : Taken), s.Executes c 0x0602 ∧ (s.slotOf (!s.slotRuns)).good s.svnMin = false) ∧
    (∃ (s : State) (c : Taken), s.Executes c 0x0603) ∧
    (∃ (s : State) (c : Taken) (uid : DWord), s.Executes c 0x0701 ∧ s.bitmapTooBig = false ∧ uid.toNat ≠ s.partnerUid) ∧
    (∃ (s : State) (c : Taken) (uid : DWord), s.Executes c 0x0701 ∧ s.bitmapTooBig = false ∧ uid.toNat = s.partnerUid) ∧
    (∃ (s : State) (c : Taken) (d : Nat) (node : Nat) (dst : Nat) (ld : Nat) (dpa : Nat) (pool : Nat), s.Executes c 0x0702 ∧ d < 4096 ∧ s.domValid d = true ∧ node < 256 ∧ node ≠ s.nodeId ∧ dst < 4096 ∧ ld < 32 ∧ s.domMirror d = false ∧ s.migActive = false) ∧
    (∃ (s : State) (c : Taken) (x : CutSpec), s.Executes c 0x0703 ∧ x.pairs.length ≤ 64 ∧ ((∀ p ∈ x.pairs, p.1 < 256 ∧ p.2 < 4096)) ∧ s.cutLead ≤ x.at_ ∧ s.swState ≠ 1) ∧
    (∃ (s : State) (u : State) (c : Taken) (x : Nat), s.Executes c 0x0801 ∧ s.requestState x = (0, u)) ∧
    (∃ (s : State) (c : Taken), s.Executes c 0x0901) ∧
    (∃ (s : State) (c : Taken), s.Executes c 0x0902) ∧
    (∃ (s : State) (c : Taken) (o : Nat) (mask : Word) (v : Word), s.Executes c 0x0A01 ∧ c.payload.length = 20 ∧ msgNat c.payload 0 4 = o ∧ rwaHere o = true ∧ (o = TH + 0x60 ∨ o = TH + 0x64 ∨ o = TH + 0x68) ∧ BitVec.ofNat 32 (msgNat c.payload 4 4) = mask ∧ mask &&& ~~~ rwaMask o = 0 ∧ BitVec.ofNat 32 (msgNat c.payload 8 4) = v ∧ msgNat c.payload 12 4 = 0 ∧ s.seedOpen o = true) ∧
    (∃ (s : State) (c : Taken) (l : List (Nat × Word)), s.Executes c 0x0A02 ∧ l.length ≤ 2048) ∧
    (∃ (s : State) (c : Taken) (off : Nat) (n : Nat), s.Executes c 0x0A03 ∧ off + n ≤ 65536 ∧ n % 4 = 0) ∧
    (∃ (s : State) (c : Taken) (off : Nat) (b : List Byte), s.Executes c 0x0A04 ∧ b.length ≤ 4096 ∧ off + b.length ≤ 65536) ∧
    (∃ (s : State) (c : Taken), s.Executes c 0x0B01) ∧
    (∃ (s : State) (c : Taken) (op : Nat), s.Executes c op ∧ op ∉ vcsOpcodes ∧ peerOpcode op = false) :=
  ⟨⟨runs 0x0601 [], taken1 0x0601 [], 0xFFFFF, [1], ⟨rfl, rfl⟩, by decide +kernel⟩,
   ⟨bothSlots, taken1 0x0602 [], ⟨rfl, rfl⟩, by decide +kernel, by decide +kernel, by decide +kernel, by decide +kernel⟩,
   ⟨runs 0x0602 [], taken1 0x0602 [], ⟨rfl, rfl⟩, by decide +kernel⟩,
   ⟨runs 0x0603 [], taken1 0x0603 [], ⟨rfl, rfl⟩⟩,
   ⟨runs 0x0701 [], taken1 0x0701 [], 7, ⟨rfl, rfl⟩, by decide +kernel, by decide +kernel⟩,
   ⟨runs 0x0701 [], taken1 0x0701 [], 0, ⟨rfl, rfl⟩, by decide +kernel, by decide +kernel⟩,
   ⟨runs 0x0702 [], taken1 0x0702 [], 4095, 255, 4095, 31, 0, 0, ⟨rfl, rfl⟩, by decide +kernel, by decide +kernel, by decide +kernel, by decide +kernel, by decide +kernel, by decide +kernel, by decide +kernel, by decide +kernel⟩,
   ⟨runs 0x0703 [], taken1 0x0703 [], ⟨.snapshot, 2000000, 5, List.replicate 64 (255, 4095)⟩, ⟨rfl, rfl⟩, by decide +kernel, by decide +kernel, by decide +kernel, by decide +kernel⟩,
   ⟨runs 0x0801 [], ((runs 0x0801 []).requestState 4).2, taken1 0x0801 [], 4, ⟨rfl, rfl⟩, (pair_eq (by decide +kernel))⟩,
   ⟨runs 0x0901 [], taken1 0x0901 [], ⟨rfl, rfl⟩⟩,
   ⟨runs 0x0902 [], taken1 0x0902 [], ⟨rfl, rfl⟩⟩,
   ⟨runs 0x0A01 rwaPayload, taken1 0x0A01 rwaPayload, TH + 0x60, 1, 1, ⟨rfl, rfl⟩, by decide +kernel, by decide +kernel, by decide +kernel, .inl rfl, by decide +kernel, by decide +kernel, by decide +kernel, by decide +kernel, by decide +kernel⟩,
   ⟨runs 0x0A02 [], taken1 0x0A02 [], List.replicate 2048 (0, 0), ⟨rfl, rfl⟩, by decide +kernel⟩,
   ⟨runs 0x0A03 [], taken1 0x0A03 [], 65532, 4, ⟨rfl, rfl⟩, by decide +kernel, by decide +kernel⟩,
   ⟨runs 0x0A04 [], taken1 0x0A04 [], 61440, List.replicate 4096 1, ⟨rfl, rfl⟩, by decide +kernel, by decide +kernel⟩,
   ⟨runs 0x0B01 [], taken1 0x0B01 [], ⟨rfl, rfl⟩⟩,
   ⟨runs 0x0C01 [], taken1 0x0C01 [], 0x0C01, ⟨rfl, rfl⟩, by decide +kernel, by decide +kernel⟩⟩
theorem witness_FabricCommands :
    (∃ (s : State) (p : Nat), p < 8 ∧ s.sqState = 2 ∧ s.flag SW (16 + p) = true ∧ (Tbl.find s.gx.chains 1).isSome = true ∧ p ∉ s.sw.held ∧ s.flag (portOff p) 0 = false) ∧
    (∃ (s : State) (p : Nat), p < 8 ∧ s.flag (portOff p) 0 = true) ∧
    (∃ (s : State) (p : Nat), p < 8 ∧ s.flag (portOff p) 0 = true ∧ s.flag SW 31 = true) ∧
    (∃ (s : State) (p : Nat), p < 8 ∧ s.flag (portOff p) 0 = true) ∧
    (∃ (s : State) (p : Nat) (uid : DWord) (partner : DWord) (l : Bool), p < 6 ∧ s.flag (portOff p) 0 = true ∧ s.flag (portOff p) 1 = true ∧ s.flag SW 31 = true ∧ uid.toNat ≠ s.partnerUid) ∧
    (∃ (s : State) (p : Nat) (q : Nat) (f : Nat) (uid : DWord) (partner : DWord) (l : Bool), p < 8 ∧ s.flag (portOff p) 0 = true ∧ s.flag (portOff p) 1 = true ∧ s.flag SW 31 = true ∧ f ≠ s.fld SW 15 0) ∧
    (∃ (s : State) (p : Nat), p < 8 ∧ s.flag (portOff p) 0 = true ∧ (s.swPort p).replays < 7) ∧
    (∃ (s : State) (p : Nat), p < 8 ∧ s.flag (portOff p) 0 = true ∧ (s.swPort p).replays = 7) ∧
    (∃ (s : State) (p : Nat), p < 8 ∧ (s.swPort p).replays = 8) ∧
    (∃ (s : State) (p : Nat), p < 8 ∧ s.flag (portOff p) 1 = true) ∧
    (∃ (s : State) (p : Nat) (uid : DWord), p < 8 ∧ s.flag SW 31 = true ∧ s.swUp p = true ∧ s.swState = 1 ∧ uid.toNat < s.sw.lowUid.toNat) ∧
    (∃ (s : State) (p : Nat) (uid : DWord), p < 8 ∧ s.flag SW 31 = true ∧ s.swUp p = true ∧ s.swState = 1 ∧ s.sw.lowUid.toNat ≤ uid.toNat) ∧
    (∃ (s : State) (ls : List LinkRep), s.swState = 1 ∧ s.sw.lowUid = Config.uid) ∧
    (∃ (s : State) (id : Nat) (m1 : Nat) (ext : List Nat) (tree : List Nat) (w : Bool) (ids : List (DWord × Nat)) (rows : List (Nat × Word)), s.swState = 1 ∧ s.sw.lowUid ≠ Config.uid ∧ id < 256) ∧
    (∃ (s : State) (dest : Nat) (msg : Nat) (x : Sending), s.sw.sends.find? (fun y => decide (y.dest = dest) && decide (y.msg = msg)) = some x ∧ x.tick + 100 ≤ s.tb.tick ∧ (Tbl.find s.sw.peerBusy msg).isSome = false ∧ x.times < 8) ∧
    (∃ (s : State) (dest : Nat) (msg : Nat) (x : Sending), s.sw.sends.find? (fun y => decide (y.dest = dest) && decide (y.msg = msg)) = some x ∧ x.tick + 100 ≤ s.tb.tick ∧ (Tbl.find s.sw.peerBusy msg).isSome = false ∧ 8 ≤ x.times) ∧
    (∃ (s : State) (p : Nat) (d : Nat), p < 8 ∧ s.swUp p = true) ∧
    (∃ (s : State) (p : Nat) (hops : Nat) (master : Nat) (ann : Nat) (z : Int) (leap : Int), p < 8 ∧ s.swState = 2 ∧ s.swUp p = true ∧ s.source ≠ 2) :=
  ⟨⟨{ ((cold.setBit SW 23 true).setBit (portOff 7) 0 false) with gx := { up.gx with chains := [(1, [])] } }, 7, by and_intros <;> decide +kernel⟩,
   ⟨port7 0, 7, by and_intros <;> decide +kernel⟩,
   ⟨port7 0, 7, by and_intros <;> decide +kernel⟩,
   ⟨port7 0, 7, by and_intros <;> decide +kernel⟩,
   ⟨((port7 0).setBit (portOff 5) 0 true).setBit (portOff 5) 1 true, 5, 9, 0, false, by and_intros <;> decide +kernel⟩,
   ⟨port7 0, 7, 6, 9, 9, 0, false, by and_intros <;> decide +kernel⟩,
   ⟨port7 6, 7, by and_intros <;> decide +kernel⟩,
   ⟨port7 7, 7, by and_intros <;> decide +kernel⟩,
   ⟨port7 8, 7, by and_intros <;> decide +kernel⟩,
   ⟨port7 0, 7, by and_intros <;> decide +kernel⟩,
   ⟨lowUid 9, 7, 8, by and_intros <;> decide +kernel⟩,
   ⟨lowUid 9, 7, 9, by and_intros <;> decide +kernel⟩,
   ⟨lowUid Config.uid, [], by decide +kernel, rfl⟩,
   ⟨lowUid (Config.uid + 1), 255, 0, [4], [1], true, [(9, 3)], [(0, 1)], by decide +kernel, uid_moves, by decide +kernel⟩,
   ⟨timed 100 (sends 7), 5, 0xFFFFFFFF, ⟨5, 0xFFFFFFFF, 7, 0⟩, rfl, by decide +kernel, by decide +kernel, by decide +kernel⟩,
   ⟨timed 100 (sends 8), 5, 0xFFFFFFFF, ⟨5, 0xFFFFFFFF, 8, 0⟩, rfl, by decide +kernel, by decide +kernel, by decide +kernel⟩,
   ⟨formed 2, 7, 99, by and_intros <;> decide +kernel⟩,
   ⟨formed 2, 7, 20, 9, 5, 3, 4, by and_intros <;> decide +kernel⟩⟩
theorem witness_MirrorCommands :
    (∃ (s : State) (r : MirrorRec), ((r.seq < migBase ∨ s.sw.migSource = false)) ∧ s.admitting = true ∧ s.mirrorRole r.dom = .leader ∧ r.seq ∉ s.sw.fwdSeen) ∧
    (∃ (s : State) (r : MirrorRec), r.seq < migBase ∧ s.admitting = true ∧ s.domMirror r.dom = true ∧ s.flag (SW + 0x1C) 27 = false ∧ s.mirrorState = 2 ∧ r.seq < s.sw.nextSeq) ∧
    (∃ (s : State) (r : MirrorRec), r.seq < migBase ∧ s.admitting = true ∧ s.domMirror r.dom = true ∧ s.flag (SW + 0x1C) 27 = false ∧ s.mirrorState = 2 ∧ s.sw.nextSeq ≤ r.seq ∧ ((∀ x ∈ s.sw.early, x.seq ≠ r.seq))) ∧
    (∃ (s : State) (q : Nat), s.host.reqs = [] ∧ s.sw.resyncUnacked = []) ∧
    (∃ (s : State) (r : Req) (q : Nat), s.host.reqs = [r] ∧ r.st = .mirrorWait q ∧ 0 < q ∧ s.sw.resyncUnacked = []) ∧
    (∃ (s : State), s.sw.migSource = false ∧ s.sw.migState = 1 ∧ s.sw.migSnap = none) ∧
    (∃ (s : State), s.sw.migSource = false ∧ s.sw.migState = 2) ∧
    (∃ (s : State), (s.mirrorState = 2 ∨ s.mirrorState = 5) ∧ s.sw.lastKeepalive + 1000 ≤ s.tb.tick) ∧
    (∃ (s : State), (s.mirrorState = 2 ∨ s.mirrorState = 5) ∧ s.pairWaits = true ∧ s.sw.lastAck + s.fld (SW + 4) 15 0 ≤ s.tb.tick) ∧
    (∃ (s : State) (u : State) (m : Meas) (p : Nat) (d : Nat) (line : Nat) (v : List (Option Byte) × Bool), s.admitting = true ∧ s.mirrorState ≠ 5 ∧ s.sw.migSnap = none ∧ (s.dirtyFrom (s.sw.resyncLine / 16384)).find? (fun x => s.copies x) = some p ∧ s.domOfPlot p = some d ∧ line = max s.sw.resyncLine (p * 16384) ∧ u = State.readLine { s.chargeBg 4 with sw := { (s.chargeBg 4).sw with resyncLine := line + 1 } } line ∧ u.quarantined d = false ∧ u.bufferView line = some v ∧ v.2 = false ∧ bufferFull v = true) ∧
    (∃ (s : State) (op : Nat) (n : Nat) (x : Sending), s.sw.sends.find? (fun y => decide (y.msg = op)) = some x ∧ x.tick + 10000 ≤ s.tb.tick ∧ (Tbl.find s.sw.peerBusy op).getD 0 = n ∧ n < 100) ∧
    (∃ (s : State) (d : Nat) (n : Nat) (size : Nat), d < 4096 ∧ s.partnerNode = some n ∧ s.swState = 2 ∧ s.larkUp = true ∧ s.lark.longOp = none ∧ s.wb.recovered = true ∧ s.domValid d = true ∧ s.domMirror d = true ∧ s.domSize d = size) ∧
    (∃ (s : State) (u : State) (x : DomainSpec) (n : Nat) (code : Nat) (b : Bool), x.dom < 4096 ∧ s.swState = 2 ∧ s.larkUp = true ∧ s.lark.longOp = none ∧ s.wb.recovered = true ∧ (s.count 9 0xB6 8 1).createDomain { x with mirror := false } = (code + 1, u)) ∧
    (∃ (s : State) (u : State) (x : DomainSpec) (n : Nat), x.dom < 4096 ∧ s.swState = 2 ∧ s.larkUp = true ∧ s.lark.longOp = none ∧ s.wb.recovered = true ∧ (s.count 9 0xB6 8 1).createDomain { x with mirror := false } = (0, u)) ∧
    (∃ (s : State) (c : CutSpec) (o : Nat), o < 256 ∧ s.larkUp = true ∧ s.lark.longOp = none ∧ s.wb.recovered = true ∧ s.swState = 2) ∧
    (∃ (s : State) (c : CutSpec) (o : Nat), o < 256 ∧ s.larkUp = true ∧ s.swState = 1) ∧
    (∃ (s : State) (n : Nat) (tag : Nat) (ok : Bool), n < 256 ∧ s.swState = 2 ∧ s.larkUp = true ∧ s.lark.longOp = none ∧ s.wb.recovered = true) ∧
    (∃ (s : State) (src : Nat) (left : Nat) (b : List Byte), s.swState = 2 ∧ s.inOrder = true) ∧
    (∃ (s : State) (src : Nat) (left : Nat) (b : List Byte), s.swState = 2 ∧ s.inOrder = false ∧ s.flag (SW + 8) 28 = true) ∧
    (∃ (s : State) (n : Nat) (k : Nat), n < 256 ∧ s.swState = 2 ∧ s.flag (SW + 8) 28 = true ∧ s.larkUp = true ∧ s.lark.longOp = none ∧ s.wb.recovered = true ∧ (s.sw.barrierArrived.filter (fun x => ¬ x = n)).length + 1 < k) ∧
    (∃ (s : State) (n : Nat) (k : Nat), n < 256 ∧ s.swState = 2 ∧ s.flag (SW + 8) 28 = true ∧ s.larkUp = true ∧ s.lark.longOp = none ∧ s.wb.recovered = true ∧ k ≤ (s.sw.barrierArrived.filter (fun x => ¬ x = n)).length + 1) ∧
    (∃ (s : State) (t : State) (e : Nat) (c : CutSpec), e < 64 ∧ s.Takes 0x0D e t ∧ Tbl.find t.sw.cuts e = some c ∧ c.op = .release) ∧
    (∃ (s : State) (t : State) (e : Nat) (c : CutSpec), e < 64 ∧ s.Takes 0x0D e t ∧ Tbl.find t.sw.cuts e = some c ∧ c.op = .snapshot ∧ ((∀ d ∈ t.cutDoms c, t.mirrorRole d ≠ .isolated)) ∧ t.cutRefused (t.cutDoms c) = false) ∧
    (∃ (s : State) (d : Nat) (n : Nat) (k : Nat) (x : SnapSt), d < 4096 ∧ s.sw.snaps.find? (fun y => decide (y.2.dom = d)) = some (k, x) ∧ x.ending = false ∧ s.admitting = false ∧ ((∀ p, s.plotTaken p = false))) ∧
    (∃ (s : State) (t : State) (e : Nat), e < 64 ∧ s.Takes 0x0E e t) ∧
    (∃ (s : State) (who : Requester), s.regsUp = true ∧ mayWrite who = true) :=
  ⟨⟨mirrored 2 1, mrec 0, .inl (by decide +kernel), by decide +kernel, by decide +kernel, by decide +kernel⟩,
   ⟨mirrored 2 0, mrec 0, by and_intros <;> decide +kernel⟩,
   ⟨mirrored 2 0, mrec 1, by and_intros <;> decide +kernel⟩,
   ⟨{ mirrored 2 1 with sw := { (mirrored 2 1).sw with outstanding := [mrec 1, mrec 2] } }, 1, rfl, rfl⟩,
   ⟨{ mirrored 2 1 with host := { hostUp.host with reqs := [req1 true (.mirrorWait 1)] } }, req1 true (.mirrorWait 1), 1, rfl, rfl, by decide +kernel, rfl⟩,
   ⟨{ formed 2 with sw := { (formed 2).sw with migState := 1 } }, rfl, by decide +kernel, rfl⟩,
   ⟨{ formed 2 with sw := { (formed 2).sw with migState := 2 } }, rfl, by decide +kernel⟩,
   ⟨mirrored 5 1, .inr (by decide +kernel), by decide +kernel⟩,
   ⟨{ mirrored 5 1 with sw := { (mirrored 5 1).sw with outstanding := [mrec 1], lastAck := 0 } }, .inr (by decide +kernel), by decide +kernel, by decide +kernel⟩,
   ⟨copying, State.readLine { copying.chargeBg 4 with sw := { (copying.chargeBg 4).sw with resyncLine := 1 } } 0, meas, 0, 0, 0, (List.replicate 64 (some 5), false), by decide +kernel, by decide +kernel, rfl, by decide +kernel, by decide +kernel, by decide +kernel, rfl, by decide +kernel, by decide +kernel, rfl, by decide +kernel⟩,
   ⟨timed 10000 { sends 1 with sw := { (sends 1).sw with peerBusy := [(0xFFFFFFFF, 99)] } }, 0xFFFFFFFF, 99, ⟨5, 0xFFFFFFFF, 1, 0⟩, rfl, by decide +kernel, by decide +kernel, by decide +kernel⟩,
   ⟨paired, 4095, 9, 4, by decide +kernel, by decide +kernel, by decide +kernel, by decide +kernel, rfl, by decide +kernel, by decide +kernel, by decide +kernel, by decide +kernel⟩,
   ⟨(formed 2).setFld TP 15 0 0, ((((formed 2).setFld TP 15 0 0).count 9 0xB6 8 1).createDomain { target7 with mirror := false }).2, target7, 9, 5, false, by decide +kernel, by decide +kernel, by decide +kernel, rfl, by decide +kernel, (pair_eq (by decide +kernel))⟩,
   ⟨(formed 2).setFld TP 15 0 4, ((((formed 2).setFld TP 15 0 4).count 9 0xB6 8 1).createDomain { target7 with mirror := false }).2, target7, 9, by decide +kernel, by decide +kernel, by decide +kernel, rfl, by decide +kernel, (pair_eq (by decide +kernel))⟩,
   ⟨formed 2, ⟨.reset, 5, 6, []⟩, 255, by decide +kernel, by decide +kernel, rfl, by decide +kernel, by decide +kernel⟩,
   ⟨formed 1, ⟨.reset, 5, 6, []⟩, 255, by and_intros <;> decide +kernel⟩,
   ⟨formed 2, 255, 6, true, by decide +kernel, by decide +kernel, by decide +kernel, rfl, by decide +kernel⟩,
   ⟨{ formed 2 with sw := { (formed 2).sw with whole := true, ext := [1, 2] } }, 3, 0, [1], by and_intros <;> decide +kernel⟩,
   ⟨(formed 2).setBit (SW + 8) 28 true, 3, 0, [1], by and_intros <;> decide +kernel⟩,
   ⟨{ (formed 2).setBit (SW + 8) 28 true with sw := { (formed 2).sw with barrierArrived := [3] } }, 255, 3, by decide +kernel, by decide +kernel, by decide +kernel, by decide +kernel, rfl, by decide +kernel, by decide +kernel⟩,
   ⟨{ (formed 2).setBit (SW + 8) 28 true with sw := { (formed 2).sw with barrierArrived := [3] } }, 255, 2, by decide +kernel, by decide +kernel, by decide +kernel, by decide +kernel, rfl, by decide +kernel, by decide +kernel⟩,
   ⟨cutting .release, { cutting .release with tb := { up.tb with started := [] } }, 63, ⟨.release, 5, 6, [(0, 4095)]⟩, by decide +kernel, rfl, rfl, rfl⟩,
   ⟨cutting .snapshot, { cutting .snapshot with tb := { up.tb with started := [] } }, 63, ⟨.snapshot, 5, 6, [(0, 4095)]⟩, by decide +kernel, rfl, rfl, rfl, by decide +kernel, by decide +kernel⟩,
   ⟨snapped, 4095, 7, 3, snap1, by decide +kernel, rfl, rfl, by decide +kernel, snapped_free⟩,
   ⟨{ recovd with tb := { recovd.tb with started := [(63, 0x0E)] } }, { recovd with tb := { recovd.tb with started := [] } }, 63, by decide +kernel, rfl⟩,
   ⟨up, .lark, by and_intros <;> decide +kernel⟩⟩

/-! ### WellFormed: for each check a command that breaks it, and it alone -/

theorem test_illformed_1 : ([
    .registerWrite (.host 32) 0 0, .registerWrite .owner 2097152 0, .bar0BadSizeAccess (.host 32) 0 false,
    .bar0BadSizeAccess .owner 2097152 false, .lowHalfRead (.host 32) 0, .lowHalfRead .owner 2097152,
    .lowHalfWrite (.host 32) 0 0, .lowHalfWrite .owner 2097152 0, .highHalfWrite (.host 32) 0 0,
    .highHalfWrite .owner 2097152 0, .clearOnRead (.host 32) 0, .clearOnRead .owner 2097152,
    .cdLadderCntLowRead (.host 32) 0, .cdLadderCntLowRead .owner 5, .commonsDisallowedAccess (.host 32) 0 false,
    .commonsDisallowedAccess .owner 67108864 false, .memRd 2 0 0 0 0, .memRd 0 4 0 0 0,
    .memRd 0 0 32 0 0, .memRdData 2 0 0 0 0, .memRdData 0 4 0 0 0,
    .memRdData 0 0 32 0 0, .memInv 2 0 0 0 0, .memInv 0 4 0 0 0,
    .memInv 0 0 32 0 0, .memInvNt 2 0 0 0 0, .memInvNt 0 4 0 0 0,
    .memInvNt 0 0 32 0 0, .memSpecRd 2 0 0 0 0, .memSpecRd 0 4 0 0 0,
    .memSpecRd 0 0 32 0 0, .memWr 2 0 0 0 0 (List.replicate 64 0) false
    ] : List Instr).all (fun c => !c.wf) = true := by decide +kernel
theorem test_illformed_2 : ([
    .memWr 0 4 0 0 0 (List.replicate 64 0) false, .memWr 0 0 32 0 0 (List.replicate 64 0) false, .memWr 0 0 0 0 0 [] false,
    .memWrPtl 2 0 0 0 0 (List.replicate 64 0) 0 false, .memWrPtl 0 4 0 0 0 (List.replicate 64 0) 0 false, .memWrPtl 0 0 32 0 0 (List.replicate 64 0) 0 false,
    .memWrPtl 0 0 0 0 0 [] 0 false, .memUnexpectedOpcode 2 0 0 0, .memUnexpectedOpcode 0 4 0 0,
    .admitRequest 4096 .none meas, .writeSetWaitResume 65536, .todFrame [],
    .scheduleWindowMissed 64, .deferredActionResume 64, .schedEntryWrite (.host 32) 0 0 0,
    .schedEntryWrite .owner 64 0 0, .schedEntryWrite .owner 0 8 0, .snapshotCut 64,
    .fabricResetCut 64, .larkDoorbell 64, .flitPeriod 40,
    .flitReceive 40 (List.replicate 32 0), .flitReceive 0 [], .ackReceive 40 0 false,
    .ackTimer 40, .replayTimeout 40, .blockLockLoss 40,
    .retrainComplete 40, .retrainTimeout 40, .issueSlot ⟨40, true⟩,
    .readResponse 40 0 .success false 0 (List.replicate 80 0) meas, .readResponse 0 256 .success false 0 (List.replicate 80 0) meas
    ] : List Instr).all (fun c => !c.wf) = true := by decide +kernel
theorem test_illformed_3 : ([
    .readResponse 0 0 .success false 0 [] meas, .readSoftResponse 40 0 .success (List.replicate 80 0) [] meas, .readSoftResponse 0 256 .success (List.replicate 80 0) [] meas,
    .readSoftResponse 0 0 .success [] [] meas, .marginReadResponse 40 0 .success 0, .marginReadResponse 0 256 .success 0,
    .programResponse 40 0 .success, .programResponse 0 256 .success, .eraseResponse 40 0 .success,
    .eraseResponse 0 256 .success, .suspendResponse 40 0 .success, .suspendResponse 0 256 .success,
    .resumeResponse 40 0 .success, .resumeResponse 0 256 .success, .copyResponse 40 0 .success,
    .copyResponse 0 256 .success, .statusResponse 40 0 .success 0, .statusResponse 0 256 .success 0,
    .tempResponse 40 0 .success [] 0, .tempResponse 0 256 .success [] 0, .configResponse 40 0 .success 0,
    .configResponse 0 256 .success 0, .tempPoll 40, .lngAlertFall 5,
    .mcArbMapWrite (.host 32) 0 0, .mcArbMapWrite .owner 40 0, .arbMapRevert 40,
    .arbiterWatchdog 40, .dataTagTimeout 40 0, .dataTagTimeout 0 256,
    .channelResetComplete 40, .groupSidebandReset 40
    ] : List Instr).all (fun c => !c.wf) = true := by decide +kernel
theorem test_illformed_4 : ([
    .mcCtlReset (.host 32) 0, .mcCtlReset .owner 40, .mcCtlDisable (.host 32) 0 false,
    .mcCtlDisable .owner 40 false, .channelDisableTakesEffect 40, .groupRailsGood 5,
    .lngRstRelease 5, .channelTrained 40, .bringUpTimeout 40,
    .suspendHoldTimeout 40 0 0, .suspendHoldTimeout 0 8 0, .suspendHoldTimeout 0 0 16,
    .parityEntryAgeTrigger 16777216 0, .parityEntryAgeTrigger 0 256, .parityOverrun 16777216 0,
    .parityOverrun 0 256, .parityWritebackComplete 16777216 0, .parityWritebackComplete 0 256,
    .pageRebuildStart 16777216 0, .pageRebuildStart 0 256, .pageRebuildComplete 16777216 0,
    .pageRebuildComplete 0 256, .spareErase 16777216, .migrationSourceErase 16777216,
    .plotRedirect 16777216, .inPlaceRefresh 16777216, .inPlaceRefreshComplete 16777216,
    .apply 65536 0 .none .none, .apply 0 8 .none .none, .gpfPhase1 2,
    .gpfPhase2 2, .rpGuardSelWrite (.host 32) 0
    ] : List Instr).all (fun c => !c.wf) = true := by decide +kernel
theorem test_illformed_5 : ([
    .ideKmKeyProgram 2 0, .ideKmKeyProgram 0 4, .ideIntegrityFailure 2 0,
    .ideIntegrityFailure 0 4, .spdmGetVersion 3, .spdmGetCapabilities 3,
    .spdmNegotiateAlgorithms 3, .spdmGetDigests 3, .spdmGetCertificate 3 0,
    .spdmChallenge 3 0, .spdmGetMeasurements 3 0, .spdmKeyExchange 3 0,
    .spdmFinish 3 false, .spdmKeyUpdate 3, .spdmHeartbeat 3,
    .spdmEndSession 3, .spdmGetCsr 3, .spdmSetCertificate 3 0 [] false,
    .qsDomSelWrite (.host 32) 0, .hostLinkUp 2 0 0 0 false, .hostLinkUp 0 4 0 0 false,
    .hostLinkUp 0 0 17 0 false, .hostLinkUp 0 0 0 6 false, .hostLinkDown 2 0,
    .hostLinkDown 0 4, .hotReset 2 0, .hotReset 0 4,
    .linkDisableReceived 2 0, .linkDisableReceived 0 4, .perstAssert 2,
    .perstLow100us 2, .perstRelease 2
    ] : List Instr).all (fun c => !c.wf) = true := by decide +kernel
theorem test_illformed_6 : ([
    .functionLevelReset 32, .cxlReset 32, .cxlIdentify 32,
    .backgroundOperationStatus 32, .getEventRecords 32 0, .getEventRecords 0 5,
    .clearEventRecords 32 0 0, .clearEventRecords 0 5 0, .getEventInterruptPolicy 32,
    .setEventInterruptPolicy 32 0, .getFwInfo 32, .transferFw 32,
    .activateFw 32, .getSupportedLogs 32, .getLog 32,
    .identifyMemoryDevice 32, .getPartitionInfo 32, .getHealthInfo 32,
    .getAlertConfiguration 32, .setAlertConfiguration 32 0 0 0, .getShutdownState 32,
    .setShutdownState 32 false, .getPoisonList 32, .injectPoison 32 0,
    .clearPoison 32 0 (List.replicate 64 0), .clearPoison 0 0 [], .getScanMediaCapabilities 32,
    .scanMedia 32 0 0, .getScanMediaResults 32, .sanitize 32,
    .secureErase 32, .backgroundOpComplete 32
    ] : List Instr).all (fun c => !c.wf) = true := by decide +kernel
theorem test_illformed_7 : ([
    .getDcConfiguration 32, .getDcExtentList 32, .addDcResponse 32 0 false,
    .addDcResponse 0 4096 false, .releaseDc 32 0, .releaseDc 0 4096,
    .extentReleaseComplete 32 0, .extentReleaseComplete 0 4096, .cxlUnsupportedOpcode 32 0,
    .cxlSetTimestamp 32 0, .cxlGetTimestamp 32, .fmSetLdAllocations 32 0,
    .fmInitiateDcAdd 32 0 0 0, .fmInitiateDcRelease 32 0, .fmInitiateDcRelease 0 4096,
    .cpInTagWrite (.host 32) 0 0, .cpInTagWrite .owner 40 0, .internalNoticeRetry 40,
    .cpOutRelease (.host 32) 0, .cpOutRelease .owner 40, .doorbellSet (.host 32) 0 0,
    .doorbellSet .owner 40 0, .deleteDomain 4096, .modifyDomain 4096 noChange,
    .rotateDomainKey 4096, .clearQuarantine 4096, .setChannelDisable 40 false,
    .writeScheduleEntry 64 0 0 0 0, .startLiveDomainMigration 4096 0 0 0 0 0 none, .authLockoutExpire 40,
    .mirrorBind 4096 0 false false, .peerArm ⟨.reset, 0, 0, []⟩ 256
    ] : List Instr).all (fun c => !c.wf) = true := by decide +kernel
theorem test_illformed_8 : ([
    .cutReport 256 0 false, .barrier 256 0 false, .broadcast 0 9 0 [],
    .swardReplayTimeout 8, .swardRetrainTimeout 8, .swardLinkSession 8 false,
    .swardHello 8 0 0 0 0 false, .swardLinkUp 8, .swardLinkDown 8,
    .formationUidFlood 8 0, .fabricTimeMessage 8 0 0 0 0 0, .linkDelayExchange 8 0,
    .swCtlReset (.host 32), .pgTimeout 24, .offTimeoutExpire 24,
    .adcConversion 25 0, .pgLowFault 24, .railRetryExpire 24,
    .remoteDiodeRead 2 0 false, .tempMissingTimeout 40, .rateHoldExpire 6,
    .evReadSeqWrite (.host 32) 0, .pmCounterOverflow 12 0, .pmCounterOverflow 0 16,
    .pmSlotClear (.host 32), .fmApiLdReset 32, .fmSetDcRegionConfig 32 0 0 0,
    .commonsWrite (.host 32) 0 [], .commonsWrite .owner 67108864 [], .swardKeyUpdateCount 8,
    .cowWalkerAdvance 4096 0, .prepareTarget { target7 with dom := 4096 } 0 false
    ] : List Instr).all (fun c => !c.wf) = true := by decide +kernel

/-! ### Worked examples of the spec; each names its place -/

/-- 04, example after R103: line 677 of a plot: page 10, slot 37, member 13, segment slot 42; its parity slot 66 in member 8. -/
theorem test_page_layout : (linePage 677, lineSlot 677, pageMember 10 37, 4 * 10 + 37 / 17, pageMember 10 66) = (10, 37, 13, 42, 8) := by decide +kernel
/-- 05, example after R127: pool address 0x345_6789_ABC0, physical plot 9,876,543, forty channels: MC37, media address 0x7A00_666A. -/
theorem test_media_address : linePlot (0x3456789ABC0 / 64) = 3430008 ∧ linePage (0x3456789ABC0 / 64) = 154 ∧ lineSlot (0x3456789ABC0 / 64) = 47 ∧
    memberAddr 40 9876543 14 618 = (37, 0x7A00666A) := by decide +kernel
/-- 06, example after R173: 1,944,000 s give base set 9; wear class 70 adds 1 and k_die -300 adds 0. -/
theorem test_reference_set : (baseSet 1944000, 70 / 64, ((-300 : Int) + 512) / 1024) = (9, 1, 0) := by decide +kernel
/-- 10, example after Table 10.2: the tweak of line 0xD_159E_26AF in domain 0x2A5 at major 0x13 and minor 5. -/
theorem test_tweak : tweakOf 0 0x13 5 0x2A5 0xD159E26AF = 0x2614A94D159E26AF := by decide +kernel
/-- 14, example after R389: at 12,288 GiB with Commons at 16 MiB the bitmap starts at 0x0E8_0000. -/
theorem test_bitmap_base : (up.setFld TP 15 0 12288).bitmapBase = 0xE80000 := by decide +kernel
/-- 20, example of the register map: the entry of DOM0x2A5, its GX_DOM, and a rail channel's threshold register. -/
theorem test_register_arrays : (QD + 0x2A5 * 0x20, gxDom 0x2A5, railOff 17 + 0x0C) = (0xC54A0, 0xB1A94, 0x11832C) := by decide +kernel
/-- 18, example after R482: slot B with sequence 7 and base 3,000 and 30 cells set: 3,030; the next advance sets one cell more. -/
theorem test_spread_counter :
    let p : Spread := { Spread.fresh with baseA := 1000, seqA := 6, validA := true, baseB := 3000, seqB := 7, validB := true, tally := 30 }
    p.value = 3030 ∧ (p.advance 3031).value = 3031 ∧ (p.advance 3031).tally = 31 := by decide +kernel
/-- 00, example after R510: 145 and 155 degrees and -40 degrees as temperature codes. -/
theorem test_temperature_codes : (codeTemp 0x91, codeTemp 0x9B, codeTemp 0xD8) = (145, 155, -40) := by decide +kernel
/-- 04, worked erasure decode: the quotient 0xB8 / 0x06 is 0x34. -/
theorem test_field_division : gmul 0xB8 (ginv 0x06) = 0x34 := by decide +kernel
/-- 02, example after R42: ztime of 800,000,000 s with 37 leap seconds: the CXL timestamp. -/
theorem test_cxl_stamp : (({ up with tb := { up.tb with ztime := 800000000 * 1000000000 } } : State).setFld (TB + 0x10) 15 0 37).cxlStamp =
    1746684795 * 1000000000 := by decide +kernel
/-- 11, example after R315: MC17 failed, step 1, beff 4,896: G is 2,006. -/
theorem test_capacity : ((((settled up).setChanState 17 7).setFld (QS + 0x1C) 10 8 1).setFld (WP + 4) 29 16 4896).capH = 312 := by decide +kernel
/-- FIPS 180-4, FIPS 197 and R33's CRC (the standards that the spec names): their published vectors. -/
theorem test_sha256 : (sha256 [0x61, 0x62, 0x63]).take 4 = [0xBA, 0x78, 0x16, 0xBF] := by decide +kernel
theorem test_aes256 : (aesEnc (List.range 32) ((List.range 16).map (fun i => i * 17))).take 4 = [0x8E, 0xA2, 0xB7, 0xCA] := by decide +kernel
theorem test_crc16 : crc16 0x1021 ((List.range 9).map (fun i => BitVec.ofNat 8 (0x31 + i))) = 0x29B1 := by decide +kernel
/-- R10: a counter that clears on read answers its count once. -/
theorem test_clear_on_read : (match execClearOnRead .owner (GLB + 0x14) (up.setFld (GLB + 0x14) 15 0 7) with
    | .next t => decide (t.out = [.readData .owner 7]) && decide (t.fld (GLB + 0x14) 15 0 = 0) | _ => false) = true := by decide +kernel
/-- 12, example after R332: the decoder of port 1 of a two-way interleave at 0x40_0000_0000. -/
theorem test_hdm_decoder : hdmDpa [⟨0x4000000000, 2 ^ 30, 0, 2, 4096, 1⟩] 0 0x4000123A40 = some 0x91A40 := by decide +kernel

end Sys2Proof.Tests
end

/-! SUPPORT. Register reads and writes of BAR0 by a requester: what latches and holds answer (R6, R7), how an access with the right to be made is routed,
and which registers an accepted change of a schedule entry leaves alone. Then the two statements about 64-bit quantities. -/

namespace Sys2Proof.Machine

/-! ### Latches and holds (R6, R7) -/

section
variable (s : State) (who : Requester) (o : Nat) (v : Word)

@[simp] theorem State.latchAt_latch : (s.latch who o v).latchAt who o = some v := by
  simp [State.latchAt, State.latch]

@[simp] theorem State.holdAt_hold : (s.hold who o v).holdAt who o = some v := by
  simp [State.holdAt, State.hold]

@[simp] theorem State.hold_regs : (s.hold who o v).regs = s.regs := rfl
@[simp] theorem State.hold_sd : (s.hold who o v).sd = s.sd := rfl

@[simp] theorem State.holdAt_dropHold : (s.dropHold who o).holdAt who o = none := by
  simp only [State.holdAt, State.dropHold, Option.map_eq_none_iff, List.find?_eq_none]
  intro h hmem hsame
  have hkept := (List.mem_filter.mp hmem).2
  rw [hsame] at hkept
  cases hkept

@[simp] theorem State.reg_dropHold (p : Nat) : (s.dropHold who o).reg p = s.reg p := rfl
@[simp] theorem State.inFull_dropHold (k : Nat) : (s.dropHold who o).inFull k = s.inFull k := rfl

theorem State.holdAt_congr {s t : State} (h : t.holds = s.holds) : t.holdAt who o = s.holdAt who o := by
  simp only [State.holdAt, h]

/-- The search that the schedule table and EV_READ_SEQ make among the holds finds what `holdAt` answers. -/
theorem State.find_hold_of_holdAt {l : Word} (h : s.holdAt who o = some l) :
    ∃ x, s.holds.find? (fun y => y.who = who ∧ y.off = o) = some x ∧ x.val = l := by
  simpa [State.holdAt, Bool.decide_and] using h

end

/-! ### Routing of an access -/

section
variable {s : State} {who : Requester} {o p k : Nat} (v : Word)

/-- An access that names a register of BAR0 lies in no LD function's own space. -/
theorem ldOther_of_regTarget (h : regTarget who o = some p) : ldOther who o = false := by
  cases who with
  | host j =>
    have hj : j < 32 ∧ 0x18000 ≤ o ∧ o < 0x18040 := by
      by_contra hn
      simp [regTarget, hn] at h
    simp [ldOther, hj]
  | owner | lark | mctp | peer | engine => rfl

/-- The owner and Lark see BAR0 itself. -/
theorem regTarget_of_mayWrite (h : mayWrite who = true) : regTarget who o = some o := by
  cases who with
  | owner | lark => rfl
  | mctp | host _ | peer | engine => cases h

/-- A read that its requester has the right to make, with no write queued before it (R505). -/
theorem State.regRead_of_right (hup : s.regsUp = true) (hq : s.sd.queue = []) (ho : o % 4 = 0) (ht : regTarget who o = some p)
    (hr : readRight who p = true) : s.regRead who o = (s.readReg who p).2.emit (.readData who (s.readReg who p).1) := by
  simp [State.regRead, hup, ho, ldOther_of_regTarget ht, ht, hr, hq, State.settleWrites]

/-- A read of the low half of a 64-bit quantity latches the high half and leaves what is sent out alone (R6, R125). -/
theorem State.readReg_low (hp : pairLow p = true) : (s.readReg who p).1 = s.view p ∧ (s.readReg who p).2.out = s.out ∧
    (s.readReg who p).2.latchAt who p = some (s.view (p + 4)) := by
  have hlow : s.readReg who p = (s.view p,
      if ladderLow p then (s.latch who p (s.view (p + 4))).setReg64 p 0 else s.latch who p (s.view (p + 4))) := by
    simp [State.readReg, hp]
  rw [hlow]
  refine ⟨rfl, ?_, ?_⟩
  · split <;> rfl
  · split <;> exact State.latchAt_latch s who p (s.view (p + 4))

/-- A read of a high half answers what is latched for the requester and changes nothing (R6). -/
theorem State.readReg_high (hp : pairLow p = true) (hh : pairLow (p + 4) = false) (hl : s.latchAt who p = some v) :
    s.readReg who (p + 4) = (v, s) := by
  simp [State.readReg, hh, pairHigh, hp, hl]

/-- A write outside the mailbox sets by a requester that may write (R504). -/
theorem State.regWrite_of_mayWrite (hup : s.regsUp = true) (hw : mayWrite who = true) (ho : o % 4 = 0) (hb : boxOf o = none) :
    s.regWrite who o v = s.regPut who o v := by
  have ht : regTarget who o = some o := regTarget_of_mayWrite hw
  simp [State.regWrite, hup, ho, ldOther_of_regTarget ht, ht, hb, hw]

/-- A write to a mailbox set by its requester (R348). -/
theorem State.regWrite_of_mailboxOf (hup : s.regsUp = true) (ho : o % 4 = 0) (ht : regTarget who o = some p) (hb : boxOf p = some k)
    (hm : mailboxOf who k = true) : s.regWrite who o v = s.regPut who p v := by
  simp [State.regWrite, hup, ho, ldOther_of_regTarget ht, ht, hb, hm]

/-- A write to a low half outside the mailbox sets and the schedule table is held. -/
theorem State.regPut_low (hs : ¬ (TB + 0x1000 ≤ o ∧ o < TB + 0x1800)) (hp : pairLow o = true) (hb : boxOf o = none) :
    s.regPut who o v = s.hold who o v := by
  have he : o ≠ EV + 0x34 := by
    rintro rfl
    exact absurd hp (by decide)
  unfold State.regPut
  rw [if_neg hs, if_neg he, if_pos hp]
  simp only [hb]

/-- A write to a high half outside the schedule table, EV_READ_SEQ apart, is a write of the pair. -/
theorem State.regPut_high (hs : ¬ (TB + 0x1000 ≤ o + 4 ∧ o + 4 < TB + 0x1800)) (he : o + 4 ≠ EV + 0x34) (hp : pairLow o = true)
    (hh : pairLow (o + 4) = false) : s.regPut who (o + 4) v = s.pairWrite who o v := by
  unfold State.regPut
  rw [if_neg hs, if_neg he]
  simp [hh, pairHigh, hp]

end

/-! ### The commands of R6 and R7 -/

theorem exec_lowHalfRead (who : Requester) (o : Nat) (s : State) : exec (.lowHalfRead who o) s = .next (s.regRead who o) := rfl
theorem exec_lowHalfWrite (who : Requester) (o : Nat) (v : Word) (s : State) : exec (.lowHalfWrite who o v) s = .next (s.regWrite who o v) := rfl
theorem exec_highHalfWrite (who : Requester) (o : Nat) (v : Word) (s : State) : exec (.highHalfWrite who o v) s = .next (s.regWrite who o v) := rfl

/-! ### Both halves take effect (R7) -/

section
variable {s : State} {who : Requester} {o k : Nat} {l : Word} (v : Word)

/-- A register without RWP fields takes a plain write at once. -/
theorem State.plainWrite_of_not_hasPersist (hp : hasPersist o = false) : s.plainWrite who o v = s.setReg o (plainWord o (s.reg o) v) := by
  simp [State.plainWrite, hp]

theorem State.pairWrite_held (hb : boxOf o = none) (hpm : ¬ (PM + 0x100 ≤ o ∧ o < PM + 0xD00)) (hl : s.holdAt who o = some l)
    (h0 : hasPersist o = false) (h4 : hasPersist (o + 4) = false) : s.pairWrite who o v =
      ((s.dropHold who o).setReg o (plainWord o (s.reg o) l)).setReg (o + 4) (plainWord (o + 4) (s.reg (o + 4)) v) := by
  have hother : o + 4 ≠ o := by omega
  unfold State.pairWrite
  simp only [hb, if_neg hpm, hl, h0, Bool.false_eq_true, if_false, State.plainWrite_of_not_hasPersist, h4,
    State.reg_setReg_other _ _ _ _ hother, State.reg_dropHold]

theorem State.pairWrite_not_held (hb : boxOf o = none) (hpm : ¬ (PM + 0x100 ≤ o ∧ o < PM + 0xD00)) (hl : s.holdAt who o = none)
    (h4 : hasPersist (o + 4) = false) : s.pairWrite who o v = (s.dropHold who o).setReg (o + 4) (plainWord (o + 4) (s.reg (o + 4)) v) := by
  unfold State.pairWrite
  simp only [hb, if_neg hpm, hl, State.plainWrite_of_not_hasPersist v h4, State.reg_dropHold]

theorem State.pairWrite_persist (hb : boxOf o = none) (hpm : ¬ (PM + 0x100 ≤ o ∧ o < PM + 0xD00)) (hl : s.holdAt who o = some l)
    (h0 : hasPersist o = true) : s.pairWrite who o v = (s.dropHold who o).queueSeed (.pair who o l v) := by
  unfold State.pairWrite
  simp only [hb, if_neg hpm, hl, if_pos h0]

theorem State.pairWrite_pmVal (hb : boxOf o = none) (hpm : PM + 0x100 ≤ o ∧ o < PM + 0xD00) (hl : s.holdAt who o = some l) :
    s.pairWrite who o v = (s.dropHold who o).pmValPut ((o - (PM + 0x100)) / 16) (some l) (some v) := by
  unfold State.pairWrite
  simp only [hb, if_pos hpm, hl]

theorem State.pairWrite_box (hb : boxOf o = some k) (ho : o % 0x40 = 0) (hf : s.inFull k = false) (hl : s.holdAt who o = some l) :
    s.pairWrite who o v = ((s.dropHold who o).setReg o l).setReg (o + 4) v := by
  unfold State.pairWrite
  simp only [hb, if_pos ho, State.inFull_dropHold, hf, Bool.false_eq_true, if_false, hl]

/-- A counter of the performance monitor that is not enabled takes both halves of a write (Table 17.15). -/
theorem State.pmValPut_both (i : Nat) (hd : s.flag (PM + 0x100 + i * 16) 31 = false) :
    Tbl.get (fun _ => 0) (s.pmValPut i (some l) (some v)).pm.vals i = l.toNat + v.toNat % 2 ^ 16 * 2 ^ 32 := by
  simp [State.pmValPut, hd]

/-- The Seed store queue takes a write at its end (R473). -/
theorem State.queueSeed_queue (w : SeedWrite) : (s.queueSeed w).sd.queue = s.sd.queue ++ [w] := rfl
theorem State.queueSeed_holds (w : SeedWrite) : (s.queueSeed w).holds = s.holds := rfl

end

/-! ### The inbound pointer of a mailbox -/

/-- The 40 mailbox sets: CP_IN_PTR is a 64-bit quantity at the start of each, away from the registers with writes of their own. -/
theorem mbOff_pair : ∀ k < 40, boxOf (mbOff k) = some k ∧ boxOf (mbOff k + 4) = some k ∧ pairLow (mbOff k) = true ∧ pairLow (mbOff k + 4) = false := by
  decide

theorem mbOff_mod (k : Nat) : mbOff k % 0x40 = 0 := by
  simp only [mbOff, CP]; omega

/-- No mailbox register lies in the schedule table. -/
theorem mbOff_not_sched (k i : Nat) : ¬ (TB + 0x1000 ≤ mbOff k + i ∧ mbOff k + i < TB + 0x1800) := by
  simp only [mbOff, CP, TB]; omega

theorem mbOff_ne_readSeq {k : Nat} (hk : k < 40) (i : Nat) (hi : i < 0x40) : mbOff k + i ≠ EV + 0x34 := by
  simp only [mbOff, CP, EV]; omega

section
variable {s : State} {who : Requester} {k : Nat} (v : Word)

theorem State.regPut_inPtr_low (hk : k < 40) (hf : s.inFull k = false) : s.regPut who (mbOff k) v = s.hold who (mbOff k) v := by
  obtain ⟨hbox, -, hlow, -⟩ := mbOff_pair k hk
  have hs : ¬ (TB + 0x1000 ≤ mbOff k ∧ mbOff k < TB + 0x1800) := mbOff_not_sched k 0
  have he : mbOff k ≠ EV + 0x34 := mbOff_ne_readSeq hk 0 (by omega)
  unfold State.regPut
  rw [if_neg hs, if_neg he, if_pos hlow]
  simp [hbox, hf]

theorem State.regPut_inPtr_high {l : Word} (hk : k < 40) (hf : s.inFull k = false) (hl : s.holdAt who (mbOff k) = some l) :
    s.regPut who (mbOff k + 4) v = ((s.dropHold who (mbOff k)).setReg (mbOff k) l).setReg (mbOff k + 4) v := by
  obtain ⟨hbox, -, hlow, hhigh⟩ := mbOff_pair k hk
  rw [State.regPut_high v (mbOff_not_sched k 4) (mbOff_ne_readSeq hk 4 (by omega)) hlow hhigh, State.pairWrite_box v hbox (mbOff_mod k) hf hl]

end

/-! ### Registers that a Seed store write leaves alone -/

section
variable (s : State) (o : Nat)

theorem State.seedWear_reg (c : Nat) (h : o ≠ SD + 0x0C) : (s.seedWear c).reg o = s.reg o := by
  unfold State.seedWear
  split
  · rw [State.reg_setFld, if_neg h]
  · rfl

/-- A slot write touches SD_WEAR and what recording an event may. -/
theorem State.slotWrite_reg (k : Nat) (hq : quietReg o) (h : o ≠ SD + 0x0C) : (s.slotWrite k).reg o = s.reg o := by
  have wear (t : State) (c : Nat) : (t.seedWear c).reg o = t.reg o := State.seedWear_reg t o c h
  unfold State.slotWrite
  dsimp only
  split
  · exact wear _ _
  · split
    · exact State.event_reg _ _ _ _ _ _ o hq
    · split
      · exact wear _ _
      · exact (State.event_reg _ _ _ _ _ _ o hq).trans (wear _ _)

/-- Freezing a register touches SD_FROZEN and SD_FROZEN_LAST and what recording an event may (R477). -/
theorem State.freeze_reg (k : Nat) (hq : quietReg o) (h4 : o ≠ SD + 0x04) (h8 : o ≠ SD + 0x08) : (s.freeze k).reg o = s.reg o := by
  unfold State.freeze
  split
  · rfl
  · dsimp only
    rw [State.event_reg _ _ _ _ _ _ o hq, State.reg_setFld, if_neg h8, State.reg_setFld, if_neg h4]
    rfl

/-- A write of a 64-bit class P quantity at `p` touches its two registers and the Seed store's own. -/
theorem State.persistPair_reg (p : Nat) (lo hi : Word) (hq : quietReg o) (hsd : o < SD) (h0 : o ≠ p) (h4 : o ≠ p + 4) :
    (s.persistPair p lo hi).reg o = s.reg o := by
  unfold State.persistPair
  dsimp only
  split
  · rw [State.slotWrite_reg _ o p hq (by omega), State.reg_setReg_other _ _ _ _ h4, State.reg_setReg_other _ _ _ _ h0]
  · exact State.freeze_reg s o p hq (by omega) (by omega)

/-- The time save writes TB_ZTIME_SAVE (R54). -/
theorem State.saveTime_reg (hq : quietReg o) (hsd : o < SD) (h0 : o ≠ TB + 0x28) (h4 : o ≠ TB + 0x2C) : s.saveTime.reg o = s.reg o :=
  State.persistPair_reg s o (TB + 0x28) _ _ hq hsd h0 h4

end

/-! ### The phase of a schedule entry -/

/-- The 64 entries, of 0x20 bytes each, end at TB + 0x1800. -/
theorem schedOff_lt {n : Nat} (hn : n < 64) : schedOff n + 0x20 ≤ TB + 0x1800 := by
  simp only [schedOff]; omega

theorem quietReg_of_lt {o : Nat} (h : o < MC) : quietReg o := by
  simp only [quietReg, EV, HI, PM, MC] at *; omega

section
variable {s : State} {who : Requester} {n : Nat} (v : Word)

/-- An accepted change of an entry leaves every word of the schedule table as it is. -/
theorem State.schedChanged_reg (old : State) (o : Nat) (hlo : TB + 0x1000 ≤ o) (hhi : o < TB + 0x1800) : (State.schedChanged old s n).reg o = s.reg o := by
  have hmc : o < MC := by simp only [TB, MC] at *; omega
  have hsd : o < SD := by simp only [SD, MC] at *; omega
  have hsave (t : State) : t.saveTime.reg o = t.reg o := State.saveTime_reg t o (quietReg_of_lt hmc) hsd (by omega) (by omega)
  unfold State.schedChanged
  exact (apply_ite (fun t : State => t.reg o) _ _ _).trans (ite_eq_right_iff.mpr fun _ => hsave _)

/-- No word of the schedule table is a mailbox register. -/
theorem boxOf_sched {o : Nat} (h : o < TB + 0x1800) : boxOf o = none := by
  have hcp : CP = 0xF0000 := rfl
  have htb : TB = 0x10000 := rfl
  unfold boxOf
  rw [if_neg]
  omega

/-- The address of word `w` of entry `n`, taken apart: its alignment, its entry, its word. -/
theorem schedOff_word (n : Nat) {w : Nat} (hw : w < 8) : (schedOff n + 4 * w) % 4 = 0 ∧ (schedOff n + 4 * w - (TB + 0x1000)) / 0x20 = n ∧
    (schedOff n + 4 * w) % 0x20 / 4 = w := by
  have hoff : schedOff n = TB + 0x1000 + n * 0x20 := rfl
  have htb : TB = 0x10000 := rfl
  omega

/-- A write to word `w` of entry `n` is routed to the schedule table. -/
theorem State.regWrite_sched (w : Nat) (hup : s.regsUp = true) (hw : mayWrite who = true) (hn : n < 64) (h8 : w < 8) :
    s.regWrite who (schedOff n + 4 * w) v = s.schedWrite who n w v := by
  obtain ⟨halign, hentry, hword⟩ := schedOff_word n h8
  have hin : TB + 0x1000 ≤ schedOff n + 4 * w ∧ schedOff n + 4 * w < TB + 0x1800 := by simp only [schedOff]; omega
  rw [State.regWrite_of_mayWrite v hup hw halign (boxOf_sched hin.2)]
  unfold State.regPut
  rw [if_pos hin, hentry, hword]

/-- The low half of a phase is held (R7). -/
theorem State.schedWrite_phaseLow (h0 : 0 < n) : (s.schedWrite who n 4 v).holdAt who (schedOff n + 0x10) = some v ∧
    (s.schedWrite who n 4 v).regs = s.regs := by
  have hn : n ≠ 0 := by omega
  simp [State.schedWrite, hn, State.holdAt]

/-- The high half of a phase takes effect with the low half held, where the entry may stand with both (R7, R46). -/
theorem State.schedWrite_phaseHigh {l : Word} (h0 : 0 < n) (hn : n < 64) (hl : s.holdAt who (schedOff n + 0x10) = some l)
    (hv : ((s.setReg (schedOff n + 0x10) l).setReg (schedOff n + 0x14) v).schedValid n = true) :
    (s.schedWrite who n 5 v).reg (schedOff n + 0x10) = l ∧ (s.schedWrite who n 5 v).reg (schedOff n + 0x14) = v := by
  obtain ⟨x, hx, rfl⟩ := State.find_hold_of_holdAt s who _ hl
  have hne : n ≠ 0 := by omega
  have htop := schedOff_lt hn
  have hbase : TB + 0x1000 ≤ schedOff n := by simp only [schedOff]; omega
  have hstep : s.schedWrite who n 5 v = State.schedChanged s (({ s.setReg (schedOff n + 0x10) x.val with
      holds := s.holds.filter (fun h => ¬ (h.who = who ∧ h.off = schedOff n + 0x10)) } : State).setReg (schedOff n + 0x14) v) n := by
    simp only [State.schedWrite, hx, hne, false_and, if_false]
    exact if_pos hv
  rw [hstep, State.schedChanged_reg s _ (by omega) (by omega), State.schedChanged_reg s _ (by omega) (by omega)]
  exact ⟨(State.reg_setReg_other _ _ _ _ (by omega)).trans (State.reg_setReg_same s _ _), State.reg_setReg_same _ _ _⟩

end

/-! ### EV_READ_SEQ -/

section
variable {s : State} {who : Requester} (v : Word)

/-- EV_READ_SEQ takes both halves (R7, R444). -/
theorem State.readSeq_reg {l : Word} (hl : s.holdAt who (EV + 0x30) = some l) :
    (s.readSeq who v).reg (EV + 0x30) = l ∧ (s.readSeq who v).reg (EV + 0x34) = v := by
  obtain ⟨x, hx, rfl⟩ := State.find_hold_of_holdAt s who _ hl
  have seq (t : State) (w : Word) (h : t.reg (EV + 0x30) = x.val) : ((t.setReg (EV + 0x34) v).setReg (EV + 0x38) w).reg (EV + 0x30) = x.val ∧
      ((t.setReg (EV + 0x34) v).setReg (EV + 0x38) w).reg (EV + 0x34) = v := by
    simp [State.reg_setReg, h]
  unfold State.readSeq
  simp only [hx]
  exact seq _ _ (State.reg_setReg_same s _ _)

end

end Sys2Proof.Machine

namespace Sys2Proof.Proofs
open Sys2Proof Sys2Proof.Machine

/-! ### A read of a 64-bit quantity (R6) -/

/-- Settles O9: the low half's read puts the high half at the front of the latches, where the read of the high half finds it. -/
theorem halvesRead : Obligations.HalvesRead := by
  intro s who o p hup hq ho ht hr ht4 hr4 hlow hhigh
  obtain ⟨hval, hout, hlatch⟩ := State.readReg_low (s := s) (who := who) hlow
  refine ⟨⟨_, exec_lowHalfRead who o s, ?_⟩, fun u v huup huq hul => ?_⟩
  · rw [State.regRead_of_right hup hq ho ht hr, hval]
    exact ⟨congrArg (Out.readData who (s.view p) :: ·) hout, hlatch⟩
  · rw [exec_lowHalfRead, State.regRead_of_right huup huq (by omega) ht4 hr4, State.readReg_high v hlow hhigh hul]

/-! ### A write of a 64-bit quantity (R7) -/

section
variable {s : State} {who : Requester} {o k n : Nat} (v : Word)

/-- The low half of a quantity outside the mailbox sets and the schedule table. -/
theorem exec_lowHalfWrite_plain (hup : s.regsUp = true) (hw : mayWrite who = true) (ho : o % 4 = 0) (hb : boxOf o = none)
    (hs : ¬ (TB + 0x1000 ≤ o ∧ o < TB + 0x1800)) (hlow : pairLow o = true) : exec (.lowHalfWrite who o v) s = .next (s.hold who o v) := by
  rw [exec_lowHalfWrite, State.regWrite_of_mayWrite v hup hw ho hb, State.regPut_low v hs hlow hb]

/-- The high half of such a quantity, EV_READ_SEQ apart. -/
theorem exec_highHalfWrite_plain (hup : s.regsUp = true) (hw : mayWrite who = true) (ho : o % 4 = 0) (hb : boxOf (o + 4) = none)
    (hs : ¬ (TB + 0x1000 ≤ o + 4 ∧ o + 4 < TB + 0x1800)) (he : o + 4 ≠ EV + 0x34) (hlow : pairLow o = true) (hhigh : pairLow (o + 4) = false) :
    exec (.highHalfWrite who (o + 4) v) s = .next (s.pairWrite who o v) := by
  rw [exec_highHalfWrite, State.regWrite_of_mayWrite v hup hw (by omega) hb, State.regPut_high v hs he hlow hhigh]

/-- The low half of the inbound pointer of a mailbox whose inbound slot is free (R350). -/
theorem exec_lowHalfWrite_inPtr (hup : s.regsUp = true) (hk : k < 40) (hm : mailboxOf who k = true) (ho : o % 4 = 0)
    (ht : regTarget who o = some (mbOff k)) (hf : s.inFull k = false) : exec (.lowHalfWrite who o v) s = .next (s.hold who (mbOff k) v) := by
  obtain ⟨hbox, -, -, -⟩ := mbOff_pair k hk
  rw [exec_lowHalfWrite, State.regWrite_of_mailboxOf v hup ho ht hbox hm, State.regPut_inPtr_low v hk hf]

/-- Its high half, with a low half held. -/
theorem exec_highHalfWrite_inPtr {l : Word} (hup : s.regsUp = true) (hk : k < 40) (hm : mailboxOf who k = true) (ho : o % 4 = 0)
    (ht : regTarget who o = some (mbOff k + 4)) (hf : s.inFull k = false) (hl : s.holdAt who (mbOff k) = some l) :
    exec (.highHalfWrite who o v) s = .next (((s.dropHold who (mbOff k)).setReg (mbOff k) l).setReg (mbOff k + 4) v) := by
  obtain ⟨-, hbox, -, -⟩ := mbOff_pair k hk
  rw [exec_highHalfWrite, State.regWrite_of_mailboxOf v hup ho ht hbox hm, State.regPut_inPtr_high v hk hf hl]

/-- The halves of the phase of a schedule entry are words 4 and 5 of it. -/
theorem exec_lowHalfWrite_phase (hup : s.regsUp = true) (hw : mayWrite who = true) (hn : n < 64) :
    exec (.lowHalfWrite who (schedOff n + 0x10) v) s = .next (s.schedWrite who n 4 v) :=
  congrArg Host.Outcome.next (State.regWrite_sched v 4 hup hw hn (by omega))

theorem exec_highHalfWrite_phase (hup : s.regsUp = true) (hw : mayWrite who = true) (hn : n < 64) :
    exec (.highHalfWrite who (schedOff n + 0x14) v) s = .next (s.schedWrite who n 5 v) :=
  congrArg Host.Outcome.next (State.regWrite_sched v 5 hup hw hn (by omega))

/-- The high half of EV_READ_SEQ. -/
theorem exec_highHalfWrite_readSeq (hup : s.regsUp = true) (hw : mayWrite who = true) :
    exec (.highHalfWrite who (EV + 0x34) v) s = .next (s.readSeq who v) := by
  have hs : ¬ (TB + 0x1000 ≤ EV + 0x34 ∧ EV + 0x34 < TB + 0x1800) := by decide
  rw [exec_highHalfWrite, State.regWrite_of_mayWrite v hup hw (by decide) (by decide)]
  unfold State.regPut
  rw [if_neg hs, if_pos rfl]

end

/-- Settles O10, family by family: each low half goes to the holds, each high half finds it there. -/
theorem halvesWrite : Obligations.HalvesWrite := by
  refine ⟨?plain, ?inPtr, ?phase, ?readSeq⟩
  case plain =>
    intro s who o hup hw ho hlow hhigh he hb hb4 hs hs4
    have hexec (v : Word) : exec (.highHalfWrite who (o + 4) v) s = .next (s.pairWrite who o v) :=
      exec_highHalfWrite_plain v hup hw ho hb4 hs4 he hlow hhigh
    refine ⟨fun v => ⟨_, exec_lowHalfWrite_plain v hup hw ho hb hs hlow, State.holdAt_hold s who o v,
        State.hold_regs s who o v, State.hold_sd s who o v⟩,
      fun hpm h0 h4 => ⟨fun l v hl => ⟨_, hexec v, ?_⟩, fun v hl => ⟨_, hexec v, ?_⟩⟩, fun hpm h0 l v hl => ⟨_, hexec v, ?_⟩,
      fun hpm hpm' hd l v hl => ⟨_, hexec v, ?_⟩⟩
    · rw [State.pairWrite_held v hb hpm hl h0 h4]
      exact ⟨by simp [State.reg_setReg], State.reg_setReg_same _ _ _, State.holdAt_dropHold s who o⟩
    · rw [State.pairWrite_not_held v hb hpm hl h4]
      exact ⟨by simp [State.reg_setReg], State.reg_setReg_same _ _ _⟩
    · rw [State.pairWrite_persist v hb hpm hl h0]
      exact ⟨State.queueSeed_queue _, (State.holdAt_congr who o (State.queueSeed_holds _)).trans (State.holdAt_dropHold s who o)⟩
    · rw [State.pairWrite_pmVal v hb ⟨hpm, hpm'⟩ hl]
      exact State.pmValPut_both v _ hd
  case inPtr =>
    intro s who k o v hup hk hm ho ht ht4 hf
    refine ⟨⟨_, exec_lowHalfWrite_inPtr v hup hk hm ho ht hf, State.holdAt_hold s who (mbOff k) v,
      State.hold_regs s who (mbOff k) v⟩, fun l hl => ?_⟩
    exact ⟨_, exec_highHalfWrite_inPtr v hup hk hm (by omega) ht4 hf hl, by simp [State.reg_setReg], State.reg_setReg_same _ _ _⟩
  case phase =>
    intro s who n v hup hw h0 hn
    exact ⟨⟨_, exec_lowHalfWrite_phase v hup hw hn, State.schedWrite_phaseLow v h0⟩,
      fun l hl hv => ⟨_, exec_highHalfWrite_phase v hup hw hn, State.schedWrite_phaseHigh v h0 hn hl hv⟩⟩
  case readSeq =>
    intro s who v hup hw
    exact ⟨⟨_, exec_lowHalfWrite_plain v hup hw (by decide) (by decide) (by decide) (by decide), State.holdAt_hold s who (EV + 0x30) v,
        State.hold_regs s who (EV + 0x30) v⟩,
      fun l hl => ⟨_, exec_highHalfWrite_readSeq v hup hw, State.readSeq_reg v hl⟩⟩

end Sys2Proof.Proofs

/-! SUPPORT. MC_ARB_MAP (R83, R84): a field of an assembled word, the eight fields of the map, and what a write to it does. Then the statement about it. -/

namespace Sys2Proof.Machine

/-! ### Fields of an assembled word -/

/-- Two fields of a word share no bit. -/
def Fld.Apart (f g : Fld) : Prop := g.hi < f.lo ∨ f.hi < g.lo

/-- The fields lie within 32 bits, and no two of them share a bit. -/
def FieldsFit (fs : List Fld) : Prop := (∀ f ∈ fs, f.hi < 32 ∧ f.lo ≤ f.hi) ∧ fs.Pairwise Fld.Apart

theorem bits_or (v w : Word) (hi lo : Nat) : bits (v ||| w) hi lo = bits v hi lo ||| bits w hi lo := by
  simp only [bits, BitVec.toNat_or, Nat.or_div_two_pow, Nat.or_mod_two_pow]

theorem bits_zero (hi lo : Nat) : bits 0 hi lo = 0 := by
  simp [bits]

section
variable (val : Fld → Nat) {f g : Fld} {fs : List Fld}

/-- An assembled word is its first field put into an empty word, joined with the others. -/
theorem assemble_cons : assemble val (f :: fs) = putBits 0 f.hi f.lo (val f) ||| assemble val fs := by
  simp [assemble, putBits]

/-- A word assembled from fields apart from `f` leaves the bits of `f` clear. -/
theorem bits_assemble_of_apart (hin : ∀ g ∈ fs, g.hi < 32 ∧ g.lo ≤ g.hi) (hd : ∀ g ∈ fs, f.Apart g) : bits (assemble val fs) f.hi f.lo = 0 := by
  induction fs with
  | nil => exact bits_zero _ _
  | cons g fs ih =>
    obtain ⟨⟨hg, hle⟩, hin⟩ := List.forall_mem_cons.mp hin
    obtain ⟨hfg, hd⟩ := List.forall_mem_cons.mp hd
    rw [assemble_cons, bits_or, ih hin hd, bits_putBits_other _ _ _ _ _ _ hg hle hfg.symm, bits_zero, Nat.zero_or]

theorem bits_assemble (hfit : FieldsFit fs) (hf : f ∈ fs) : bits (assemble val fs) f.hi f.lo = val f % 2 ^ (f.hi + 1 - f.lo) := by
  induction fs with
  | nil => cases hf
  | cons g fs ih =>
    obtain ⟨⟨hg, hle⟩, hin⟩ := List.forall_mem_cons.mp hfit.1
    obtain ⟨hgs, hapart⟩ := List.pairwise_cons.mp hfit.2
    rw [assemble_cons, bits_or]
    rcases List.mem_cons.mp hf with rfl | hf
    · rw [bits_assemble_of_apart val hin hgs, bits_putBits _ _ _ _ hg hle, Nat.or_zero]
    · rw [ih ⟨hin, hapart⟩ hf, bits_putBits_other _ _ _ _ _ _ hg hle (hgs f hf), bits_zero, Nat.zero_or]

end

/-- A plain write that is not ignored as a whole puts the new value into an RW field that may take every encoding (Table 00.2). -/
theorem bits_plainWord_rw {o : Nat} {f : Fld} (old v : Word) (ho : o ≠ QS) (hfit : FieldsFit (fieldsAt o)) (hf : f ∈ fieldsAt o)
    (hacc : f.acc = .rw) (hany : f.legal = .any) (hok : wholeOk o v = true) : bits (plainWord o old v) f.hi f.lo = bits v f.hi f.lo := by
  have hafter : f.after o old v = bits v f.hi f.lo := by
    simp [Fld.after, hacc, hany, Legal.ok, crossOk, ho]
  rw [plainWord, if_pos hok, bits_assemble _ hfit hf, hafter, Nat.mod_eq_of_lt (bits_lt v f.hi f.lo)]

/-! ### The map of a channel -/

/-- The field of engine `e` in MC_ARB_MAP: its own number at reset. -/
def arbField (e : Nat) : Fld := fld (3 * e + 2) (3 * e) .rw e .c

section
variable {s : State} {who : Requester} {c : Nat} (v : Word)

theorem fieldsAt_arbMap (hc : c < 40) : fieldsAt (MC + c * 0x1000 + 8) = (List.range 8).reverse.map arbField := by
  have hmc : MC = 0x20000 := rfl
  have hoff : (MC + c * 0x1000 + 8 - MC) % 0x1000 = 8 := by omega
  unfold fieldsAt
  rw [if_neg (by omega), if_neg (by omega), if_pos (by omega), hoff]
  rfl

theorem fieldsFit_arbMap : FieldsFit ((List.range 8).reverse.map arbField) := by
  unfold FieldsFit Fld.Apart; decide

/-- A value of the map stands as a whole if no two engines share an input (R83). -/
theorem wholeOk_arbMap (hc : c < 40) : wholeOk (MC + c * 0x1000 + 8) v = true ↔
    ∀ i < 8, ∀ j < 8, bits v (3 * i + 2) (3 * i) = bits v (3 * j + 2) (3 * j) → i = j := by
  have hmc : MC = 0x20000 := rfl
  have hmap : 0x20000 ≤ MC + c * 0x1000 + 8 ∧ MC + c * 0x1000 + 8 < 0x48000 ∧ (MC + c * 0x1000 + 8 - MC) % 0x1000 = 8 := by omega
  unfold wholeOk
  rw [if_pos hmap, decide_eq_true_iff, List.nodup_map_iff_inj_on List.nodup_range]
  simp only [List.mem_range]

/-- The map is none of the registers that recording an event writes. -/
theorem quietReg_arbMap (hc : c < 40) : quietReg (MC + c * 0x1000 + 8) := by
  simp only [quietReg, MC, EV, HI, PM]; omega

theorem State.arbMapWrite_of_clash (h : ¬ wholeOk (MC + c * 0x1000 + 8) v = true) : s.arbMapWrite c v = s.event 0x1104 c none c v.toNat := if_neg h

/-- A value that stands gives each engine the input written for it. -/
theorem State.fld_arbMapWrite (hc : c < 40) (h : wholeOk (MC + c * 0x1000 + 8) v = true) {e : Nat} (he : e < 8) :
    (s.arbMapWrite c v).fld (MC + c * 0x1000 + 8) (3 * e + 2) (3 * e) = bits v (3 * e + 2) (3 * e) := by
  have hqs : MC + c * 0x1000 + 8 ≠ QS := by simp only [MC, QS]; omega
  have hfields := fieldsAt_arbMap hc
  have hmem : arbField e ∈ fieldsAt (MC + c * 0x1000 + 8) :=
    hfields ▸ List.mem_map_of_mem (List.mem_reverse.mpr (List.mem_range.mpr he))
  have hstored : s.arbMapWrite c v = s.setReg (MC + c * 0x1000 + 8) (plainWord (MC + c * 0x1000 + 8) (s.reg (MC + c * 0x1000 + 8)) v) := if_pos h
  rw [hstored, State.fld_setReg_same]
  exact bits_plainWord_rw (f := arbField e) _ v hqs (hfields ▸ fieldsFit_arbMap) hmem rfl rfl h

theorem State.asWriter_of_mayWrite (o : Nat) (k : State → State) (hup : s.regsUp = true) (hw : mayWrite who = true) : s.asWriter who o k = k s := by
  simp [State.asWriter, hup, hw]

theorem exec_mcArbMapWrite (hc : c < 40) (hup : s.regsUp = true) (hw : mayWrite who = true) :
    exec (.mcArbMapWrite who c v) s = .next (s.arbMapWrite c v) := by
  calc exec (.mcArbMapWrite who c v) s
    _ = .next (s.asWriter who (MC + c * 0x1000 + 8) (fun t => t.arbMapWrite c v)) := if_pos hc
    _ = .next (s.arbMapWrite c v) := congrArg _ (State.asWriter_of_mayWrite _ _ hup hw)

end

end Sys2Proof.Machine

namespace Sys2Proof.Proofs
open Sys2Proof Sys2Proof.Machine

/-- Settles O11: whether the value stands as a whole decides between the event and the store of all eight fields. -/
theorem arbMap : Obligations.ArbMap := by
  intro s who c v hc hup hw
  refine ⟨fun ⟨i, j, hi, hj, hne, hsame⟩ => ⟨_, exec_mcArbMapWrite v hc hup hw, ?clash⟩,
    fun hdistinct => ⟨_, exec_mcArbMapWrite v hc hup hw, ?stored⟩⟩
  case clash =>
    have hclash := State.arbMapWrite_of_clash (s := s) v fun hok => hne ((wholeOk_arbMap v hc).mp hok i hi j hj hsame)
    exact ⟨hclash, hclash ▸ State.event_reg s _ _ _ _ _ _ (quietReg_arbMap hc)⟩
  case stored =>
    have hok := (wholeOk_arbMap v hc).mpr fun i hi j hj => hdistinct i j hi hj
    exact fun e he => State.fld_arbMapWrite v hc hok he

end Sys2Proof.Proofs

/-! SUPPORT. What every step keeps (O2, O4, O6): one lemma per function of the model, then one for exec. -/

namespace Sys2Proof.Machine
set_option Elab.async false

/-- `s` keeps of `a` what every command but Transfer image chunk keeps: the queue, the image slots of the boot flash, and canonical form
of the register file and the byte memories. -/
structure State.Keeps (a s : State) : Prop where
  pending : s.pending = a.pending
  slotA : s.lark.slotA = a.lark.slotA
  slotB : s.lark.slotB = a.lark.slotB
  canonical : a.Canonical → s.Canonical

/-- Answer `x` is a next state that keeps of `a` what every command but Transfer image chunk keeps. -/
def Answer.Runs (a : State) (x : Answer) : Prop := ∃ t, x = .next t ∧ a.Keeps t

variable {a s t : State}

theorem State.Keeps.refl (s : State) : s.Keeps s := ⟨rfl, rfl, rfl, id⟩

theorem State.Keeps.trans (h : a.Keeps s) (k : s.Keeps t) : a.Keeps t :=
  ⟨k.pending.trans h.pending, k.slotA.trans h.slotA, k.slotB.trans h.slotB, fun ha => k.canonical (h.canonical ha)⟩

theorem State.Keeps.congr {t : State} (h : a.Keeps s) (hp : t.pending = s.pending := by rfl) (hr : t.regs = s.regs := by rfl)
    (hc : t.rk.commons = s.rk.commons := by rfl) (ho : t.sd.ownerData = s.sd.ownerData := by rfl)
    (hA : t.lark.slotA = s.lark.slotA := by rfl) (hB : t.lark.slotB = s.lark.slotB := by rfl) : a.Keeps t :=
  h.trans ⟨hp, hA, hB, State.Canonical.congr hr hc ho (congrArg _ hA) (congrArg _ hB)⟩

theorem State.Keeps.upd {pending : List Instr} {regs : Tbl Word} {latches : List HalfLatch} {holds : List HalfLatch} {tb : TimeBase} {media : Media}
    {codes : Codes} {tp : Plots} {log : LogField} {df : Drift} {wb : WriteBuf} {host : HostIf} {rk : Rick} {gx : Gorse} {qs : Regul} {lark : Lark}
    {sw : Sward} {pw : Power} {th : Thermal} {ev : Recorder} {mt : Meter} {pm : Perf} {sd : Seed} {pins : Pins} {out : List Out} {free : Nat}
    (h : a.Keeps s) (hp : pending = s.pending := by rfl) (hr : regs = s.regs := by rfl) (hc : rk.commons = s.rk.commons := by rfl)
        (ho : sd.ownerData = s.sd.ownerData := by rfl)
    (hA : lark.slotA = s.lark.slotA := by rfl) (hB : lark.slotB = s.lark.slotB := by rfl) :
    a.Keeps (State.mk pending regs latches holds tb media codes tp log df wb host rk gx qs lark sw pw th ev mt pm sd pins out free) :=
  h.congr hp hr hc ho hA hB

theorem State.Keeps.ite {c : Prop} [Decidable c] (h : a.Keeps s) (k : a.Keeps t) : a.Keeps (if c then s else t) := by
  split <;> assumption

theorem State.Keeps.snd {α : Type} {p : α × State} {x : α} (h : a.Keeps p.2) (e : p = (x, s)) : a.Keeps s := by subst e; exact h

theorem State.Keeps.ite_snd {α : Type} {c : Prop} [Decidable c] {p q : α × State} (h : a.Keeps p.2) (k : a.Keeps q.2) : a.Keeps
    (if c then p else q).2 := by
  split <;> assumption

theorem State.Keeps.pair {α : Type} {x : α} (h : a.Keeps s) : a.Keeps (x, s).2 := h
theorem State.Keeps.triple {α β : Type} {x : α} {y : β} (h : a.Keeps s) : a.Keeps (x, y, s).2.2 := h
theorem State.Keeps.quad {α β γ : Type} {x : α} {y : β} {z : γ} (h : a.Keeps s) : a.Keeps (x, y, z, s).2.2.2 := h

theorem State.Keeps.ite_triple {α β : Type} {c : Prop} [Decidable c] {p q : α × β × State} (h : a.Keeps p.2.2) (k : a.Keeps q.2.2) :
    a.Keeps (if c then p else q).2.2 := by
  split <;> assumption

theorem State.Keeps.ite_quad {α β γ : Type} {c : Prop} [Decidable c] {p q : α × β × γ × State} (h : a.Keeps p.2.2.2) (k : a.Keeps q.2.2.2) :
    a.Keeps (if c then p else q).2.2.2 := by
  split <;> assumption

theorem State.Keeps.pair_fst {α : Type} {x : α} (h : a.Keeps s) : a.Keeps (s, x).1 := h

theorem State.Keeps.foldl {α : Type} {f : State → α → State} {l : List α} (h : a.Keeps s) (hf : ∀ t x, a.Keeps t → a.Keeps (f t x)) : a.Keeps
    (l.foldl f s) := by
  induction l generalizing s with
  | nil => exact h
  | cons x l ih => exact ih (hf s x h)

theorem State.Keeps.foldl_fst {α β : Type} {f : State × β → α → State × β} {l : List α} {p : State × β} (h : a.Keeps p.1)
    (hf : ∀ q x, a.Keeps q.1 → a.Keeps (f q x).1) : a.Keeps (l.foldl f p).1 := by
  induction l generalizing p with
  | nil => exact h
  | cons x l ih => exact ih (hf p x h)

theorem State.Keeps.foldl_snd {α β : Type} {f : β × State → α → β × State} {l : List α} {p : β × State} (h : a.Keeps p.2)
    (hf : ∀ q x, a.Keeps q.2 → a.Keeps (f q x).2) : a.Keeps (l.foldl f p).2 := by
  induction l generalizing p with
  | nil => exact h
  | cons x l ih => exact ih (hf p x h)

theorem State.Keeps.setReg {o : Nat} {v : Word} (h : a.Keeps s) : a.Keeps (s.setReg o v) :=
  h.trans ⟨rfl, rfl, rfl, fun ⟨hr, hm⟩ => ⟨Tbl.set_wf _ _ _ _ hr, hm⟩⟩

theorem Answer.Runs.next (h : a.Keeps s) : Answer.Runs a (.next s) := ⟨s, rfl, h⟩
theorem Answer.Runs.below {i n : Nat} {x : Answer} (h : a.Keeps s) (k : Answer.Runs a x) : Answer.Runs a (below i n s x) := by
  unfold Sys2Proof.Machine.below; split
  · exact k
  · exact .next h
theorem Answer.Runs.after {x : Answer} (h : Answer.Runs a x) : a.Keeps (x.after s) := by
  obtain ⟨t, rfl, ht⟩ := h; exact ht
theorem Answer.Runs.ite {c : Prop} [Decidable c] {x y : Answer} (h : Answer.Runs a x) (k : Answer.Runs a y) : Answer.Runs a (if c then x else y) := by
  split <;> assumption

theorem State.Keeps.commons {bs : Memory} (h : a.Keeps s) (hw : s.Canonical → Memory.wf bs = true) : a.Keeps
    { s with rk := { s.rk with commons := bs } } :=
  h.trans ⟨rfl, rfl, rfl, fun ⟨hr, hc, hm⟩ => ⟨hr, hw ⟨hr, hc, hm⟩, hm⟩⟩

theorem State.Keeps.ownerData {bs : Memory} (h : a.Keeps s) (hw : Memory.wf s.sd.ownerData = true → Memory.wf bs = true) :
    a.Keeps { s with sd := { s.sd with ownerData := bs } } :=
  h.trans ⟨rfl, rfl, rfl, fun ⟨hr, hc, ho, hi⟩ => ⟨hr, hc, hw ho, hi⟩⟩

/-- Entries taken out of a table in canonical form leave one. -/
theorem Tbl.wfFrom_filter {α : Type} [DecidableEq α] (d : Nat → α) (p : Nat × α → Bool) (l : Tbl α) (lo : Nat) (hw : Tbl.wfFrom d lo l = true) :
    Tbl.wfFrom d lo (l.filter p) = true := by
  induction l generalizing lo with
  | nil => rfl
  | cons x l ih =>
    obtain ⟨j, w⟩ := x
    simp only [Tbl.wfFrom, Bool.and_eq_true, decide_eq_true_eq] at hw
    obtain ⟨hj, hwj, hl⟩ := hw
    by_cases hp : p (j, w) = true
    · simp [List.filter, hp, Tbl.wfFrom, hj, hwj, ih _ hl]
    · simpa [List.filter, hp] using Tbl.wfFrom_mono d _ lo (j + 1) (by omega) (ih _ hl)

theorem tornBytes_wf {m : Memory} {o written oldMask : Nat} {bytes : List Byte} (h : Memory.wf m = true) :
    Memory.wf (tornBytes m o written oldMask bytes) = true := by
  unfold tornBytes
  generalize (List.range bytes.length).zip bytes = l
  induction l generalizing m with
  | nil => exact h
  | cons x l ih =>
    refine ih ?_
    dsimp only
    split
    · exact Memory.write_wf _ _ _ h
    · exact h


/-! ### Machine/Ops.lean -/

theorem State.Keeps.setFld {o hi lo x : ℕ} (h : a.Keeps s) : a.Keeps (s.setFld o hi lo x) := h.setReg

theorem State.Keeps.setBit {o b : ℕ} {v : Bool} (h : a.Keeps s) : a.Keeps (s.setBit o b v) := h.setFld

theorem State.Keeps.setReg64 {o x : ℕ} (h : a.Keeps s) : a.Keeps (s.setReg64 o x) := h.setReg.setReg

theorem State.Keeps.bump {o hi lo n : ℕ} (h : a.Keeps s) : a.Keeps (s.bump o hi lo n) := h.setFld

theorem State.Keeps.emit {x : Out} (h : a.Keeps s) : a.Keeps (s.emit x) := h.upd

theorem State.Keeps.draw (h : a.Keeps s) : a.Keeps (s.draw.2) := h.upd.pair

theorem State.Keeps.setChanState {c x : ℕ} (h : a.Keeps s) : a.Keeps (s.setChanState c x) := h.setFld

theorem State.Keeps.pmOverflow {bank k : ℕ} (h : a.Keeps s) : a.Keeps (s.pmOverflow bank k) :=
  (h.setBit.bump.ite (h.setBit.bump.ite h.setBit.upd)).ite h.setBit

theorem State.Keeps.countOne {b e i n k : ℕ} (h : a.Keeps s) : a.Keeps (s.countOne b e i n k) := (h.upd.pmOverflow.ite h.upd).ite h

theorem State.Keeps.count {b e i n : ℕ} (h : a.Keeps s) : a.Keeps (s.count b e i n) := (h.foldl (fun _ _ h' => h'.countOne)).ite h

theorem State.Keeps.countGlobal {e n : ℕ} (h : a.Keeps s) : a.Keeps (s.countGlobal e n) := h.count.count

theorem State.Keeps.moveCounter {q f c : ℕ} (h : a.Keeps s) : a.Keeps (s.moveCounter q f c) := h.upd

theorem State.Keeps.setSpread {q : ℕ} {p : Spread} (h : a.Keeps s) : a.Keeps (s.setSpread q p) := h.upd

theorem State.Keeps.advanceCounter {q c : ℕ} (h : a.Keeps s) : a.Keeps (s.advanceCounter q c).2 := by
  unfold State.advanceCounter
  dsimp only
  refine .ite_snd ?_ ?_
  · exact h.setSpread.pair
  · refine .ite_snd ?_ ?_
    · exact h.setSpread.pair
    · split
      · exact h.moveCounter.pair
      · exact h.setSpread.pair

theorem State.Keeps.setLd {i : ℕ} {l : Ld} (h : a.Keeps s) : a.Keeps (s.setLd i l) := h.upd

theorem State.Keeps.stage {e : EventRec} (h : a.Keeps s) : a.Keeps (s.stage e) := h.upd.ite (h.upd.bump.upd.ite h.upd.bump)

theorem State.Keeps.nextSeq (h : a.Keeps s) : a.Keeps (s.nextSeq.2) := by
  unfold State.nextSeq
  refine .ite_snd ?_ ?_
  · exact h.pair
  · dsimp only
    exact h.advanceCounter.upd

theorem State.Keeps.putRecord {code inst : ℕ} {dom : Option ℕ} {p0 p1 : ℕ} (h : a.Keeps s) : a.Keeps (s.putRecord code inst dom p0 p1) :=
  ((h.upd.stage.emit.ite h.upd.stage).emit.ite (h.upd.stage.emit.ite h.upd.stage)).countGlobal

theorem State.Keeps.record {code inst : ℕ} {dom : Option ℕ} {p0 p1 : ℕ} (h : a.Keeps s) : a.Keeps (s.record code inst dom p0 p1) := by
  unfold State.record
  split
  next x x1 t e =>
  have ht : a.Keeps t := h.nextSeq.snd e
  dsimp only
  split
  · exact ht.putRecord.putRecord
  · exact ht.putRecord

theorem State.Keeps.recordOnce {key code inst : ℕ} {dom : Option ℕ} {p0 p1 : ℕ} (h : a.Keeps s) : a.Keeps (s.recordOnce key code inst dom p0 p1) :=
  h.ite h.upd.record

theorem State.Keeps.cxlRecord {i log code p0 : ℕ} (h : a.Keeps s) : a.Keeps (s.cxlRecord i log code p0) :=
  (h.setLd.emit.ite h.setLd).ite h.setLd.bump.recordOnce

theorem State.Keeps.cxlEvents {code : ℕ} {dom : Option ℕ} {p0 : ℕ} (h : a.Keeps s) : a.Keeps (s.cxlEvents code dom p0) := by
  unfold State.cxlEvents
  split
  · exact h
  · split
    · exact h.cxlRecord.ite h
    · exact h.foldl (fun _ _ h' => h'.cxlRecord.ite h')

theorem State.Keeps.event {code inst : ℕ} {dom : Option ℕ} {p0 p1 : ℕ} (h : a.Keeps s) : a.Keeps (s.event code inst dom p0 p1) := h.record.cxlEvents

theorem State.Keeps.eventOnce {key code inst : ℕ} {dom : Option ℕ} {p0 p1 : ℕ} (h : a.Keeps s) : a.Keeps (s.eventOnce key code inst dom p0 p1) :=
  h.ite h.upd.event

theorem State.Keeps.advanceTo {q c : ℕ} (h : a.Keeps s) : a.Keeps (s.advanceTo q c) := by
  unfold State.advanceTo
  split
  next x x1 t e =>
  have ht : a.Keeps t := h.advanceCounter.snd e
  split
  · exact ht.event
  · exact ht

theorem State.Keeps.seedWear {c : ℕ} (h : a.Keeps s) : a.Keeps (s.seedWear c) := h.setFld.ite h

theorem State.Keeps.slotWrite {k : ℕ} (h : a.Keeps s) : a.Keeps (s.slotWrite k) := by
  unfold State.slotWrite
  extract_lets pair v here c stay old
  have hstay : a.Keeps (stay s) := State.Keeps.ite (State.Keeps.setReg h.upd) h.upd
  refine .ite hstay ?_
  split
  · exact State.Keeps.event h.upd
  · exact .ite hstay (State.Keeps.event hstay.upd)

theorem State.Keeps.freeze {o : ℕ} (h : a.Keeps s) : a.Keeps (s.freeze o) := h.ite h.upd.setFld.setFld.event

theorem State.Keeps.persist {o : ℕ} {v : Word} (h : a.Keeps s) : a.Keeps (s.persist o v) := h.setReg.slotWrite.ite h.freeze

theorem State.Keeps.persistFld {o hi lo x : ℕ} (h : a.Keeps s) : a.Keeps (s.persistFld o hi lo x) := h.persist

theorem State.Keeps.persistPair {o : ℕ} {lo hi : Word} (h : a.Keeps s) : a.Keeps (s.persistPair o lo hi) := h.setReg.setReg.slotWrite.ite h.freeze

theorem State.Keeps.persist64 {o x : ℕ} (h : a.Keeps s) : a.Keeps (s.persist64 o x) := h.persistPair

theorem State.Keeps.queueSeed {w : SeedWrite} (h : a.Keeps s) : a.Keeps (s.queueSeed w) := h.upd.setBit

theorem State.Keeps.plainWrite {who : Requester} {o : ℕ} {v : Word} (h : a.Keeps s) : a.Keeps (s.plainWrite who o v) :=
  h.setReg.queueSeed.ite h.setReg

theorem State.Keeps.logRefused {w : Requester} {rule off : ℕ} {write : Bool} (h : a.Keeps s) : a.Keeps (s.logRefused w rule off write) :=
  (h.bump.ite h.bump).ite (h.bump.ite h.bump).setReg

theorem State.Keeps.disallowed {w : Requester} {off : ℕ} {write : Bool} (h : a.Keeps s) : a.Keeps (s.disallowed w off write) :=
  h.logRefused.emit.ite h.logRefused.emit.emit

theorem State.Keeps.asWriter {w : Requester} {off : ℕ} {k : State → State} (h : a.Keeps s) (hk : ∀ t, a.Keeps t → a.Keeps (k t)) : a.Keeps
    (s.asWriter w off k) :=
  h.ite ((hk _ h).ite h.disallowed)

theorem State.Keeps.beginLong {opcode mb authority dom : ℕ} (h : a.Keeps s) : a.Keeps (s.beginLong opcode mb authority dom) :=
  h.upd.setBit.setReg.setReg

theorem State.Keeps.resetDone {kind cause : ℕ} (h : a.Keeps s) : a.Keeps (s.resetDone kind cause) := h.setReg

/-! ### Machine/Mirror.lean -/

theorem State.Keeps.setSwPort {n : ℕ} {x : SwPort} (h : a.Keeps s) : a.Keeps (s.setSwPort n x) := h.upd

theorem State.Keeps.sendVia {p dest vc msg : ℕ} {vals : List ℕ} (h : a.Keeps s) : a.Keeps (s.sendVia p dest vc msg vals) := h.emit.count

theorem State.Keeps.sendOn {p vc msg : ℕ} {vals : List ℕ} (h : a.Keeps s) : a.Keeps (s.sendOn p vc msg vals) := h.sendVia

theorem State.Keeps.sendTo {node vc msg : ℕ} {vals : List ℕ} (h : a.Keeps s) : a.Keeps (s.sendTo node vc msg vals) := by
  unfold State.sendTo
  split
  · exact h.sendVia
  · exact h

theorem State.Keeps.setSends {dest msg n : ℕ} (h : a.Keeps s) : a.Keeps (s.setSends dest msg n) := h.upd

theorem State.Keeps.sendPeer {dest opcode : ℕ} {vals : List ℕ} (h : a.Keeps s) : a.Keeps (s.sendPeer dest opcode vals) := h.sendTo.setSends

theorem State.Keeps.mirrorOut {r : MirrorRec} {vc : ℕ} (h : a.Keeps s) : a.Keeps (s.mirrorOut r vc).2 :=
  State.Keeps.ite_snd ((((h.upd.upd.setSends.emit.ite h.upd.upd.setSends).count).count).pair)
      ((((h.setReg64.upd.setSends.emit.ite h.setReg64.upd.setSends).count).count).pair)

theorem State.Keeps.mirrorAckOut {q : ℕ} (h : a.Keeps s) : a.Keeps (s.mirrorAckOut q) := h.sendTo

theorem State.Keeps.setDirty {p : ℕ} {v : Bool} (h : a.Keeps s) : a.Keeps (s.setDirty p v) :=
  h.commons fun hs => Memory.write_wf _ _ _ hs.2.1

theorem State.Keeps.resyncSend {line d : ℕ} {data : List Byte} {poison : Bool} (h : a.Keeps s) : a.Keeps (s.resyncSend line d data poison) := by
  unfold State.resyncSend
  split
  next x x1 t e =>
  have ht : a.Keeps t := h.mirrorOut.snd e
  exact ht.count.upd

/-! ### Machine/Recorder.lean -/

theorem State.Keeps.stagingRoom (h : a.Keeps s) : a.Keeps s.stagingRoom := h.upd.upd.event.ite h.upd

theorem State.Keeps.ringPage (h : a.Keeps s) : a.Keeps s.ringPage := h.ite h.upd.bump.stagingRoom

theorem State.Keeps.pmComplete {port cls dom cause line lat chan : ℕ} {write : Bool} (h : a.Keeps s) : a.Keeps
    (s.pmComplete port cls dom cause line lat chan write) := by
  unfold State.pmComplete
  split
  · exact h
  · exact h.upd.setReg.setReg64.setReg.setReg.setReg64.setBit.setFld.emit.ite h.upd

theorem State.Keeps.slotCount {c cat : ℕ} (h : a.Keeps s) : a.Keeps (s.slotCount c cat) := h.upd.count.ite h

theorem State.Keeps.meter {d : ℕ} {f : MeterAcc → MeterAcc} (h : a.Keeps s) : a.Keeps (s.meter d f) := h.upd.ite h

theorem State.Keeps.meterRequest (h : a.Keeps s) : a.Keeps s.meterRequest := ((h.ite h.emit).setBit).ite (h.setBit.ite h)

theorem State.Keeps.meterOpen (h : a.Keeps s) : a.Keeps s.meterOpen := h.upd

theorem State.Keeps.packetSeq (h : a.Keeps s) : a.Keeps s.packetSeq := h.ite h.advanceTo.upd

theorem State.Keeps.meterPump (h : a.Keeps s) : a.Keeps s.meterPump := by
  unfold State.meterPump
  split
  · exact h
  · exact h.ite ((h.upd.countGlobal.bump.ite h.upd.countGlobal).meterRequest)

theorem State.Keeps.meterClose {upTo : ℤ} {stepped : Bool} (h : a.Keeps s) : a.Keeps (s.meterClose upTo stepped) := by
  unfold State.meterClose
  exact ((h.bump.ite h.bump.event).upd).ite ((h.packetSeq.upd.event.ite h.packetSeq.upd).meterOpen.meterPump)

theorem execRingPageWrite_runs (h : a.Keeps s) : Answer.Runs a (execRingPageWrite s) := by
  unfold execRingPageWrite
  refine .next ?_
  split
  · exact h.ringPage
  · exact h.ringPage.ite h

theorem State.Keeps.readSeq {who : Requester} {v : Word} (h : a.Keeps s) : a.Keeps (s.readSeq who v) := by
  unfold State.readSeq
  dsimp only
  split
  · exact h.setReg.upd.setReg.setReg.upd
  · exact h.setReg.setReg.upd

theorem execEvReadSeqWrite_runs {who : Requester} {v : Word} (h : a.Keeps s) : Answer.Runs a (execEvReadSeqWrite who v s) :=
  .next (h.asWriter (fun _ h' => h'.readSeq))

theorem execPmCounterOverflow_runs {bank k : ℕ} (h : a.Keeps s) : Answer.Runs a (execPmCounterOverflow bank k s) :=
  .below h (.below h (.next (h.upd.pmOverflow.ite h)))

theorem execPmSlotClear_runs {who : Requester} (h : a.Keeps s) : Answer.Runs a (execPmSlotClear who s) := .next (h.asWriter (fun _ h' => h'.upd))

theorem State.Keeps.archiveDrain (h : a.Keeps s) : a.Keeps s.archiveDrain := h.upd.stagingRoom.ite h

/-! ### Machine/Time.lean -/

theorem State.Keeps.setTbState {x : ℕ} (h : a.Keeps s) : a.Keeps (s.setTbState x) := h.setFld.upd.ite h.setFld.upd

theorem State.Keeps.setSource {x : ℕ} (h : a.Keeps s) : a.Keeps (s.setSource x) := h.setFld

theorem State.Keeps.setDue {n x : ℕ} (h : a.Keeps s) : a.Keeps (s.setDue n x) := h.setReg64

theorem State.Keeps.recompute {n : ℕ} (h : a.Keeps s) : a.Keeps (s.recompute n) := h.setDue.upd

theorem State.Keeps.schedAdvance {n : ℕ} (h : a.Keeps s) : a.Keeps (s.schedAdvance n) := h.setBit.setDue.ite h.setDue

theorem State.Keeps.schedMissed {n k : ℕ} (h : a.Keeps s) : a.Keeps (s.schedMissed n k) := h.bump

theorem State.Keeps.schedStart {n : ℕ} (h : a.Keeps s) : a.Keeps (s.schedStart n) := h.setBit.schedAdvance.upd

theorem State.Keeps.defer {n : ℕ} (h : a.Keeps s) : a.Keeps (s.defer n) := h.upd

theorem State.Keeps.saveTime (h : a.Keeps s) : a.Keeps s.saveTime := h.persist64.upd

theorem State.Keeps.saveTimeUp (h : a.Keeps s) : a.Keeps s.saveTimeUp := h.saveTime.ite h

theorem State.Keeps.countTick (h : a.Keeps s) : a.Keeps s.countTick := by
  unfold State.countTick
  refine .ite ?_ ?_
  · dsimp only
    exact ((h.foldl (fun _ _ h' => h'.count)).countGlobal).ite (h.foldl (fun _ _ h' => h'.count))
  · exact h

theorem State.Keeps.takeAction {n x : Nat} (h : a.Keeps s) (e : s.takeAction x = some (n, t)) : a.Keeps t := by
  unfold State.takeAction at e
  split at e
  · cases e
  · cases e; exact h.upd

theorem State.Keeps.endEntry {n : ℕ} (h : a.Keeps s) : a.Keeps (s.endEntry n) := h.setBit

theorem State.Keeps.endAction {a' : ℕ} (h : a.Keeps s) : a.Keeps (s.endAction a') := h.foldl (fun _ _ h' => h'.endEntry.ite h')

theorem Answer.Runs.runAction {a' : ℕ} {k : ℕ → State → State} (h : a.Keeps s) (hk : ∀ y0 t, a.Keeps t → a.Keeps (k y0 t)) : Answer.Runs a
    (s.runAction a' k) := by
  unfold State.runAction
  split
  · exact .next h
  next x x1 t e =>
    have ht : a.Keeps t := h.takeAction e
    exact .next ((hk _ _ ht).endEntry)

theorem Answer.Runs.beginAction {a' : ℕ} {k : ℕ → State → State} (h : a.Keeps s) (hk : ∀ y0 t, a.Keeps t → a.Keeps (k y0 t)) : Answer.Runs a
    (s.beginAction a' k) := by
  unfold State.beginAction
  split
  · exact .next h
  next x x1 t e =>
    have ht : a.Keeps t := h.takeAction e
    exact .next (hk _ _ ht)

theorem State.Keeps.passEntry {z0 z1 n : ℕ} (h : a.Keeps s) : a.Keeps (State.passEntry z0 z1 s n) :=
  (h.schedMissed.setDue.ite (h.schedMissed.setDue.defer.ite h.schedMissed.setDue)).ite h

theorem State.Keeps.stepForward {d : ℕ} (h : a.Keeps s) : a.Keeps (s.stepForward d) := by
  unfold State.stepForward
  exact (h.upd.setBit.meterClose.foldl (fun _ _ h' => h'.passEntry)).event.saveTime

theorem State.Keeps.absorbOffset {d : ℤ} {half : Bool} (h : a.Keeps s) : a.Keeps (s.absorbOffset d half) := h.setBit.upd

theorem State.Keeps.setValid (h : a.Keeps s) : a.Keeps s.setValid := (h.ite h.upd).setBit

theorem State.Keeps.clearPending (h : a.Keeps s) : a.Keeps s.clearPending := h.setBit.setReg64

theorem State.Keeps.reacquire (h : a.Keeps s) : a.Keeps s.reacquire := h.setTbState.ite h

theorem State.Keeps.offset {d : ℤ} (h : a.Keeps s) : a.Keeps (s.offset d) :=
  (h.upd.setBit.setValid.ite h.upd.setBit.setValid.absorbOffset).ite
      (h.upd.setBit.setValid.stepForward.ite (h.upd.setBit.setValid.absorbOffset.event.ite
      (h.upd.setBit.setBit.setReg64.setTbState.ite h.upd.setBit.setBit.setReg64.setTbState.event)))

theorem State.Keeps.measured {r : ℤ} (h : a.Keeps s) : a.Keeps (s.measured r) := by
  unfold State.measured
  refine .ite ?_ ?_
  · exact h
  · dsimp only
    split
    · exact (((((h.upd.reacquire.ite h).clearPending).reacquire).ite (h.upd.reacquire.ite h)).upd).ite
        (((((h.upd.reacquire.ite h).clearPending).reacquire).ite (h.upd.reacquire.ite h)).offset)
    · exact ((((h.upd.reacquire.ite h).clearPending).reacquire).ite (h.upd.reacquire.ite h)).offset

theorem State.Keeps.sourceOffset {r : ℤ} (h : a.Keeps s) : a.Keeps (s.sourceOffset r) := h.upd.measured.ite (h.upd.ite h.upd.measured)

theorem State.Keeps.leapNow (h : a.Keeps s) : a.Keeps s.leapNow := h.setFld.setFld.upd.ite h

theorem State.Keeps.announce {announced : ℕ} (h : a.Keeps s) : a.Keeps (s.announce announced) := (h.setFld.upd.upd.ite h.setFld.upd).ite h.setFld

theorem State.Keeps.takeLeap {l : ℤ} (h : a.Keeps s) : a.Keeps (s.takeLeap l) :=
  h.leapNow.upd.ite (h.leapNow.upd.setFld.upd.meterClose.event.ite h.leapNow.upd.setFld.upd)

theorem State.Keeps.ppsEdge (h : a.Keeps s) : a.Keeps s.ppsEdge := by
  unfold State.ppsEdge
  extract_lets x x1 x2 x3 t x4 x5 x6 t1 t2 t3 t4 x7
  have ht : a.Keeps t := h.upd
  have ht1 : a.Keeps t1 := ht.upd
  have ht2 : a.Keeps t2 := ht1.setTbState.ite ht1
  have ht3 : a.Keeps t3 := ht2.upd.setReg.ite ht2
  have ht4 : a.Keeps t4 := ht3.measured
  exact (ht4.upd.ite ht3).ite ht

theorem execTodFrame_runs {bytes : List Byte} (h : a.Keeps s) : Answer.Runs a (execTodFrame bytes s) :=
  .ite (.next (h.upd.takeLeap.announce.sourceOffset.ite h.upd.takeLeap.announce)) (.next h.bump)

theorem State.Keeps.takeSource {x : ℕ} (h : a.Keeps s) : a.Keeps (s.takeSource x) := by
  unfold State.takeSource
  exact h.upd.setSource.setTbState

theorem execTimeSourceSwitch_runs {src : TimeSource} (h : a.Keeps s) : Answer.Runs a (execTimeSourceSwitch src s) := by
  unfold execTimeSourceSwitch
  dsimp only
  refine .next ?_
  split
  · exact h.takeSource.ite h
  · exact h.takeSource.ite h
  · exact h
  · exact h

theorem execSourceLossTimeout_runs (h : a.Keeps s) : Answer.Runs a (execSourceLossTimeout s) := by
  unfold execSourceLossTimeout
  dsimp only
  exact .next ((((((h.ite ((h.ite h.setBit).upd)).ite ((h.ite ((h.ite h.setBit).upd)).upd)).upd).takeSource).ite
      (((((h.ite ((h.ite h.setBit).upd)).ite ((h.ite ((h.ite h.setBit).upd)).upd)).upd).setSource).setTbState)).ite
      ((((((h.ite ((h.ite h.setBit).upd)).ite ((h.ite ((h.ite h.setBit).upd)).upd)).upd).setSource).setTbState).ite
      ((h.ite ((h.ite h.setBit).upd)).ite ((h.ite ((h.ite h.setBit).upd)).upd))))

theorem execDisciplineComplete_runs (h : a.Keeps s) : Answer.Runs a (execDisciplineComplete s) := .next (h.setBit.ite h)

theorem execSlewComplete_runs (h : a.Keeps s) : Answer.Runs a (execSlewComplete s) := by
  unfold execSlewComplete
  refine .next ?_
  split
  · exact h.setBit.upd.ite h
  · exact h

theorem execLeapSecond_runs (h : a.Keeps s) : Answer.Runs a (execLeapSecond s) := .next h.leapNow

theorem State.Keeps.reportCut {o tag : ℕ} {done : Bool} (h : a.Keeps s) : a.Keeps (s.reportCut o tag done) := h.upd.ite h.sendPeer

theorem State.Keeps.reportNoCuts (h : a.Keeps s) : a.Keeps s.reportNoCuts := h.ite (h.upd.foldl (fun _ _ h' => h'.reportCut))

theorem State.Keeps.freeCut {n : ℕ} {done : Bool} (h : a.Keeps s) : a.Keeps (s.freeCut n done) := by
  unfold State.freeCut
  split
  · exact h
  · exact h.reportCut.setFld.upd

theorem State.Keeps.missDue {n : ℕ} (h : a.Keeps s) : a.Keeps (s.missDue n) := by
  unfold State.missDue
  extract_lets t x t1 t2 t3
  have ht : a.Keeps t := h.schedMissed.schedAdvance
  have ht1 : a.Keeps t1 := ht.upd
  have ht2 : a.Keeps t2 := ht1.eventOnce
  have ht3 : a.Keeps t3 := ht2.event.ite ht2
  exact ht3.freeCut.ite ht3

theorem State.Keeps.schedEval {z0 n : ℕ} (h : a.Keeps s) : a.Keeps (State.schedEval z0 s n) :=
  (h.schedAdvance.ite ((h.defer.ite h).ite (h.missDue.ite (h.ite h.schedStart)))).ite h

theorem State.Keeps.tick (h : a.Keeps s) : a.Keeps s.tick :=
  ((h.upd.upd.foldl (fun _ _ h' => h'.recompute)).upd.countTick.foldl (fun _ _ h' => h'.schedEval)).reportNoCuts

theorem State.Keeps.ticks {n : ℕ} (h : a.Keeps s) : a.Keeps (State.ticks n s) := by
  induction n generalizing s with
  | zero => exact h
  | succ n ih => exact ih h.tick

theorem execScheduleTick_runs {n : ℕ} (h : a.Keeps s) : Answer.Runs a (execScheduleTick n s) := .next h.ticks

theorem execScheduleWindowMissed_runs {entry : ℕ} (h : a.Keeps s) : Answer.Runs a (execScheduleWindowMissed entry s) :=
  .below h (.next (h.missDue.ite h))

theorem execDeferredActionResume_runs {entry : ℕ} (h : a.Keeps s) : Answer.Runs a (execDeferredActionResume entry s) :=
  .below h (.next ((h.missDue.ite (h.ite h.schedStart)).ite h))

theorem State.Keeps.schedChanged {old : State} {n : ℕ} (_ : a.Keeps old) (hs : a.Keeps s) : a.Keeps (State.schedChanged old s n) :=
  hs.upd.saveTime.ite hs.upd

theorem State.Keeps.schedWrite {who : Requester} {n w : ℕ} {v : Word} (h : a.Keeps s) : a.Keeps (s.schedWrite who n w v) := by
  unfold State.schedWrite
  dsimp only
  refine .ite ?_ ?_
  · exact h
  · refine .ite ?_ ?_
    · exact (h.schedChanged h.setReg).ite h
    · refine .ite ?_ ?_
      · exact (h.schedChanged h.setReg).ite h
      · refine .ite ?_ ?_
        · exact h.upd
        · refine .ite ?_ ?_
          · refine .ite ?_ h
            refine .schedChanged h ?_
            refine .setReg ?_
            split
            · exact h.setReg.upd
            · exact h
          · exact h

theorem execSchedEntryWrite_runs {who : Requester} {entry word : ℕ} {v : Word} (h : a.Keeps s) : Answer.Runs a
    (execSchedEntryWrite who entry word v s) :=
  .below h (.below h (.next (h.asWriter (fun _ h' => h'.schedWrite))))

theorem execMeterMinuteClose_runs (h : a.Keeps s) : Answer.Runs a (execMeterMinuteClose s) := .runAction h (fun _ _ h' => h'.meterClose)

theorem execTimeSave_runs (h : a.Keeps s) : Answer.Runs a (execTimeSave s) := by
  unfold execTimeSave
  split
  next x x1 t e =>
    have ht : a.Keeps t := h.takeAction e
    exact .next ht.saveTime.endEntry
  · exact .next (h.saveTime.ite h)

/-! ### Machine/Media.lean -/

theorem State.Keeps.setChan {c : ℕ} {x : Chan} (h : a.Keeps s) : a.Keeps (s.setChan c x) := h.upd

theorem State.Keeps.setEntry {node : Bool} {i : ℕ} {e : MapEntry} (h : a.Keeps s) : a.Keeps (s.setEntry node i e) := h.upd.ite h.upd

theorem State.Keeps.setPlot {p : ℕ} {r : PlotRec} (h : a.Keeps s) : a.Keeps (s.setPlot p r) := h.upd

theorem State.Keeps.setPlotState {p x : ℕ} (h : a.Keeps s) : a.Keeps (s.setPlotState p x) := h.setPlot

theorem State.Keeps.setSpares {n : ℕ} (h : a.Keeps s) : a.Keeps (s.setSpares n) := h.setFld

theorem State.Keeps.setReady {n : ℕ} (h : a.Keeps s) : a.Keeps (s.setReady n) := h.setFld

theorem State.Keeps.markRebuild {p page sl : ℕ} (h : a.Keeps s) : a.Keeps (s.markRebuild p page sl) := h.ite (h.upd.ite h.upd.event)

theorem State.Keeps.markNext (h : a.Keeps s) : a.Keeps s.markNext := by
  unfold State.markNext
  split
  · exact h
  · exact h.upd.markRebuild

theorem State.Keeps.setMig {m : Migration} (h : a.Keeps s) : a.Keeps (s.setMig m) := h.upd

/-! ### Machine/Log.lean -/

theorem State.Keeps.submit {c : ℕ} {m : MCmd} (h : a.Keeps s) : a.Keeps (s.submit c m) := h.setChan

theorem State.Keeps.submitHead {c : ℕ} {m : MCmd} (h : a.Keeps s) : a.Keeps (s.submitHead c m) := h.setChan

theorem State.Keeps.erasePlot {p charge : ℕ} (h : a.Keeps s) : a.Keeps (s.erasePlot p charge) := h.upd.foldl (fun _ _ h' => h'.submit)

theorem State.Keeps.putLog {plot page sl : ℕ} {slot : List Byte} (h : a.Keeps s) : a.Keeps (s.putLog plot page sl slot) := h.ite h.submit

theorem State.Keeps.putLogParity {plot page : ℕ} {slots : List (List Byte)} (h : a.Keeps s) : a.Keeps (s.putLogParity plot page slots) :=
  h.foldl (fun _ _ h' => h'.putLog)

theorem State.Keeps.putLogPages {base n : ℕ} {slots : List (List Byte)} (h : a.Keeps s) : a.Keeps (s.putLogPages base n slots) :=
  (h.foldl (fun _ _ h' => h'.putLog)).foldl (fun _ _ h' => h'.putLogParity)

theorem State.Keeps.ringAppend {slot : List Byte} (h : a.Keeps s) : a.Keeps (s.ringAppend slot) := h.putLog.upd.ite h.putLog.upd.putLogParity

theorem State.Keeps.ringClose (h : a.Keeps s) : a.Keeps s.ringClose := h.ite h.upd.putLogParity

theorem State.Keeps.ringErase (h : a.Keeps s) : a.Keeps s.ringErase := h.ite h.erasePlot

theorem State.Keeps.ringPump (h : a.Keeps s) : a.Keeps s.ringPump :=
  ((h.foldl (fun _ _ h' => h'.ite h'.ringAppend.upd)).foldl (fun _ _ h' => h'.ite ((h'.foldl (fun _ _ h'1 => h'1.ringAppend)).upd))).ringErase

theorem State.Keeps.journal {r : JRec} (h : a.Keeps s) : a.Keeps (s.journal r) := h.upd.ringPump.countGlobal

theorem State.Keeps.anchorAppend {type : ℕ} {poison : Bool} {dom line : ℕ} {mask : BitVec 64} {data : List Byte} {ver : Version} (h : a.Keeps s) :
    a.Keeps (s.anchorAppend type poison dom line mask data ver) :=
  h.upd.setReg64.countGlobal.ringPump

theorem State.Keeps.journalFlags {node : Bool} {i : ℕ} {f : MapEntry → MapEntry} (h : a.Keeps s) : a.Keeps (s.journalFlags node i f) := h.journal

theorem State.Keeps.journalRetire {p cause : ℕ} (h : a.Keeps s) : a.Keeps (s.journalRetire p cause) := h.journal

theorem State.Keeps.journalPlot {p : ℕ} {f : PlotRec → PlotRec} (h : a.Keeps s) : a.Keeps (s.journalPlot p f) := h.journal

theorem State.Keeps.listSpare {p : ℕ} (h : a.Keeps s) : a.Keeps (s.listSpare p) := h.ite h.setPlot

theorem State.Keeps.takeSpare {high : Bool} {p : ℕ} (h : a.Keeps s) (e : s.takeSpare high = some (p, t)) : a.Keeps t := by
  unfold State.takeSpare at e
  split at e
  · cases e
  · dsimp only at e
    split at e
    · cases e; exact h.listSpare.setSpares.setReady
    · cases e; exact State.Keeps.setReady (.setSpares (.listSpare h.upd))
    · split at e
      · cases e; exact h.listSpare.setSpares.setReady
      · cases e; exact State.Keeps.setReady (.setSpares (.listSpare h.upd))
    · cases e

theorem State.Keeps.evictWear (h : a.Keeps s) : a.Keeps s.evictWear := by
  unfold State.evictWear
  refine .ite ?_ ?_
  · exact h
  · split
    next x x1 t e =>
    have ht : a.Keeps t := h.draw.snd e
    split
    · exact ht
    · exact ht.upd.journalPlot

theorem State.Keeps.sample {p n : ℕ} (h : a.Keeps s) : a.Keeps (s.sample p n) := h.upd.ite h.upd.evictWear

theorem State.Keeps.noteHot {p line : ℕ} (h : a.Keeps s) : a.Keeps (s.noteHot p line) := by
  unfold State.noteHot
  dsimp only
  refine .ite ?_ ?_
  · exact h.upd
  · split
    · exact h.upd
    · exact h.upd.ite h.upd.journalPlot

theorem State.Keeps.hotProgram {c : ℕ} {m : MCmd} (h : a.Keeps s) : a.Keeps (s.hotProgram c m) := by
  unfold State.hotProgram
  split
  · exact h.noteHot.ite h
  · exact h
  · exact h

/-! ### Machine/Channels.lean -/

theorem State.Keeps.noteWrite {p page : ℕ} (h : a.Keeps s) : a.Keeps (s.noteWrite p page) := h.upd

theorem State.Keeps.showSuspended {c : ℕ} (h : a.Keeps s) : a.Keeps (s.showSuspended c) := h.setFld

theorem State.Keeps.launch {c : ℕ} {m : MCmd} (h : a.Keeps s) : a.Keeps (s.launch c m) := by
  unfold State.launch
  split
  · exact h
  · exact (h.setChan.showSuspended.ite h.setChan).count

theorem State.Keeps.queueSuspends {c : ℕ} (h : a.Keeps s) : a.Keeps (s.queueSuspends c) := by
  unfold State.queueSuspends
  refine .foldl h ?_
  intro t x h'
  split
  · exact h'
  · exact h'.ite h'.submit

theorem State.Keeps.updCnt {d : ℕ} {f : DomCnt → DomCnt} (h : a.Keeps s) : a.Keeps (s.updCnt d f) := h.upd

theorem State.Keeps.setBucket {d : ℕ} {b : Bucket} (h : a.Keeps s) : a.Keeps (s.setBucket d b) := h.upd

theorem State.Keeps.charged {d c : ℕ} (h : a.Keeps s) : a.Keeps (s.charged d c) := h.updCnt

theorem State.Keeps.setBg {x : ℤ} (h : a.Keeps s) : a.Keeps (s.setBg x) := h.setReg

theorem State.Keeps.chargeBg {c : ℕ} (h : a.Keeps s) : a.Keeps (s.chargeBg c) := h.setBg

theorem State.Keeps.chargeFree {d c : ℕ} (h : a.Keeps s) : a.Keeps (s.chargeFree d c) := h.chargeBg.ite h.setBucket.charged

theorem State.Keeps.issued {c : ℕ} {m : MCmd} (h : a.Keeps s) : a.Keeps (s.issued c m) := by
  unfold State.issued
  dsimp only
  split
  · split
    · exact (h.sample.hotProgram.ite h).chargeFree
    · exact h.sample.hotProgram.ite h
  · exact h.sample.hotProgram.ite h
  · exact h.sample.hotProgram.ite h
  · exact h.sample.hotProgram.ite h
  · exact h.sample.hotProgram.ite h
  · exact h.sample.hotProgram.ite h
  · exact h.sample.hotProgram.ite h
  · exact h.sample.hotProgram.ite h
  · exact h.sample.hotProgram.ite h
  · exact ((h.sample.hotProgram.ite h).chargeBg).ite (h.sample.hotProgram.ite h)
  · exact ((h.sample.hotProgram.ite h).chargeBg).ite (h.sample.hotProgram.ite h)

theorem State.Keeps.slotOccupancy {chan : ℕ} (h : a.Keeps s) : a.Keeps (s.slotOccupancy chan) := h.count.count.count

theorem State.Keeps.slotStart {chan : ℕ} (h : a.Keeps s) : a.Keeps (s.slotStart chan) := h.slotOccupancy.queueSuspends.setChan

theorem State.Keeps.handOver {chan : ℕ} {m : MCmd} (h : a.Keeps s) : a.Keeps (s.handOver chan m) := h.launch.issued.setChan.setBit.slotCount

theorem State.Keeps.showGrant {chan i : ℕ} (h : a.Keeps s) : a.Keeps (s.showGrant chan i) := h.setFld.count

theorem State.Keeps.grant {chan i : ℕ} {m : MCmd} (h : a.Keeps s) : a.Keeps (s.grant chan i m) := h.showGrant.handOver

theorem State.Keeps.holdGrant {chan i eng : ℕ} (h : a.Keeps s) : a.Keeps (s.holdGrant chan i eng) := h.showGrant.setChan.setBit.slotCount

theorem State.Keeps.slotTurn {chan : ℕ} {hands : Bool} (h : a.Keeps s) : a.Keeps (s.slotTurn chan hands) := by
  unfold State.slotTurn
  split
  · split
    · exact h.handOver.ite h.slotCount
    · exact h.slotCount
  · split
    · exact h.grant.ite h.holdGrant
    · exact h.slotCount

theorem execIssueSlot_runs {slot : ArbSlot} (h : a.Keeps s) : Answer.Runs a (execIssueSlot slot s) :=
  .below h (.next ((h.slotStart.countGlobal.ite h.slotStart).slotTurn))

theorem execFlitPeriod_runs {chan : ℕ} (h : a.Keeps s) : Answer.Runs a (execFlitPeriod chan s) := .below h (.next (h.setChan.emit.ite h))

theorem State.Keeps.sendAck {c : ℕ} {replay : Bool} (h : a.Keeps s) : a.Keeps (s.sendAck c replay) := h.setChan

theorem State.Keeps.retrain {c : ℕ} (h : a.Keeps s) : a.Keeps (s.retrain c) := h.setChan.setChanState.event.ite h

theorem State.Keeps.replay {c mark : ℕ} (h : a.Keeps s) : a.Keeps (s.replay c mark) := by
  unfold State.replay
  dsimp only
  exact ((((h.setChan.foldl (fun _ _ h' => h'.emit)).bump).count).retrain).ite (((h.setChan.foldl (fun _ _ h' => h'.emit)).bump).count)

theorem State.Keeps.ackTaken {c nextSeq : ℕ} {replayRequest : Bool} (h : a.Keeps s) : a.Keeps (s.ackTaken c nextSeq replayRequest) :=
  h.setChan.replay.ite h.setChan

theorem execAckReceive_runs {chan nextSeq : ℕ} {replayRequest : Bool} (h : a.Keeps s) : Answer.Runs a (execAckReceive chan nextSeq replayRequest s) :=
  .below h (.next h.ackTaken)

theorem execAckTimer_runs {chan : ℕ} (h : a.Keeps s) : Answer.Runs a (execAckTimer chan s) := .below h (.next (h.sendAck.ite h))

theorem execReplayTimeout_runs {chan : ℕ} (h : a.Keeps s) : Answer.Runs a (execReplayTimeout chan s) := by
  unfold execReplayTimeout
  refine .below h ?_
  refine .next ?_
  split
  · exact h
  · exact h.replay

theorem execBlockLockLoss_runs {chan : ℕ} (h : a.Keeps s) : Answer.Runs a (execBlockLockLoss chan s) := .below h (.next h.retrain)

theorem State.Keeps.resetChannel {c cause : ℕ} (h : a.Keeps s) : a.Keeps (s.resetChannel c cause) := by
  unfold State.resetChannel
  dsimp only
  exact (((((h.setChan.setChanState.setFld.bump.bump.ite h.setChan.setChanState.setFld.bump).setFld).setBit).emit).count).event

/-! ### Machine/Gorse.lean -/

theorem State.Keeps.makeKeys {d : ℕ} {gen : Bool} (h : a.Keeps s) : a.Keeps (s.makeKeys d gen) := h.upd

theorem State.Keeps.zeroKeys {d : ℕ} {gen : Bool} (h : a.Keeps s) : a.Keeps (s.zeroKeys d gen) := h.upd

theorem State.Keeps.setNode {level i : ℕ} {n : Node} (h : a.Keeps s) : a.Keeps (s.setNode level i n) := h.upd

theorem State.Keeps.raiseParent {level i : ℕ} {v : Version} {sl : List Byte} (h : a.Keeps s) : a.Keeps (s.raiseParent level i v sl) := h.ite h.setNode

theorem State.Keeps.alarmPending {d : ℕ} (h : a.Keeps s) : a.Keeps (s.alarmPending d) := (h.ite h.emit).setBit.setFld

theorem State.Keeps.alarm {d line code : ℕ} (h : a.Keeps s) : a.Keeps (s.alarm d line code) :=
  h.bump.bump.alarmPending.upd.event.persistFld.meter.bump.event.ite h.bump.bump.alarmPending.upd.event

theorem State.Keeps.loseSubtree {level i : ℕ} (h : a.Keeps s) : a.Keeps (s.loseSubtree level i) := h.ite h.upd.event

theorem State.Keeps.dirtyLeaf {i : ℕ} {n : Node} (h : a.Keeps s) : a.Keeps (s.dirtyLeaf i n) := by
  unfold State.dirtyLeaf
  split
  · exact h.upd
  · exact h.upd

theorem State.Keeps.showRegrafts (h : a.Keeps s) : a.Keeps s.showRegrafts := h.setFld

theorem State.Keeps.startRegraft {level i : ℕ} {bad : List ℕ} (h : a.Keeps s) : a.Keeps (s.startRegraft level i bad) :=
  h.ite h.upd.bump.showRegrafts.count

theorem State.Keeps.advanceMinor {level a' i : ℕ} (h : a.Keeps s) : a.Keeps (s.advanceMinor level a' i) := h.setNode

theorem State.Keeps.setRegraft {r : Regraft} (h : a.Keeps s) : a.Keeps (s.setRegraft r) := h.upd

theorem State.Keeps.clearSeed {i : ℕ} (h : a.Keeps s) : a.Keeps (s.clearSeed i) := h.journal.bump.count.dirtyLeaf

theorem State.Keeps.clearPlots {p n : ℕ} (h : a.Keeps s) : a.Keeps (s.clearPlots p n) := h.foldl (fun _ _ h' => h'.clearSeed)

theorem State.Keeps.poisonSeed {level i : ℕ} (h : a.Keeps s) : a.Keeps (s.poisonSeed level i) :=
  h.event.ite ((h.advanceTo.journal.foldl (fun _ _ h' => h'.foldl (fun _ _ h'1 => h'1.dirtyLeaf.ite h'1.setNode))).upd.bump.count.event)

/-! ### Machine/WriteBuf.lean -/

theorem State.Keeps.setFrame {set way : ℕ} {f : Frame} (h : a.Keeps s) : a.Keeps (s.setFrame set way f) := h.upd

theorem State.Keeps.freeFrame {set way : ℕ} (h : a.Keeps s) : a.Keeps (s.freeFrame set way) := h.upd

theorem State.Keeps.mergeWrite {line dom : ℕ} {data : List Byte} {mask : BitVec 64} {poison anchor : Bool} (h : a.Keeps s) : a.Keeps
    (s.mergeWrite line dom data mask poison anchor) := by
  unfold State.mergeWrite
  dsimp only
  split
  · split
    · exact h
    · exact h.setFrame.count
  · split
    · exact h
    · exact h.upd.setFrame.count

theorem State.Keeps.readFrame {set way line : ℕ} (h : a.Keeps s) : a.Keeps (s.readFrame set way line) := by
  unfold State.readFrame
  split
  · exact h
  · exact h.setFrame.event.ite h.setFrame

theorem State.Keeps.readLine {line : ℕ} (h : a.Keeps s) : a.Keeps (s.readLine line) := by
  unfold State.readLine
  dsimp only
  split
  · refine .readFrame ?_
    split
    · exact h.readFrame
    · exact h
  · split
    · exact h.readFrame
    · exact h

/-! ### Machine/Rick.lean -/

theorem State.Keeps.setRegs {o : ℕ} {ws : List Word} (h : a.Keeps s) : a.Keeps (s.setRegs o ws) := by
  induction ws generalizing s o with
  | nil => exact h
  | cons w ws ih => exact ih h.setReg

theorem State.Keeps.partition (h : a.Keeps s) : a.Keeps s.partition := h.upd.setRegs.setReg

theorem State.Keeps.setLine {set way : ℕ} {l : CLine} (h : a.Keeps s) : a.Keeps (s.setLine set way l) := h.upd

theorem State.Keeps.delLine {set way : ℕ} (h : a.Keeps s) : a.Keeps (s.delLine set way) := h.upd

theorem State.Keeps.touch {set w : ℕ} (h : a.Keeps s) : a.Keeps (s.touch set w) := h.upd

theorem State.Keeps.place_ {set w : ℕ} {l : CLine} (h : a.Keeps s) : a.Keeps (s.place_ set w l) := h.setLine.touch.count

theorem State.Keeps.installNew {l : CLine} {mask : ℕ} (h : a.Keeps s) : a.Keeps (s.installNew l mask).2 := by
  unfold State.installNew
  dsimp only
  split
  · exact h.place_.pair
  · split
    · exact h.bump.count.pair
    · split
      · exact h.place_.pair
      · exact State.Keeps.ite_snd h.bump.count.pair h.upd.count.place_.pair

theorem State.Keeps.install {isNode : Bool} {num : ℕ} {data : List Byte} {mask : ℕ} (h : a.Keeps s) : a.Keeps (s.install isNode num data mask) := by
  unfold State.install
  refine .ite ?_ ?_
  · exact h
  · split
    · exact h.setLine
    · exact h.installNew

theorem State.Keeps.reinstate {e : EvLine} {mask : ℕ} {pin : Bool} (h : a.Keeps s) : a.Keeps (s.reinstate e mask pin) := by
  unfold State.reinstate
  dsimp only
  split
  · exact h.upd.count.place_.installNew.ite h.upd.count.installNew
  · exact h.upd.count.installNew

theorem State.Keeps.setAft {set : ℕ} {ls : List CLine} (h : a.Keeps s) : a.Keeps (s.setAft set ls) := h.upd

theorem State.Keeps.dropAft {isNode : Bool} {num : ℕ} (h : a.Keeps s) : a.Keeps (s.dropAft isNode num) := h.setAft

theorem State.Keeps.recall {l : CLine} {mask : ℕ} (h : a.Keeps s) : a.Keeps (s.recall l mask) := by
  unfold State.recall
  dsimp only
  exact h.bump.count.ite (h.bump.count.dropAft.installNew.ite h.bump.count.dropAft.installNew.upd)

theorem State.Keeps.lookup {isNode : Bool} {num mask : ℕ} (h : a.Keeps s) : a.Keeps (s.lookup isNode num mask).2 := by
  unfold State.lookup
  dsimp only
  split
  · split
    · exact h.count.touch.count.pair
    · exact h.count.pair
  · split
    · exact ((h.count.reinstate.ite h.count).count).pair
    · split
      · exact h.count.recall.count.pair
      · exact h.count.pair

theorem State.Keeps.cacheWrite {line : ℕ} {data : List Byte} {mask : BitVec 64} (h : a.Keeps s) : a.Keeps (s.cacheWrite line data mask) :=
  h.upd.setAft.count.ite h.upd.setAft

theorem State.Keeps.cacheDrop {isNode : Bool} {num : ℕ} (h : a.Keeps s) : a.Keeps (s.cacheDrop isNode num) := by
  unfold State.cacheDrop
  dsimp only
  refine .dropAft ?_
  refine .upd ?_
  split
  · exact h.delLine
  · exact h

theorem State.Keeps.cacheDropIf {p : CLine → Bool} (h : a.Keeps s) : a.Keeps (s.cacheDropIf p) := h.upd

theorem State.Keeps.emptyCache {salt : Bool} (h : a.Keeps s) : a.Keeps (s.emptyCache salt) := by
  unfold State.emptyCache
  have h1 : a.Keeps (if salt then { s.draw.2 with rk := { s.draw.2.rk with salt := s.draw.1 } } else s) := .ite h.draw.upd h
  exact h1.upd

theorem State.Keeps.evbWrite (h : a.Keeps s) : a.Keeps s.evbWrite := by
  unfold State.evbWrite
  split
  · exact h
  · exact h.upd.setAft.ite h.upd

theorem State.Keeps.perrCount {n : ℕ} (h : a.Keeps s) : a.Keeps (s.perrCount n) := h.bump.count.ite h

theorem State.Keeps.perrGood (h : a.Keeps s) : a.Keeps s.perrGood := h.upd

theorem State.Keeps.loseFrame {line : ℕ} (h : a.Keeps s) : a.Keeps (s.loseFrame line) := by
  unfold State.loseFrame
  dsimp only
  split
  · exact h.draw
  · exact h.draw.freeFrame.upd.event

theorem State.Keeps.loseLeaf {line : ℕ} (h : a.Keeps s) : a.Keeps (s.loseLeaf line) := h.event.loseSubtree.upd

theorem State.Keeps.perrCopy {n : ℕ} (h : a.Keeps s) : a.Keeps (s.perrCopy n) := h.perrGood.eventOnce

theorem State.Keeps.perrSingle (h : a.Keeps s) : a.Keeps s.perrSingle := h.perrGood.eventOnce

theorem State.Keeps.perrWay {line : ℕ} (h : a.Keeps s) : a.Keeps (s.perrWay line) := by
  unfold State.perrWay
  split
  · exact h.delLine
  · exact h

theorem State.Keeps.poisonFrame {line d : ℕ} (h : a.Keeps s) : a.Keeps (s.poisonFrame line d) := by
  unfold State.poisonFrame
  split
  · exact h
  · refine .event ?_
    split
    · exact h.setFrame
    · exact h

theorem State.Keeps.zeroGuard {d : ℕ} (h : a.Keeps s) : a.Keeps (s.zeroGuard d) := h.upd

theorem State.Keeps.discardSample {daily : Bool} {c h' : ℕ} (h : a.Keeps s) : a.Keeps (s.discardSample daily c h') := h.upd.ite h.upd

theorem State.Keeps.fillFilterWord {older : Bool} {b : ℕ} (h : a.Keeps s) : a.Keeps (s.fillFilterWord older b) := h.upd

theorem State.Keeps.foldDamaged {p : ℕ} (h : a.Keeps s) : a.Keeps (s.foldDamaged p) := by
  unfold State.foldDamaged
  exact h.upd.journalPlot

theorem State.Keeps.rickError {p : Perr} {line d : ℕ} (h : a.Keeps s) : a.Keeps (s.rickError p line d) := by
  unfold State.rickError
  dsimp only
  split
  · exact h
  · exact h.perrCount.perrGood.event
  · exact h.perrCount.perrGood.event
  · exact h.perrCount.perrGood.event
  · exact h.perrCount.perrCopy
  · exact h.perrCount.perrCopy
  · exact h.perrCount.perrGood.markRebuild
  · exact h.perrCount.draw.upd.event
  · exact h.perrCount.perrGood.dropAft.eventOnce
  · exact h.perrCount.perrCopy
  · exact h.perrCount.perrGood.perrWay.upd.eventOnce
  · exact h.perrCount.perrGood.perrWay.eventOnce
  · exact h
  · exact h.perrCount.eventOnce.loseLeaf
  · exact h.perrCount.eventOnce.poisonFrame
  · exact h.perrCount.eventOnce.loseFrame
  · exact h.perrCount
  · split
    · exact h.perrCount.perrCopy.ite h.perrCount.eventOnce.loseFrame
    · exact h.perrCount.perrCopy.ite h.perrCount.eventOnce.loseLeaf
    · exact h.perrCount.perrCopy.ite h.perrCount.eventOnce.zeroGuard.eventOnce
    · exact h.perrCount.perrSingle
    · exact h.perrCount.discardSample.perrSingle
    · exact h.perrCount.fillFilterWord.perrSingle
    · exact h.perrCount.foldDamaged.perrSingle
    · exact h.perrCount.upd.perrSingle
    · exact h.perrCount.upd.perrSingle

theorem State.Keeps.commonsRefuse {w : Requester} {write : Bool} (h : a.Keeps s) : a.Keeps (s.commonsRefuse w write) :=
  (h.emit.ite h).ite (h.emit.ite h).emit

theorem execCommonsDisallowedAccess_runs {who : Requester} {off : ℕ} {write : Bool} (h : a.Keeps s) : Answer.Runs a
    (execCommonsDisallowedAccess who off write s) :=
  .next (h.ite h.commonsRefuse)

theorem execCommonsWrite_runs {who : Requester} {off : ℕ} {bytes : List Byte} (h : a.Keeps s) : Answer.Runs a (execCommonsWrite who off bytes s) := by
  refine .next (.ite ?_ h.commonsRefuse)
  exact State.Keeps.upd (h.commons fun hs => Memory.writeBytes_wf _ _ off hs.2.1)

/-! ### Machine/Read.lean -/

theorem State.Keeps.guard {d cls cause lat chan : ℕ} {step4 : Bool} (h : a.Keeps s) : a.Keeps (s.guard d cls cause lat chan step4) := by
  unfold State.guard
  dsimp only
  exact (((((h.updCnt.meter.bump.ite h.updCnt.meter.bump).ite h.updCnt.meter).eventOnce).ite
      ((h.updCnt.meter.bump.ite h.updCnt.meter.bump).ite h.updCnt.meter)).eventOnce).ite
      ((((h.updCnt.meter.bump.ite h.updCnt.meter.bump).ite h.updCnt.meter).eventOnce).ite
      ((h.updCnt.meter.bump.ite h.updCnt.meter.bump).ite h.updCnt.meter))

theorem State.Keeps.setReq {r : Req} (h : a.Keeps s) : a.Keeps (s.setReq r) := h.upd

theorem State.Keeps.dropReq {id : ℕ} (h : a.Keeps s) : a.Keeps (s.dropReq id) := h.upd

theorem State.Keeps.poisonList {ld dpa : ℕ} (h : a.Keeps s) : a.Keeps (s.poisonList ld dpa) := h.ite (h.setLd.ite h.setLd)

theorem State.Keeps.respond {r : Req} {dom : Option ℕ} {data : List Byte} {poison : Bool} (h : a.Keeps s) : a.Keeps (s.respond r dom data poison) :=
  h.dropReq.emit.count.count.bump.count.poisonList.ite h.dropReq.emit.count.count

theorem State.Keeps.completeRead {r : Req} {data : List Byte} {poison : Bool} {cls cause lat chan : ℕ} {step4 : Bool} (h : a.Keeps s) : a.Keeps
    (s.completeRead r data poison cls cause lat chan step4) :=
  (h.respond.meter.updCnt.setReg64.guard.count.count.count.ite h.respond.meter.updCnt.setReg64.guard.count.count).pmComplete

theorem State.Keeps.gpfCheck (h : a.Keeps s) : a.Keeps s.gpfCheck := h.upd.foldl (fun _ _ h' => h'.emit)

theorem State.Keeps.completeWrite {r : Req} {dom : Option ℕ} (h : a.Keeps s) : a.Keeps (s.completeWrite r dom) :=
  h.dropReq.emit.count.pmComplete.gpfCheck

theorem State.Keeps.setFetch {f : Fetch} (h : a.Keeps s) : a.Keeps (s.setFetch f) := h.upd

theorem State.Keeps.dropFetch {id : ℕ} (h : a.Keeps s) : a.Keeps (s.dropFetch id) := h.upd

theorem State.Keeps.setJob {j : Job} (h : a.Keeps s) : a.Keeps (s.setJob j) := h.upd

theorem State.Keeps.dropJob {id : ℕ} (h : a.Keeps s) : a.Keeps (s.dropJob id) := h.upd

theorem State.Keeps.newJob {kind : JobKind} {plot page : ℕ} (h : a.Keeps s) : a.Keeps (s.newJob kind plot page).2 := h.upd.pair

theorem State.Keeps.jobReadAs {j p page sl item eng tier : ℕ} {node : Bool} {e : MapEntry} (h : a.Keeps s) : a.Keeps
    (s.jobReadAs j p page sl item eng tier node e) := by
  unfold State.jobReadAs
  split
  · exact h
  · split
    · split
      · exact h.setJob
      · exact h.setJob.submit

theorem State.Keeps.jobRead {j p page sl eng tier : ℕ} {node : Bool} {e : MapEntry} (h : a.Keeps s) : a.Keeps (s.jobRead j p page sl eng tier node e)
    :=
  h.jobReadAs

theorem State.Keeps.stepFourReads {j p page eng tier : ℕ} {e : MapEntry} {ks : List ℕ} (h : a.Keeps s) : a.Keeps
    (s.stepFourReads j p page eng tier e ks) := by
  unfold State.stepFourReads
  refine .foldl h ?_
  intro t x h'
  split
  · exact h'
  · split
    · split
      · exact h'.setJob
      · exact h'.setJob.submitHead

theorem State.Keeps.looseProgram {p page sl : ℕ} {slot : List Byte} {eng : ℕ} (h : a.Keeps s) : a.Keeps (s.looseProgram p page sl slot eng) := by
  unfold State.looseProgram
  split
  · refine .ite ?_ ?_
    · exact h
    · split
      next x3 x4 t e1 =>
      have ht : a.Keeps t := h.newJob.snd e1
      dsimp only
      refine .submit ?_
      split
      · exact ht.setJob
      · exact ht

theorem State.Keeps.requeue {p page sl : ℕ} (h : a.Keeps s) : a.Keeps (s.requeue p page sl) := h.ite (h.upd.ite ((h.ite h.upd).event))

theorem State.Keeps.ladderCount {c k : ℕ} (h : a.Keeps s) : a.Keeps (s.ladderCount c k) := h.count.ite (h.count.setReg64.upd.ite h.count.setReg64)

theorem State.Keeps.nodeRead {f : Fetch} {level copy : ℕ} {head : Bool} (h : a.Keeps s) : a.Keeps (s.nodeRead f level copy head) :=
  h.count.submitHead.ite h.count.submit

theorem State.Keeps.stepFour {f : Fetch} (h : a.Keeps s) : a.Keeps (s.stepFour f) := h.upd.setFetch.count.stepFourReads

theorem State.Keeps.notePoison {p page sl : ℕ} {d : Option ℕ} (h : a.Keeps s) : a.Keeps (s.notePoison p page sl d) := h.ladderCount.event

theorem State.Keeps.poisonInPlace {p page sl : ℕ} (h : a.Keeps s) : a.Keeps (s.poisonInPlace p page sl) := h.ite h.markRebuild.looseProgram

theorem State.Keeps.noteRebuilt {p page sl : ℕ} (h : a.Keeps s) : a.Keeps (s.noteRebuilt p page sl) := h.ladderCount.ite h.ladderCount.eventOnce

theorem State.Keeps.rebuiltInPlace {p page sl : ℕ} {b : List Byte} (h : a.Keeps s) : a.Keeps (s.rebuiltInPlace p page sl b) := h.ite h.looseProgram

theorem State.Keeps.fetchPoison {f : Fetch} (h : a.Keeps s) : a.Keeps (s.fetchPoison f) := (h.notePoison.poisonInPlace.ite h.notePoison).setFetch

theorem State.Keeps.fetchLast {f : Fetch} (h : a.Keeps s) : a.Keeps (s.fetchLast f) := h.fetchPoison.ite h.stepFour

theorem State.Keeps.startFetch {use : FetchFor} {line d cls tier eng cause : ℕ} {reqs : List ℕ} (h : a.Keeps s) : a.Keeps
    (s.startFetch use line d cls tier eng cause reqs) := by
  unfold State.startFetch
  dsimp only
  split
  · exact ((((State.Keeps.ite_snd h.pair h.lookup).lookup).upd).ite ((((State.Keeps.ite_snd h.pair h.lookup).lookup).upd).nodeRead)).ite
      (((((State.Keeps.ite_snd h.pair h.lookup).lookup).upd).ite ((((State.Keeps.ite_snd h.pair h.lookup).lookup).upd).nodeRead)).nodeRead)
  · exact (((((State.Keeps.ite_snd h.pair h.lookup).lookup).upd).ite ((((State.Keeps.ite_snd h.pair h.lookup).lookup).upd).nodeRead)).ite
      (((((State.Keeps.ite_snd h.pair h.lookup).lookup).upd).ite ((((State.Keeps.ite_snd h.pair h.lookup).lookup).upd).nodeRead)).nodeRead)).submit
  · refine .ite ?_ ?_
    · split
      · exact ((((((State.Keeps.ite_snd h.pair h.lookup).lookup).upd).ite ((((State.Keeps.ite_snd h.pair h.lookup).lookup).upd).nodeRead)).ite
          (((((State.Keeps.ite_snd h.pair h.lookup).lookup).upd).ite
          ((((State.Keeps.ite_snd h.pair h.lookup).lookup).upd).nodeRead)).nodeRead)).count).fetchLast
      · exact (((((State.Keeps.ite_snd h.pair h.lookup).lookup).upd).ite ((((State.Keeps.ite_snd h.pair h.lookup).lookup).upd).nodeRead)).ite
          (((((State.Keeps.ite_snd h.pair h.lookup).lookup).upd).ite ((((State.Keeps.ite_snd h.pair h.lookup).lookup).upd).nodeRead)).nodeRead)).count
    · split
      · split
        · exact ((((((State.Keeps.ite_snd h.pair h.lookup).lookup).upd).ite ((((State.Keeps.ite_snd h.pair h.lookup).lookup).upd).nodeRead)).ite
            (((((State.Keeps.ite_snd h.pair h.lookup).lookup).upd).ite
            ((((State.Keeps.ite_snd h.pair h.lookup).lookup).upd).nodeRead)).nodeRead)).count).setFetch
        · exact (((((State.Keeps.ite_snd h.pair h.lookup).lookup).upd).ite ((((State.Keeps.ite_snd h.pair h.lookup).lookup).upd).nodeRead)).ite
            (((((State.Keeps.ite_snd h.pair h.lookup).lookup).upd).ite
            ((((State.Keeps.ite_snd h.pair h.lookup).lookup).upd).nodeRead)).nodeRead)).count
      · exact ((((((State.Keeps.ite_snd h.pair h.lookup).lookup).upd).ite ((((State.Keeps.ite_snd h.pair h.lookup).lookup).upd).nodeRead)).ite
          (((((State.Keeps.ite_snd h.pair h.lookup).lookup).upd).ite
          ((((State.Keeps.ite_snd h.pair h.lookup).lookup).upd).nodeRead)).nodeRead)).count).submit

theorem State.Keeps.noFill {isNode : Bool} {num : ℕ} (h : a.Keeps s) : a.Keeps (s.noFill isNode num) := h.upd

theorem State.Keeps.maintEnd {status : ℕ} (h : a.Keeps s) : a.Keeps (s.maintEnd status) := h.upd.setFld.setBit

theorem State.Keeps.maintNext {m : Maint} (h : a.Keeps s) : a.Keeps (s.maintNext m) := h.bump.maintEnd.ite h.bump.upd

theorem State.Keeps.markPinned {isNode : Bool} {num : ℕ} {v : Bool} (h : a.Keeps s) : a.Keeps (s.markPinned isNode num v) := by
  unfold State.markPinned
  dsimp only
  split
  · split
    · exact h.setLine
    · exact h
  · exact h

theorem State.Keeps.pinInstall {m : Maint} {data : List Byte} (h : a.Keeps s) : a.Keeps (s.pinInstall m data) := by
  unfold State.pinInstall
  dsimp only
  exact h.installNew.maintNext.ite h.installNew.upd

theorem State.Keeps.pinKey {m : Maint} (h : a.Keeps s) : a.Keeps (s.pinKey m) := by
  unfold State.pinKey
  refine .ite ?_ ?_
  · exact h.maintEnd
  · refine .ite ?_ ?_
    · exact h.upd
    · split
      · exact h.maintNext.ite (h.maintEnd.ite h.markPinned.maintNext)
      · refine .ite ?_ ?_
        · exact h.maintEnd
        · refine .ite ?_ ?_
          · exact h.maintEnd
          · split
            · exact h.reinstate.maintNext
            · split
              · exact h.pinInstall.ite h.pinInstall.dropAft.bump
              · exact h.upd

theorem State.Keeps.probe {isNode : Bool} {num : ℕ} (h : a.Keeps s) : a.Keeps (s.probe isNode num) := by
  unfold State.probe
  dsimp only
  split
  · exact h.setFld.setFld.setBit.setBit
  · exact h.setFld.setFld.setBit.setBit.ite (h.draw.setFld.setFld.setBit.setBit.ite h.setFld.setFld.setBit.setBit)

theorem State.Keeps.maintRun {n : ℕ} (h : a.Keeps s) : a.Keeps (State.maintRun n s) := by
  induction n generalizing s with
  | zero => exact h
  | succ n ih =>
    unfold State.maintRun
    split
    · exact h
    · exact h.ite (h.maintEnd.ite (h.probe.maintNext.ite ((h.noFill.upd.ite (ih h.cacheDrop.maintNext)).ite
        ((ih h.pinKey).ite (ih h.markPinned.maintNext)))))

theorem State.Keeps.maintGo {op key count : ℕ} (h : a.Keeps s) : a.Keeps (s.maintGo op key count) :=
  h.setBit.ite (h.setReg.ite h.setReg.setBit.setFld.upd.maintRun)

theorem State.Keeps.maintResume (h : a.Keeps s) : a.Keeps s.maintResume := by
  unfold State.maintResume
  split
  · exact h
  · exact h.upd.maintRun.ite h

theorem State.Keeps.nodeVerified {level i : ℕ} {n : Node} {noAlloc : Bool} (h : a.Keeps s) : a.Keeps (s.nodeVerified level i n noAlloc) :=
  h.setNode.count.ite h.setNode.count.install

theorem State.Keeps.nodeFailed {f : Fetch} {level copy : ℕ} (h : a.Keeps s) : a.Keeps (s.nodeFailed f level copy) :=
  h.setFetch.ite h.setFetch.nodeRead

theorem State.Keeps.copyRepaired {level i : ℕ} (h : a.Keeps s) : a.Keeps (s.copyRepaired level i) := h.event.bump.count

theorem State.Keeps.repairCopy {level i copy : ℕ} {slot : List Byte} (h : a.Keeps s) : a.Keeps (s.repairCopy level i copy slot) := by
  unfold State.repairCopy
  dsimp only
  refine .ite ?_ ?_
  · exact h.copyRepaired
  · refine .submit ?_
    split
    · exact h.copyRepaired.newJob.setJob
    · exact h.copyRepaired.newJob

theorem State.Keeps.settleNode {f : Fetch} {level : ℕ} (h : a.Keeps s) : a.Keeps (s.settleNode f level) := by
  unfold State.settleNode
  split
  · dsimp only
    split
    · exact (h.raiseParent.nodeVerified.repairCopy.ite h.raiseParent.nodeVerified).setFetch
    · exact h.nodeFailed
  · exact h
  · exact h
  · exact h

theorem State.Keeps.badTag {d line : ℕ} (h : a.Keeps s) : a.Keeps (s.badTag d line) := h.event.ite (h.eventOnce.ite h.alarm)

theorem State.Keeps.fetchLine {f : Fetch} (h : a.Keeps s) : a.Keeps (s.fetchLine f).2 := by
  unfold State.fetchLine
  dsimp only
  split
  · refine .ite_snd ?_ ?_
    · exact h.pair
    · refine .ite_snd ?_ ?_
      · exact h.alarm.pair
      · split
        · exact (h.count.ite h.count.count).pair
        · exact h.count.count.badTag.pair
  · exact h.loseSubtree.alarm.pair
  · exact h.loseSubtree.alarm.pair
  · exact h.pair

theorem State.Keeps.deliver {f : Fetch} {data : List Byte} {poison : Bool} {ids : List ℕ} {lat : ℕ} (h : a.Keeps s) :
    a.Keeps (State.deliver f data poison s ids lat) := by
  induction ids generalizing s lat with
  | nil => exact h
  | cons id ids ih =>
    unfold State.deliver
    refine ih (State.Keeps.draw ?_)
    split
    · exact h.completeRead
    · exact h

theorem State.Keeps.pinNodeDone {f : Fetch} {level : ℕ} (h : a.Keeps s) : a.Keeps (s.pinNodeDone f level) := by
  unfold State.pinNodeDone
  dsimp only
  split
  · exact (((h.loseSubtree.ite h).maintEnd).ite ((((h.loseSubtree.ite h).upd).maintRun).ite (((h.loseSubtree.ite h).pinInstall).maintRun))).ite
      (h.loseSubtree.ite h)
  · exact h.loseSubtree.ite h

theorem State.Keeps.fetchTry {id lat : ℕ} (h : a.Keeps s) : a.Keeps (s.fetchTry id lat) := by
  unfold State.fetchTry
  split
  · exact h
  · refine .ite ?_ ?_
    · exact h
    · dsimp only
      split
      · exact h.settleNode
      · refine .ite ?_ ?_
        · exact h.settleNode
        · split
          · exact h.settleNode.settleNode
          · refine .ite ?_ ?_
            · exact h.settleNode.settleNode
            · split
              · exact h.settleNode.settleNode.dropFetch.pinNodeDone.maintResume
              · refine .maintResume ?_
                split
                · exact (h.settleNode.settleNode.fetchLine.readLine.dropFetch.ite
                    h.settleNode.settleNode.fetchLine.readLine.dropFetch.install).deliver
                · exact h.settleNode.settleNode.fetchLine.readLine.dropFetch
                · split
                  · exact (h.settleNode.settleNode.fetchLine.readLine.dropFetch.deliver.maintEnd.ite
                      h.settleNode.settleNode.fetchLine.readLine.dropFetch.deliver.pinInstall.maintRun).ite
                      h.settleNode.settleNode.fetchLine.readLine.dropFetch.deliver
                  · exact h.settleNode.settleNode.fetchLine.readLine.dropFetch.deliver
                · exact h.settleNode.settleNode.fetchLine.readLine.dropFetch.deliver.resyncSend
                · exact h.settleNode.settleNode.fetchLine.readLine.dropFetch.resyncSend
                · exact h.settleNode.settleNode.fetchLine.readLine.dropFetch.deliver.setLd.ite
                    h.settleNode.settleNode.fetchLine.readLine.dropFetch.deliver

theorem State.Keeps.solve {j : Job} {sl : ℕ} (h : a.Keeps s) : a.Keeps (s.solve j sl).2 := by
  unfold State.solve
  split
  · exact h.pair
  · exact (h.ite h.event).pair

theorem State.Keeps.reconDone {j : Job} {fid lat : ℕ} (h : a.Keeps s) : a.Keeps (s.reconDone j fid lat) := by
  unfold State.reconDone
  dsimp only
  split
  · exact h.dropJob
  · split
    · exact h.dropJob.solve.noteRebuilt.rebuiltInPlace.setFetch.fetchTry
    · exact h.dropJob.solve.fetchPoison.fetchTry

theorem State.Keeps.reconPump {fid lat : ℕ} (h : a.Keeps s) : a.Keeps (s.reconPump fid lat) := by
  unfold State.reconPump
  split
  · exact h.reconDone
  · exact h

theorem State.Keeps.fetchNow {use : FetchFor} {line d cls tier eng cause : ℕ} {reqs : List ℕ} (h : a.Keeps s) : a.Keeps
    (s.fetchNow use line d cls tier eng cause reqs) :=
  h.startFetch.upd.reconPump.fetchTry

theorem State.Keeps.fetchHeld {line d phys epoch : ℕ} {n : Node} (h : a.Keeps s) : a.Keeps (s.fetchHeld line d phys epoch n) := by
  unfold State.fetchHeld
  dsimp only
  refine .fetchTry ?_
  refine .reconPump ?_
  refine .draw ?_
  refine .ite ?_ ?_
  · exact h.upd.fetchLast
  · split
    · exact h.upd.setFetch
    · exact h.upd.submit

theorem State.Keeps.maintPump {n : ℕ} (h : a.Keeps s) : a.Keeps (State.maintPump n s) := by
  induction n generalizing s with
  | zero => exact h
  | succ n ih =>
    unfold State.maintPump
    split
    · exact h
    · exact .ite (ih (State.Keeps.fetchNow h.upd)) h

theorem State.Keeps.fetchNote {id c : ℕ} {m : Meas} (h : a.Keeps s) : a.Keeps (s.fetchNote id c m) := by
  unfold State.fetchNote
  split
  · exact h.setFetch
  · exact h

theorem State.Keeps.fetchSlot {id : ℕ} {role : Role} {c k : ℕ} {b : List Byte} {m : Meas} (h : a.Keeps s) : a.Keeps (s.fetchSlot id role c k b m) :=
    by
  unfold State.fetchSlot
  dsimp only
  split
  · exact h.fetchNote
  · split
    · exact ((h.fetchNote.ladderCount.requeue.ite h.fetchNote.ladderCount).setFetch).fetchTry
    · exact h.fetchNote.setFetch.fetchTry
    · exact h.fetchNote.setFetch.fetchTry

theorem State.Keeps.fetchMiss {id : ℕ} {role : Role} {c : ℕ} {out : Bool} {m : Meas} (h : a.Keeps s) : a.Keeps (s.fetchMiss id role c out m) := by
  unfold State.fetchMiss
  dsimp only
  split
  · exact h.fetchNote
  · split
    · exact h.fetchNote.setFetch.fetchLast.reconPump.fetchTry
    · exact h.fetchNote.nodeFailed.fetchTry
    · exact h.fetchNote.nodeFailed.fetchTry

theorem State.Keeps.maintRow {op : ℕ} (h : a.Keeps s) : a.Keeps (s.maintRow op) := h.ite h.setFld.maintGo.maintPump

theorem execEvictionBufferWrite_runs (h : a.Keeps s) : Answer.Runs a (execEvictionBufferWrite s) := by
  unfold execEvictionBufferWrite
  dsimp only
  refine .next ?_
  split
  · exact h.evbWrite.upd.maintResume.maintPump.ite h.evbWrite
  · exact h.evbWrite

theorem execMaintNone_runs (h : a.Keeps s) : Answer.Runs a (execMaintNone s) := .next h.maintRow

theorem execMaintProbe_runs (h : a.Keeps s) : Answer.Runs a (execMaintProbe s) := .next h.maintRow

theorem execMaintInvalidate_runs (h : a.Keeps s) : Answer.Runs a (execMaintInvalidate s) := .next h.maintRow

theorem execMaintPin_runs (h : a.Keeps s) : Answer.Runs a (execMaintPin s) := .next h.maintRow

theorem execMaintUnpin_runs (h : a.Keeps s) : Answer.Runs a (execMaintUnpin s) := .next h.maintRow

theorem State.Keeps.guardSel {v : Word} (h : a.Keeps s) : a.Keeps (s.guardSel v) := h.setReg.upd

theorem execRpGuardSelWrite_runs {who : Requester} {v : Word} (h : a.Keeps s) : Answer.Runs a (execRpGuardSelWrite who v s) :=
  .next (h.asWriter (fun _ h' => h'.guardSel))

/-! ### Machine/RecPlots.lean -/

theorem State.Keeps.retirePlot {p cause : ℕ} (h : a.Keeps s) : a.Keeps (s.retirePlot p cause) := h.ite h.journalRetire.event

theorem State.Keeps.putRec {i page sl mode : ℕ} {slot : List Byte} (h : a.Keeps s) : a.Keeps (s.putRec i page sl mode slot) := h.ite h.submit

theorem State.Keeps.putRecParity {i page mode : ℕ} {slots : List (List Byte)} (h : a.Keeps s) : a.Keeps (s.putRecParity i page mode slots) :=
  h.foldl (fun _ _ h' => h'.putRec)

theorem State.Keeps.recorderEpoch {i : ℕ} (h : a.Keeps s) : a.Keeps (s.recorderEpoch i) := h.journal

theorem State.Keeps.archivePut {again : Bool} {k : ℕ} (h : a.Keeps s) : a.Keeps (s.archivePut again k) := by
  unfold State.archivePut
  dsimp only
  exact ((((h.recorderEpoch.ite h).putRec).upd).putRecParity).ite (((h.recorderEpoch.ite h).putRec).upd)

theorem State.Keeps.archiveProgram {a' : ℕ} (h : a.Keeps s) : a.Keeps (s.archiveProgram a') := h.ite (h.foldl (fun _ _ h' => h'.archivePut))

theorem State.Keeps.spoolPut {u : ℕ × List Byte} (h : a.Keeps s) : a.Keeps (s.spoolPut u) := by
  unfold State.spoolPut
  refine .ite ?_ ?_
  · exact h
  · dsimp only
    exact (((h.recorderEpoch.ite h).putRec).upd).ite ((((h.recorderEpoch.ite h).putRec).upd).putRecParity)

theorem State.Keeps.spoolProgram (h : a.Keeps s) : a.Keeps s.spoolProgram := h.foldl (fun _ _ h' => h'.spoolPut)

theorem State.Keeps.spoolErase (h : a.Keeps s) : a.Keeps s.spoolErase := h.foldl (fun _ _ h' => h'.ite (h'.upd.ite h'.upd.erasePlot))

theorem State.Keeps.headerRewrite {q : ℕ} (h : a.Keeps s) : a.Keeps (s.headerRewrite q) := h.ite (h.putRec.upd.ite h.putRec.upd.putRecParity)

theorem State.Keeps.meterGo (h : a.Keeps s) : a.Keeps s.meterGo := by
  unfold State.meterGo
  split
  · exact h
  · exact h.meterPump.headerRewrite.ite h.meterPump

theorem State.Keeps.recFill {i : ℕ} {slots : Tbl (List Byte)} {full : ℕ → Bool} (h : a.Keeps s) : a.Keeps (s.recFill i slots full) :=
  h.ite ((h.recorderEpoch.foldl (fun _ _ h' => h'.putRec)).foldl (fun _ _ h' => h'.putRecParity))

theorem State.Keeps.recRefill {i : ℕ} (h : a.Keeps s) : a.Keeps (s.recRefill i) := h.recFill.ite h.recFill

theorem State.Keeps.recorderAllot (h : a.Keeps s) : a.Keeps s.recorderAllot := by
  unfold State.recorderAllot
  refine .foldl h ?_
  intro t x h'
  split
  · exact h'
  next x1 x2 t1 e =>
    have ht1 : a.Keeps t1 := h'.takeSpare e
    exact ht1.journalPlot.upd.recRefill

theorem State.Keeps.recorderReplace {i p cause : ℕ} (h : a.Keeps s) : a.Keeps (s.recorderReplace i p cause) := h.ite h.retirePlot.upd.recorderAllot

/-! ### Machine/Plots.lean -/

theorem State.Keeps.moveState {p x : ℕ} (h : a.Keeps s) : a.Keeps (s.moveState p x) := h.setPlotState.setSpares.setReady

theorem State.Keeps.lifeUpdate (h : a.Keeps s) : a.Keeps s.lifeUpdate := h.setFld.setReg

theorem State.Keeps.setCow {i : ℕ} {v : Bool} (h : a.Keeps s) : a.Keeps (s.setCow i v) := h.setEntry

theorem State.Keeps.plotEffect {p : ℕ} {r : PlotRec} (h : a.Keeps s) : a.Keeps (s.plotEffect p r) := by
  unfold State.plotEffect
  dsimp only
  split
  · exact ((h.moveState.ite h).setPlot).setEntry
  · exact (h.moveState.ite h).setPlot

theorem State.Keeps.recEffect {r : JRec} (h : a.Keeps s) : a.Keeps (s.recEffect r) := by
  unfold State.recEffect
  dsimp only
  split
  · exact h.setPlotState.setEntry
  · exact (h.setEntry.setPlotState.ite h.setEntry.setPlotState.upd).ite
      (((h.setEntry.setPlotState.ite h.setEntry.setPlotState.upd).setPlotState).ite
      ((h.setEntry.setPlotState.ite h.setEntry.setPlotState.upd).moveState))
  · exact h.moveState
  · exact h.moveState
  · exact h.setEntry
  · exact h.upd.ite h.setEntry
  · exact h.plotEffect
  · exact h.upd.setEntry
  · exact h.setNode
  · exact h.ite h.upd.showRegrafts
  · exact h.upd.showRegrafts.setNode
  · exact h.setNode
  · exact h.foldl (fun _ _ h' => h'.setCow)
  · exact h.setPlotState
  · exact (h.foldl (fun _ _ h' => h'.moveState)).foldl (fun _ _ h' => h'.setCow)
  · exact h

theorem State.Keeps.endSnapshot {k : ℕ} {aborted : Bool} (h : a.Keeps s) : a.Keeps (s.endSnapshot k aborted) := by
  unfold State.endSnapshot
  split
  · exact h
  · exact h.ite (h.upd.journal.event.ite h.upd.journal)

theorem State.Keeps.requestMigration {kind : ℕ} {node : Bool} {i : ℕ} (h : a.Keeps s) : a.Keeps (s.requestMigration kind node i) := h.ite h.upd

theorem State.Keeps.programFailed {node : Bool} {i : ℕ} (h : a.Keeps s) : a.Keeps (s.programFailed node i).2 := h.requestMigration.pair

theorem State.Keeps.writeProtect {d line : ℕ} (h : a.Keeps s) : a.Keeps (s.writeProtect d line) := h.ite h.journalFlags.event

theorem State.Keeps.strandFilled {q : ℕ} {a' b : List Byte} (h : a.Keeps s) : a.Keeps (s.strandFilled q a' b) := h.upd.upd.ite h.upd.upd.putLogParity

theorem State.Keeps.strandPlace {n : ℕ} (h : a.Keeps s) : a.Keeps (State.strandPlace n s).2 := by
  induction n generalizing s with
  | zero => exact h
  | succ n ih =>
    unfold State.strandPlace
    split
    · exact h
    · exact .ite_snd h (ih h.strandFilled)

theorem State.Keeps.strandPut {d line : ℕ} {slot : List Byte} (h : a.Keeps s) : a.Keeps (s.strandPut d line slot).2 := by
  unfold State.strandPut
  split
  next x t e =>
    have ht : a.Keeps t := h.strandPlace.snd e
    exact ht.pair
  next x x1 t e =>
    have ht : a.Keeps t := h.strandPlace.snd e
    dsimp only
    refine .strandFilled ?_
    refine .submit ?_
    refine .submit ?_
    split
    · exact ht.newJob.setJob
    · exact ht.newJob

theorem State.Keeps.restrand {line : ℕ} (h : a.Keeps s) : a.Keeps (s.restrand line) := by
  unfold State.restrand
  split
  · exact h
  · refine .ite ?_ ?_
    · exact h
    · split
      next x2 x3 t e1 =>
      have ht : a.Keeps t := h.newJob.snd e1
      split
      · dsimp only
        refine .submit ?_
        split
        · exact ht.setJob
        · exact ht

theorem State.Keeps.strandCompact (h : a.Keeps s) : a.Keeps s.strandCompact := by
  unfold State.strandCompact
  refine .ite ?_ ?_
  · exact h
  · dsimp only
    split
    · exact h
    · exact (h.foldl (fun _ _ h' => h'.restrand)).ite h

theorem State.Keeps.strandSweep (h : a.Keeps s) : a.Keeps s.strandSweep := h.foldl (fun _ _ h' => h'.ite ((h'.upd.ite h').erasePlot))

theorem State.Keeps.strand {d line : ℕ} {slot : List Byte} (h : a.Keeps s) : a.Keeps (s.strand d line slot) := by
  unfold State.strand
  refine .ite ?_ ?_
  · exact h
  · split
    next x x1 t e =>
    have ht : a.Keeps t := h.strandPut.snd e
    exact ht.strandCompact.ite ht.writeProtect

theorem State.Keeps.strandPlaced {line place : ℕ} (h : a.Keeps s) : a.Keeps (s.strandPlaced line place) := h.journal

theorem State.Keeps.strandFrames {i : ℕ} (h : a.Keeps s) : a.Keeps (s.strandFrames i) := h.foldl (fun _ _ h' => h'.strand)

theorem State.Keeps.journalStart {m : Migration} (h : a.Keeps s) : a.Keeps (s.journalStart m) := h.journal

theorem State.Keeps.beginMigration {kind : ℕ} {node : Bool} {i tgt : ℕ} (h : a.Keeps s) : a.Keeps (s.beginMigration kind node i tgt) :=
  h.upd.journalStart

theorem State.Keeps.dropCopy {m : Migration} (h : a.Keeps s) : a.Keeps (s.dropCopy m) := h.upd

theorem State.Keeps.retarget {m : Migration} {lost : Bool} (h : a.Keeps s) : a.Keeps (s.retarget m lost) := by
  unfold State.retarget
  split
  · exact h.dropCopy.setMig.ite h
  next x x1 t e =>
    have ht : a.Keeps t := h.takeSpare e
    exact (ht.ite ht.journalPlot).dropCopy.setMig.journalStart

theorem State.Keeps.retargetWaiting (h : a.Keeps s) : a.Keeps s.retargetWaiting := h.foldl (fun _ _ h' => h'.retarget.ite h')

theorem State.Keeps.redirectRecords {m : Migration} (h : a.Keeps s) : a.Keeps (s.redirectRecords m).2 :=
  State.Keeps.ite_snd h.pair (State.Keeps.ite_snd h.pair ((h.foldl (fun _ _ h' => h'.setFrame.anchorAppend)).pair))

theorem State.Keeps.redirectPage {m : Migration} (h : a.Keeps s) : a.Keeps (s.redirectPage m) := by
  unfold State.redirectPage
  split
  next j t e =>
  have ht : a.Keeps t := h.newJob.snd e
  extract_lets data slots u v w
  have hu : a.Keeps u := by
    unfold u
    split
    · exact ht.setJob
    · exact ht
  have hv : a.Keeps v := by
    unfold v
    split
    · exact hu.foldl fun _ _ h' => h'.chargeFree
    · exact hu
  exact hv.countGlobal.noteWrite.foldl fun _ _ h' => h'.submit

theorem State.Keeps.copyPage {m : Migration} (h : a.Keeps s) : a.Keeps (s.copyPage m) := by
  unfold State.copyPage
  split
  next x x1 t e =>
  have ht : a.Keeps t := h.newJob.snd e
  dsimp only
  refine .foldl ?_ ?_
  · refine .foldl ?_ ?_
    · split
      · exact ht.setJob
      · exact ht
    · intro t1 x2 h'
      split
      · exact h'.setJob
      · exact h'
  · intro t1 x2 h'
    split
    · refine .submit ?_
      split
      · exact h'.setJob
      · exact h'
    · exact h'.jobRead

theorem State.Keeps.twinReads {j : Job} {missing : List ℕ} {eng tier : ℕ} (h : a.Keeps s) : a.Keeps (s.twinReads j missing eng tier) :=
  h.setJob.foldl (fun _ _ h' => h'.jobReadAs)

theorem State.Keeps.copyOut {j : Job} {m : Migration} {slots : List (List Byte)} (h : a.Keeps s) : a.Keeps (s.copyOut j m slots) :=
  h.setJob.foldl (fun _ _ h' => h'.submit)

theorem State.Keeps.copyRead {j : Job} (h : a.Keeps s) : a.Keeps (s.copyRead j) := by
  unfold State.copyRead
  split
  · exact h.dropJob
  · dsimp only
    refine .ite ?_ ?_
    · exact h.twinReads.ite h.copyOut
    · refine .ite ?_ ?_
      · exact h.copyOut
      · refine .ite ?_ ?_
        · exact h.setJob.stepFourReads.ite h
        · refine .copyOut ?_
          refine .foldl (State.Keeps.ite_snd ((h.setJob.stepFourReads.ite h).solve) ((h.setJob.stepFourReads.ite h).pair)) ?_
          intro t x2 h'
          split
          · exact h'.noteRebuilt.rebuiltInPlace
          · exact h'.notePoison

theorem State.Keeps.copyOn {m : Migration} (h : a.Keeps s) : a.Keeps (s.copyOn m) := by
  unfold State.copyOn
  refine .ite ?_ ?_
  · exact h
  · refine .ite ?_ ?_
    · exact h.setMig
    · refine .ite ?_ ?_
      · exact h
      · refine .ite ?_ ?_
        · split
          next x x1 t e =>
          have ht : a.Keeps t := h.redirectRecords.snd e
          exact ht.redirectPage.ite ht
        · dsimp only
          split
          · exact h.copyPage.copyRead.ite h.copyPage
          · exact h.copyPage

theorem State.Keeps.copyWaiting (h : a.Keeps s) : a.Keeps s.copyWaiting := h.foldl (fun _ _ h' => h'.copyOn.ite h')

theorem State.Keeps.copyVerified {j : Job} (h : a.Keeps s) : a.Keeps (s.copyVerified j) := by
  unfold State.copyVerified
  dsimp only
  refine .ite ?_ ?_
  · exact h.setJob
  · split
    · exact h.dropJob
    · exact ((h.dropJob.countGlobal.ite h.dropJob).setMig).copyOn

theorem State.Keeps.copyFailed {j : Job} (h : a.Keeps s) : a.Keeps (s.copyFailed j) := by
  unfold State.copyFailed
  dsimp only
  split
  · exact h.dropJob
  · exact h.dropJob.retirePlot.retarget

theorem State.Keeps.saveNodes {m : Migration} (h : a.Keeps s) : a.Keeps (s.saveNodes m) := by
  unfold State.saveNodes
  split
  · exact h.setMig
  refine h.setMig.foldl fun t k ht => ?_
  split
  · exact ht
  refine .ite ht.endSnapshot ?_
  split
  next x u e =>
  have hu : a.Keeps u := by
    refine State.Keeps.snd ?_ e
    refine .ite_snd ?_ ht
    split
    next p v e => exact (ht.takeSpare e).journal
    · exact ht
  exact hu.upd

theorem State.Keeps.journalSwitch {m : Migration} (h : a.Keeps s) : a.Keeps (s.journalSwitch m) := h.setMig.journal

theorem execMigrationMapSwitch_runs {entry : ℕ} {node : Bool} (h : a.Keeps s) : Answer.Runs a (execMigrationMapSwitch entry node s) := by
  unfold execMigrationMapSwitch
  refine .next ?_
  split
  · exact h
  · exact (h.ite ((h.saveNodes.ite h).ite (h.saveNodes.ite h).journalSwitch)).ite h

theorem execMigrationSourceErase_runs {plot : ℕ} (h : a.Keeps s) : Answer.Runs a (execMigrationSourceErase plot s) := by
  unfold execMigrationSourceErase
  refine .next ?_
  split
  · exact h.ite h.erasePlot
  · exact h

theorem execSpareErase_runs {plot : ℕ} (h : a.Keeps s) : Answer.Runs a (execSpareErase plot s) := .next ((h.retirePlot.ite h.erasePlot).ite h)

theorem State.Keeps.logErased {p : ℕ} (h : a.Keeps s) : a.Keeps (s.logErased p) := by
  unfold State.logErased
  exact (h.upd.ite (h.upd.ite (h.upd.ite h))).journalPlot

theorem State.Keeps.eraseDone {p : ℕ} (h : a.Keeps s) : a.Keeps (s.eraseDone p) := by
  unfold State.eraseDone
  split
  · exact h
  · exact h.upd.ite (h.upd.copyWaiting.ite (h.upd.logErased.ite (h.upd.ite (h.upd.retirePlot.ite (h.upd.retirePlot.ite h.upd.journal)))))

theorem State.Keeps.eraseFail {p cause : ℕ} (h : a.Keeps s) : a.Keeps (s.eraseFail p cause) := by
  unfold State.eraseFail
  refine .ite h (.ite (h.eraseDone.ite h.erasePlot) ?_)
  dsimp only
  split
  · exact State.Keeps.lifeUpdate (.recorderReplace h.upd)
  · exact State.Keeps.lifeUpdate (.retirePlot h.upd)

theorem State.Keeps.degrade {node : Bool} {i : ℕ} (h : a.Keeps s) : a.Keeps (s.degrade node i) := h.ite h.journalFlags.requestMigration

theorem State.Keeps.listLost (h : a.Keeps s) : a.Keeps s.listLost := h.foldl (fun _ _ h' => h'.listSpare.ite h')

theorem State.Keeps.retireSpares (h : a.Keeps s) : a.Keeps s.retireSpares := h.listLost.foldl (fun _ _ h' => h'.retirePlot)

theorem State.Keeps.mediaLost (h : a.Keeps s) : a.Keeps s.mediaLost := by
  unfold State.mediaLost
  refine .ite ?_ ?_
  · exact h
  · dsimp only
    exact (((h.foldl (fun _ _ h' => h'.degrade)).foldl (fun _ _ h' => h'.degrade)).retireSpares).ite
        ((((h.foldl (fun _ _ h' => h'.degrade)).foldl (fun _ _ h' => h'.degrade)).retireSpares).event)

theorem State.Keeps.escalate (h : a.Keeps s) : a.Keeps s.escalate := h.foldl (fun _ _ h' => h'.ite h'.setReg.upd)

theorem State.Keeps.refreshOver {plot : ℕ} (h : a.Keeps s) : a.Keeps (s.refreshOver plot) := h.upd.escalate

theorem State.Keeps.nodePrograms {why : ℕ → Why} {level i : ℕ} {n : Node} {v : Version} (h : a.Keeps s) : a.Keeps (s.nodePrograms why level i n v).2
    := by
  unfold State.nodePrograms
  dsimp only
  refine .foldl_snd h.pair (fun _ _ h' => State.Keeps.ite_snd h' h'.submit.pair)

theorem State.Keeps.advanceNodeKeys (h : a.Keeps s) : a.Keeps s.advanceNodeKeys := by
  unfold State.advanceNodeKeys
  refine .ite h ?_
  dsimp only
  have hnodes : ∀ (u : State) (p q : List Nat) (w : Nat → Why), a.Keeps u → a.Keeps (q.foldl (fun acc i =>
      ((acc.1 + (acc.2.nodePrograms w 1 i (Tbl.get (acc.2.freshNode 1) (acc.2.gx.table 1) i) (acc.2.nodeVersion 1 i)).1,
        (acc.2.nodePrograms w 1 i (Tbl.get (acc.2.freshNode 1) (acc.2.gx.table 1) i) (acc.2.nodeVersion 1 i)).2) : Nat × State))
      (p.foldl (fun acc i =>
      ((acc.1 + (acc.2.nodePrograms w 0 i (Tbl.get (acc.2.freshNode 0) (acc.2.gx.table 0) i) (acc.2.nodeVersion 0 i)).1,
        (acc.2.nodePrograms w 0 i (Tbl.get (acc.2.freshNode 0) (acc.2.gx.table 0) i) (acc.2.nodeVersion 0 i)).2) : Nat × State)) (0, u))).2 :=
    fun u p q w hu => State.Keeps.foldl_snd (State.Keeps.foldl_snd hu fun _ _ h' => h'.nodePrograms) fun _ _ h' => h'.nodePrograms
  split
  · exact State.Keeps.setJob (hnodes _ _ _ _ h.upd.persistFld.newJob)
  · exact hnodes _ _ _ _ h.upd.persistFld.newJob

theorem State.Keeps.ckptPage {p page : ℕ} {data : List (List Byte)} (h : a.Keeps s) : a.Keeps (s.ckptPage p page data) :=
  h.foldl (fun _ _ h' => h'.submit.ite h')

theorem State.Keeps.ckptPrograms {r : CkptRun} (h : a.Keeps s) : a.Keeps (s.ckptPrograms r) := h.foldl (fun _ _ h' => h'.ckptPage)

theorem State.Keeps.ckptWrite {r : CkptRun} (h : a.Keeps s) : a.Keeps (s.ckptWrite r) :=
  ((h.ringClose.foldl (fun _ _ h' => h'.ringAppend)).ringClose).upd.ckptPrograms

theorem State.Keeps.ckptPump (h : a.Keeps s) : a.Keeps s.ckptPump := by
  unfold State.ckptPump
  split
  · exact h
  refine .ite h ?_
  split
  next own t e =>
  have ht : a.Keeps (own, t).2 := by
    rw [← e]
    refine .foldl_snd (p := (_, s)) h fun q _ hq => ?_
    split
    next p u e => exact (hq.takeSpare e).journalPlot.pair
    · exact hq
  replace ht : a.Keeps t := ht
  refine .ite ht.upd (.ite ?_ ?_)
  · exact State.Keeps.ringErase ht.upd
  · exact State.Keeps.ckptWrite ht.upd

theorem State.Keeps.startCheckpoint (h : a.Keeps s) : a.Keeps s.startCheckpoint := by
  unfold State.startCheckpoint
  refine .ite h ?_
  extract_lets t
  have ht : a.Keeps t := h.advanceNodeKeys
  exact State.Keeps.ckptPump ht.upd

theorem execMapCheckpoint_runs (h : a.Keeps s) : Answer.Runs a (execMapCheckpoint s) :=
  .beginAction h (fun _ _ h' => h'.endEntry.ite h'.startCheckpoint)

theorem execCheckpointJournalTrigger_runs (h : a.Keeps s) : Answer.Runs a (execCheckpointJournalTrigger s) := .next (h.startCheckpoint.ite h)

theorem State.Keeps.directoryErase (h : a.Keeps s) : a.Keeps s.directoryErase := h.ite h.erasePlot

theorem State.Keeps.putDirectory {c : Ckpt} (h : a.Keeps s) : a.Keeps (s.putDirectory c) := h.putLogPages.upd.directoryErase

theorem State.Keeps.storeCkpt {c : Ckpt} (h : a.Keeps s) : a.Keeps (s.storeCkpt c) := h.upd.ite h.upd

theorem State.Keeps.freeCkpt {old : Option Ckpt} (h : a.Keeps s) : a.Keeps (s.freeCkpt old) := by
  unfold State.freeCkpt
  split
  · exact h.foldl (fun _ _ h' => h'.journalPlot)
  · exact h

theorem State.Keeps.forgetRecords (h : a.Keeps s) : a.Keeps s.forgetRecords := h.upd

theorem State.Keeps.closeCheckpoint {c : Ckpt} (h : a.Keeps s) : a.Keeps (s.closeCheckpoint c) :=
  h.putDirectory.storeCkpt.journal.freeCkpt.setReg64.forgetRecords.ringPump.endAction

theorem execCheckpointComplete_runs {crc : DWord} (h : a.Keeps s) : Answer.Runs a (execCheckpointComplete crc s) := by
  unfold execCheckpointComplete
  refine .next ?_
  split
  · exact h
  · exact h.ite h.closeCheckpoint

theorem State.Keeps.freeFrames {i : ℕ} {ok : Frame → Bool} (h : a.Keeps s) : a.Keeps (s.freeFrames i ok) := h.foldl (fun _ _ h' => h'.freeFrame)

theorem State.Keeps.protectedNow {i : ℕ} (h : a.Keeps s) : a.Keeps (s.protectedNow i) := (h.foldl (fun _ _ h' => h'.cacheDrop)).freeFrames.lifeUpdate

theorem State.Keeps.strandLive {r : JRec} (h : a.Keeps s) : a.Keeps (s.strandLive r) := by
  unfold State.strandLive
  dsimp only
  refine .strandSweep ?_
  split
  · split
    · exact h.ite (h.freeFrame.ite h.setFrame)
    · exact h
  · exact h

theorem State.Keeps.switchLive {m : Migration} (h : a.Keeps s) : a.Keeps (s.switchLive m) := by
  unfold State.switchLive
  dsimp only
  exact (((((h.ite h.freeFrames).upd).refreshOver).strandSweep).upd).ite
      (((((((h.ite h.freeFrames).upd).refreshOver).strandSweep).setMig).retirePlot).ite
      (((((h.ite h.freeFrames).upd).refreshOver).strandSweep).setMig))

theorem State.Keeps.recLive {r : JRec} (h : a.Keeps s) : a.Keeps (s.recLive r) := by
  unfold State.recLive
  split
  · split
    · exact h.setMig.copyOn
    · exact h
  · dsimp only
    split
    · exact h.countGlobal
    · exact h.countGlobal.switchLive
  · exact h.protectedNow.ite h
  · exact h.strandLive
  · split
    · exact h.upd
    · exact h
  · exact h.upd.lifeUpdate.retargetWaiting
  · exact h.upd.lifeUpdate.retargetWaiting
  · exact h

theorem State.Keeps.foldWear (h : a.Keeps s) : a.Keeps s.foldWear := (h.foldl (fun _ _ h' => h'.journalPlot)).upd

theorem State.Keeps.levelWear (h : a.Keeps s) : a.Keeps s.levelWear := (h.foldWear.lifeUpdate.foldl (fun _ _ h' => h'.requestMigration)).upd

theorem execWearLevellingEvaluation_runs (h : a.Keeps s) : Answer.Runs a (execWearLevellingEvaluation s) := .runAction h (fun _ _ h' => h'.levelWear)

/-! ### Machine/Drift.lean -/

theorem State.Keeps.ageUpdate (h : a.Keeps s) : a.Keeps s.ageUpdate := by
  unfold State.ageUpdate
  dsimp only
  exact (((h.foldl (fun _ _ h' => h'.upd)).upd).event).ite ((h.foldl (fun _ _ h' => h'.upd)).upd)

theorem execEffectiveAgeUpdate_runs (h : a.Keeps s) : Answer.Runs a (execEffectiveAgeUpdate s) := .runAction h (fun _ _ h' => h'.ageUpdate)

theorem execHourBoundary_runs (h : a.Keeps s) : Answer.Runs a (execHourBoundary s) :=
  .next (h.ite (h.upd.ite ((h.upd.foldl (fun _ _ h' => h'.upd)).upd)))

theorem execAgeUncertainAlert_runs (h : a.Keeps s) : Answer.Runs a (execAgeUncertainAlert s) := .next (h.event.ite h)

theorem State.Keeps.learn {c d k : ℕ} {young : Bool} {dev : ℤ} (h : a.Keeps s) : a.Keeps (s.learn c d k young dev) :=
  (h.upd.eventOnce.ite h.upd).ite h

theorem State.Keeps.freeRefresh {p : ℕ} (h : a.Keeps s) : a.Keeps (s.freeRefresh p) := h.upd

theorem State.Keeps.refreshScan (h : a.Keeps s) : a.Keeps s.refreshScan :=
  (((h.setFld.setFld.setFld.setReg64.upd.upd.foldl (fun _ _ h' => h'.eventOnce)).upd.foldl (fun _ _ h' => h'.freeRefresh)).foldl
      (fun _ _ h' => h'.restrand)).escalate

theorem execRefreshScan_runs (h : a.Keeps s) : Answer.Runs a (execRefreshScan s) := .runAction h (fun _ _ h' => h'.refreshScan)

theorem State.Keeps.setDelta {p page : ℕ} {d : Delta} (h : a.Keeps s) : a.Keeps (s.setDelta p page d) := h.upd

theorem State.Keeps.delDelta {p page : ℕ} (h : a.Keeps s) : a.Keeps (s.delDelta p page) := h.upd

theorem State.Keeps.releaseDelta {p page : ℕ} (h : a.Keeps s) : a.Keeps (s.releaseDelta p page) := by
  unfold State.releaseDelta
  split
  · exact h
  · exact (h.delDelta.ite h.setDelta).countGlobal

theorem State.Keeps.pageJob {kind : JobKind} {p page eng charge : ℕ} {node : Bool} {i : ℕ} (h : a.Keeps s) : a.Keeps
    (s.pageJob kind p page eng charge node i).2 := by
  unfold State.pageJob
  split
  next x x1 t e =>
  have ht : a.Keeps t := h.newJob.snd e
  dsimp only
  refine .foldl ?_ (fun _ _ h' => h'.jobRead)
  split
  · exact ht.setJob
  · exact ht

theorem State.Keeps.pageRecover {j : Job} (h : a.Keeps s) : a.Keeps (s.pageRecover j).2 := by
  unfold State.pageRecover
  dsimp only
  exact State.Keeps.ite_snd h.pair (State.Keeps.ite_snd h.pair (State.Keeps.ite_snd h.pair h.solve.pair))

theorem State.Keeps.noteRecovered {j : Job} {rs : List (ℕ × Option (List Byte))} (h : a.Keeps s) : a.Keeps (s.noteRecovered j rs) := by
  unfold State.noteRecovered
  refine .ite ?_ ?_
  · exact h
  · refine .foldl h ?_
    intro t x h'
    split
    · exact h'.noteRebuilt.ite h'
    · exact (h'.notePoison.ite h').markRebuild

theorem State.Keeps.pageProgram {j : Job} {slots : List (ℕ × List Byte)} {eng charge : ℕ} (h : a.Keeps s) : a.Keeps
    (s.pageProgram j slots eng charge) :=
  h.setJob.foldl (fun _ _ h' => h'.submit)

theorem State.Keeps.refreshParity {j : Job} {now : List (ℕ × List Byte)} (h : a.Keeps s) : a.Keeps (s.refreshParity j now) := by
  unfold State.refreshParity
  split
  · exact h
  · exact h.setDelta

theorem State.Keeps.refreshOut {j : Job} (h : a.Keeps s) : a.Keeps (s.refreshOut j) := by
  unfold State.refreshOut
  dsimp only
  exact h.twinReads.ite ((h.pageRecover.noteRecovered.ite h.pageRecover.noteRecovered.refreshParity).pageProgram)

theorem State.Keeps.refreshPageDone {j : Job} (h : a.Keeps s) : a.Keeps (s.refreshPageDone j) := h.dropJob.releaseDelta.ite h.dropJob

theorem State.Keeps.refreshPages {n plot page i : ℕ} {node : Bool} (h : a.Keeps s) : a.Keeps (State.refreshPages n s plot page node i) := by
  induction n generalizing s page with
  | zero => exact h
  | succ n ih =>
    unfold State.refreshPages
    refine .ite h (.ite h.upd ?_)
    split
    next j t e =>
    have ht : a.Keeps t := h.pageJob.snd e
    extract_lets go u
    have hgo : ∀ {v}, a.Keeps v → a.Keeps (go v) := fun {v} hv => by
      unfold go
      split
      · exact hv.refreshOut.ite hv
      · exact hv
    have hu : a.Keeps u := hgo (hgo ht)
    split
    · exact (ih hu.refreshPageDone).ite hu
    · exact hu

theorem State.Keeps.refreshRead {j : Job} (h : a.Keeps s) : a.Keeps (s.refreshRead j) := by
  unfold State.refreshRead
  dsimp only
  split
  · exact h.refreshOut.refreshPageDone.refreshPages.ite h.refreshOut
  · exact h.refreshOut

theorem State.Keeps.refreshVerified {j : Job} (h : a.Keeps s) : a.Keeps (s.refreshVerified j) :=
  h.countGlobal.setJob.ite h.countGlobal.refreshPageDone.refreshPages

theorem State.Keeps.refreshFrom {plot page : ℕ} (h : a.Keeps s) : a.Keeps (s.refreshFrom plot page) := h.upd.refreshPages

theorem State.Keeps.refreshInPlace {plot : ℕ} (h : a.Keeps s) : a.Keeps (s.refreshInPlace plot) := h.refreshFrom

theorem State.Keeps.beginRefresh {plot u : ℕ} (h : a.Keeps s) : a.Keeps (s.beginRefresh plot u) := by
  unfold State.beginRefresh
  dsimp only
  split
  · exact h.upd.requestMigration.escalate.ite h.upd.refreshInPlace.escalate
  · exact h.upd.refreshInPlace.escalate

theorem execInPlaceRefresh_runs {plot : ℕ} (h : a.Keeps s) : Answer.Runs a (execInPlaceRefresh plot s) := by
  unfold execInPlaceRefresh
  refine .next ?_
  split
  · split
    · exact h.ite h.refreshFrom
    · exact h
  · exact h.ite h.beginRefresh

theorem State.Keeps.renewHeld {plot epoch : ℕ} (h : a.Keeps s) : a.Keeps (s.renewHeld plot epoch) := h.upd

theorem State.Keeps.endRefresh {plot : ℕ} {r : ℕ × ℕ × ℕ} (h : a.Keeps s) : a.Keeps (s.endRefresh plot r) := by
  unfold State.endRefresh
  dsimp only
  refine .refreshOver ?_
  split
  · exact h.upd.journal
  · split
    · exact h.upd.renewHeld.journal
    · exact h.upd.renewHeld

theorem execInPlaceRefreshComplete_runs {plot : ℕ} (h : a.Keeps s) : Answer.Runs a (execInPlaceRefreshComplete plot s) := by
  unfold execInPlaceRefreshComplete
  refine .next ?_
  split
  · exact h
  · exact h.ite h.endRefresh

theorem State.Keeps.migrationRefused {kind i : ℕ} {node : Bool} (h : a.Keeps s) : a.Keeps (s.migrationRefused kind node i) := by
  unfold State.migrationRefused
  refine .ite (h.ite h.strandFrames) (.ite ?_ (.ite (State.Keeps.refreshInPlace h.upd) h.upd))
  split
  · exact State.Keeps.foldl h.upd fun _ _ h' => h'.endSnapshot
  · exact h.upd

theorem State.Keeps.requestBehind {kind : ℕ} {m : Migration} (h : a.Keeps s) : a.Keeps (s.requestBehind kind m) := h.upd.retarget.ite h

theorem execMigrationStart_runs {kind entry : ℕ} {node : Bool} (h : a.Keeps s) : Answer.Runs a (execMigrationStart kind entry node s) := by
  unfold execMigrationStart
  refine .next ?_
  refine .ite ?_ ?_
  · split
    · exact h.requestBehind
    · refine .ite ?_ ?_
      · exact h
      · refine .ite ?_ ?_
        · exact h.migrationRefused
        · dsimp only
          split
          · exact h
          next x1 x2 t e1 =>
            have ht : a.Keeps t := h.takeSpare e1
            exact ht.beginMigration
  · exact h

theorem State.Keeps.rewriteSlot {p page sl : ℕ} (h : a.Keeps s) : a.Keeps (s.rewriteSlot p page sl) := by
  unfold State.rewriteSlot
  split
  · dsimp only
    refine .ite ?_ ?_
    · exact h
    · split
      · refine .ite ?_ ?_
        · refine .dropJob ?_
          refine .jobRead ?_
          split
          · exact h.newJob.setJob
          · exact h.newJob
        · refine .jobRead ?_
          split
          · exact h.newJob.setJob
          · exact h.newJob
      · refine .jobRead ?_
        split
        · exact h.newJob.setJob
        · exact h.newJob

theorem execRewriteQueueService_runs (h : a.Keeps s) : Answer.Runs a (execRewriteQueueService s) := by
  unfold execRewriteQueueService
  refine .next ?_
  split
  · exact h
  · exact h.ite h.upd.rewriteSlot

theorem State.Keeps.rewriteOut {j : Job} {sl : ℕ} {b : List Byte} (h : a.Keeps s) : a.Keeps (s.rewriteOut j sl b) := h.bump.countGlobal.pageProgram

theorem State.Keeps.rewriteLost {j : Job} {sl : ℕ} (h : a.Keeps s) : a.Keeps (s.rewriteLost j sl) :=
  h.noteRecovered.dropJob.ite h.noteRecovered.pageProgram

theorem State.Keeps.rewriteSolve {j : Job} {sl : ℕ} (h : a.Keeps s) : a.Keeps (s.rewriteSolve j sl) := by
  unfold State.rewriteSolve
  split
  next x x1 t e =>
  have ht : a.Keeps t := h.solve.snd e
  split
  · exact ht.noteRecovered.rewriteOut
  · exact ht.rewriteLost

theorem State.Keeps.rewriteRead {j : Job} (h : a.Keeps s) : a.Keeps (s.rewriteRead j) := by
  unfold State.rewriteRead
  dsimp only
  split
  · exact h.rewriteOut
  · refine .ite ?_ ?_
    · refine .ite ?_ ?_
      · split
        · refine .ite ?_ ?_
          · exact h.twinReads
          · split
            · exact h.twinReads.rewriteOut
            · exact h.twinReads.rewriteLost
        · exact h.twinReads
      · split
        · exact h.rewriteOut
        · exact h.rewriteLost
    · refine .ite ?_ ?_
      · refine .ite ?_ ?_
        · exact h.rewriteLost
        · split
          · exact h.setJob.stepFourReads.ite h.setJob.stepFourReads.rewriteSolve
          · exact h.setJob.stepFourReads
      · exact h.rewriteSolve

theorem State.Keeps.marginPage {p page : ℕ} (h : a.Keeps s) : a.Keeps (s.marginPage p page) := by
  unfold State.marginPage
  split
  next x x1 t e =>
  have ht : a.Keeps t := h.newJob.snd e
  split
  · dsimp only
    refine .foldl ?_ ?_
    · split
      · exact ht.setJob
      · exact ht
    · intro t1 x5 h'
      refine .submit ?_
      refine .submit ?_
      split
      · exact h'.setJob
      · exact h'

theorem State.Keeps.marginOn {n : ℕ} (h : a.Keeps s) : a.Keeps (State.marginOn n s) := by
  induction n generalizing s with
  | zero => exact h
  | succ n ih =>
    unfold State.marginOn
    split
    · exact h
    · exact State.Keeps.endAction h.upd
    · exact .ite (ih h.upd) (State.Keeps.marginPage h.upd)

theorem execMarginReadSweep_runs (h : a.Keeps s) : Answer.Runs a (execMarginReadSweep s) :=
  .beginAction h (fun _ _ h' => h'.endEntry.ite h'.upd.marginOn)

theorem State.Keeps.marginSlot {j : Job} {sl weak : ℕ} (h : a.Keeps s) : a.Keeps (s.marginSlot j sl weak) := by
  unfold State.marginSlot
  dsimp only
  refine .ite ?_ ?_
  · exact (h.countGlobal.requeue.ite h.countGlobal).setJob
  · refine .ite ?_ ?_
    · exact ((h.countGlobal.requeue.ite h.countGlobal).dropJob).marginPage
    · split
      · exact ((h.countGlobal.requeue.ite h.countGlobal).dropJob).marginOn
      · exact (h.countGlobal.requeue.ite h.countGlobal).dropJob

theorem execScrubPassStart_runs (h : a.Keeps s) : Answer.Runs a (execScrubPassStart s) := .beginAction h (fun _ _ h' => h'.endEntry.ite h'.upd)

theorem State.Keeps.scrubNext {wholePlot : Bool} (h : a.Keeps s) : a.Keeps (s.scrubNext wholePlot) := by
  unfold State.scrubNext
  split
  · exact h
  · exact h.upd.setFld.bump.endAction.ite h.upd.setFld

theorem State.Keeps.columnsFound {j : Job} {slots good : List (List Byte)} {ok : Bool} (h : a.Keeps s) : a.Keeps (s.columnsFound j slots good ok) :=
    by
  unfold State.columnsFound
  dsimp only
  exact ((h.foldl (fun _ _ h' => h'.requeue.looseProgram.ite h'.requeue)).ite
      ((h.foldl (fun _ _ h' => h'.requeue.looseProgram.ite h'.requeue)).event)).ite
      (((h.foldl (fun _ _ h' => h'.requeue.looseProgram.ite h'.requeue)).ite
      ((h.foldl (fun _ _ h' => h'.requeue.looseProgram.ite h'.requeue)).event)).markRebuild)

theorem State.Keeps.scrubRead {j : Job} (h : a.Keeps s) : a.Keeps (s.scrubRead j) := by
  unfold State.scrubRead
  dsimp only
  refine .ite ?_ ?_
  · exact h.twinReads
  · refine .scrubNext ?_
    refine .ite ?_ ?_
    · refine .columnsFound ?_
      refine .foldl h.pageRecover.dropJob.noteRecovered ?_
      intro t x h'
      split
      · exact h'.looseProgram
      · exact h'.ite h'.looseProgram
    · refine .foldl h.pageRecover.dropJob.noteRecovered ?_
      intro t x h'
      split
      · exact h'.looseProgram
      · exact h'.ite h'.looseProgram

theorem State.Keeps.scrubPage {i page : ℕ} (h : a.Keeps s) : a.Keeps (s.scrubPage i page) := by
  unfold State.scrubPage
  dsimp only
  refine .ite ?_ ?_
  · exact h.scrubNext
  · split
    · exact h.pageJob.countGlobal.scrubRead.ite h.pageJob.countGlobal
    · exact h.pageJob.countGlobal

theorem execScrubPace_runs (h : a.Keeps s) : Answer.Runs a (execScrubPace s) := by
  unfold execScrubPace
  refine .next ?_
  split
  · exact h
  · exact h.ite h.scrubPage

/-! ### Machine/Parity.lean -/

theorem State.Keeps.parityRead {j : Job} (h : a.Keeps s) : a.Keeps (s.parityRead j) := by
  unfold State.parityRead
  dsimp only
  split
  · exact h.dropJob
  · exact h.dropJob.delDelta.markRebuild.ite (h.setDelta.pageProgram.dropJob.ite h.setDelta.pageProgram)

theorem State.Keeps.startWriteback {p page : ℕ} (h : a.Keeps s) : a.Keeps (s.startWriteback p page) := by
  unfold State.startWriteback
  split
  · exact h
  · refine .ite ?_ ?_
    · exact h
    · dsimp only
      split
      · exact ((h.setDelta.newJob.foldl (fun _ _ h' => h'.jobRead)).parityRead).ite (h.setDelta.newJob.foldl (fun _ _ h' => h'.jobRead))
      · exact h.setDelta.newJob.foldl (fun _ _ h' => h'.jobRead)

theorem State.Keeps.oldestWriteback (h : a.Keeps s) : a.Keeps s.oldestWriteback := by
  unfold State.oldestWriteback
  dsimp only
  split
  · exact h
  · exact h.startWriteback

theorem State.Keeps.recordDelta {p page sl : ℕ} {old new : List Byte} (h : a.Keeps s) : a.Keeps (s.recordDelta p page sl old new) := by
  unfold State.recordDelta
  refine .ite ?_ ?_
  · exact h
  · extract_lets x t t1
    have ht : a.Keeps t := h.countGlobal
    have ht1 : a.Keeps t1 := by
      unfold t1
      split
      · exact ht.setDelta
      · exact ht.setDelta
    exact ht1.oldestWriteback.ite ht1

theorem execParityWriteBackSweep_runs (h : a.Keeps s) : Answer.Runs a (execParityWriteBackSweep s) :=
  .runAction h (fun _ _ h' => h'.foldl (fun _ _ h'1 => h'1.startWriteback))

theorem execParityEntryAgeTrigger_runs {plot page : ℕ} (h : a.Keeps s) : Answer.Runs a (execParityEntryAgeTrigger plot page s) := by
  unfold execParityEntryAgeTrigger
  refine .next ?_
  split
  · exact h.startWriteback.ite h
  · exact h

theorem execParityOverrun_runs {plot page : ℕ} (h : a.Keeps s) : Answer.Runs a (execParityOverrun plot page s) := by
  unfold execParityOverrun
  refine .next ?_
  split
  · exact h.bump.eventOnce.ite h
  · exact h

theorem State.Keeps.parityKept {j : Job} {item : ℕ} (h : a.Keeps s) : a.Keeps (s.parityKept j item) := h.setJob

theorem State.Keeps.rebuildRead {j : Job} (h : a.Keeps s) : a.Keeps (s.rebuildRead j) :=
  ((h.foldl (fun _ _ h' => h'.event)).foldl (fun _ _ h' => h'.notePoison)).pageProgram

theorem State.Keeps.beginRebuild {plot page : ℕ} (h : a.Keeps s) : a.Keeps (s.beginRebuild plot page) := by
  unfold State.beginRebuild
  dsimp only
  split
  · refine .ite ?_ ?_
    · refine .rebuildRead ?_
      refine .foldl ?_ (fun _ _ h' => h'.jobRead)
      split
      · exact h.upd.delDelta.upd.newJob.setJob
      · exact h.upd.delDelta.upd.newJob
    · refine .foldl ?_ (fun _ _ h' => h'.jobRead)
      split
      · exact h.upd.delDelta.upd.newJob.setJob
      · exact h.upd.delDelta.upd.newJob
  · refine .foldl ?_ (fun _ _ h' => h'.jobRead)
    split
    · exact h.upd.delDelta.upd.newJob.setJob
    · exact h.upd.delDelta.upd.newJob

theorem execPageRebuildStart_runs {plot page : ℕ} (h : a.Keeps s) : Answer.Runs a (execPageRebuildStart plot page s) := .next (h.beginRebuild.ite h)

theorem State.Keeps.endRebuild {j : Job} (h : a.Keeps s) : a.Keeps (s.endRebuild j) := h.dropJob.upd.bump.countGlobal.event.markNext

theorem execPageRebuildComplete_runs {plot page : ℕ} (h : a.Keeps s) : Answer.Runs a (execPageRebuildComplete plot page s) := by
  unfold execPageRebuildComplete
  refine .next ?_
  split
  · exact h
  · exact h.endRebuild.ite h

/-! ### Machine/Tree.lean -/

theorem State.Keeps.advanceBy {level x i n : ℕ} (h : a.Keeps s) : a.Keeps (s.advanceBy level x i n) := by
  induction n generalizing s with
  | zero => exact h
  | succ n ih => exact ih h.advanceMinor

theorem State.Keeps.upperEnd {level i : ℕ} (h : a.Keeps s) : a.Keeps (s.upperEnd level i) := h.upd.event.ite h

theorem State.Keeps.leafWriteBack {n : ℕ} {own : Bool} (h : a.Keeps s) : a.Keeps (s.leafWriteBack n own) := by
  unfold State.leafWriteBack
  split
  · exact h
  · dsimp only
    exact h.ite (h.upperEnd.startRegraft.ite (h.upperEnd.startRegraft.ite h.advanceBy.nodePrograms.advanceBy.nodePrograms.journal.upd.count))

theorem State.Keeps.leafProgress {n : ℕ} (h : a.Keeps s) : a.Keeps (s.leafProgress n) := by
  unfold State.leafProgress
  split
  · exact h.upd
  · exact h

theorem State.Keeps.reprogram {j line : ℕ} {old : Option (List Byte)} {new : List Byte} {charge : ℕ} (h : a.Keeps s) : a.Keeps
    (s.reprogram j line old new charge) := by
  unfold State.reprogram
  dsimp only
  refine .ite ?_ ?_
  · exact h.strand
  · refine .foldl h ?_
    intro t x h'
    refine .ite ?_ ?_
    · split
      · exact h'.recordDelta
      · exact h'.ite h'.markRebuild
    · refine .submit ?_
      split
      · refine .setJob ?_
        split
        · exact h'.recordDelta
        · exact h'.ite h'.markRebuild
      · split
        · exact h'.recordDelta
        · exact h'.ite h'.markRebuild

theorem State.Keeps.lineReads {j i page : ℕ} {sls : List ℕ} {eng charge : ℕ} (h : a.Keeps s) : a.Keeps (s.lineReads j i page sls eng charge) := by
  unfold State.lineReads
  dsimp only
  refine .foldl h ?_
  intro t x h'
  split
  · refine .submit ?_
    split
    · exact h'.setJob
    · exact h'
  · exact h'.ite h'.jobRead

theorem State.Keeps.lineEnd {j : Job} {missing : List ℕ} {full : Option (List (List Byte))} (h : a.Keeps s) : a.Keeps (s.lineEnd j missing full).2 :=
    by
  unfold State.lineEnd
  dsimp only
  refine .foldl h ?_
  intro t x h'
  split
  · exact h'.noteRebuilt
  · exact h'.notePoison

theorem State.Keeps.lineSlots {j : Job} {want : List ℕ} {eng charge : ℕ} (h : a.Keeps s) : a.Keeps (s.lineSlots j want eng charge).2 := by
  unfold State.lineSlots
  dsimp only
  refine .ite_snd ?_ ?_
  · exact h.lineEnd.pair
  · refine .ite_snd ?_ ?_
    · split
      · exact State.Keeps.ite_snd h.setJob.stepFourReads.pair h.setJob.stepFourReads.solve.lineEnd.pair
      · exact h.setJob.stepFourReads.pair
    · exact State.Keeps.ite_snd h.solve.lineEnd.pair h.lineEnd.pair

theorem State.Keeps.childReads {j level i copy : ℕ} {cs : List ℕ} (h : a.Keeps s) : a.Keeps (s.childReads j level i copy cs) := by
  unfold State.childReads
  refine .foldl h ?_
  intro t x h'
  dsimp only
  refine .ite ?_ ?_
  · exact h'
  · refine .submit ?_
    split
    · exact h'.setJob
    · exact h'

theorem State.Keeps.regraftNodes {j : Job} {r : Regraft} (h : a.Keeps s) : a.Keeps (s.regraftNodes j r) := by
  unfold State.regraftNodes
  dsimp only
  refine .ite ?_ ?_
  · exact h.setJob.childReads.ite h
  · refine .foldl ((h.setJob.foldl (fun _ _ h' => h'.loseSubtree)).foldl (fun _ _ h' => h'.copyRepaired)) ?_
    intro t x h'
    split
    · exact h'
    · refine .count ?_
      refine .setNode ?_
      split
      · exact h'.nodePrograms.setJob
      · exact h'.nodePrograms

theorem State.Keeps.regraftLines {j : Job} {r : Regraft} (h : a.Keeps s) : a.Keeps (s.regraftLines j r) := by
  unfold State.regraftLines
  dsimp only
  refine .ite ?_ ?_
  · exact h
  · split
    · exact h.lineSlots
    · refine .foldl ?_ ?_
      · split
        · exact h.lineSlots.setJob
        · exact h.lineSlots
      · intro t x2 h'
        split
        · exact h'.count.reprogram
        · split
          · exact h'.count.reprogram
          · exact h'.count.reprogram
          · exact (h'.count.bump.ite h'.count.badTag).reprogram

theorem State.Keeps.regraftEnd {r : Regraft} (h : a.Keeps s) : a.Keeps (s.regraftEnd r) := by
  unfold State.regraftEnd
  dsimp only
  refine .ite ?_ ?_
  · exact h.setRegraft.dirtyLeaf.leafWriteBack
  · refine .ite ?_ ?_
    · refine .journal ?_
      split
      · exact h.setRegraft.setNode.advanceMinor.newJob.nodePrograms.setJob
      · exact h.setRegraft.setNode.advanceMinor.newJob.nodePrograms
    · exact h.setRegraft.setNode

theorem State.Keeps.regraftStep {r : Regraft} (h : a.Keeps s) : a.Keeps (s.regraftStep r) := by
  unfold State.regraftStep
  refine .ite ?_ ?_
  · refine .ite ?_ ?_
    · exact h
    · refine .ite ?_ ?_
      · exact h.leafWriteBack
      · refine .ite ?_ ?_
        · exact h.startRegraft
        · dsimp only
          refine .ite ?_ ?_
          · split
            · refine .ite ?_ ?_
              · refine .regraftLines ?_
                refine .lineReads ?_
                split
                · exact h.journal.setRegraft.newJob.setJob
                · exact h.journal.setRegraft.newJob
              · refine .lineReads ?_
                split
                · exact h.journal.setRegraft.newJob.setJob
                · exact h.journal.setRegraft.newJob
            · refine .lineReads ?_
              split
              · exact h.journal.setRegraft.newJob.setJob
              · exact h.journal.setRegraft.newJob
          · split
            · exact h.journal.setRegraft.newJob.childReads.regraftNodes.ite h.journal.setRegraft.newJob.childReads
            · exact h.journal.setRegraft.newJob.childReads
  · refine .ite ?_ ?_
    · dsimp only
      split
      · exact ((h.foldl (fun _ _ h' => h'.dropJob)).regraftLines).ite (h.foldl (fun _ _ h' => h'.dropJob))
      · exact (h.foldl (fun _ _ h' => h'.dropJob)).ite ((h.foldl (fun _ _ h' => h'.dropJob)).regraftEnd)
    · dsimp only
      exact ((h.foldl (fun _ _ h' => h'.dropJob)).leafWriteBack).ite (h.foldl (fun _ _ h' => h'.dropJob))

theorem State.Keeps.regraftTry (h : a.Keeps s) : a.Keeps s.regraftTry := by
  unfold State.regraftTry
  refine .foldl h ?_
  intro t x h'
  split
  · exact h'.regraftStep
  · exact h'

theorem State.Keeps.endRegraft {r : Regraft} (h : a.Keeps s) : a.Keeps (s.endRegraft r) := h.journal.upd.showRegrafts.regraftTry

theorem execRegraftComplete_runs {level index : ℕ} (h : a.Keeps s) : Answer.Runs a (execRegraftComplete level index s) := by
  unfold execRegraftComplete
  dsimp only
  refine .next ?_
  split
  · exact h.regraftTry
  · exact h.regraftTry.endRegraft.ite h.regraftTry

theorem execDirtyLeafWriteBack_runs {node : ℕ} (h : a.Keeps s) : Answer.Runs a (execDirtyLeafWriteBack node s) := .next (h.leafWriteBack.ite h)

theorem execLeafAgeExpire_runs {node : ℕ} (h : a.Keeps s) : Answer.Runs a (execLeafAgeExpire node s) := by
  unfold execLeafAgeExpire
  refine .next ?_
  split
  · exact h.leafWriteBack.ite h
  · exact h

theorem State.Keeps.rotShow (h : a.Keeps s) : a.Keeps s.rotShow := by
  unfold State.rotShow
  split
  · exact h.setReg.setReg.setBit
  · exact h.setReg.setFld.setBit

theorem State.Keeps.forceFirst {d : ℕ} (h : a.Keeps s) : a.Keeps (s.forceFirst d) := by
  unfold State.forceFirst
  dsimp only
  exact (h.foldl (fun _ _ h' => h'.endSnapshot.event)).ite ((h.foldl (fun _ _ h' => h'.endSnapshot.event)).beginLong)

theorem State.Keeps.beginRotation {d : ℕ} {forced : Bool} (h : a.Keeps s) : a.Keeps (s.beginRotation d forced) := by
  unfold State.beginRotation
  dsimp only
  exact ((((((((h.forceFirst.ite h).makeKeys).persistFld).journal).upd).bump).ite
      (((((h.forceFirst.ite h).makeKeys).persistFld).journal).upd)).event).rotShow

theorem State.Keeps.wantRotation {d : ℕ} {forced : Bool} (h : a.Keeps s) : a.Keeps (s.wantRotation d forced) := by
  unfold State.wantRotation
  split
  · exact h.beginRotation
  · exact h.ite h.upd

theorem State.Keeps.endRotation {r : Rotation} (h : a.Keeps s) : a.Keeps (s.endRotation r) := by
  unfold State.endRotation
  extract_lets _ t u v _ w
  have hv : a.Keeps v := State.Keeps.zeroKeys (.persist h.journal)
  have hw : a.Keeps w := State.Keeps.rotShow (.event hv.upd)
  split
  · exact hw
  · exact State.Keeps.beginRotation hw.upd

theorem State.Keeps.seedEnded {i : ℕ} (h : a.Keeps s) : a.Keeps (s.seedEnded i) := h.foldl (fun _ _ h' => h'.clearSeed.ite h')

theorem State.Keeps.rotatePage {r : Rotation} {page : ℕ} (h : a.Keeps s) : a.Keeps (s.rotatePage r page) := by
  unfold State.rotatePage
  split
  next x x1 t e =>
  have ht : a.Keeps t := h.newJob.snd e
  split
  · exact ht.setJob
  · exact ht

theorem State.Keeps.rotateReads {j : Job} (h : a.Keeps s) : a.Keeps (s.rotateReads j) := h.ite h.setJob.lineReads

theorem State.Keeps.rotatePlot (h : a.Keeps s) : a.Keeps s.rotatePlot := by
  unfold State.rotatePlot
  split
  · exact h
  · exact h.ite (h.endRotation.ite (h.ite (h.rotatePage.ite h.seedEnded.journalFlags)))

theorem State.Keeps.rotateLines {j : Job} (h : a.Keeps s) : a.Keeps (s.rotateLines j) := by
  unfold State.rotateLines
  split
  · exact h.dropJob
  · dsimp only
    split
    · exact h.lineSlots
    · refine .foldl ?_ ?_
      · split
        · exact h.lineSlots.setJob
        · exact h.lineSlots
      · intro t x4 h'
        split
        · exact h'.reprogram
        · refine .ite ?_ ?_
          · exact h'.reprogram.ite h'
          · split
            · exact h'.reprogram.count
            · exact h'
            · exact h'.badTag

theorem State.Keeps.rotateDone {j : Job} (h : a.Keeps s) : a.Keeps (s.rotateDone j) := by
  unfold State.rotateDone
  dsimp only
  split
  · exact h.dropJob
  · exact h.dropJob.rotatePage.ite h.dropJob.journalFlags.upd.rotShow

theorem State.Keeps.rotatePump {n : ℕ} (h : a.Keeps s) : a.Keeps (State.rotatePump n s) := by
  induction n generalizing s with
  | zero => exact h
  | succ n ih =>
    unfold State.rotatePump
    split
    · exact h.ite ((h.ite (ih h.rotateReads)).ite ((h.ite (ih h.rotateLines)).ite (h.ite (ih h.rotateDone))))
    · exact (ih h.rotatePlot).ite h.rotatePlot

theorem State.Keeps.rotateStep (h : a.Keeps s) : a.Keeps s.rotateStep := by
  unfold State.rotateStep
  split
  · exact h
  · exact h.upd.rotatePump

theorem execKeyRotationStep_runs (h : a.Keeps s) : Answer.Runs a (execKeyRotationStep s) := .runAction h (fun _ _ h' => h'.rotateStep)

theorem execRotationTimer_runs (h : a.Keeps s) : Answer.Runs a (execRotationTimer s) := by
  unfold execRotationTimer
  refine .next ?_
  split
  · exact h
  · exact h.ite h.upd.rotateStep

theorem State.Keeps.sweepPass {n : ℕ} (h : a.Keeps s) : a.Keeps (s.sweepPass n) := by
  unfold State.sweepPass
  dsimp only
  split
  · exact h
  · exact h.upd.ite (h.upd.setFld.ite h.upd.setBit.setFld.event)

theorem State.Keeps.sweepNode {n : ℕ} {bad : List ℕ} (h : a.Keeps s) : a.Keeps (s.sweepNode n bad) :=
  (h.ite ((h.ite h.dirtyLeaf).startRegraft.eventOnce)).sweepPass.regraftTry

theorem State.Keeps.sweepReads {j n copy : ℕ} {wantParent wantNode : Bool} (h : a.Keeps s) : a.Keeps (s.sweepReads j n copy wantParent wantNode) := by
  unfold State.sweepReads
  dsimp only
  refine .ite ?_ ?_
  · refine .ite ?_ ?_
    · refine .ite ?_ ?_
      · refine .ite ?_ ?_
        · exact h
        · refine .submit ?_
          split
          · exact h.setJob
          · exact h
      · exact h
    · refine .submit ?_
      split
      · refine .setJob ?_
        refine .ite ?_ ?_
        · refine .ite ?_ ?_
          · exact h
          · refine .submit ?_
            split
            · exact h.setJob
            · exact h
        · exact h
      · refine .ite ?_ h
        refine .ite ?_ ?_
        · exact h
        · refine .submit ?_
          split
          · exact h.setJob
          · exact h
  · refine .ite ?_ ?_
    · refine .ite ?_ ?_
      · exact h
      · refine .submit ?_
        split
        · exact h.setJob
        · exact h
    · exact h

theorem State.Keeps.sweepSettle {level i : ℕ} {copies : List (List Byte)} (h : a.Keeps s) : a.Keeps (s.sweepSettle level i copies).2 := by
  unfold State.sweepSettle
  dsimp only
  split
  · exact h.pair
  · split
    · exact h.raiseParent.setNode.pair
    · exact h.pair

theorem State.Keeps.sweepStart {n : ℕ} (h : a.Keeps s) : a.Keeps (s.sweepStart n) := by
  unfold State.sweepStart
  dsimp only
  refine .sweepReads ?_
  split
  · exact h.newJob.setJob
  · exact h.newJob

theorem State.Keeps.sweepLines {j : Job} {n : ℕ} (h : a.Keeps s) : a.Keeps (s.sweepLines j n) := by
  unfold State.sweepLines
  split
  next x x1 t e =>
  have ht : a.Keeps t := h.lineSlots.snd e
  split
  · exact ht
  · exact ht.dropJob.sweepNode

theorem State.Keeps.sweepRead {j : Job} {n : ℕ} (h : a.Keeps s) : a.Keeps (s.sweepRead j n) := by
  unfold State.sweepRead
  refine .ite ?_ ?_
  · exact h.sweepLines
  · dsimp only
    refine .ite ?_ ?_
    · exact (((State.Keeps.ite_snd h.sweepSettle.sweepSettle h.sweepSettle.pair).setJob).sweepReads).ite
        (State.Keeps.ite_snd h.sweepSettle.sweepSettle h.sweepSettle.pair)
    · refine .ite ?_ ?_
      · exact (((State.Keeps.ite_snd h.sweepSettle.sweepSettle h.sweepSettle.pair).dropJob).loseSubtree).sweepNode
      · refine .ite ?_ ?_
        · exact (((State.Keeps.ite_snd h.sweepSettle.sweepSettle h.sweepSettle.pair).dropJob).loseSubtree).sweepNode
        · split
          · exact ((((State.Keeps.ite_snd h.sweepSettle.sweepSettle h.sweepSettle.pair).setJob).lineReads).sweepLines).ite
              (((State.Keeps.ite_snd h.sweepSettle.sweepSettle h.sweepSettle.pair).setJob).lineReads)
          · exact ((State.Keeps.ite_snd h.sweepSettle.sweepSettle h.sweepSettle.pair).setJob).lineReads

theorem State.Keeps.sweepStep {n : ℕ} (h : a.Keeps s) : a.Keeps (s.sweepStep n) := by
  unfold State.sweepStep
  refine .ite ?_ ?_
  · exact h
  · dsimp only
    split
    · exact h.sweepStart.sweepRead.ite h.sweepStart
    · exact h.sweepStart

theorem execUncleanSweepStep_runs {perr : Perr} (h : a.Keeps s) : Answer.Runs a (execUncleanSweepStep perr s) := by
  unfold execUncleanSweepStep
  refine .next ?_
  split
  · exact h
  · exact h.rickError.sweepStep

theorem State.Keeps.poisonPage {n : ℕ} (h : a.Keeps s) : a.Keeps (s.poisonPage n) := by
  unfold State.poisonPage
  dsimp only
  refine .foldl h ?_
  intro t x h'
  split
  · exact h'.delDelta.upd.newJob.pageProgram
  · exact h'.delDelta.upd.newJob

theorem State.Keeps.poisonReseed {level i : ℕ} (h : a.Keeps s) : a.Keeps (s.poisonReseed level i) := by
  unfold State.poisonReseed
  refine .ite ?_ ?_
  · exact h.poisonSeed
  · dsimp only
    refine .ite ?_ ?_
    · split
      · exact (((h.poisonSeed.foldl (fun _ _ h' => h'.poisonPage)).newJob).nodePrograms).setJob
      · exact ((h.poisonSeed.foldl (fun _ _ h' => h'.poisonPage)).newJob).nodePrograms
    · exact h.poisonSeed.foldl (fun _ _ h' => h'.poisonPage)

/-! ### Machine/Apply.lean -/

theorem State.Keeps.takeVersion {line : ℕ} (h : a.Keeps s) : a.Keeps (s.takeVersion line) := h.dirtyLeaf

theorem State.Keeps.minorEnd {dom line : ℕ} (h : a.Keeps s) : a.Keeps (s.minorEnd dom line) := by
  unfold State.minorEnd
  refine .ite ?_ ?_
  · refine .ite ?_ ?_
    · split
      · exact h.ite h.event.wantRotation
      · exact h.event.wantRotation
    · exact h
  · exact h.startRegraft.regraftTry

theorem State.Keeps.discardAdvance {dom line : ℕ} (h : a.Keeps s) : a.Keeps (s.discardAdvance dom line) :=
  h.upd.ite (h.upd.minorEnd.ite h.takeVersion)

theorem State.Keeps.discardPump (h : a.Keeps s) : a.Keeps s.discardPump := h.upd.foldl (fun _ _ h' => h'.discardAdvance)

theorem State.Keeps.frameScan (h : a.Keeps s) : a.Keeps s.frameScan := h.foldl (fun _ _ h' => h'.setFrame.upd.ite h')

theorem execFrameScan_runs (h : a.Keeps s) : Answer.Runs a (execFrameScan s) := .next h.frameScan.discardPump

theorem State.Keeps.applyStart {f : Frame} {line : ℕ} (h : a.Keeps s) : a.Keeps (s.applyStart f line) := h.sweepStep.ite (h.minorEnd.ite h)

theorem State.Keeps.putLine {p line : ℕ} {slot : List Byte} {why : Why} (h : a.Keeps s) : a.Keeps (s.putLine p line slot why).2 := by
  unfold State.putLine
  dsimp only
  exact State.Keeps.ite_snd h.pair h.noteWrite.noteHot.upd.submit.pair

theorem State.Keeps.programFrame {set way line : ℕ} {f : Frame} {old : Option StoredForm} (h : a.Keeps s) :
    a.Keeps (s.programFrame set way f line old) := by
  unfold State.programFrame
  refine .ite h.setFrame.strand ?_
  extract_lets targets t
  have ht : a.Keeps t := h.foldl fun _ _ h' => by
    split
    · exact h'.recordDelta
    · exact h'.markRebuild
    · exact h'
  split
  next n u e =>
  have hu : a.Keeps u := ht.putLine.snd e
  split
  next m v e =>
  have hv : a.Keeps (m, v).2 := by
    rw [← e]
    refine .foldl_snd (p := (0, u)) hu fun q _ hq => ?_
    dsimp only
    split
    · exact hq.putLine.setMig
    · exact hq.putLine
  replace hv : a.Keeps v := hv
  exact hv.freeFrame.ite hv.setFrame

theorem State.Keeps.programTry {set way : ℕ} {f : Frame} {line : ℕ} {old : StoredForm} (h : a.Keeps s) : a.Keeps (s.programTry set way f line old) :=
  h.setFrame.ite h.programFrame

theorem State.Keeps.wholeLine {f : Frame} {line : ℕ} {old : StoredForm} (h : a.Keeps s) : a.Keeps (s.wholeLine f line old).2 := by
  unfold State.wholeLine
  dsimp only
  refine .ite_snd ?_ ?_
  · exact h.pair
  · refine .ite_snd ?_ ?_
    · exact h.pair
    · split
      · exact h.countGlobal.pair
      · split
        · exact h.countGlobal.pair
        · exact h.countGlobal.pair
        · exact h.countGlobal.badTag.pair

theorem State.Keeps.applyMerge {set way : ℕ} {f : Frame} {line : ℕ} {old : StoredForm} (h : a.Keeps s) : a.Keeps (s.applyMerge set way f line old) :=
    by
  unfold State.applyMerge
  split
  next x x1 x2 t e =>
  have ht : a.Keeps t := h.wholeLine.snd e
  dsimp only
  exact ht.takeVersion.countGlobal.count.setFrame.anchorAppend.ite ht.takeVersion.countGlobal.count.programTry

theorem State.Keeps.applyOld {set way : ℕ} {old : StoredForm} (h : a.Keeps s) : a.Keeps (s.applyOld set way old) := by
  unfold State.applyOld
  split
  · exact h
  · exact h.ite (h.setFrame.applyStart.ite h.applyMerge)

theorem State.Keeps.applyLost {set way : ℕ} (h : a.Keeps s) : a.Keeps (s.applyLost set way) := by
  unfold State.applyLost
  split
  · exact h
  · exact h.notePoison.applyOld

theorem State.Keeps.applySolved {j : Job} {set way : ℕ} (h : a.Keeps s) : a.Keeps (s.applySolved j set way) := by
  unfold State.applySolved
  dsimp only
  split
  · exact h.dropJob
  · split
    · exact h.dropJob.solve.noteRebuilt.applyOld
    · exact h.dropJob.solve.applyLost

theorem State.Keeps.applyFour {set way line : ℕ} (h : a.Keeps s) : a.Keeps (s.applyFour set way line) := by
  unfold State.applyFour
  dsimp only
  refine .ite ?_ ?_
  · exact h.applyLost
  · split
    · exact h.newJob.stepFourReads.applySolved.ite h.newJob.stepFourReads
    · exact h.newJob.stepFourReads

theorem State.Keeps.applyRead {set way line : ℕ} (h : a.Keeps s) : a.Keeps (s.applyRead set way line) := by
  unfold State.applyRead
  dsimp only
  split
  · exact h.submit
  · refine .ite ?_ ?_
    · exact h.applyFour
    · split
      · exact h.applyOld
      · exact h.submit

theorem State.Keeps.applyDiscard {set way line : ℕ} (h : a.Keeps s) : a.Keeps (s.applyDiscard set way line) :=
  h.takeVersion.countGlobal.freeFrame.cacheDrop

theorem State.Keeps.applyBegin {set way : ℕ} {f : Frame} {line : ℕ} (h : a.Keeps s) : a.Keeps (s.applyBegin set way f line) :=
  h.applyDiscard.ite h.setFrame.applyRead

theorem State.Keeps.applyFrame {set way : ℕ} {f : Frame} {line : ℕ} (h : a.Keeps s) : a.Keeps (s.applyFrame set way f line) := by
  unfold State.applyFrame
  refine .ite ?_ ?_
  · exact h
  · split
    · exact h.programTry
    · exact h.applyStart.ite h.applyBegin
    · exact h.applyStart.ite h.applyBegin
    · exact h.applyStart.ite h.applyBegin
    · exact h.applyStart.ite h.applyBegin

theorem execApply_runs {set way : ℕ} {tables perr : Perr} (h : a.Keeps s) : Answer.Runs a (execApply set way tables perr s) := by
  unfold execApply
  refine .below h ?_
  refine .below h ?_
  refine .next ?_
  split
  · exact h
  · dsimp only
    split
    · exact h.rickError.rickError.readFrame
    · exact h.rickError.rickError.readFrame.applyFrame.ite h.rickError.rickError.readFrame

theorem State.Keeps.throughCheck (h : a.Keeps s) : a.Keeps s.throughCheck := h.foldl (fun _ _ h' => (h'.completeWrite.ite h').ite h')

theorem State.Keeps.goOn (h : a.Keeps s) : a.Keeps s.goOn := h.regraftTry.rotatePump.copyWaiting.throughCheck

theorem State.Keeps.frameDone {set way : ℕ} {f : Frame} (h : a.Keeps s) : a.Keeps (s.frameDone set way f) :=
  (h.freeFrame.leafWriteBack.startWriteback.ite h.freeFrame).goOn

theorem execParityWritebackComplete_runs {plot page : ℕ} (h : a.Keeps s) : Answer.Runs a (execParityWritebackComplete plot page s) :=
  .next (h.releaseDelta.goOn.ite h)

theorem State.Keeps.frameVerified {set way : ℕ} {dual : Bool} {p : ℕ} (h : a.Keeps s) : a.Keeps (s.frameVerified set way dual p) := by
  unfold State.frameVerified
  split
  · exact h
  · dsimp only
    refine .ite ?_ ?_
    · refine .setFrame ?_
      refine .ite ?_ ?_
      · split
        · exact h.setMig.ite h
        · exact h
      · exact h
    · refine .frameDone ?_
      refine .ite ?_ ?_
      · split
        · exact h.setMig.ite h
        · exact h
      · exact h

theorem State.Keeps.frameFailed {set way : ℕ} {dual : Bool} {p : ℕ} (h : a.Keeps s) : a.Keeps (s.frameFailed set way dual p) := by
  unfold State.frameFailed
  split
  · exact h
  · dsimp only
    refine .ite ?_ ?_
    · split
      · exact h.retirePlot.retarget.frameVerified.ite h.frameVerified
      · exact h.frameVerified
    · split
      · exact h.setFrame.setMig
      · exact h.setFrame.freeFrame.cacheDrop.ite (h.setFrame.programFailed.ite h.setFrame.programFailed.strand)

theorem State.Keeps.redirect {plot tgt : ℕ} (h : a.Keeps s) : a.Keeps (s.redirect plot tgt) := by
  unfold State.redirect
  dsimp only
  refine .countGlobal ?_
  refine .countGlobal ?_
  refine .beginMigration ?_
  refine .foldl ?_ (fun _ _ h' => h'.dirtyLeaf)
  refine .foldl h ?_
  intro t x h'
  split
  · exact h'
  · split
    · exact h'.readFrame.setFrame
    · exact h'.readFrame

theorem execPlotRedirect_runs {plot : ℕ} (h : a.Keeps s) : Answer.Runs a (execPlotRedirect plot s) := by
  unfold execPlotRedirect
  refine .next ?_
  refine .ite ?_ ?_
  · split
    · exact h
    next x x1 t e =>
      have ht : a.Keeps t := h.takeSpare e
      exact ht.redirect
  · exact h

theorem State.Keeps.startAnchorCheckpoint (h : a.Keeps s) : a.Keeps s.startAnchorCheckpoint :=
  h.ite (h.upd.foldl (fun _ _ h' => h'.leafWriteBack.startWriteback.ite h'))

theorem execAnchorJournalCheckpoint_runs (h : a.Keeps s) : Answer.Runs a (execAnchorJournalCheckpoint s) :=
  .beginAction h (fun _ _ h' => h'.endEntry.ite h'.startAnchorCheckpoint)

theorem execAnchorCountCheckpoint_runs (h : a.Keeps s) : Answer.Runs a (execAnchorCountCheckpoint s) := .next (h.startAnchorCheckpoint.ite h)

theorem State.Keeps.closeAnchors {x : ℕ} (h : a.Keeps s) : a.Keeps (s.closeAnchors x) := h.ringClose.anchorAppend

theorem execAnchorCheckpointComplete_runs (h : a.Keeps s) : Answer.Runs a (execAnchorCheckpointComplete s) := by
  unfold execAnchorCheckpointComplete
  refine .next ?_
  split
  · exact h
  · exact h.ite h.closeAnchors

theorem State.Keeps.anchorsClosed (h : a.Keeps s) : a.Keeps s.anchorsClosed := by
  unfold State.anchorsClosed
  split
  · exact h
  · exact h.upd.setReg64.ringPump.endAction

theorem execLeafWriteBackComplete_runs {node : ℕ} (h : a.Keeps s) : Answer.Runs a (execLeafWriteBackComplete node s) := by
  unfold execLeafWriteBackComplete
  refine .next ?_
  split
  · exact h
  · refine .ite ?_ ?_
    · dsimp only
      refine .goOn ?_
      split
      · exact h.setNode.upd
      · exact h.upd
    · exact h

/-! ### Machine/Image.lean -/

theorem State.Keeps.putBody {i : Image} {at_ : ℕ} {sections : List (List Byte)} (h : a.Keeps s) : a.Keeps (s.putBody i at_ sections) :=
  h.putLogPages.upd

theorem State.Keeps.sealPump (h : a.Keeps s) : a.Keeps s.sealPump := by
  unfold State.sealPump
  split
  · exact h
  · refine .ite ?_ ?_
    · exact h
    · split
      · exact h.upd.putLogPages
      · exact h.putBody.ite h

theorem State.Keeps.writeImage {cause : ℕ} (h : a.Keeps s) : a.Keeps (s.writeImage cause) := h.upd.putBody.sealPump

theorem State.Keeps.takeImage (h : a.Keeps s) : a.Keeps s.takeImage := h.upd

theorem State.Keeps.dropImage (h : a.Keeps s) : a.Keeps s.dropImage := by
  unfold State.dropImage
  split
  · exact h
  · exact h.upd.foldl (fun _ _ h' => h'.erasePlot)

theorem State.Keeps.eraseIdleArea (h : a.Keeps s) : a.Keeps s.eraseIdleArea := h.foldl (fun _ _ h' => h'.erasePlot)

/-! ### Machine/Hub.lean -/

theorem State.Keeps.release {c tag : ℕ} (h : a.Keeps s) : a.Keeps (s.release c tag) := h.setChan

theorem State.Keeps.resumePlanes {c : ℕ} (h : a.Keeps s) : a.Keeps (s.resumePlanes c) := by
  unfold State.resumePlanes
  refine .foldl h ?_
  intro t x h'
  split
  · exact h'
  · exact h'.ite h'.submit

theorem State.Keeps.unsuspend {c tag : ℕ} (h : a.Keeps s) : a.Keeps (s.unsuspend c tag) := h.setChan.showSuspended

theorem State.Keeps.restranded {line : ℕ} {b : Option (List Byte)} (h : a.Keeps s) : a.Keeps (s.restranded line b) := by
  unfold State.restranded
  dsimp only
  split
  · exact h.strandPut
  · exact h.ladderCount.event.strandPut
  · exact h

theorem State.Keeps.jobReady {j : Job} {lat : ℕ} (h : a.Keeps s) : a.Keeps (s.jobReady j lat) := by
  unfold State.jobReady
  split
  · exact h.parityRead
  · exact h.rebuildRead
  · exact h.refreshRead
  · exact h.copyRead
  · exact h.rewriteRead
  · exact h.reconDone
  · exact h.scrubRead
  · exact h.rotatePump
  · split
    · exact h.regraftLines.regraftTry.ite h.regraftNodes.regraftTry
    · exact h.dropJob
  · exact h.dropJob.restranded
  · exact h.applySolved
  · exact h.sweepRead
  · exact h.dropJob
  · exact h.dropJob
  · exact h.dropJob
  · exact h.dropJob

theorem State.Keeps.jobItem {id item : ℕ} {b : Option (List Byte)} {lat : ℕ} (h : a.Keeps s) : a.Keeps (s.jobItem id item b lat) := by
  unfold State.jobItem
  split
  · exact h
  · exact h.setJob.jobReady.ite h.setJob

theorem State.Keeps.jobClean {id item c : ℕ} {m : MCmd} (h : a.Keeps s) : a.Keeps (s.jobClean id item c m) := by
  unfold State.jobClean
  split
  · exact h
  · exact h.setJob.ite h

theorem State.Keeps.jobDecoded {id item c k : ℕ} (h : a.Keeps s) : a.Keeps (s.jobDecoded id item c k) := by
  unfold State.jobDecoded
  split
  · exact h
  · exact (h.ladderCount.requeue.ite h.ladderCount).ite h

theorem State.Keeps.jobProgrammed {id : ℕ} (h : a.Keeps s) : a.Keeps (s.jobProgrammed id) := by
  unfold State.jobProgrammed
  split
  · exact h
  · split
    · exact h.refreshVerified
    · exact h.copyVerified
    · exact h.setJob
    · exact h.setJob.regraftTry
    · exact h.setJob.rotatePump
    · exact h.dropJob.strandPlaced.ite h.setJob
    · exact h.dropJob.goOn.ite h.setJob
    · exact h.dropJob.goOn.ite h.setJob
    · exact h.dropJob.goOn.ite h.setJob
    · exact h.dropJob.goOn.ite h.setJob
    · exact h.dropJob.goOn.ite h.setJob
    · exact h.dropJob.goOn.ite h.setJob
    · exact h.dropJob.goOn.ite h.setJob
    · exact h.dropJob.goOn.ite h.setJob
    · exact h.dropJob.goOn.ite h.setJob
    · exact h.dropJob.goOn.ite h.setJob

theorem State.Keeps.jobProgramFailed {id item : ℕ} {m : MCmd} (h : a.Keeps s) : a.Keeps (s.jobProgramFailed id item m) := by
  unfold State.jobProgramFailed
  split
  · exact h
  · split
    · exact h.copyFailed
    · dsimp only
      refine .ite ?_ ?_
      · exact h.dropJob.strand
      · split
        · exact h.dropJob.strand
        · exact h.dropJob
    · split
      · exact h.programFailed.parityKept
      · exact h.parityKept
    · split
      · exact h.jobProgrammed
      · exact (h.requestMigration.ite h.requestMigration.strand).jobProgrammed
    · split
      · exact h.jobProgrammed
      · exact (h.requestMigration.ite h.requestMigration.strand).jobProgrammed
    · split
      · exact h.jobProgrammed
      · exact (h.requestMigration.ite h.requestMigration.strand).jobProgrammed
    · split
      · exact h.jobProgrammed
      · exact (h.requestMigration.ite h.requestMigration.strand).jobProgrammed
    · split
      · exact h.jobProgrammed
      · exact (h.requestMigration.ite h.requestMigration.strand).jobProgrammed
    · split
      · exact h.jobProgrammed
      · exact (h.requestMigration.ite h.requestMigration.strand).jobProgrammed
    · split
      · exact h.jobProgrammed
      · exact (h.requestMigration.ite h.requestMigration.strand).jobProgrammed
    · split
      · exact h.jobProgrammed
      · exact (h.requestMigration.ite h.requestMigration.strand).jobProgrammed
    · split
      · exact h.jobProgrammed
      · exact (h.requestMigration.ite h.requestMigration.strand).jobProgrammed
    · split
      · exact h.jobProgrammed
      · exact (h.requestMigration.ite h.requestMigration.strand).jobProgrammed
    · split
      · exact h.jobProgrammed
      · exact (h.requestMigration.ite h.requestMigration.strand).jobProgrammed
    · split
      · exact h.jobProgrammed
      · exact (h.requestMigration.ite h.requestMigration.strand).jobProgrammed
    · split
      · exact h.jobProgrammed
      · exact (h.requestMigration.ite h.requestMigration.strand).jobProgrammed

theorem State.Keeps.nodeProgramFailed {leaf level index copy : ℕ} {m : MCmd} (h : a.Keeps s) : a.Keeps (s.nodeProgramFailed leaf level index copy m)
    :=
  h.requestMigration.leafProgress.ite h.requestMigration.submit

theorem State.Keeps.logFailed {c : ℕ} {m : MCmd} (h : a.Keeps s) : a.Keeps (s.logFailed c m) := h.ite h.submit

theorem State.Keeps.programEnded {c : ℕ} {m : MCmd} {ok : Bool} (h : a.Keeps s) : a.Keeps (s.programEnded c m ok) := by
  unfold State.programEnded
  split
  · exact h.frameVerified.ite h.frameFailed.lifeUpdate
  · exact h.frameVerified.ite h.frameFailed.lifeUpdate
  · exact h.leafProgress.ite h.nodeProgramFailed.lifeUpdate
  · exact h.jobProgrammed.ite h.jobProgramFailed.lifeUpdate
  · exact h.sealPump.ckptPump.ite h.logFailed
  · exact h.ite h.recorderReplace.lifeUpdate
  · exact h
  · exact h
  · exact h
  · exact h
  · exact h

theorem State.Keeps.verifyNext {c tag : ℕ} {ok : Bool} (h : a.Keeps s) : a.Keeps (s.verifyNext c tag ok) := by
  unfold State.verifyNext
  split
  · exact h
  · exact h.ite h.release.programEnded

theorem State.Keeps.verifyMiss {c tag k : ℕ} (h : a.Keeps s) : a.Keeps (s.verifyMiss c tag k) := by
  unfold State.verifyMiss
  split
  · exact h
  · exact h.submit

theorem State.Keeps.verifySlot {c tag k : ℕ} {b : List Byte} (h : a.Keeps s) : a.Keeps (s.verifySlot c tag k b) := by
  unfold State.verifySlot
  split
  · exact h
  · exact h.verifyNext.ite h.verifyMiss

theorem State.Keeps.applyDecoded {set way c k : ℕ} {b : List Byte} (h : a.Keeps s) : a.Keeps (s.applyDecoded set way c k b) := h.ladderCount.applyOld

theorem State.Keeps.applyMissed {set way : ℕ} (h : a.Keeps s) : a.Keeps (s.applyMissed set way) := by
  unfold State.applyMissed
  split
  · exact h.applyFour
  · exact h

theorem State.Keeps.readDecoded {c : ℕ} {m : MCmd} {k : ℕ} {clean : Bool} {b : List Byte} {x : Meas} (h : a.Keeps s) : a.Keeps
    (s.readDecoded c m k clean b x) := by
  unfold State.readDecoded
  split
  · exact h.fetchSlot
  · exact ((h.jobClean.ite h).jobDecoded).jobItem
  · exact h.verifySlot
  · exact h.applyDecoded
  · exact h
  · exact h
  · exact h
  · exact h
  · exact h
  · exact h
  · exact h

theorem State.Keeps.readMissed {c : ℕ} {m : MCmd} {out : Bool} {x : Meas} (h : a.Keeps s) : a.Keeps (s.readMissed c m out x) := by
  unfold State.readMissed
  split
  · exact h.fetchMiss
  · exact h.jobItem
  · exact h.verifyMiss
  · exact h.applyMissed
  · exact h
  · exact h
  · exact h
  · exact h
  · exact h
  · exact h
  · exact h

theorem State.Keeps.nextStep {c : ℕ} {m : MCmd} {dev : ℤ} {x : Meas} (h : a.Keeps s) : a.Keeps (s.nextStep c m dev x) :=
  h.submitHead.ite (h.submitHead.ite h.readMissed)

theorem State.Keeps.dieFailed {c d : ℕ} (h : a.Keeps s) : a.Keeps (s.dieFailed c d) := h.ite h.setChan.mediaLost

theorem State.Keeps.ended {c : ℕ} {m : MCmd} (h : a.Keeps s) : a.Keeps (s.ended c m) := by
  unfold State.ended
  split
  · exact h.readMissed
  · exact h.readMissed
  · split
    · split
      · exact h.marginSlot
      · exact h
    · exact h
  · exact h.programEnded
  · exact h.programEnded
  · split
    · exact h.eraseFail
    · exact h
  · exact h
  · exact h
  · exact h
  · exact h
  · exact h

theorem State.Keeps.endAll {c : ℕ} (h : a.Keeps s) : a.Keeps (s.endAll c) := h.setChan.showSuspended.foldl (fun _ _ h' => h'.ended)

theorem State.Keeps.failChannel {c : ℕ} {event : Bool} (h : a.Keeps s) : a.Keeps (s.failChannel c event) :=
  h.ite ((h.setChanState.event.ite h.setChanState).mediaLost.endAll)

theorem State.Keeps.delayReads {c : ℕ} (h : a.Keeps s) : a.Keeps (s.delayReads c) := by
  unfold State.delayReads
  dsimp only
  refine .foldl h ?_
  intro t x h'
  split
  · split
    · exact h'.setFetch
    · exact h'
  · split
    · split
      · split
        · exact h'.setFetch
        · exact h'
      · exact h'
      · exact h'
      · exact h'
      · exact h'
      · exact h'
      · exact h'
      · exact h'
      · exact h'
      · exact h'
      · exact h'
      · exact h'
      · exact h'
      · exact h'
      · exact h'
      · exact h'
    · exact h'
  · exact h'
  · exact h'
  · exact h'
  · exact h'
  · exact h'
  · exact h'
  · exact h'
  · exact h'
  · exact h'

theorem State.Keeps.triggerReset {c cause : ℕ} (h : a.Keeps s) : a.Keeps (s.triggerReset c cause) := by
  unfold State.triggerReset
  refine .ite ?_ ?_
  · exact h
  · dsimp only
    exact h.delayReads.resetChannel.failChannel.ite h.delayReads.resetChannel

theorem State.Keeps.dieStatus {c d : ℕ} (h : a.Keeps s) : a.Keeps (s.dieStatus c d) := h.dieFailed.triggerReset.ite h.dieFailed

theorem State.Keeps.settle {c : ℕ} (h : a.Keeps s) : a.Keeps (s.settle c) := h.resumePlanes.maintPump

theorem Answer.Runs.answered {c tag : ℕ} {ops : List MOp} {k : MCmd → State → State} (h : a.Keeps s) (hk : ∀ y0 t, a.Keeps t → a.Keeps (k y0 t)) :
    Answer.Runs a (s.answered c tag ops k) := by
  unfold State.answered
  refine .below h ?_
  refine .next ?_
  refine .ite ?_ ?_
  · exact h
  · split
    · exact h
    · exact ((hk _ _ h.unsuspend.release).settle).ite h

theorem State.Keeps.resense {c : ℕ} {did : Bool} (h : a.Keeps s) : a.Keeps (s.resense c did) := h.count.ite h

theorem execReadResponse_runs {chan tag : ℕ} {st : HubStatus} {resensed : Bool} {dev : ℤ} {slot : List Byte} {m : Meas} (h : a.Keeps s) : Answer.Runs
    a (execReadResponse chan tag st resensed dev slot m s) := by
  unfold execReadResponse
  refine .answered h ?_
  intro x t h'
  split
  · dsimp only
    split
    · exact (h'.resense.learn.ite h'.resense).readDecoded
    · exact (h'.resense.learn.ite h'.resense).nextStep
  · exact h'.dieStatus.readMissed
  · exact h'.ite h'.submitHead
  · exact h'.nextStep
  · exact h'.nextStep
  · exact h'.nextStep
  · exact h'.nextStep
  · exact h'.nextStep
  · exact h'.nextStep

theorem execReadSoftResponse_runs {chan tag : ℕ} {st : HubStatus} {slot : List Byte} {erasures : List ℕ} {m : Meas} (h : a.Keeps s) : Answer.Runs a
    (execReadSoftResponse chan tag st slot erasures m s) := by
  unfold execReadSoftResponse
  refine .answered h ?_
  intro x t h'
  split
  · split
    · exact h'.readDecoded
    · exact h'.readMissed
  · exact h'.dieStatus.readMissed
  · exact h'.ite h'.submitHead
  · exact h'.readMissed
  · exact h'.readMissed
  · exact h'.readMissed
  · exact h'.readMissed
  · exact h'.readMissed
  · exact h'.readMissed

theorem execMarginReadResponse_runs {chan tag : ℕ} {st : HubStatus} {weak : ℕ} (h : a.Keeps s) : Answer.Runs a
    (execMarginReadResponse chan tag st weak s) := by
  unfold execMarginReadResponse
  refine .answered h ?_
  intro x t h'
  split
  · dsimp only
    refine .ite ?_ ?_
    · exact (h'.dieStatus.ite h').submitHead
    · split
      · exact (h'.dieStatus.ite h').marginSlot
      · exact h'.dieStatus.ite h'
  · exact h'
  · exact h'
  · exact h'
  · exact h'
  · exact h'
  · exact h'
  · exact h'
  · exact h'
  · exact h'
  · exact h'

theorem State.Keeps.programStatus {c : ℕ} {st : HubStatus} {q : MCmd} (h : a.Keeps s) : a.Keeps (s.programStatus c st q) := by
  unfold State.programStatus
  dsimp only
  split
  · split
    · exact h.verifyNext
    · exact h.programEnded
  · exact h.submitHead
  · exact h.submitHead
  · exact h.submitHead
  · split
    · exact h.dieStatus.verifyNext
    · exact h.dieStatus.programEnded
  · split
    · exact h.count.verifyNext
    · exact h.count.programEnded
  · split
    · exact h.verifyNext
    · exact h.programEnded
  · split
    · exact h.verifyNext
    · exact h.programEnded
  · split
    · exact h.verifyNext
    · exact h.programEnded

theorem execProgramResponse_runs {chan tag : ℕ} {st : HubStatus} (h : a.Keeps s) : Answer.Runs a (execProgramResponse chan tag st s) :=
  .answered h (fun _ _ h' => h'.programStatus)

theorem execCopyResponse_runs {chan tag : ℕ} {st : HubStatus} (h : a.Keeps s) : Answer.Runs a (execCopyResponse chan tag st s) :=
  .answered h (fun _ _ h' => h'.programStatus)

theorem execEraseResponse_runs {chan tag : ℕ} {st : HubStatus} (h : a.Keeps s) : Answer.Runs a (execEraseResponse chan tag st s) := by
  unfold execEraseResponse
  refine .answered h ?_
  intro x t h'
  split
  · split
    · exact h'.eraseDone
    · exact h'.ite h'.submitHead
    · exact h'.ite h'.submitHead
    · exact h'.ite h'.submitHead
    · exact h'.dieStatus.eraseFail
    · exact h'.count.eraseFail
    · exact h'.eraseFail
    · exact h'.eraseFail
    · exact h'.eraseFail
  · exact h'
  · exact h'
  · exact h'
  · exact h'
  · exact h'
  · exact h'
  · exact h'
  · exact h'
  · exact h'
  · exact h'

theorem execSuspendResponse_runs {chan tag : ℕ} {st : HubStatus} (h : a.Keeps s) : Answer.Runs a (execSuspendResponse chan tag st s) := by
  unfold execSuspendResponse
  refine .answered h ?_
  intro x t h'
  refine .ite ?_ ?_
  · dsimp only
    split
    · exact h'.setChan.showSuspended.count.ite h'
    · exact h'
  · exact h'.dieStatus.ite h'

theorem execResumeResponse_runs {chan tag : ℕ} {st : HubStatus} (h : a.Keeps s) : Answer.Runs a (execResumeResponse chan tag st s) :=
  .answered h (fun _ _ h' => h'.dieStatus.ite h')

theorem State.Keeps.leaveWaiting {c k : ℕ} (h : a.Keeps s) : a.Keeps (s.leaveWaiting c k) := h.setChan

theorem execSuspendHoldTimeout_runs {chan die plane : ℕ} (h : a.Keeps s) : Answer.Runs a (execSuspendHoldTimeout chan die plane s) := by
  unfold execSuspendHoldTimeout
  refine .below h ?_
  refine .below h ?_
  refine .below h ?_
  refine .next ?_
  split
  · exact h
  · exact h.ite h.leaveWaiting.submitHead.count.event

theorem State.Keeps.resend {c : ℕ} {f : InFlight} (h : a.Keeps s) : a.Keeps (s.resend c f) := h.setChan

theorem State.Keeps.verifyRead {c : ℕ} {f : InFlight} {k : ℕ} (h : a.Keeps s) : a.Keeps (s.verifyRead c f k) := h.submitHead

theorem State.Keeps.replayAll {c : ℕ} (h : a.Keeps s) : a.Keeps (s.replayAll c) := by
  unfold State.replayAll
  refine .foldl h ?_
  intro t x h'
  split
  · exact h'.resend
  · exact h'.resend
  · exact h'.resend
  · exact h'.resend
  · exact h'.resend.ite (h'.foldl (fun _ _ h'1 => h'1.verifyRead))
  · exact h'.resend.ite (h'.foldl (fun _ _ h'1 => h'1.verifyRead))
  · exact h'
  · exact h'
  · exact h'
  · exact h'
  · exact h'

theorem State.Keeps.direct {c : ℕ} {m : MCmd} (h : a.Keeps s) : a.Keeps (s.direct c m) := h.launch

theorem State.Keeps.statusAll {c : ℕ} (h : a.Keeps s) : a.Keeps (s.statusAll c) := h.foldl (fun _ _ h' => h'.direct)

theorem State.Keeps.readIdentity {c : ℕ} (h : a.Keeps s) : a.Keeps (s.readIdentity c) := h.setChanState.direct

theorem State.Keeps.channelBack {c : ℕ} (h : a.Keeps s) : a.Keeps (s.channelBack c) :=
  h.readIdentity.ite h.delayReads.statusAll.setChanState.replayAll

theorem execChannelResetComplete_runs {chan : ℕ} (h : a.Keeps s) : Answer.Runs a (execChannelResetComplete chan s) :=
  .below h (.next (h.channelBack.resetDone.ite h))

theorem execRetrainTimeout_runs {chan : ℕ} (h : a.Keeps s) : Answer.Runs a (execRetrainTimeout chan s) := .below h (.next (h.triggerReset.ite h))

theorem execArbiterWatchdog_runs {chan : ℕ} (h : a.Keeps s) : Answer.Runs a (execArbiterWatchdog chan s) := by
  unfold execArbiterWatchdog
  refine .below h ?_
  refine .next ?_
  split
  · exact h.triggerReset.ite h
  · exact h

theorem execDataTagTimeout_runs {chan tag : ℕ} (h : a.Keeps s) : Answer.Runs a (execDataTagTimeout chan tag s) := by
  unfold execDataTagTimeout
  refine .below h ?_
  refine .next ?_
  split
  · exact h.triggerReset.ite h
  · exact h

theorem execMcCtlReset_runs {who : Requester} {chan : ℕ} (h : a.Keeps s) : Answer.Runs a (execMcCtlReset who chan s) :=
  .below h (.next (h.asWriter (fun _ h' => h'.triggerReset)))

theorem State.Keeps.driveReset {g : ℕ} {high : Bool} (h : a.Keeps s) : a.Keeps (s.driveReset g high) := h.upd

theorem State.Keeps.heldInReset {c : ℕ} (h : a.Keeps s) : a.Keeps (s.heldInReset c) := h.setChan.setChanState.upd.ite h

theorem State.Keeps.groupReset {chan : ℕ} (h : a.Keeps s) : a.Keeps (s.groupReset chan) :=
  (h.driveReset.event.foldl (fun _ _ h' => h'.triggerReset)).foldl (fun _ _ h' => h'.heldInReset)

theorem State.Keeps.leaveOff {c : ℕ} (h : a.Keeps s) : a.Keeps (s.leaveOff c) := h.setChanState.ite h

theorem State.Keeps.beginTrain {c : ℕ} (h : a.Keeps s) : a.Keeps (s.beginTrain c) := h.setChanState.ite h

theorem State.Keeps.statusDies {c : ℕ} (h : a.Keeps s) : a.Keeps (s.statusDies c) := (h.foldl (fun _ _ h' => h'.submit)).ite h

theorem execGroupSidebandReset_runs {chan : ℕ} (h : a.Keeps s) : Answer.Runs a (execGroupSidebandReset chan s) :=
  .below h (.next (h.groupReset.ite h))

theorem execGroupRailsGood_runs {group : ℕ} (h : a.Keeps s) : Answer.Runs a (execGroupRailsGood group s) :=
  .below h (.next ((h.driveReset.foldl (fun _ _ h' => h'.leaveOff)).ite h))

theorem execLngRstRelease_runs {group : ℕ} (h : a.Keeps s) : Answer.Runs a (execLngRstRelease group s) :=
  .below h (.next (h.ite (h.driveReset.foldl (fun _ _ h' => h'.beginTrain))))

theorem execChannelTrained_runs {chan : ℕ} (h : a.Keeps s) : Answer.Runs a (execChannelTrained chan s) := .below h (.next (h.readIdentity.ite h))

theorem execBringUpTimeout_runs {chan : ℕ} (h : a.Keeps s) : Answer.Runs a (execBringUpTimeout chan s) := .below h (.next (h.failChannel.ite h))

theorem State.Keeps.mixed {p0 p1 : ℕ} (h : a.Keeps s) : a.Keeps (s.mixed p0 p1) := h.ite (h.upd.event.foldl (fun _ _ h' => h'.ite h'.failChannel))

theorem State.Keeps.identify {c : ℕ} {v : Word} (h : a.Keeps s) : a.Keeps (s.identify c v) := by
  unfold State.identify
  refine .ite h.setReg.event.failChannel (.ite (State.Keeps.mixed (.upd h.setReg)) ?_)
  split
  · exact State.Keeps.mixed (.upd h.setReg)
  · exact State.Keeps.direct (.statusAll (.setReg (.upd h.setReg)))

theorem State.Keeps.configDone {c : ℕ} (h : a.Keeps s) : a.Keeps (s.configDone c) := h.upd.setChanState.replayAll.ite h

theorem execRetrainComplete_runs {chan : ℕ} (h : a.Keeps s) : Answer.Runs a (execRetrainComplete chan s) :=
  .below h (.next (h.setChan.setChanState.configDone.ite h))

theorem execConfigResponse_runs {chan tag : ℕ} {st : HubStatus} {data : Word} (h : a.Keeps s) : Answer.Runs a (execConfigResponse chan tag st data s)
    :=
  .answered h (fun _ _ h' => (h'.identify.ite (h'.setChan.ite h')).ite (h'.dieStatus.ite h'))

theorem execStatusResponse_runs {chan tag : ℕ} {st : HubStatus} {_planes : Word} (h : a.Keeps s) : Answer.Runs a
    (execStatusResponse chan tag st _planes s) :=
  .answered h (fun _ _ h' => (h'.dieStatus.ite h').configDone)

theorem execTempPoll_runs {chan : ℕ} (h : a.Keeps s) : Answer.Runs a (execTempPoll chan s) := .below h (.next (h.submit.ite h))

theorem execLngAlertFall_runs {group : ℕ} (h : a.Keeps s) : Answer.Runs a (execLngAlertFall group s) :=
  .below h (.next (h.event.foldl (fun _ _ h' => h'.statusDies)))

theorem State.Keeps.disableWritten {c : ℕ} {v : Bool} (h : a.Keeps s) : a.Keeps (s.disableWritten c v) := h.ite h.setChan

theorem execMcCtlDisable_runs {who : Requester} {chan : ℕ} {v : Bool} (h : a.Keeps s) : Answer.Runs a (execMcCtlDisable who chan v s) :=
  .below h (.next (h.asWriter (fun _ h' => h'.queueSeed)))

theorem execChannelDisableTakesEffect_runs {chan : ℕ} (h : a.Keeps s) : Answer.Runs a (execChannelDisableTakesEffect chan s) :=
  .below h (.next (h.setChan.setChanState.mediaLost.endAll.ite h))

theorem State.Keeps.arbMapWrite {c : ℕ} {v : Word} (h : a.Keeps s) : a.Keeps (s.arbMapWrite c v) := h.setReg.ite h.event

theorem execMcArbMapWrite_runs {who : Requester} {chan : ℕ} {v : Word} (h : a.Keeps s) : Answer.Runs a (execMcArbMapWrite who chan v s) :=
  .below h (.next (h.asWriter (fun _ h' => h'.arbMapWrite)))

theorem execArbMapRevert_runs {chan : ℕ} (h : a.Keeps s) : Answer.Runs a (execArbMapRevert chan s) := by
  unfold execArbMapRevert
  refine .below h ?_
  refine .next ?_
  split
  · exact h.ite h.setReg.event
  · exact h

/-! ### Machine/Reset.lean -/

theorem State.Keeps.resetReg {k : Keep → Bool} {o : ℕ} (h : a.Keeps s) : a.Keeps (s.resetReg k o) := h.setReg

theorem State.Keeps.resetKeep {k : Keep → Bool} {at_ : ℕ → Bool} (h : a.Keeps s) : a.Keeps (s.resetKeep k at_) :=
  h.foldl (fun _ _ h' => h'.resetReg.ite h')

theorem State.Keeps.recallReg {o : ℕ} (h : a.Keeps s) : a.Keeps (s.recallReg o) := h.setReg

theorem State.Keeps.recallAll (h : a.Keeps s) : a.Keeps s.recallAll := (h.foldl (fun _ _ h' => h'.recallReg)).foldl (fun _ _ h' => h'.recallReg)

theorem State.Keeps.resetCore (h : a.Keeps s) : a.Keeps s.resetCore := h.resetKeep.upd

theorem State.Keeps.resetLd {i : ℕ} (h : a.Keeps s) : a.Keeps (s.resetLd i) := by
  unfold State.resetLd
  dsimp only
  split
  · exact h.resetKeep.setLd.upd.setBit.ite h.resetKeep.setLd
  · exact h.resetKeep.setLd

theorem State.Keeps.coreOff {a3 : Bool} (h : a.Keeps s) : a.Keeps (s.coreOff a3) := by
  have hc : a.Keeps { s with rk := { s.rk with commons := [] } } := h.commons fun _ => Memory.wf_nil
  unfold State.coreOff
  dsimp only
  exact .ite hc.upd hc.upd

theorem State.Keeps.regsOff {a3 stay : Bool} (h : a.Keeps s) : a.Keeps (s.regsOff a3 stay) :=
  h.resetCore.resetKeep.foldl (fun _ _ h' => h'.setChanState)

theorem State.Keeps.regsCold (h : a.Keeps s) : a.Keeps s.regsCold := h.resetCore.resetKeep.setBit.upd

/-! ### Machine/Fabric.lean -/

theorem State.Keeps.setMirror {x : ℕ} (h : a.Keeps s) : a.Keeps (s.setMirror x) := h.setFld

theorem State.Keeps.sendHello {p : ℕ} (h : a.Keeps s) : a.Keeps (s.sendHello p) := h.sendOn

theorem State.Keeps.flood {ps : List ℕ} (h : a.Keeps s) : a.Keeps (s.flood ps) := h.foldl (fun _ _ h' => h'.sendOn)

theorem State.Keeps.sendBind {n d : ℕ} {answer : Bool} (h : a.Keeps s) : a.Keeps (s.sendBind n d answer) := h.sendPeer

theorem State.Keeps.dirtyDomain {d : ℕ} (h : a.Keeps s) : a.Keeps (s.dirtyDomain d) := h.foldl (fun _ _ h' => h'.setDirty)

theorem State.Keeps.resyncEnd (h : a.Keeps s) : a.Keeps s.resyncEnd := h.setMirror.setFld.event.ite h.setMirror.setFld

theorem State.Keeps.startResync (h : a.Keeps s) : a.Keeps s.startResync := by
  unfold State.startResync
  dsimp only
  exact (((((h.upd.foldl (fun _ _ h' => h'.dirtyDomain)).ite h).setMirror).resyncEnd).ite
      (((h.upd.foldl (fun _ _ h' => h'.dirtyDomain)).ite h).resyncEnd)).ite ((((h.upd.foldl (fun _ _ h' => h'.dirtyDomain)).ite h).upd).setMirror)

theorem State.Keeps.pairTry (h : a.Keeps s) : a.Keeps s.pairTry := by
  unfold State.pairTry
  refine .ite ?_ ?_
  · exact h
  · dsimp only
    split
    · exact h.setMirror.ite h
    · exact (h.setMirror.ite h).ite (((h.setMirror.ite h).foldl (fun _ _ h' => h'.sendBind)).ite
        (((h.setMirror.ite h).setFld).ite ((((h.setMirror.ite h).setFld).ite ((((h.setMirror.ite h).setFld).upd).event)).ite
        (((((((h.setMirror.ite h).setFld).setBit).upd).startResync).ite (((((h.setMirror.ite h).setFld).setBit).upd).setMirror)).foldl
        (fun _ _ h' => h'.sendBind)))))

theorem State.Keeps.releaseTag {tag : ℕ} (h : a.Keeps s) : a.Keeps (s.releaseTag tag) := h.foldl (fun _ _ h' => h'.endSnapshot)

theorem State.Keeps.disarm {tag : ℕ} (h : a.Keeps s) : a.Keeps (s.disarm tag) := by
  unfold State.disarm
  split
  · exact h.setReg.setDue.upd.ite h
  · exact h.upd

theorem State.Keeps.noCut {c : CutSpec} {o : ℕ} (h : a.Keeps s) : a.Keeps (s.noCut c o) := h.upd

theorem State.Keeps.installCut {c : CutSpec} {o : ℕ} (h : a.Keeps s) : a.Keeps (s.installCut c o) := by
  unfold State.installCut
  split
  · exact h.disarm
  · refine .ite ?_ ?_
    · exact h.releaseTag
    · refine .ite ?_ ?_
      · exact h.noCut
      · split
        · exact h.noCut
        · exact h.setReg.setReg.setReg64.setDue.upd
  · refine .ite ?_ ?_
    · exact h.releaseTag
    · refine .ite ?_ ?_
      · exact h.noCut
      · split
        · exact h.noCut
        · exact h.setReg.setReg.setReg64.setDue.upd
  · refine .ite ?_ ?_
    · exact h.releaseTag
    · refine .ite ?_ ?_
      · exact h.noCut
      · split
        · exact h.noCut
        · exact h.setReg.setReg.setReg64.setDue.upd

theorem State.Keeps.formed {id nodesM1 : ℕ} {ext : List ℕ} {whole : Bool} {tree : List ℕ} {ids : List (DWord × ℕ)} {rows : List (ℕ × Word)}
    (h : a.Keeps s) : a.Keeps (s.formed id nodesM1 ext whole tree ids rows) := by
  unfold State.formed
  dsimp only
  exact ((((((((((((((h.foldl (fun _ _ h' => h'.setReg)).foldl (fun _ _ h' => h'.setReg)).setFld).setFld).setFld).setFld).setBit).upd).resetDone).ite
      (((((((h.foldl (fun _ _ h' => h'.setReg)).foldl (fun _ _ h' => h'.setReg)).setFld).setFld).setFld).setFld).setBit)).upd).foldl
      (fun _ _ h' => h'.setFld)).upd).foldl (fun _ _ h' => h'.installCut)).pairTry

theorem State.Keeps.swClose {p : ℕ} {hold : Bool} (h : a.Keeps s) : a.Keeps (s.swClose p hold) := h.setFld.setFld.upd

theorem State.Keeps.formTry (h : a.Keeps s) : a.Keeps s.formTry :=
  h.ite (h.ite ((h.foldl (fun _ _ h' => h'.swClose.event)).formed.foldl (fun _ _ h' => h'.sendTo)))

theorem State.Keeps.reform (h : a.Keeps s) : a.Keeps s.reform := h.ite h.setFld.setReg64.upd.flood.formTry

theorem State.Keeps.swDown {p : ℕ} {hold : Bool} (h : a.Keeps s) : a.Keeps (s.swDown p hold) := h.swClose.reform.ite h.swClose

theorem State.Keeps.swFree (h : a.Keeps s) : a.Keeps s.swFree := h.upd

theorem State.Keeps.swRetrain {p : ℕ} (h : a.Keeps s) : a.Keeps (s.swRetrain p) := h.bump.bump.setSwPort.sendOn

theorem State.Keeps.fabricCfg {old : Word} (h : a.Keeps s) : a.Keeps (s.fabricCfg old) := by
  unfold State.fabricCfg
  dsimp only
  exact ((((((h.foldl (fun _ _ h' => h'.swDown)).swFree).setFld).setReg64).foldl (fun _ _ h' => h'.setReg)).upd).ite
      (((((h.foldl (fun _ _ h' => h'.swDown)).swFree).foldl (fun _ _ h' => h'.sendHello)).reform).ite ((h.foldl (fun _ _ h' => h'.swDown)).swFree))

/-! ### Machine/Flush.lean -/

theorem State.Keeps.arrive {x : ℕ} (h : a.Keeps s) : a.Keeps (s.arrive x) := h.setFld.setFld.setBit.setFld.setFld

theorem State.Keeps.depart {x k : ℕ} (h : a.Keeps s) : a.Keeps (s.depart x k) := h.setBit.setFld.setFld

theorem State.Keeps.setStandby {v : Bool} (h : a.Keeps s) : a.Keeps (s.setStandby v) := h.foldl (fun _ _ h' => h'.submit.ite h')

theorem State.Keeps.abortEntry {code : ℕ} (h : a.Keeps s) : a.Keeps (s.abortEntry code) := by
  unfold State.abortEntry
  refine .ite ?_ ?_
  · exact h
  · dsimp only
    exact ((((h.setBit.setFld.setFld.bump.ite h.setBit.setFld.setFld.bump).setReg).dropImage).event).setStandby

theorem State.Keeps.planeAborts {c : ℕ} (h : a.Keeps s) : a.Keeps (s.planeAborts c) :=
  (h.foldl (fun _ _ h' => h'.submit)).foldl (fun _ _ h' => h'.submit)

theorem State.Keeps.stopEngines {c : ℕ} (h : a.Keeps s) : a.Keeps (s.stopEngines c) := h.setChan

theorem State.Keeps.dropHuTest (h : a.Keeps s) : a.Keeps s.dropHuTest := by
  unfold State.dropHuTest
  split
  · exact h
  · exact h.upd.setBit.endAction

theorem State.Keeps.applyBack {set way : ℕ} {f : Frame} (h : a.Keeps s) : a.Keeps (s.applyBack set way f) := by
  unfold State.applyBack
  dsimp only
  split
  · exact h.setFrame.upd
  · split
    · exact h
    · exact h.setFrame.freeFrame

theorem State.Keeps.stopApply (h : a.Keeps s) : a.Keeps s.stopApply := h.foldl (fun _ _ h' => h'.ite h'.applyBack)

theorem State.Keeps.startFlush {cause : ℕ} (h : a.Keeps s) : a.Keeps (s.startFlush cause) := by
  unfold State.startFlush
  refine .ite ?_ ?_
  · exact h
  · dsimp only
    exact (((((h.ringPage.abortEntry.setBit.upd.dropHuTest.saveTimeUp.foldl (fun _ _ h' => h'.stopEngines.planeAborts.ite h')).setStandby).ite
        (h.ringPage.abortEntry.setBit.upd.dropHuTest.saveTimeUp.foldl
        (fun _ _ h' => h'.stopEngines.planeAborts.ite h'))).stopApply).foldWear).writeImage

/-! ### Machine/Rails.lean -/

theorem State.Keeps.setRail {n x : ℕ} (h : a.Keeps s) : a.Keeps (s.setRail n x) := h.setFld.upd

theorem State.Keeps.driveEn {n : ℕ} {v : Bool} (h : a.Keeps s) : a.Keeps (s.driveEn n v) := h.upd

theorem State.Keeps.railUp {n : ℕ} (h : a.Keeps s) : a.Keeps (s.railUp n) := h.driveEn.setRail

theorem State.Keeps.railDown {n : ℕ} (h : a.Keeps s) : a.Keeps (s.railDown n) := h.driveEn.setRail

theorem State.Keeps.railGood {n : ℕ} (h : a.Keeps s) : a.Keeps (s.railGood n) := h.upd.setBit.setRail

theorem State.Keeps.setSq {x : ℕ} (h : a.Keeps s) : a.Keeps (s.setSq x) := h.setFld

theorem State.Keeps.setStep {k : ℕ} (h : a.Keeps s) : a.Keeps (s.setStep k) := h.setFld

theorem State.Keeps.loadLinks {cold : Bool} (h : a.Keeps s) : a.Keeps (s.loadLinks cold) := h.upd

theorem State.Keeps.poweredUp (h : a.Keeps s) : a.Keeps s.poweredUp := by
  unfold State.poweredUp
  dsimp only
  refine .ite ?_ ?_
  · exact h.setSq.setFld
  · split
    · exact ((h.setSq.arrive.partition.loadLinks.upd.event.ite h.setSq.arrive.partition.loadLinks.upd).event).resetDone
    · exact h.setSq.arrive.partition.loadLinks.upd.bump.event.resetDone
    · exact h.setSq.arrive.partition.loadLinks.upd.resetDone
    · exact h.setSq.arrive.partition.loadLinks.upd
    · exact h.setSq.arrive.partition.loadLinks.upd
    · exact h.setSq.arrive.partition.loadLinks.upd

theorem State.Keeps.upFrom {k : ℕ} (h : a.Keeps s) : a.Keeps (s.upFrom k) := by
  unfold State.upFrom
  split
  · exact h.poweredUp
  · exact h.setStep.foldl (fun _ _ h' => h'.railUp)

theorem State.Keeps.beginUp (h : a.Keeps s) : a.Keeps s.beginUp := h.ite (h.setSq.upFrom.ite h)

theorem State.Keeps.beginRecall (h : a.Keeps s) : a.Keeps s.beginRecall := h.setBit

theorem State.Keeps.tryPowerUp (h : a.Keeps s) : a.Keeps s.tryPowerUp := by
  unfold State.tryPowerUp
  refine .ite ?_ ?_
  · exact h
  · split
    · exact h
    · exact h.depart.beginRecall
    · exact h.depart.beginRecall
    · exact h.depart.beginRecall
    · exact h.depart.beginRecall.ite h
    · exact h.regsCold.upd.setFld.depart.beginRecall

theorem State.Keeps.linksDown (h : a.Keeps s) : a.Keeps s.linksDown := h.foldl (fun _ _ h' => h'.setReg.event.ite h')

theorem State.Keeps.inA3 (h : a.Keeps s) : a.Keeps s.inA3 := h.setSq.arrive.event.upd.depart.beginUp.ite h.setSq.arrive

theorem State.Keeps.releaseFault (h : a.Keeps s) : a.Keeps s.releaseFault := h.setBit.upd

theorem State.Keeps.waitOff (h : a.Keeps s) : a.Keeps s.waitOff := h.setSq.upd

theorem State.Keeps.inOff (h : a.Keeps s) : a.Keeps s.inOff := ((h.ite h.arrive).releaseFault.ite (h.ite h.arrive)).waitOff

theorem State.Keeps.railsOff (h : a.Keeps s) : a.Keeps s.railsOff :=
  h.linksDown.upd.coreOff.regsOff.upd.inA3.ite h.linksDown.upd.coreOff.regsOff.upd.inOff

theorem State.Keeps.downOn (h : a.Keeps s) : a.Keeps s.downOn := by
  unfold State.downOn
  split
  · exact h.railsOff
  · exact h.setSq.setStep.foldl (fun _ _ h' => h'.railDown)

theorem State.Keeps.shutNow (h : a.Keeps s) : a.Keeps s.shutNow := h.ite h.downOn

theorem State.Keeps.enterOff {after : AfterOff} (h : a.Keeps s) : a.Keeps (s.enterOff after) := by
  unfold State.enterOff
  dsimp only
  exact h.upd.ite (h.upd.saveTimeUp.ringPage.depart.ite (h.upd.saveTimeUp.ringPage.startFlush.depart.ite
      (h.upd.saveTimeUp.ringPage.depart.event.ite h.upd.saveTimeUp.ringPage.depart.shutNow)))

theorem State.Keeps.cutOff {after : AfterOff} (h : a.Keeps s) : a.Keeps (s.cutOff after) :=
  h.setBit.upd.ite h.setBit.upd.saveTimeUp.ringPage.depart.shutNow

theorem State.Keeps.driveFault (h : a.Keeps s) : a.Keeps s.driveFault := h.setBit.upd

theorem State.Keeps.systemReset {n : ℕ} (h : a.Keeps s) : a.Keeps (s.systemReset n) :=
  h.driveFault.event.ringPage.enterOff.ite h.driveFault.event.ringPage.cutOff

theorem State.Keeps.groupDownOn {g : ℕ} (h : a.Keeps s) : a.Keeps (s.groupDownOn g) := by
  unfold State.groupDownOn
  dsimp only
  split
  · exact h
  · exact h.foldl (fun _ _ h' => h'.railDown)

theorem State.Keeps.noteRailOff {n : ℕ} (h : a.Keeps s) : a.Keeps (s.noteRailOff n) := h.upd

theorem State.Keeps.groupDown {n : ℕ} (h : a.Keeps s) : a.Keeps (s.groupDown n) := by
  unfold State.groupDown
  dsimp only
  exact h.systemReset.ite (((h.event.upd.groupDownOn.noteRailOff.foldl (fun _ _ h' => h'.failChannel)).driveFault).ite
      (h.event.upd.groupDownOn.noteRailOff.foldl (fun _ _ h' => h'.failChannel)))

theorem State.Keeps.railFault {n cause : ℕ} (h : a.Keeps s) : a.Keeps (s.railFault n cause) := by
  unfold State.railFault
  dsimp only
  split
  · exact h.bump.setRail.event.abortEntry
  · exact h.bump.setRail.event.abortEntry.upd.driveEn.setRail.noteRailOff.event.ite h.bump.setRail.event.abortEntry.groupDown
  · exact h.bump.setRail.event.abortEntry.groupDown
  · exact h.bump.setRail.event.abortEntry.systemReset

theorem execRailStepGood_runs (h : a.Keeps s) : Answer.Runs a (execRailStepGood s) := by
  unfold execRailStepGood
  dsimp only
  exact .next ((h.ite (((h.foldl (fun _ _ h' => h'.railGood)).downOn).ite ((h.foldl (fun _ _ h' => h'.railGood)).upFrom))).ite
      ((h.foldl (fun _ _ h' => h'.railGood)).ite h))

theorem execPgTimeout_runs {sq : ℕ} (h : a.Keeps s) : Answer.Runs a (execPgTimeout sq s) := .below h (.next (h.railFault.ite h))

theorem execShutdownStepDone_runs (h : a.Keeps s) : Answer.Runs a (execShutdownStepDone s) :=
  .next (h.ite (h.downOn.ite (h.foldl (fun _ _ h' => h'.groupDownOn))))

theorem State.Keeps.railEnded {n : ℕ} (h : a.Keeps s) : a.Keeps (s.railEnded n) := h.upd.setBit.setRail.setSq.ite h.upd.setBit.setRail

theorem execOffTimeoutExpire_runs {sq : ℕ} (h : a.Keeps s) : Answer.Runs a (execOffTimeoutExpire sq s) := by
  unfold execOffTimeoutExpire
  refine .below h ?_
  refine .next ?_
  refine .ite ?_ ?_
  · split
    · exact h
    · exact h.railEnded
    · exact (h.setSq.ite h).event
    · exact h.railEnded.event
  · exact h

theorem State.Keeps.holdupSample {code : ℕ} (h : a.Keeps s) : a.Keeps (s.holdupSample code) := h.setReg.upd.ite h.setReg.upd

theorem State.Keeps.railSample {n code : ℕ} (h : a.Keeps s) : a.Keeps (s.railSample n code) :=
  (h.setFld.railEnded.ite h.setFld).ite ((h.setFld.upd.railFault.ite (h.setFld.upd.railFault.ite h.setFld.upd)).ite h.setFld)

theorem execAdcConversion_runs {input code : ℕ} (h : a.Keeps s) : Answer.Runs a (execAdcConversion input code s) :=
  .below h (.next (h.holdupSample.ite (h.railSample.ite h)))

theorem execPgLowFault_runs {sq : ℕ} (h : a.Keeps s) : Answer.Runs a (execPgLowFault sq s) := .below h (.next (h.upd.setBit.railFault.ite h))

theorem execRailRetryExpire_runs {sq : ℕ} (h : a.Keeps s) : Answer.Runs a (execRailRetryExpire sq s) := .below h (.next (h.railUp.ite h))

theorem execMinOffExpire_runs (h : a.Keeps s) : Answer.Runs a (execMinOffExpire s) := .next (h.setSq.tryPowerUp.ite h)

theorem execFaultNExternal_runs (h : a.Keeps s) : Answer.Runs a (execFaultNExternal s) := by
  unfold execFaultNExternal
  refine .next ?_
  refine .ite ?_ ?_
  · exact h
  · dsimp only
    split
    · exact h.upd.event.ite h.upd.event.enterOff
    · exact h.upd.event.ite h.upd.event.cutOff
    · exact h.upd.event

theorem execFaultNRelease_runs (h : a.Keeps s) : Answer.Runs a (execFaultNRelease s) :=
  .next ((h.upd.waitOff.ite (h.upd.beginUp.ite h.upd)).ite h.upd)

theorem execFaultHoldExpire_runs (h : a.Keeps s) : Answer.Runs a (execFaultHoldExpire s) := .next ((h.upd.releaseFault.ite h.upd).ite h)

/-! ### Machine/HoldUp.lean -/

theorem State.Keeps.setFactor {f : ℕ} (h : a.Keeps s) : a.Keeps (s.setFactor f) := by
  unfold State.setFactor
  dsimp only
  exact (h.upd.setFld.ite h.upd.setFld.eventOnce).ite ((((h.upd.setFld.ite h.upd.setFld.eventOnce).setBit).event).ite
      ((((h.upd.setFld.ite h.upd.setFld.eventOnce).setBit).event).foldl (fun _ _ h' => h'.completeWrite.ite h')))

theorem execHoldUpFactorUpdate_runs (h : a.Keeps s) : Answer.Runs a (execHoldUpFactorUpdate s) := by
  unfold execHoldUpFactorUpdate
  dsimp only
  refine .next ?_
  refine .ite ?_ ?_
  · exact h.setFld.upd.setFactor
  · split
    · exact h.setFld.upd
    · exact h.setFld.upd.setFactor.ite h.setFld.upd

theorem State.Keeps.startHuTest (h : a.Keeps s) : a.Keeps s.startHuTest := ((h.upd.driveEn.ite h.upd).setBit).ite h

theorem State.Keeps.endHuTest (h : a.Keeps s) : a.Keeps s.endHuTest := ((h.upd.driveEn.ite h.upd).setBit).endAction

theorem State.Keeps.failHuTest {c : ℕ} (h : a.Keeps s) : a.Keeps (s.failHuTest c) := h.endHuTest.setBit.persist.upd.event

theorem State.Keeps.passHuTest {v1 c : ℕ} (h : a.Keeps s) : a.Keeps (s.passHuTest v1 c) := by
  unfold State.passHuTest
  dsimp only
  exact h.failHuTest.ite ((h.endHuTest.setBit.persist.persist.ite h.endHuTest.setBit.persist).upd)

theorem execHoldUpTest_runs (h : a.Keeps s) : Answer.Runs a (execHoldUpTest s) := by
  unfold execHoldUpTest
  split
  next x x1 t e =>
    have ht : a.Keeps t := h.takeAction e
    exact .next (ht.startHuTest.ite ht.startHuTest.endEntry)
  · refine .next ?_
    split
    · exact h.startHuTest.ite h
    · exact h

theorem execHoldUpRetest_runs (h : a.Keeps s) : Answer.Runs a (execHoldUpRetest s) := by
  unfold execHoldUpRetest
  refine .next ?_
  split
  · exact h.startHuTest.ite h
  · exact h

theorem execHoldUpTestSample_runs (h : a.Keeps s) : Answer.Runs a (execHoldUpTestSample s) := by
  unfold execHoldUpTestSample
  refine .next ?_
  split
  · exact h
  · exact (h.upd.passHuTest.ite h.passHuTest).ite h

theorem execHoldUpTestTimeout_runs (h : a.Keeps s) : Answer.Runs a (execHoldUpTestTimeout s) := by
  unfold execHoldUpTestTimeout
  refine .next ?_
  split
  · exact h
  · exact h.failHuTest.ite h

theorem execPwrFail_runs (h : a.Keeps s) : Answer.Runs a (execPwrFail s) := .next (h.upd.ite (h.upd.startFlush.ite (h.upd.depart.shutNow.ite h.upd)))

theorem execPwrFailReturn_runs (h : a.Keeps s) : Answer.Runs a (execPwrFailReturn s) := .next (h.upd.upd.ite h.upd)

theorem execFlushSealed_runs {durUs bytes : ℕ} (h : a.Keeps s) : Answer.Runs a (execFlushSealed durUs bytes s) :=
  .next (h.takeImage.setReg.setBit.depart.shutNow.ite h)

theorem execGpfPhase1_runs {port : ℕ} (h : a.Keeps s) : Answer.Runs a (execGpfPhase1 port s) := .below h (.next (h.ite h.emit))

theorem execGpfPhase2_runs {port : ℕ} (h : a.Keeps s) : Answer.Runs a (execGpfPhase2 port s) := .below h (.next (h.ite h.upd.gpfCheck))

/-! ### Machine/Recovery.lean -/

theorem State.Keeps.loadCkpt {c : Ckpt} (h : a.Keeps s) : a.Keeps (s.loadCkpt c) := h.upd.setReg64

theorem State.Keeps.replayJournal {n : ℕ} (h : a.Keeps s) : a.Keeps (s.replayJournal n) := h.foldl (fun _ _ h' => h'.recEffect)

theorem State.Keeps.mapBase {f : RecoveryFinding} (h : a.Keeps s) : a.Keeps (s.mapBase f).2 := by
  unfold State.mapBase
  dsimp only
  split
  · exact h.pair
  · split
    · exact (((h.event.ite h).loadCkpt).replayJournal).pair
    · exact h.loadCkpt.replayJournal.pair
  · split
    · exact (((h.event.ite h).loadCkpt).replayJournal).pair
    · exact h.loadCkpt.replayJournal.pair
  · exact State.Keeps.ite_snd h.loadCkpt.replayJournal.pair (State.Keeps.ite_snd h.loadCkpt.replayJournal.pair
      h.loadCkpt.replayJournal.upd.event.pair)

theorem State.Keeps.restoreDrift {clean : Bool} (h : a.Keeps s) : a.Keeps (s.restoreDrift clean) := by
  unfold State.restoreDrift
  dsimp only
  split
  · refine .ite ?_ ?_
    · refine .upd ?_
      split
      · refine .ite ?_ ?_
        · refine .upd ?_
          split
          · exact h.upd
          · exact h
        · split
          · exact h.upd
          · exact h
      · split
        · exact h.upd
        · exact h
    · split
      · refine .ite ?_ ?_
        · refine .upd ?_
          split
          · exact h.upd
          · exact h
        · split
          · exact h.upd
          · exact h
      · split
        · exact h.upd
        · exact h
  · split
    · refine .ite ?_ ?_
      · refine .upd ?_
        split
        · exact h.upd
        · exact h
      · split
        · exact h.upd
        · exact h
    · split
      · exact h.upd
      · exact h

theorem State.Keeps.restoreImage {i : Image} (h : a.Keeps s) : a.Keeps (s.restoreImage i) := h.upd.event

theorem State.Keeps.newSalt (h : a.Keeps s) : a.Keeps s.newSalt := h.upd.upd.ite h

theorem State.Keeps.meterGap (h : a.Keeps s) : a.Keeps s.meterGap := h.upd.event

theorem State.Keeps.freeLine {line : ℕ} (h : a.Keeps s) : a.Keeps (s.freeLine line) := by
  unfold State.freeLine
  dsimp only
  split
  · refine .freeFrame ?_
    split
    · exact h.freeFrame
    · exact h
  · split
    · exact h.freeFrame
    · exact h

theorem State.Keeps.replayAnchor {bad : List ℕ} {r : AnchorRec} (h : a.Keeps s) : a.Keeps (s.replayAnchor bad r) := by
  unfold State.replayAnchor
  dsimp only
  refine .ite ?_ ?_
  · exact h.event.ite h
  · refine .ite ?_ ?_
    · refine .upd ?_
      refine .dirtyLeaf ?_
      split
      · split
        · exact ((((h.event.ite h).markRebuild).freeLine).mergeWrite).setFrame
        · exact (((h.event.ite h).markRebuild).freeLine).mergeWrite
      · exact (((h.event.ite h).markRebuild).freeLine).mergeWrite
    · exact ((h.event.ite h).markRebuild).mergeWrite

theorem State.Keeps.anchorScan {clean : Bool} {bad : List ℕ} (h : a.Keeps s) : a.Keeps (s.anchorScan clean bad) :=
  (h.ite (h.foldl (fun _ _ h' => h'.replayAnchor))).upd.event

theorem State.Keeps.restartMigrations (h : a.Keeps s) : a.Keeps s.restartMigrations := h.upd.foldl (fun _ _ h' => h'.event)

theorem State.Keeps.listSpares (h : a.Keeps s) : a.Keeps s.listSpares := h.foldl (fun _ _ h' => h'.listSpare)

theorem State.Keeps.recomputeX (h : a.Keeps s) : a.Keeps s.recomputeX := h.setSpares.setReady.setReg64.setReg64.lifeUpdate

theorem State.Keeps.uncleanLoss (h : a.Keeps s) : a.Keeps s.uncleanLoss := h.setBit.persist.event

theorem execRecovery_runs {f : RecoveryFinding} (h : a.Keeps s) : Answer.Runs a (execRecovery f s) := by
  unfold execRecovery
  refine .next ?_
  refine .ite ?_ ?_
  · exact h
  · dsimp only
    refine .ite ?_ ?_
    · exact (((((((h.setBit.ite h.uncleanLoss).mapBase).event).setFld).setBit).alarmPending).event).ite
        ((((h.setBit.ite h.uncleanLoss).mapBase).event).setFld)
    · refine .setFld ?_
      refine .recomputeX ?_
      refine .eraseIdleArea ?_
      refine .listSpares ?_
      refine .restartMigrations ?_
      refine .anchorScan ?_
      refine .newSalt ?_
      refine .restoreDrift ?_
      refine .ite ?_ ?_
      · refine .ite ?_ ?_
        · split
          · exact ((((h.setBit.ite h.uncleanLoss).mapBase).upd).restoreImage).ite ((((h.setBit.ite h.uncleanLoss).mapBase).upd).meterGap)
          · exact (((h.setBit.ite h.uncleanLoss).mapBase).upd).meterGap
        · refine .event ?_
          refine .alarmPending ?_
          split
          · exact ((((h.setBit.ite h.uncleanLoss).mapBase).upd).restoreImage).ite ((((h.setBit.ite h.uncleanLoss).mapBase).upd).meterGap)
          · exact (((h.setBit.ite h.uncleanLoss).mapBase).upd).meterGap
      · refine .upd ?_
        refine .ite ?_ ?_
        · split
          · exact ((((h.setBit.ite h.uncleanLoss).mapBase).upd).restoreImage).ite ((((h.setBit.ite h.uncleanLoss).mapBase).upd).meterGap)
          · exact (((h.setBit.ite h.uncleanLoss).mapBase).upd).meterGap
        · refine .event ?_
          refine .alarmPending ?_
          split
          · exact ((((h.setBit.ite h.uncleanLoss).mapBase).upd).restoreImage).ite ((((h.setBit.ite h.uncleanLoss).mapBase).upd).meterGap)
          · exact (((h.setBit.ite h.uncleanLoss).mapBase).upd).meterGap

theorem State.Keeps.reapply (h : a.Keeps s) : a.Keeps s.reapply := h.foldl (fun _ _ h' => h'.ite (h'.freeFrame.cacheDrop.ite h'.programFrame))

theorem State.Keeps.redoErases (h : a.Keeps s) : a.Keeps s.redoErases := by
  unfold State.redoErases
  exact ((h.foldl (fun _ _ h' => h'.journalPlot)).foldl (fun _ _ h' => h'.erasePlot.ite
      (((h'.ite h'.retirePlot).ite h'.erasePlot).ite h'))).ringPump.strandSweep.directoryErase

theorem State.Keeps.askRetires (h : a.Keeps s) : a.Keeps s.askRetires :=
  (h.foldl (fun _ _ h' => h'.requestMigration.ite h')).foldl (fun _ _ h' => h'.requestMigration.ite h')

theorem State.Keeps.redoRefreshes (h : a.Keeps s) : a.Keeps s.redoRefreshes := h.upd.foldl (fun _ _ h' => h'.event.refreshInPlace)

theorem State.Keeps.startEngines (h : a.Keeps s) : a.Keeps s.startEngines := by
  unfold State.startEngines
  dsimp only
  exact (((((((((h.upd.ite h.upd).reapply).redoErases).askRetires).redoRefreshes).mediaLost).ite
      ((((((h.upd.ite h.upd).reapply).redoErases).askRetires).redoRefreshes).retireSpares)).retargetWaiting).regraftTry).copyWaiting

theorem execRecoveryComplete_runs {ms : ℕ} (h : a.Keeps s) : Answer.Runs a (execRecoveryComplete ms s) :=
  .next (((h.persist64.setFld.setReg.event.ite h.persist64.setFld.setReg).startEngines).ite h)

/-! ### Machine/Regul.lean -/

theorem State.Keeps.levelUpdate (h : a.Keeps s) : a.Keeps s.levelUpdate := h.setReg.setReg.setFld.setFld.upd

theorem State.Keeps.rescale (h : a.Keeps s) : a.Keeps s.rescale := by
  unfold State.rescale
  dsimp only
  exact (((((h.foldl (fun _ _ h' => h'.setFld)).setBit).setFld).setFld).foldl (fun _ _ h' => h'.meter)).ite
      ((((((h.foldl (fun _ _ h' => h'.setFld)).setBit).setFld).setFld).foldl (fun _ _ h' => h'.meter)).eventOnce)

theorem State.Keeps.putG {g : ℕ} (h : a.Keeps s) : a.Keeps (s.putG g) := h.upd.rescale

theorem State.Keeps.recomputeG (h : a.Keeps s) : a.Keeps s.recomputeG := by
  unfold State.recomputeG
  dsimp only
  refine .ite ?_ ?_
  · exact h.setFld.upd.putG
  · refine .ite ?_ ?_
    · exact h.setFld.upd
    · split
      · exact h.setFld.upd.ite h.setFld.upd
      · exact h.setFld.upd

theorem execGRecompute_runs (h : a.Keeps s) : Answer.Runs a (execGRecompute s) := .next (h.recomputeG.ite h)

theorem execGRaiseTakesEffect_runs (h : a.Keeps s) : Answer.Runs a (execGRaiseTakesEffect s) := by
  unfold execGRaiseTakesEffect
  refine .next ?_
  split
  · exact h.putG.ite h
  · exact h

theorem State.Keeps.refillDom {d : ℕ} (h : a.Keeps s) : a.Keeps (s.refillDom d) := h.setBucket

theorem State.Keeps.heldTick {d : ℕ} (h : a.Keeps s) : a.Keeps (s.heldTick d) := h.updCnt.meter

theorem execRegulatorRefill_runs (h : a.Keeps s) : Answer.Runs a (execRegulatorRefill s) :=
  .next ((h.foldl (fun _ _ h' => h'.refillDom)).levelUpdate.setBg.foldl
      (fun _ _ h' => h'.heldTick)).countGlobal.countGlobal.countGlobal.countGlobal.countGlobal

theorem State.Keeps.setBeRate {t' x : ℕ} (h : a.Keeps s) : a.Keeps (s.setBeRate t' x) := h.setFld

theorem State.Keeps.beAdjust (h : a.Keeps s) : a.Keeps s.beAdjust := by
  unfold State.beAdjust
  dsimp only
  refine .ite ?_ ?_
  · refine .ite ?_ ?_
    · exact h.upd.foldl (fun _ _ h' => h'.setBeRate)
    · refine .ite ?_ ?_
      · exact h.upd.foldl (fun _ _ h' => h'.setBeRate)
      · refine .ite ?_ ?_
        · split
          · exact h.upd.setBeRate
          · exact h.upd
        · exact h.upd
  · refine .foldl ?_ (fun _ _ h' => h'.setBeRate)
    refine .ite ?_ ?_
    · exact h.upd.foldl (fun _ _ h' => h'.setBeRate)
    · refine .ite ?_ ?_
      · exact h.upd.foldl (fun _ _ h' => h'.setBeRate)
      · refine .ite ?_ ?_
        · split
          · exact h.upd.setBeRate
          · exact h.upd
        · exact h.upd

theorem execBestEffortWindow_runs (h : a.Keeps s) : Answer.Runs a (execBestEffortWindow s) :=
  .runAction h (fun _ _ h' => h'.ite ((h'.putG.ite h').beAdjust))

theorem State.Keeps.domSel {v : Word} (h : a.Keeps s) : a.Keeps (s.domSel v) := h.setReg.upd

theorem execQsDomSelWrite_runs {who : Requester} {v : Word} (h : a.Keeps s) : Answer.Runs a (execQsDomSelWrite who v s) :=
  .next (h.asWriter (fun _ h' => h'.domSel))

/-! ### Machine/Power.lean -/

theorem State.Keeps.refusePower {x code : ℕ} (h : a.Keeps s) : a.Keeps (s.refusePower x code) := h.bump.setReg.event

theorem State.Keeps.drainNow (h : a.Keeps s) : a.Keeps s.drainNow :=
  (h.foldl (fun _ _ h' => h'.startWriteback)).foldl (fun _ _ h' => h'.leafWriteBack)

theorem State.Keeps.enterState {x : ℕ} (h : a.Keeps s) : a.Keeps (s.enterState x) := h.arrive.ite ((h.depart.upd.setReg64.ite h.depart.upd).drainNow)

theorem State.Keeps.startExit (h : a.Keeps s) : a.Keeps s.startExit := h.arrive.ite (h.depart.setStandby.ite (h.depart.beginUp.ite h))

theorem State.Keeps.wake {b : ℕ} (h : a.Keeps s) : a.Keeps (s.wake b) := h.setBit.setBit.upd.ite (h.ite h.setBit.startExit)

theorem State.Keeps.latchedExit (h : a.Keeps s) : a.Keeps s.latchedExit := h.event.upd.startExit.ite h

theorem State.Keeps.requestOn (h : a.Keeps s) : a.Keeps s.requestOn := (h.ite ((h.upd.ite h).tryPowerUp)).ite h.wake

theorem State.Keeps.requestState {x : ℕ} (h : a.Keeps s) : a.Keeps (s.requestState x).2 :=
  State.Keeps.ite_snd h.requestOn.pair (State.Keeps.ite_snd h.enterOff.pair
      (State.Keeps.ite_snd h.pair (State.Keeps.ite_snd h.enterState.pair h.refusePower.pair)))

theorem State.Keeps.sideband {x : ℕ} (h : a.Keeps s) : a.Keeps (s.sideband x) := h.ite (h.emit.ite h.requestState.emit)

theorem execSidebandPowerRequest_runs {target : ℕ} (h : a.Keeps s) : Answer.Runs a (execSidebandPowerRequest target s) := .next h.sideband

theorem execWakeTimer_runs (h : a.Keeps s) : Answer.Runs a (execWakeTimer s) := .next (h.wake.ite h)

theorem execA2DrainComplete_runs (h : a.Keeps s) : Answer.Runs a (execA2DrainComplete s) :=
  .next (h.ite (h.arrive.latchedExit.ite h.setFld.setStandby))

theorem State.Keeps.a3Down (h : a.Keeps s) : a.Keeps s.a3Down := h.takeImage.upd.saveTimeUp.depart.linksDown.downOn

theorem execA3DrainComplete_runs (h : a.Keeps s) : Answer.Runs a (execA3DrainComplete s) := .next (h.ite (h.writeImage.ite (h.a3Down.ite h)))

theorem execDrainTimeout_runs (h : a.Keeps s) : Answer.Runs a (execDrainTimeout s) := .next (h.abortEntry.ite h)

theorem execA2ExitComplete_runs (h : a.Keeps s) : Answer.Runs a (execA2ExitComplete s) := .next (h.arrive.ite h)

theorem State.Keeps.rebuildTables (h : a.Keeps s) : a.Keeps s.rebuildTables := h.upd.restoreDrift.event

theorem State.Keeps.a3Restore {tablesValid : Bool} (h : a.Keeps s) : a.Keeps (s.a3Restore tablesValid) :=
  (h.ite h.rebuildTables).upd.setFld.eraseIdleArea

theorem State.Keeps.a3End (h : a.Keeps s) : a.Keeps s.a3End := h.upd.persist64.recomputeX.arrive.upd.putG.copyWaiting

theorem execA3ExitComplete_runs {tablesValid : Bool} (h : a.Keeps s) : Answer.Runs a (execA3ExitComplete tablesValid s) :=
  .next (h.ite (h.a3Restore.ite (h.ite h.a3End)))

theorem State.Keeps.supplyLost (h : a.Keeps s) : a.Keeps s.supplyLost := h.coreOff.regsCold.upd

theorem execVddAonLow_runs (h : a.Keeps s) : Answer.Runs a (execVddAonLow s) := .next h.supplyLost.setFld

theorem execVddAonRemoved_runs (h : a.Keeps s) : Answer.Runs a (execVddAonRemoved s) := .next h.setBit.upd

theorem execColdPowerOn_runs (h : a.Keeps s) : Answer.Runs a (execColdPowerOn s) := .next h.supplyLost.setFld.upd.tryPowerUp

theorem execStrapLatch_runs {at_ : PowerUpSight} (h : a.Keeps s) : Answer.Runs a (execStrapLatch at_ s) :=
  .next ((h.upd.setReg.setBit.ite h.upd.setReg.setBit.emit).ite h)

theorem State.Keeps.setLock {a' : ℕ} {v : Bool} (h : a.Keeps s) : a.Keeps (s.setLock a' v) := h.upd.persist

theorem State.Keeps.numbersFrom {q : ℕ} (h : a.Keeps s) : a.Keeps (s.numbersFrom q) := h.upd.ite (h.upd.ite h)

theorem State.Keeps.recallCounter {q : ℕ} (h : a.Keeps s) : a.Keeps (s.recallCounter q) := by
  unfold State.recallCounter
  dsimp only
  refine .ite ?_ ?_
  · exact h.setSpread.numbersFrom.event
  · refine .ite ?_ ?_
    · refine .ite ?_ ?_
      · refine .event ?_
        refine .ite ?_ ?_
        · split
          · exact h.setSpread.moveCounter.numbersFrom
          · exact h.setSpread
        · exact h.setSpread
      · refine .ite ?_ ?_
        · refine .setLock ?_
          refine .event ?_
          refine .ite ?_ ?_
          · split
            · exact h.setSpread.moveCounter.numbersFrom
            · exact h.setSpread
          · exact h.setSpread
        · refine .ite ?_ ?_
          · refine .setSpread ?_
            refine .event ?_
            refine .ite ?_ ?_
            · split
              · exact h.setSpread.moveCounter.numbersFrom
              · exact h.setSpread
            · exact h.setSpread
          · split
            · refine .moveCounter ?_
              refine .event ?_
              refine .ite ?_ ?_
              · split
                · exact h.setSpread.moveCounter.numbersFrom
                · exact h.setSpread
              · exact h.setSpread
            · refine .event ?_
              refine .ite ?_ ?_
              · split
                · exact h.setSpread.moveCounter.numbersFrom
                · exact h.setSpread
              · exact h.setSpread
    · exact h

theorem State.Keeps.loseSlots {p : ℕ} (h : a.Keeps s) : a.Keeps (s.loseSlots p) := h.foldl (fun _ _ h' => h'.ite (h'.upd.event.ite h'.upd))

theorem State.Keeps.loseBlobs {q : ℕ} (h : a.Keeps s) : a.Keeps (s.loseBlobs q) := h.foldl (fun _ _ h' => h'.upd.event)

theorem State.Keeps.loseAuthorities {q : ℕ} (h : a.Keeps s) : a.Keeps (s.loseAuthorities q) := h.foldl (fun _ _ h' => h'.upd.setLock)

theorem State.Keeps.loseSpread {q : ℕ} {b : Bool} (h : a.Keeps s) : a.Keeps (s.loseSpread q b) := h.upd

theorem State.Keeps.loseRing {q : ℕ} (h : a.Keeps s) : a.Keeps (s.loseRing q) := h.upd

theorem State.Keeps.losePage {page : ℕ} (h : a.Keeps s) : a.Keeps (s.losePage page) := by
  unfold State.losePage
  split
  · exact h
  refine .ite h ?_
  extract_lets t
  have ht : a.Keeps t := h.bump
  exact ht.event.ite (ht.loseSlots.ite (ht.loseBlobs.ite (ht.loseAuthorities.ite (ht.loseSpread.ite (ht.loseSpread.ite (ht.upd.ite (ht.upd.ite
    (ht.upd.ite (ht.upd.ite (ht.loseRing.ite (State.Keeps.event (ht.ownerData (Tbl.wfFrom_filter _ _ _ _)))))))))))))

theorem State.Keeps.recallKeys (h : a.Keeps s) : a.Keeps s.recallKeys := h.upd

theorem State.Keeps.seedClashes (h : a.Keeps s) : a.Keeps s.seedClashes := h.foldl (fun _ _ h' => h'.event)

theorem State.Keeps.recallEnd (h : a.Keeps s) : a.Keeps s.recallEnd := by
  unfold State.recallEnd
  have h1 : a.Keeps (s.sd.unread.foldl State.losePage s) := h.foldl fun _ _ h' => h'.losePage
  have h2 : a.Keeps (State.recallAll { s.sd.unread.foldl State.losePage s with sd := { (s.sd.unread.foldl State.losePage s).sd with unread := [] } })
      :=
    State.Keeps.recallAll h1.upd
  exact ((h2.saveTime.ite h2).foldl fun _ _ h' => h'.recallCounter).seedClashes.recallKeys.setFld.setFld.setFld.bump.setBit

theorem execSeedRecallComplete_runs (h : a.Keeps s) : Answer.Runs a (execSeedRecallComplete s) := .next (h.recallEnd.beginUp.ite h)

theorem State.Keeps.warmReset {src : ℕ} (h : a.Keeps s) : a.Keeps (s.warmReset src) := h.ite h.enterOff

theorem State.Keeps.coldRestart (h : a.Keeps s) : a.Keeps s.coldRestart := h.ite h.cutOff

theorem execGlbRstWarm_runs (h : a.Keeps s) : Answer.Runs a (execGlbRstWarm s) := .next h.warmReset

theorem execGlbRstCold_runs (h : a.Keeps s) : Answer.Runs a (execGlbRstCold s) := .next h.coldRestart

theorem State.Keeps.persistDone {o : ℕ} {old : Word} (h : a.Keeps s) : a.Keeps (s.persistDone o old) := h.disableWritten.ite (h.fabricCfg.ite h)

theorem State.Keeps.seedRegister {o : ℕ} {v : Word} (h : a.Keeps s) : a.Keeps (s.seedRegister o v) := h.persist.persistDone

theorem State.Keeps.seedWrite {w : SeedWrite} (h : a.Keeps s) : a.Keeps (s.seedWrite w) := by
  cases w with
  | register who o v => exact h.seedRegister
  | pair who o lo hi => exact h.persistPair
  | ownerData o bytes => exact h.ownerData (Memory.writeBytes_wf _ _ _)

theorem execSeedWriteComplete_runs (h : a.Keeps s) : Answer.Runs a (execSeedWriteComplete s) := by
  unfold execSeedWriteComplete
  refine .next ?_
  split
  · exact h
  · exact h.upd.setBit.seedWrite

theorem State.Keeps.pageFound {x : ℕ × PageFinding} (h : a.Keeps s) : a.Keeps (s.pageFound x) := by
  unfold State.pageFound
  refine .ite ?_ ?_
  · exact h
  · split
    · exact h.bump
    · exact h.upd.bump.setFld.event.ite h.event

theorem execSeedStoreMarginRead_runs {pages : List (ℕ × PageFinding)} (h : a.Keeps s) : Answer.Runs a (execSeedStoreMarginRead pages s) :=
  .runAction h (fun _ _ h' => h'.foldl (fun _ _ h'1 => h'1.pageFound))

theorem State.Keeps.tearSlot {k v written oldMask : ℕ} (h : a.Keeps s) : a.Keeps (s.tearSlot k v written oldMask) := h.ite (h.ite h.upd)

theorem execVddNvLoss_runs {written oldMask : ℕ} (h : a.Keeps s) : Answer.Runs a (execVddNvLoss written oldMask s) := by
  refine .next ?_
  split
  · exact h
  dsimp only
  split
  · exact State.Keeps.tearSlot (.setBit h.upd)
  · exact State.Keeps.tearSlot (.setBit h.upd)
  · exact State.Keeps.ownerData (.setBit h.upd) tornBytes_wf

/-! ### Machine/Thermal.lean -/

theorem State.Keeps.setSensor {i : ℕ} {x : Sensor} (h : a.Keeps s) : a.Keeps (s.setSensor i x) := h.upd

theorem State.Keeps.sense {i : ℕ} {v : ℤ} (h : a.Keeps s) : a.Keeps (s.sense i v) := by
  unfold State.sense
  dsimp only
  split
  · exact h.setSensor
  · exact h.ite h.setSensor

theorem State.Keeps.showBroken (h : a.Keeps s) : a.Keeps s.showBroken := h.setReg.setReg.setReg

theorem State.Keeps.judge {i : ℕ} {bad : Bool} (h : a.Keeps s) : a.Keeps (s.judge i bad) := by
  unfold State.judge
  split
  · exact h
  · exact (h.setSensor.upd.ite h.setSensor).bump.event.ite (h.setSensor.upd.ite h.setSensor)

theorem State.Keeps.setThStep {k : ℕ} (h : a.Keeps s) : a.Keeps (s.setThStep k) := h.upd.ite h.upd.setFld.setFld.event

theorem State.Keeps.setThRequest {v : Bool} (h : a.Keeps s) : a.Keeps (s.setThRequest v) := h.setBit.setBit

theorem State.Keeps.setBgLevel {b : ℕ} (h : a.Keeps s) : a.Keeps (s.setBgLevel b) := h.setFld.upd

theorem State.Keeps.endGrace (h : a.Keeps s) : a.Keeps s.endGrace := h.ite h.upd.setThStep

theorem State.Keeps.throttle {k : ℕ} (h : a.Keeps s) : a.Keeps (s.throttle k) := by
  unfold State.throttle
  dsimp only
  refine .ite ?_ ?_
  · refine .setThRequest ?_
    exact (((((((h.upd.ite h).setBgLevel).ite (((h.upd.ite h).setBgLevel).ite (h.upd.ite h))).upd).setThRequest).ite
        (((h.upd.ite h).setBgLevel).ite (((h.upd.ite h).setBgLevel).ite (h.upd.ite h)))).endGrace).ite
        ((((((h.upd.ite h).setBgLevel).ite (((h.upd.ite h).setBgLevel).ite (h.upd.ite h))).upd).setThRequest).ite
        (((h.upd.ite h).setBgLevel).ite (((h.upd.ite h).setBgLevel).ite (h.upd.ite h))))
  · exact (((((((h.upd.ite h).setBgLevel).ite (((h.upd.ite h).setBgLevel).ite (h.upd.ite h))).upd).setThRequest).ite
      (((h.upd.ite h).setBgLevel).ite (((h.upd.ite h).setBgLevel).ite (h.upd.ite h)))).endGrace).ite
      ((((((h.upd.ite h).setBgLevel).ite (((h.upd.ite h).setBgLevel).ite (h.upd.ite h))).upd).setThRequest).ite
      (((h.upd.ite h).setBgLevel).ite (((h.upd.ite h).setBgLevel).ite (h.upd.ite h))))

theorem State.Keeps.thermalUpdate (h : a.Keeps s) : a.Keeps s.thermalUpdate := by
  unfold State.thermalUpdate
  dsimp only
  refine .ite ?_ ?_
  · refine .setFld ?_
    refine .setBit ?_
    refine .throttle ?_
    refine .foldl h ?_
    intro t x h'
    split
    · exact h'.setFld.setReg
    · exact h'.setFld.setReg
  · refine .ite ?_ ?_
    · refine .emit ?_
      refine .setFld ?_
      refine .setBit ?_
      refine .throttle ?_
      refine .foldl h ?_
      intro t x h'
      split
      · exact h'.setFld.setReg
      · exact h'.setFld.setReg
    · refine .event ?_
      refine .emit ?_
      refine .setFld ?_
      refine .setBit ?_
      refine .throttle ?_
      refine .foldl h ?_
      intro t x h'
      split
      · exact h'.setFld.setReg
      · exact h'.setFld.setReg

theorem State.Keeps.rateCheck {i : ℕ} (h : a.Keeps s) : a.Keeps (s.rateCheck i) := by
  unfold State.rateCheck
  dsimp only
  split
  · exact h
  · exact (h.upd.ite h.upd.bump.event).ite h

theorem State.Keeps.trip {cause : Option (ℕ × ℤ)} (h : a.Keeps s) : a.Keeps (s.trip cause) := by
  unfold State.trip
  refine .ite h ?_
  split
  next log t e =>
  have ht : a.Keeps (log, t).2 := by
    rw [← e]
    split
    · exact h.pair
    · exact h.draw.pair
  replace ht : a.Keeps t := ht
  extract_lets u v x _ y z _ w
  have hx : a.Keeps x := ht.persist.event.ringPage
  have hy : a.Keeps y := hx.upd
  have hw : a.Keeps w := hy.abortEntry.setBit
  exact hw.enterOff.ite (hw.enterOff.ite hw.cutOff)

theorem State.Keeps.tripCheck {i : ℕ} (h : a.Keeps s) : a.Keeps (s.tripCheck i) := by
  unfold State.tripCheck
  split
  · exact h
  · exact (h.setSensor.trip.ite h.setSensor).ite h.setSensor

theorem State.Keeps.dropAbsent (h : a.Keeps s) : a.Keeps s.dropAbsent := h.upd

theorem State.Keeps.showTs {i : ℕ} (h : a.Keeps s) : a.Keeps (s.showTs i) := by
  unfold State.showTs
  split
  · exact h.setReg
  · exact h.setReg

theorem State.Keeps.readings {rs : List (ℕ × ℤ × Bool)} (h : a.Keeps s) : a.Keeps (s.readings rs) :=
  (((h.dropAbsent.foldl (fun _ _ h' => h'.sense)).foldl (fun _ _ h' => h'.judge)).foldl (fun _ _ h' => h'.rateCheck)).showBroken.thermalUpdate.foldl
      (fun _ _ h' => h'.tripCheck)

theorem execOndieSensorRead_runs {readings : List (ℤ × Bool)} (h : a.Keeps s) : Answer.Runs a (execOndieSensorRead readings s) :=
  .next (h.ite (h.readings.foldl (fun _ _ h' => h'.showTs)))

theorem execRemoteDiodeRead_runs {diode : ℕ} {reading : ℤ} {openShort : Bool} (h : a.Keeps s) : Answer.Runs a
    (execRemoteDiodeRead diode reading openShort s) :=
  .below h (.next (h.ite h.readings))

theorem execAonSensorRead_runs {readings : List ℤ} (h : a.Keeps s) : Answer.Runs a (execAonSensorRead readings s) :=
  .next (h.ite ((h.foldl (fun _ _ h' => h'.sense)).foldl (fun _ _ h' => h'.tripCheck)))

theorem execTempResponse_runs {chan tag : ℕ} {st : HubStatus} {dies : List ℤ} {hub : ℤ} (h : a.Keeps s) : Answer.Runs a
    (execTempResponse chan tag st dies hub s) :=
  .answered h (fun _ _ h' => h'.dieStatus.ite (((h'.upd.readings.foldl (fun _ _ h'1 => h'1.upd)).configDone).ite h'.configDone))

theorem execTempMissingTimeout_runs {chan : ℕ} (h : a.Keeps s) : Answer.Runs a (execTempMissingTimeout chan s) :=
  .below h (.next (h.ite ((h.foldl (fun _ _ h' => (h'.setSensor.ite h').judge)).showBroken.thermalUpdate)))

theorem execRateHoldExpire_runs {group : ℕ} (h : a.Keeps s) : Answer.Runs a (execRateHoldExpire group s) := by
  unfold execRateHoldExpire
  refine .below h ?_
  refine .next ?_
  split
  · exact h.upd.thermalUpdate.ite h
  · exact h

theorem execBgLevelTimer_runs (h : a.Keeps s) : Answer.Runs a (execBgLevelTimer s) := .next (h.setBgLevel.ite (h.ite (h.setBgLevel.ite h.setBgLevel)))

theorem execGraceExpire_runs (h : a.Keeps s) : Answer.Runs a (execGraceExpire s) := .next (h.endGrace.ite h)

theorem execStepRiseTimer_runs (h : a.Keeps s) : Answer.Runs a (execStepRiseTimer s) := .next (h.setThStep.ite h)

theorem execStepFallTimer_runs (h : a.Keeps s) : Answer.Runs a (execStepFallTimer s) := .next ((h.setThStep.setThRequest.ite h.setThStep).ite h)

theorem execComparatorTrip_runs (h : a.Keeps s) : Answer.Runs a (execComparatorTrip s) := .next h.trip

theorem execBiasStep_runs (h : a.Keeps s) : Answer.Runs a (execBiasStep s) := .next (h.setFld.ite (h.ite h.setFld.setFld.setBit.setBit.setFld))

/-! ### Machine/Link.lean -/

theorem State.Keeps.chanMessage {c : ℕ} {b : List Byte} (h : a.Keeps s) : a.Keeps (s.chanMessage c b) := by
  unfold State.chanMessage
  refine .ite h.ackTaken ?_
  split
  · exact h
  split
  next v t e =>
  have ht : a.Keeps t := h.draw.snd e
  refine Answer.Runs.after ?_
  exact .ite (execReadResponse_runs ht) (.ite (execReadSoftResponse_runs ht)
      (.ite (execMarginReadResponse_runs ht) (.ite (execProgramResponse_runs ht)
    (.ite (execEraseResponse_runs ht) (.ite (execSuspendResponse_runs ht) (.ite (execResumeResponse_runs ht) (.ite (execCopyResponse_runs ht)
    (.ite (execStatusResponse_runs ht) (.ite (execTempResponse_runs ht) (execConfigResponse_runs ht))))))))))

theorem State.Keeps.deframe {c n : ℕ} (h : a.Keeps s) : a.Keeps (State.deframe c n s) := by
  induction n generalizing s with
  | zero => exact h
  | succ n ih =>
    unfold State.deframe
    exact .ite h (ih h.setChan.chanMessage)

theorem execFlitReceive_runs {chan : ℕ} {flit : List Byte} (h : a.Keeps s) : Answer.Runs a (execFlitReceive chan flit s) :=
  .below h (.next (h.setChan.deframe.ite ((h.ite h.bump.count).sendAck)))

/-! ### Machine/Admit.lean -/

theorem State.Keeps.holdWrite {dom line : ℕ} {data : List Byte} {mask : BitVec 64} {poison anchor : Bool} (h : a.Keeps s) : a.Keeps
    (s.holdWrite dom line data mask poison anchor).2 := by
  unfold State.holdWrite
  dsimp only
  exact State.Keeps.ite_snd ((((((h.foldl (fun _ _ h' => h'.poisonReseed)).mergeWrite).cacheDrop).ite
      (((h.foldl (fun _ _ h' => h'.poisonReseed)).mergeWrite).cacheWrite)).anchorAppend).pair)
      (((((h.foldl (fun _ _ h' => h'.poisonReseed)).mergeWrite).cacheDrop).ite
      (((h.foldl (fun _ _ h' => h'.poisonReseed)).mergeWrite).cacheWrite)).pair)

theorem State.Keeps.discardWrite {dom line : ℕ} (h : a.Keeps s) : a.Keeps (s.discardWrite dom line) := h.cacheDrop.discardAdvance

theorem State.Keeps.firstWrite {i : ℕ} (h : a.Keeps s) : a.Keeps (s.firstWrite i).2 := by
  unfold State.firstWrite
  refine .ite_snd h.pair (State.Keeps.pair (.requestMigration (h.foldl fun _ _ h' => ?_)))
  split
  · exact h'.setFrame
  · exact h'

theorem State.Keeps.mergeBar {dom line id : ℕ} {anchor : Bool} (h : a.Keeps s) : a.Keeps (s.mergeBar dom line id anchor).2 := by
  unfold State.mergeBar
  refine .ite_snd ?_ ?_
  · exact h.pair
  · split
    next x x1 t e =>
    have ht : a.Keeps t := (State.Keeps.ite_snd h.firstWrite h.pair).snd e
    exact State.Keeps.ite_snd ht.pair ht.pair

theorem State.Keeps.finishWrite {r : Req} {anchor : ℕ} (h : a.Keeps s) : a.Keeps (s.finishWrite r anchor) :=
  h.setReq.ite (h.setReq.throughCheck.ite h.completeWrite)

theorem State.Keeps.emitForward {r : Req} (h : a.Keeps s) : a.Keeps (s.emitForward r) := h.emit.count.ite h

theorem State.Keeps.forwardWrite {r : Req} (h : a.Keeps s) : a.Keeps (s.forwardWrite r) := h.upd.setReq.setSends.emitForward

theorem State.Keeps.leadWrite {r : Req} {a' : ℕ} (h : a.Keeps s) : a.Keeps (s.leadWrite r a') := by
  unfold State.leadWrite
  split
  next x x1 t e =>
  have ht : a.Keeps t := h.mirrorOut.snd e
  exact ht.setReq

theorem State.Keeps.mergeNow {r : Req} (h : a.Keeps s) : a.Keeps (s.mergeNow r) := by
  unfold State.mergeNow
  split
  · exact h.mergeWrite.cacheDrop.completeWrite
  · split
    next x1 x2 t e1 =>
    have ht : a.Keeps t := h.holdWrite.snd e1
    exact ht.leadWrite
  · exact h.forwardWrite
  · split
    next x1 x2 t e1 =>
    have ht : a.Keeps t := h.holdWrite.snd e1
    exact ht.setDirty.finishWrite
  · split
    next x1 x2 t e1 =>
    have ht : a.Keeps t := h.holdWrite.snd e1
    exact ht.finishWrite
  · split
    next x1 x2 t e1 =>
    have ht : a.Keeps t := h.holdWrite.snd e1
    exact ht.finishWrite

theorem State.Keeps.mergeTry {r : Req} (h : a.Keeps s) : a.Keeps (s.mergeTry r) := by
  unfold State.mergeTry
  refine .ite ?_ ?_
  · exact h.completeWrite
  · refine .ite ?_ ?_
    · dsimp only
      split
      · exact h.discardWrite.leadWrite
      · exact h.discardWrite.setDirty.completeWrite
      · exact h.discardWrite.completeWrite
      · exact h.discardWrite.completeWrite
      · exact h.discardWrite.completeWrite
      · exact h.discardWrite.completeWrite
    · refine .ite ?_ ?_
      · exact h.event.completeWrite
      · refine .ite ?_ ?_
        · exact h.setReq
        · split
          next x x1 t e =>
          have ht : a.Keeps t := h.mergeBar.snd e
          exact ht.mergeNow.ite ((ht.setReq.ite ht.setReq.bump.count).ite ((ht.setReq.ite ht.setReq.bump.count).ite ht.setReq))

theorem State.Keeps.retryWrites {p : Req → Bool} (h : a.Keeps s) : a.Keeps (s.retryWrites p) := h.foldl (fun _ _ h' => h'.mergeTry)

theorem State.Keeps.mirrorMerge {r : MirrorRec} (h : a.Keeps s) : a.Keeps (s.mirrorMerge r) := by
  unfold State.mirrorMerge
  split
  next x x1 t e =>
  have ht : a.Keeps t := (State.Keeps.ite_snd h.discardWrite.pair (State.Keeps.ite_snd h.pair h.holdWrite)).snd e
  dsimp only
  split
  · exact ((((((ht.count.upd.ite ht.count.upd.setReg64).mirrorAckOut).ite ((ht.count.upd.ite ht.count.upd.setReg64).upd)).upd).setSends).setReq).ite
      ((((((ht.count.upd.ite ht.count.upd.setReg64).mirrorAckOut).ite ((ht.count.upd.ite ht.count.upd.setReg64).upd)).upd).setSends).finishWrite)
  · exact ((ht.count.upd.ite ht.count.upd.setReg64).mirrorAckOut).ite ((ht.count.upd.ite ht.count.upd.setReg64).upd)

theorem State.Keeps.mirrorPump {n : ℕ} (h : a.Keeps s) : a.Keeps (State.mirrorPump n s) := by
  induction n generalizing s with
  | zero => exact h
  | succ n ih =>
    unfold State.mirrorPump
    split
    · exact h
    split
    next b t e =>
    have ht : a.Keeps t := h.mergeBar.snd e
    exact .ite ht (ih (State.Keeps.mirrorMerge ht.upd))

theorem State.Keeps.forwardMerge {r : MirrorRec} (h : a.Keeps s) : a.Keeps (s.forwardMerge r) := by
  unfold State.forwardMerge
  split
  next x x1 t e =>
  have ht : a.Keeps t := (State.Keeps.ite_snd h.discardWrite.pair (State.Keeps.ite_snd h.pair h.holdWrite)).snd e
  split
  next x2 x3 t1 e1 =>
  have ht1 : a.Keeps t1 := ht.mirrorOut.snd e1
  exact ht1.upd.ite ht1

theorem State.Keeps.forwardPump {n : ℕ} (h : a.Keeps s) : a.Keeps (State.forwardPump n s) := by
  induction n generalizing s with
  | zero => exact h
  | succ n ih =>
    unfold State.forwardPump
    split
    · exact h
    split
    next b t e =>
    have ht : a.Keeps t := h.mergeBar.snd e
    exact .ite ht (ih (State.Keeps.forwardMerge ht.upd))

theorem State.Keeps.streamPump (h : a.Keeps s) : a.Keeps s.streamPump := h.forwardPump.mirrorPump

theorem State.Keeps.retryAll (h : a.Keeps s) : a.Keeps s.retryAll := h.retryWrites.streamPump

theorem State.Keeps.unresolved {r : Req} (h : a.Keeps s) : a.Keeps (s.unresolved r) := h.eventOnce.count.completeWrite.ite h.eventOnce.count.respond

theorem State.Keeps.admitRead {r : Req} {cause : ℕ} {m : Meas} (h : a.Keeps s) : a.Keeps (s.admitRead r cause m) := by
  unfold State.admitRead
  dsimp only
  refine .ite ?_ ?_
  · exact h.readLine.completeRead
  · refine .ite ?_ ?_
    · exact h.readLine.completeRead
    · refine .ite ?_ ?_
      · exact h.readLine.completeRead
      · split
        · exact h.readLine.lookup.completeRead
        · split
          · exact h.readLine.lookup.setReq.setFetch
          · exact h.readLine.lookup.setReq.fetchNow

theorem State.Keeps.admitWrite {r : Req} (h : a.Keeps s) : a.Keeps (s.admitWrite r) := by
  unfold State.admitWrite
  dsimp only
  refine .ite ?_ ?_
  · exact h.meter.updCnt.setReg64.completeWrite
  · split
    · exact h.meter.updCnt.setReg64.forwardWrite
    · exact h.meter.updCnt.setReg64.mergeTry
    · exact h.meter.updCnt.setReg64.mergeTry
    · exact h.meter.updCnt.setReg64.mergeTry
    · exact h.meter.updCnt.setReg64.mergeTry
    · exact h.meter.updCnt.setReg64.mergeTry

theorem execAdmitRequest_runs {dom : ℕ} {perr : Perr} {m : Meas} (h : a.Keeps s) : Answer.Runs a (execAdmitRequest dom perr m s) := by
  unfold execAdmitRequest
  refine .below h ?_
  refine .next ?_
  refine .ite ?_ ?_
  · exact h
  · dsimp only
    split
    · exact h.retryWrites.ite h
    · refine .ite ?_ ?_
      · exact (h.retryWrites.ite h).unresolved
      · refine .ite ?_ ?_
        · exact h.retryWrites.ite h
        · split
          · exact (h.retryWrites.ite h).upd
          · exact (((((h.retryWrites.ite h).setBucket).charged).ite ((((h.retryWrites.ite h).setBucket).charged).rickError)).admitWrite).ite
              (((((h.retryWrites.ite h).setBucket).charged).ite ((((h.retryWrites.ite h).setBucket).charged).rickError)).admitRead)

theorem execWriteSetWaitResume_runs {set : ℕ} (h : a.Keeps s) : Answer.Runs a (execWriteSetWaitResume set s) :=
  .below h (.next (h.ite h.retryWrites.streamPump))

theorem State.Keeps.applyRecorded {line : ℕ} (h : a.Keeps s) : a.Keeps (s.applyRecorded line) := by
  unfold State.applyRecorded
  dsimp only
  split
  · exact h
  · split
    · exact h
    · split
      · exact h.setFrame.copyWaiting.ite h.setFrame.programTry
      · exact h
      · exact h
      · exact h
      · exact h

theorem State.Keeps.anchorLive {a' : AnchorRec} (h : a.Keeps s) : a.Keeps (s.anchorLive a') := by
  unfold State.anchorLive
  dsimp only
  refine .ite ?_ ?_
  · refine .streamPump ?_
    refine .retryWrites ?_
    refine .ite ?_ ?_
    · refine .applyRecorded ?_
      refine .foldl ?_ (fun _ _ h' => h'.mirrorAckOut)
      refine .upd ?_
      refine .foldl h.upd ?_
      intro t x h'
      split
      · exact h'.completeWrite.ite h'
      · exact h'.setReq.ite h'
      · exact h'
      · exact h'
      · exact h'
      · exact h'
      · exact h'
      · exact h'
      · exact h'
      · exact h'
    · refine .ite ?_ ?_
      · refine .anchorsClosed ?_
        refine .foldl ?_ (fun _ _ h' => h'.mirrorAckOut)
        refine .upd ?_
        refine .foldl h.upd ?_
        intro t x h'
        split
        · exact h'.completeWrite.ite h'
        · exact h'.setReq.ite h'
        · exact h'
        · exact h'
        · exact h'
        · exact h'
        · exact h'
        · exact h'
        · exact h'
        · exact h'
      · refine .foldl ?_ (fun _ _ h' => h'.mirrorAckOut)
        refine .upd ?_
        refine .foldl h.upd ?_
        intro t x h'
        split
        · exact h'.completeWrite.ite h'
        · exact h'.setReq.ite h'
        · exact h'
        · exact h'
        · exact h'
        · exact h'
        · exact h'
        · exact h'
        · exact h'
        · exact h'
  · refine .ite ?_ ?_
    · refine .applyRecorded ?_
      refine .foldl ?_ (fun _ _ h' => h'.mirrorAckOut)
      refine .upd ?_
      refine .foldl h.upd ?_
      intro t x h'
      split
      · exact h'.completeWrite.ite h'
      · exact h'.setReq.ite h'
      · exact h'
      · exact h'
      · exact h'
      · exact h'
      · exact h'
      · exact h'
      · exact h'
      · exact h'
    · refine .ite ?_ ?_
      · refine .anchorsClosed ?_
        refine .foldl ?_ (fun _ _ h' => h'.mirrorAckOut)
        refine .upd ?_
        refine .foldl h.upd ?_
        intro t x h'
        split
        · exact h'.completeWrite.ite h'
        · exact h'.setReq.ite h'
        · exact h'
        · exact h'
        · exact h'
        · exact h'
        · exact h'
        · exact h'
        · exact h'
        · exact h'
      · refine .foldl ?_ (fun _ _ h' => h'.mirrorAckOut)
        refine .upd ?_
        refine .foldl h.upd ?_
        intro t x h'
        split
        · exact h'.completeWrite.ite h'
        · exact h'.setReq.ite h'
        · exact h'
        · exact h'
        · exact h'
        · exact h'
        · exact h'
        · exact h'
        · exact h'
        · exact h'

theorem execAnchorRecordVerified_runs {seq : ℕ} (h : a.Keeps s) : Answer.Runs a (execAnchorRecordVerified seq s) := by
  unfold execAnchorRecordVerified
  refine .next ?_
  split
  · exact h
  · exact h.anchorLive.ite h

theorem State.Keeps.snapGone {k : ℕ} (h : a.Keeps s) : a.Keeps (s.snapGone k) := by
  unfold State.snapGone
  split
  · exact h
  · exact h.upd.ite h

theorem State.Keeps.strandEvent {r : JRec} (h : a.Keeps s) : a.Keeps (s.strandEvent r) := h.event.ite h

theorem State.Keeps.recordVerified {r : JRec} (h : a.Keeps s) : a.Keeps (s.recordVerified r) := by
  unfold State.recordVerified
  dsimp only
  refine .ite ?_ ?_
  · refine .retryWrites ?_
    refine .goOn ?_
    refine .ckptPump ?_
    refine .recorderAllot ?_
    refine .ite ?_ ?_
    · refine .snapGone ?_
      refine .recLive ?_
      refine .ite ?_ ?_
      · split
        · exact (h.strandEvent.ite h.strandEvent.recEffect).upd
        · exact h.strandEvent.ite h.strandEvent.recEffect
      · exact h.strandEvent.ite h.strandEvent.recEffect
    · refine .recLive ?_
      refine .ite ?_ ?_
      · split
        · exact (h.strandEvent.ite h.strandEvent.recEffect).upd
        · exact h.strandEvent.ite h.strandEvent.recEffect
      · exact h.strandEvent.ite h.strandEvent.recEffect
  · refine .goOn ?_
    refine .ckptPump ?_
    refine .recorderAllot ?_
    refine .ite ?_ ?_
    · refine .snapGone ?_
      refine .recLive ?_
      refine .ite ?_ ?_
      · split
        · exact (h.strandEvent.ite h.strandEvent.recEffect).upd
        · exact h.strandEvent.ite h.strandEvent.recEffect
      · exact h.strandEvent.ite h.strandEvent.recEffect
    · refine .recLive ?_
      refine .ite ?_ ?_
      · split
        · exact (h.strandEvent.ite h.strandEvent.recEffect).upd
        · exact h.strandEvent.ite h.strandEvent.recEffect
      · exact h.strandEvent.ite h.strandEvent.recEffect

theorem execMapJournalVerified_runs (h : a.Keeps s) : Answer.Runs a (execMapJournalVerified s) := by
  unfold execMapJournalVerified
  refine .next ?_
  split
  · exact h
  · exact h.upd.recordVerified.ite h

/-! ### Machine/Host.lean -/

theorem State.Keeps.memWake (h : a.Keeps s) : a.Keeps s.memWake := h.wake.ite h

theorem State.Keeps.memArrive {port link ld tag dpa : ℕ} {write : Bool} {data : List Byte} {mask : BitVec 64} {poison : Bool} (h : a.Keeps s) :
    a.Keeps (s.memArrive port link ld tag dpa write data mask poison) := by
  unfold State.memArrive
  refine .ite ?_ ?_
  · exact h
  · extract_lets t t1 t2 x t3 x1 x2 t4 x3
    have ht : a.Keeps t := h.count
    have ht1 : a.Keeps t1 := ht.count.ite ht
    have ht2 : a.Keeps t2 := ht1.count.ite ht1
    have ht3 : a.Keeps t3 := ht2.memWake
    have ht4 : a.Keeps t4 := ht3.upd
    refine .ite ?_ ?_
    · exact ht4.completeWrite.ite ht4.respond
    · split
      · exact ht4.unresolved
      · exact ht4.unresolved.ite (ht4.upd.eventOnce.ite ht4.upd)

theorem execMemRd_runs {port link ld tag dpa : ℕ} (h : a.Keeps s) : Answer.Runs a (execMemRd port link ld tag dpa s) :=
  .below h (.below h (.below h (.next h.memArrive)))

theorem execMemRdData_runs {port link ld tag dpa : ℕ} (h : a.Keeps s) : Answer.Runs a (execMemRdData port link ld tag dpa s) :=
  .below h (.below h (.below h (.next h.memArrive)))

theorem execMemWr_runs {port link ld tag dpa : ℕ} {data : List Byte} {poison : Bool} (h : a.Keeps s) : Answer.Runs a
    (execMemWr port link ld tag dpa data poison s) :=
  .below h (.below h (.below h (.next h.memArrive)))

theorem execMemWrPtl_runs {port link ld tag dpa : ℕ} {data : List Byte} {mask : BitVec 64} {poison : Bool} (h : a.Keeps s) : Answer.Runs a
    (execMemWrPtl port link ld tag dpa data mask poison s) :=
  .below h (.below h (.below h (.next h.memArrive)))

theorem State.Keeps.memCmpOnly {port link tag : ℕ} (h : a.Keeps s) : a.Keeps (s.memCmpOnly port link tag) := h.ite h.memWake.emit.count

theorem execMemInv_runs {port link ld tag _dpa : ℕ} (h : a.Keeps s) : Answer.Runs a (execMemInv port link ld tag _dpa s) :=
  .below h (.below h (.below h (.next h.memCmpOnly)))

theorem execMemInvNt_runs {port link ld tag _dpa : ℕ} (h : a.Keeps s) : Answer.Runs a (execMemInvNt port link ld tag _dpa s) :=
  .below h (.below h (.below h (.next h.memCmpOnly)))

theorem execMemSpecRd_runs {port link ld _tag _dpa : ℕ} (h : a.Keeps s) : Answer.Runs a (execMemSpecRd port link ld _tag _dpa s) :=
  .below h (.below h (.below h (.next (h.memWake.ite h))))

theorem execMemUnexpectedOpcode_runs {port link _tag opcode : ℕ} (h : a.Keeps s) : Answer.Runs a (execMemUnexpectedOpcode port link _tag opcode s) :=
  .below h (.below h (.next (h.memWake.emit.ite h)))

theorem State.Keeps.dropLink {port link : ℕ} (h : a.Keeps s) : a.Keeps (s.dropLink port link) := h.upd.gpfCheck

theorem State.Keeps.linkFalls {port link : ℕ} (h : a.Keeps s) : a.Keeps (s.linkFalls port link) := h.setReg.dropLink.event.ite h.dropLink

theorem execHostLinkUp_runs {port link width rate : ℕ} {flit256 : Bool} (h : a.Keeps s) : Answer.Runs a
    (execHostLinkUp port link width rate flit256 s) :=
  .below h (.below h (.below h (.below h (.next (h.ite ((h.setReg.event.ite h.setReg).ite
      ((h.setReg.event.ite h.setReg).foldl (fun _ _ h' => h'.cxlRecord))))))))

theorem execHostLinkDown_runs {port link : ℕ} (h : a.Keeps s) : Answer.Runs a (execHostLinkDown port link s) :=
  .below h (.below h (.next h.linkFalls))

theorem State.Keeps.resetLink {port link : ℕ} (h : a.Keeps s) : a.Keeps (s.resetLink port link) := (h.linkFalls.foldl (fun _ _ h' => h'.resetLd)).upd

theorem State.Keeps.portReset {port : ℕ} {link : Option ℕ} (h : a.Keeps s) : a.Keeps (s.portReset port link) := by
  cases link with
  | some k => exact h.resetLink.event.bump.resetDone
  | none => exact (h.foldl fun _ _ h' => h'.resetLink).event.bump.resetDone

theorem execHotReset_runs {port link : ℕ} (h : a.Keeps s) : Answer.Runs a (execHotReset port link s) :=
  .below h (.below h (.next (h.portReset.ite h)))

theorem execLinkDisableReceived_runs {port link : ℕ} (h : a.Keeps s) : Answer.Runs a (execLinkDisableReceived port link s) :=
  .below h (.below h (.next (h.portReset.ite h)))

theorem execPerstAssert_runs {port : ℕ} (h : a.Keeps s) : Answer.Runs a (execPerstAssert port s) :=
  .below h (.next ((h.ite h.upd).wake.ite (h.ite h.upd)))

theorem execPerstLow100us_runs {port : ℕ} (h : a.Keeps s) : Answer.Runs a (execPerstLow100us port s) :=
  .below h (.next (h.ite (h.warmReset.ite h.portReset)))

theorem execPerstRelease_runs {port : ℕ} (h : a.Keeps s) : Answer.Runs a (execPerstRelease port s) := .below h (.next h.upd)

theorem State.Keeps.ldReset {i kind : ℕ} (h : a.Keeps s) : a.Keeps (s.ldReset i kind) := h.resetLd.event.bump.resetDone

theorem execFunctionLevelReset_runs {ld : ℕ} (h : a.Keeps s) : Answer.Runs a (execFunctionLevelReset ld s) := .below h (.next (h.ldReset.ite h))

theorem execCxlReset_runs {ld : ℕ} (h : a.Keeps s) : Answer.Runs a (execCxlReset ld s) := .below h (.next (h.ldReset.ite h))

theorem execFmApiLdReset_runs {ld : ℕ} (h : a.Keeps s) : Answer.Runs a (execFmApiLdReset ld s) := .below h (.next (h.ldReset.ite h))

theorem State.Keeps.setSpdm {c : ℕ} {x : Spdm} (h : a.Keeps s) : a.Keeps (s.setSpdm c x) := h.upd

theorem State.Keeps.spdmAnswer {c : ℕ} {ok : Bool} {code : ℕ} {k : State → List Byte × State} (h : a.Keeps s)
    (hk : ∀ t, a.Keeps t → a.Keeps ((k t).2)) : a.Keeps (s.spdmAnswer c ok code k) :=
  ((hk _ h).emit).ite h.emit

theorem State.Keeps.drawBytes {n : ℕ} (h : a.Keeps s) : a.Keeps (State.drawBytes n s).2 := by
  induction n generalizing s with
  | zero => exact h
  | succ n ih => exact (ih h.draw).pair

theorem execSpdmGetVersion_runs {conn : ℕ} (h : a.Keeps s) : Answer.Runs a (execSpdmGetVersion conn s) :=
  .below h (.next (h.spdmAnswer (fun _ h' => h'.setSpdm.pair)))

theorem execSpdmGetCapabilities_runs {conn : ℕ} (h : a.Keeps s) : Answer.Runs a (execSpdmGetCapabilities conn s) :=
  .below h (.next (h.spdmAnswer (fun _ h' => h'.setSpdm.pair)))

theorem execSpdmNegotiateAlgorithms_runs {conn : ℕ} (h : a.Keeps s) : Answer.Runs a (execSpdmNegotiateAlgorithms conn s) :=
  .below h (.next (h.spdmAnswer (fun _ h' => h'.setSpdm.pair)))

theorem execSpdmGetDigests_runs {conn : ℕ} (h : a.Keeps s) : Answer.Runs a (execSpdmGetDigests conn s) :=
  .below h (.next (h.spdmAnswer (fun _ h' => h'.pair)))

theorem State.Keeps.spdmSlot {c slot code : ℕ} {k : State → List Byte × State} (h : a.Keeps s) (hk : ∀ t, a.Keeps t → a.Keeps ((k t).2)) : a.Keeps
    (s.spdmSlot c slot code k) :=
  h.emit.ite (h.spdmAnswer (fun _ h' => hk _ h'))

theorem execSpdmGetCertificate_runs {conn slot : ℕ} (h : a.Keeps s) : Answer.Runs a (execSpdmGetCertificate conn slot s) :=
  .below h (.next (h.spdmSlot (fun _ h' => h'.pair)))

theorem execSpdmChallenge_runs {conn slot : ℕ} (h : a.Keeps s) : Answer.Runs a (execSpdmChallenge conn slot s) := by
  unfold execSpdmChallenge
  refine .below h ?_
  refine .next ?_
  refine .spdmSlot h ?_
  intro t h'
  split
  next x x1 t1 e =>
  have ht1 : a.Keeps t1 := h'.drawBytes.snd e
  exact ht1.pair

theorem execSpdmGetMeasurements_runs {conn index : ℕ} (h : a.Keeps s) : Answer.Runs a (execSpdmGetMeasurements conn index s) :=
  .below h (.next (h.emit.ite (h.spdmAnswer (fun _ h' => h'.pair))))

theorem execSpdmKeyExchange_runs {conn slot : ℕ} (h : a.Keeps s) : Answer.Runs a (execSpdmKeyExchange conn slot s) := by
  unfold execSpdmKeyExchange
  refine .below h ?_
  refine .next ?_
  refine .spdmSlot h ?_
  intro t h'
  split
  next x x1 t1 e =>
  have ht1 : a.Keeps t1 := h'.drawBytes.snd e
  exact ht1.setSpdm.pair

theorem execSpdmFinish_runs {conn : ℕ} {verified : Bool} (h : a.Keeps s) : Answer.Runs a (execSpdmFinish conn verified s) :=
  .below h (.next (h.setSpdm.emit.ite (h.spdmAnswer (fun _ h' => h'.setSpdm.pair))))

theorem execSpdmKeyUpdate_runs {conn : ℕ} (h : a.Keeps s) : Answer.Runs a (execSpdmKeyUpdate conn s) :=
  .below h (.next (h.spdmAnswer (fun _ h' => h'.pair)))

theorem execSpdmHeartbeat_runs {conn : ℕ} (h : a.Keeps s) : Answer.Runs a (execSpdmHeartbeat conn s) :=
  .below h (.next (h.spdmAnswer (fun _ h' => h'.pair)))

theorem execSpdmEndSession_runs {conn : ℕ} (h : a.Keeps s) : Answer.Runs a (execSpdmEndSession conn s) :=
  .below h (.next (h.spdmAnswer (fun _ h' => h'.setSpdm.pair)))

theorem execSpdmGetCsr_runs {conn : ℕ} (h : a.Keeps s) : Answer.Runs a (execSpdmGetCsr conn s) :=
  .below h (.next (h.spdmAnswer (fun _ h' => h'.drawBytes)))

theorem execSpdmSetCertificate_runs {conn slot : ℕ} {chain : List Byte} {ownerAuthorised : Bool} (h : a.Keeps s) : Answer.Runs a
    (execSpdmSetCertificate conn slot chain ownerAuthorised s) :=
  .below h (.next (h.upd.emit.swFree.ite h.emit))

theorem execIdeKmKeyProgram_runs {port link : ℕ} (h : a.Keeps s) : Answer.Runs a (execIdeKmKeyProgram port link s) :=
  .below h (.below h (.next (h.setBit.ite h)))

theorem execIdeIntegrityFailure_runs {port link : ℕ} (h : a.Keeps s) : Answer.Runs a (execIdeIntegrityFailure port link s) :=
  .below h (.below h (.next ((h.setBit.bump.event.emit.foldl (fun _ _ h' => h'.emit)).ite h)))

/-! ### Machine/Mail.lean -/

theorem State.Keeps.wipePlots {p n : ℕ} (h : a.Keeps s) : a.Keeps (s.wipePlots p n) := h.upd.cacheDropIf.clearPlots

theorem State.Keeps.clearDomain {d : ℕ} (h : a.Keeps s) : a.Keeps (s.clearDomain d) := h.wipePlots

theorem State.Keeps.dropRotation {d : ℕ} (h : a.Keeps s) : a.Keeps (s.dropRotation d) := by
  unfold State.dropRotation
  dsimp only
  split
  · exact h.upd
  · refine .ite ?_ ?_
    · exact h.upd
    · split
      · exact h.upd.event.rotShow
      · exact h.upd.event.rotShow.upd.beginRotation

theorem State.Keeps.dropMigration {d : ℕ} (h : a.Keeps s) : a.Keeps (s.dropMigration d) := h.ite (h.sendTo.upd.event.ite h.sendTo.upd)

theorem State.Keeps.deleteDomain {d : ℕ} (h : a.Keeps s) : a.Keeps (s.deleteDomain d) :=
  (((h.meter.ite h).foldl (fun _ _ h' => h'.endSnapshot)).dropRotation.dropMigration.zeroKeys.zeroKeys.persist.persistFld.upd.setLd.foldl
      (fun _ _ h' => h'.unresolved)).clearDomain.rescale

theorem State.Keeps.mailCommand {ld opcode : ℕ} {k : State → ℕ × List ℕ × State} (h : a.Keeps s) (hk : ∀ t, a.Keeps t → a.Keeps (((k t).2).2)) :
    a.Keeps (s.mailCommand ld opcode k) :=
  h.ite (h.emit.ite ((hk _ h).emit))

theorem State.Keeps.mailRead {ld opcode : ℕ} {vals : List ℕ} (h : a.Keeps s) : a.Keeps (s.mailRead ld opcode vals) :=
  h.mailCommand (fun _ h' => h'.triple)

theorem execCxlSetTimestamp_runs {ld stamp : ℕ} (h : a.Keeps s) : Answer.Runs a (execCxlSetTimestamp ld stamp s) :=
  .below h (.next (h.mailCommand (fun _ h' => (h'.event.ite h'.setSource.measured).triple)))

theorem execCxlGetTimestamp_runs {ld : ℕ} (h : a.Keeps s) : Answer.Runs a (execCxlGetTimestamp ld s) := .below h (.next h.mailRead)

theorem execCxlIdentify_runs {ld : ℕ} (h : a.Keeps s) : Answer.Runs a (execCxlIdentify ld s) := .below h (.next h.mailRead)

theorem execBackgroundOperationStatus_runs {ld : ℕ} (h : a.Keeps s) : Answer.Runs a (execBackgroundOperationStatus ld s) :=
  .below h (.next (h.ite (h.upd.emit.ite h.emit)))

theorem execGetEventRecords_runs {ld log : ℕ} (h : a.Keeps s) : Answer.Runs a (execGetEventRecords ld log s) :=
  .below h (.next (h.mailCommand (fun _ h' => State.Keeps.ite_triple h'.triple h'.triple)))

theorem execClearEventRecords_runs {ld log count : ℕ} (h : a.Keeps s) : Answer.Runs a (execClearEventRecords ld log count s) :=
  .below h (.next (h.mailCommand (fun _ h' => State.Keeps.ite_triple h'.triple h'.setLd.triple)))

theorem execGetEventInterruptPolicy_runs {ld : ℕ} (h : a.Keeps s) : Answer.Runs a (execGetEventInterruptPolicy ld s) := .below h (.next h.mailRead)

theorem execSetEventInterruptPolicy_runs {ld : ℕ} {policy : Word} (h : a.Keeps s) : Answer.Runs a (execSetEventInterruptPolicy ld policy s) :=
  .below h (.next (h.mailCommand (fun _ h' => h'.setLd.triple)))

theorem execGetFwInfo_runs {ld : ℕ} (h : a.Keeps s) : Answer.Runs a (execGetFwInfo ld s) := .below h (.next h.mailRead)

theorem execTransferFw_runs {ld : ℕ} (h : a.Keeps s) : Answer.Runs a (execTransferFw ld s) := .below h (.next (h.mailCommand (fun _ h' => h'.triple)))

theorem execActivateFw_runs {ld : ℕ} (h : a.Keeps s) : Answer.Runs a (execActivateFw ld s) := .below h (.next (h.mailCommand (fun _ h' => h'.triple)))

theorem execGetSupportedLogs_runs {ld : ℕ} (h : a.Keeps s) : Answer.Runs a (execGetSupportedLogs ld s) := .below h (.next h.mailRead)

theorem execGetLog_runs {ld : ℕ} (h : a.Keeps s) : Answer.Runs a (execGetLog ld s) := .below h (.next h.mailRead)

theorem execIdentifyMemoryDevice_runs {ld : ℕ} (h : a.Keeps s) : Answer.Runs a (execIdentifyMemoryDevice ld s) := .below h (.next h.mailRead)

theorem execGetPartitionInfo_runs {ld : ℕ} (h : a.Keeps s) : Answer.Runs a (execGetPartitionInfo ld s) := .below h (.next h.mailRead)

theorem execGetHealthInfo_runs {ld : ℕ} (h : a.Keeps s) : Answer.Runs a (execGetHealthInfo ld s) := .below h (.next h.mailRead)

theorem execGetAlertConfiguration_runs {ld : ℕ} (h : a.Keeps s) : Answer.Runs a (execGetAlertConfiguration ld s) := .below h (.next h.mailRead)

theorem execSetAlertConfiguration_runs {ld life tempHigh tempLow : ℕ} (h : a.Keeps s) : Answer.Runs a
    (execSetAlertConfiguration ld life tempHigh tempLow s) :=
  .below h (.next (h.mailCommand (fun _ h' => h'.setLd.triple)))

theorem execGetShutdownState_runs {ld : ℕ} (h : a.Keeps s) : Answer.Runs a (execGetShutdownState ld s) := .below h (.next h.mailRead)

theorem execSetShutdownState_runs {ld : ℕ} {clean : Bool} (h : a.Keeps s) : Answer.Runs a (execSetShutdownState ld clean s) :=
  .below h (.next (h.mailCommand (fun _ h' => h'.setLd.triple)))

theorem execGetPoisonList_runs {ld : ℕ} (h : a.Keeps s) : Answer.Runs a (execGetPoisonList ld s) := .below h (.next h.mailRead)

theorem State.Keeps.localWrite {d line : ℕ} {data : List Byte} {mask : BitVec 64} {poison : Bool} (h : a.Keeps s)
    (e : s.localWrite d line data mask poison = some t) : a.Keeps t := by
  unfold State.localWrite at e
  split at e
  next b u hb =>
  have hu : a.Keeps u := h.mergeBar.snd hb
  split at e
  · cases e; exact hu
  split at e
  · cases e; exact hu.discardWrite
  split at e
  · cases e
  dsimp only at e
  split at e
  · cases e; exact hu.emit.ite hu
  · cases e; exact hu.holdWrite.mirrorOut
  · cases e; exact hu.holdWrite.setDirty
  · cases e; exact hu.mergeWrite.cacheDrop
  · cases e; exact hu.holdWrite
  · cases e; exact hu.holdWrite

theorem execInjectPoison_runs {ld dpa : ℕ} (h : a.Keeps s) : Answer.Runs a (execInjectPoison ld dpa s) := by
  unfold execInjectPoison
  refine .below h ?_
  refine .next ?_
  refine .mailCommand h ?_
  intro t h'
  refine .ite_triple ?_ ?_
  · exact h'.triple
  · split
    · exact h'.triple
    · split
      next x2 t1 e1 =>
        have ht1 : a.Keeps t1 := h'.localWrite e1
        exact ht1.triple
      · exact h'.triple

theorem execClearPoison_runs {ld dpa : ℕ} {data : List Byte} (h : a.Keeps s) : Answer.Runs a (execClearPoison ld dpa data s) := by
  unfold execClearPoison
  refine .below h ?_
  refine .next ?_
  refine .mailCommand h ?_
  intro t h'
  split
  · exact h'.triple
  · split
    next x2 t1 e1 =>
      have ht1 : a.Keeps t1 := h'.localWrite e1
      exact ht1.setLd.triple
    · exact h'.triple

theorem State.Keeps.background {ld opcode : ℕ} {k : State → State} (h : a.Keeps s) (hk : ∀ t, a.Keeps t → a.Keeps (k t)) : a.Keeps
    ((s.background ld opcode k).2.2) :=
  State.Keeps.ite_triple h.triple ((hk _ h.setLd).triple)

theorem execGetScanMediaCapabilities_runs {ld : ℕ} (h : a.Keeps s) : Answer.Runs a (execGetScanMediaCapabilities ld s) := by
  unfold execGetScanMediaCapabilities
  refine .below h ?_
  refine .next ?_
  refine .mailCommand h ?_
  intro t h'
  split
  next x x1 t1 e =>
  have ht1 : a.Keeps t1 := h'.draw.snd e
  exact ht1.triple

theorem execScanMedia_runs {ld dpa lines : ℕ} (h : a.Keeps s) : Answer.Runs a (execScanMedia ld dpa lines s) := by
  unfold execScanMedia
  -- The outcome is named by an equation: unfolded in place, the kernel would count the bytes of the capacity one by one.
  have hk : ∀ k : State → ℕ × List ℕ × State, (∀ t x y u, a.Keeps t → k t = (x, y, u) → a.Keeps u) →
      Answer.Runs a (below ld 32 s (.next (s.mailCommand ld 0x4304 k))) :=
    fun k hk => .below h (.next (h.mailCommand fun t ht => hk t _ _ _ ht rfl))
  refine hk _ fun t x y u ht e => ?_
  split at e
  · cases e; exact ht
  have hb : a.Keeps (x, y, u).2.2 := by
    rw [← e]
    refine ht.background fun v hv => State.Keeps.foldl hv.setLd fun w n hw => ?_
    split
    · exact hw.fetchNow
    · exact hw
  exact hb

theorem execGetScanMediaResults_runs {ld : ℕ} (h : a.Keeps s) : Answer.Runs a (execGetScanMediaResults ld s) := .below h (.next h.mailRead)

theorem execSanitize_runs {ld : ℕ} (h : a.Keeps s) : Answer.Runs a (execSanitize ld s) :=
  .below h (.next (h.mailCommand (fun _ h' => h'.background (fun _ h'1 => h'1.foldl (fun _ _ h'2 => h'2.wantRotation)))))

theorem execSecureErase_runs {ld : ℕ} (h : a.Keeps s) : Answer.Runs a (execSecureErase ld s) :=
  .below h (.next (h.mailCommand (fun _ h' => h'.background (fun _ h'1 => h'1.foldl (fun _ _ h'2 => h'2.zeroKeys.zeroKeys.makeKeys.makeKeys)))))

theorem execBackgroundOpComplete_runs {ld : ℕ} (h : a.Keeps s) : Answer.Runs a (execBackgroundOpComplete ld s) :=
  .below h (.next (((h.ite (h.foldl (fun _ _ h' => h'.clearDomain))).setLd.emit).ite h))

theorem execGetDcConfiguration_runs {ld : ℕ} (h : a.Keeps s) : Answer.Runs a (execGetDcConfiguration ld s) := .below h (.next h.mailRead)

theorem execGetDcExtentList_runs {ld : ℕ} (h : a.Keeps s) : Answer.Runs a (execGetDcExtentList ld s) := .below h (.next h.mailRead)

theorem State.Keeps.setExtents {ld : ℕ} {es : List Extent} (h : a.Keeps s) : a.Keeps (s.setExtents ld es) := h.setLd

theorem execAddDcResponse_runs {ld dom : ℕ} {accept : Bool} (h : a.Keeps s) : Answer.Runs a (execAddDcResponse ld dom accept s) :=
  .below h (.next (h.mailCommand (fun _ h' => State.Keeps.ite_triple h'.setExtents.triple h'.triple)))

theorem execReleaseDc_runs {ld dom : ℕ} (h : a.Keeps s) : Answer.Runs a (execReleaseDc ld dom s) :=
  .below h (.next (h.mailCommand (fun _ h' => State.Keeps.ite_triple h'.setExtents.cxlRecord.triple h'.triple)))

theorem execExtentReleaseComplete_runs {ld dom : ℕ} (h : a.Keeps s) : Answer.Runs a (execExtentReleaseComplete ld dom s) :=
  .below h (.next (h.deleteDomain.ite h))

theorem execCxlUnsupportedOpcode_runs {ld opcode : ℕ} (h : a.Keeps s) : Answer.Runs a (execCxlUnsupportedOpcode ld opcode s) :=
  .below h (.next (h.mailCommand (fun _ h' => h'.triple)))

theorem State.Keeps.fmCommand {k : State → ℕ × List ℕ × State} (h : a.Keeps s) (hk : ∀ t, a.Keeps t → a.Keeps (((k t).2).2)) : a.Keeps
    (s.fmCommand k) :=
  h.ite ((hk _ h).emit)

theorem execFmGetLdInfo_runs (h : a.Keeps s) : Answer.Runs a (execFmGetLdInfo s) := .next (h.fmCommand (fun _ h' => h'.triple))

theorem execFmGetLdAllocations_runs (h : a.Keeps s) : Answer.Runs a (execFmGetLdAllocations s) := .next (h.fmCommand (fun _ h' => h'.triple))

theorem execFmSetLdAllocations_runs {ld _static256m : ℕ} (h : a.Keeps s) : Answer.Runs a (execFmSetLdAllocations ld _static256m s) :=
  .next (h.fmCommand (fun _ h' => State.Keeps.ite_triple h'.triple h'.triple))

theorem execFmSetDcRegionConfig_runs {ld region base256m len256m : ℕ} (h : a.Keeps s) : Answer.Runs a
    (execFmSetDcRegionConfig ld region base256m len256m s) :=
  .below h (.next (h.fmCommand (fun _ h' => State.Keeps.ite_triple h'.triple
      (State.Keeps.ite_triple h'.setLd.triple (State.Keeps.ite_triple h'.triple h'.setLd.triple)))))

theorem execFmInitiateDcAdd_runs {ld dpaPlot plots tag : ℕ} (h : a.Keeps s) : Answer.Runs a (execFmInitiateDcAdd ld dpaPlot plots tag s) :=
  .below h (.next (h.fmCommand (fun _ h' => State.Keeps.ite_triple h'.setExtents.cxlRecord.triple h'.triple)))

theorem execFmInitiateDcRelease_runs {ld dom : ℕ} (h : a.Keeps s) : Answer.Runs a (execFmInitiateDcRelease ld dom s) := by
  unfold execFmInitiateDcRelease
  refine .below h ?_
  refine .next ?_
  refine .fmCommand h ?_
  intro t h'
  dsimp only
  refine .ite_triple ?_ ?_
  · exact h'.triple
  · split
    · exact h'.triple
    · exact State.Keeps.ite_triple h'.setExtents.triple h'.cxlRecord.triple

/-! ### Machine/Domain.lean -/

theorem State.Keeps.refuseDomain {d g code : ℕ} (h : a.Keeps s) : a.Keeps (s.refuseDomain d g code) := h.bump.event

theorem State.Keeps.createDomain {x : DomainSpec} (h : a.Keeps s) : a.Keeps (s.createDomain x).2 := by
  unfold State.createDomain
  refine .ite_snd ?_ ?_
  · exact h.refuseDomain.pair
  · dsimp only
    refine .ite_snd ?_ ?_
    · exact h.refuseDomain.pair
    · split
      · exact (((((((((h.foldl (fun _ _ h' => h'.persist)).makeKeys).persist).foldl
          (fun _ _ h' => h'.journalFlags)).setBucket).meter).rescale).sendBind).ite
          (((((((h.foldl (fun _ _ h' => h'.persist)).makeKeys).persist).foldl (fun _ _ h' => h'.journalFlags)).setBucket).meter).rescale)).pair
      · exact (((((((h.foldl (fun _ _ h' => h'.persist)).makeKeys).persist).foldl (fun _ _ h' => h'.journalFlags)).setBucket).meter).rescale).pair

theorem State.Keeps.modifyDomain {d : ℕ} {c : DomainChange} (h : a.Keeps s) : a.Keeps (s.modifyDomain d c).2 :=
  State.Keeps.ite_snd h.refuseDomain.pair h.persist.persist.persist.rescale.pair

/-! ### Machine/Sward.lean -/

theorem execSwardLinkUp_runs {port : ℕ} (h : a.Keeps s) : Answer.Runs a (execSwardLinkUp port s) :=
  .below h (.next (h.ite (h.setSwPort.ite h.setBit.setSwPort)))

theorem execSwardLinkDown_runs {port : ℕ} (h : a.Keeps s) : Answer.Runs a (execSwardLinkDown port s) := .below h (.next (h.swDown.ite h.upd))

theorem execSwardLinkSession_runs {port : ℕ} {ok : Bool} (h : a.Keeps s) : Answer.Runs a (execSwardLinkSession port ok s) :=
  .below h (.next (h.ite ((h.setBit.sendHello.ite h.setBit).ite h.swDown.bump.event)))

theorem execSwardHello_runs {port peerPort fabricId : ℕ} {peerUid peerPartner : DWord} {peerLeads : Bool} (h : a.Keeps s) : Answer.Runs a
    (execSwardHello port peerPort fabricId peerUid peerPartner peerLeads s) :=
  .below h (.next (h.ite (h.swDown.event.ite ((h.setSwPort.setFld.upd.ite h.setSwPort.setFld).reform))))

theorem State.Keeps.swProgress {p : ℕ} (h : a.Keeps s) : a.Keeps (s.swProgress p) := h.setSwPort.ite h

theorem execSwardReplayTimeout_runs {port : ℕ} (h : a.Keeps s) : Answer.Runs a (execSwardReplayTimeout port s) :=
  .below h (.next (h.ite (h.count.setSwPort.ite h.count.swRetrain.event)))

theorem execSwardRetrainTimeout_runs {port : ℕ} (h : a.Keeps s) : Answer.Runs a (execSwardRetrainTimeout port s) :=
  .below h (.next (h.setSwPort.swDown.ite h))

theorem execSwardKeyUpdateCount_runs {port : ℕ} (h : a.Keeps s) : Answer.Runs a (execSwardKeyUpdateCount port s) := .below h (.next (h.sendOn.ite h))

theorem execFormationUidFlood_runs {port : ℕ} {uid : DWord} (h : a.Keeps s) : Answer.Runs a (execFormationUidFlood port uid s) :=
  .below h (.next (h.ite ((h.ite h.reform).upd.setReg64.setFld.setBit.flood.sendOn.ite (h.ite h.reform))))

theorem execFormationLinkReport_runs {links : List LinkRep} (h : a.Keeps s) : Answer.Runs a (execFormationLinkReport links s) := by
  unfold execFormationLinkReport
  refine .next ?_
  refine .ite ?_ ?_
  · exact h
  · refine .ite ?_ ?_
    · exact h.upd.formTry
    · split
      · exact h.sendOn.ite h
      · exact h

theorem execRoutingTables_runs {nodeId nodesM1 : ℕ} {ext : List ℕ} {whole : Bool} {tree : List ℕ} {ids : List (DWord × ℕ)} {rows : List (ℕ × Word)}
    (h : a.Keeps s) : Answer.Runs a (execRoutingTables nodeId nodesM1 ext whole tree ids rows s) :=
  .next (h.ite ((h.foldl (fun _ _ h' => h'.swClose.event)).ite h.formed))

theorem State.Keeps.migFail (h : a.Keeps s) : a.Keeps s.migFail := h.upd.event.ite h

theorem State.Keeps.unreachable {dest msg : ℕ} (h : a.Keeps s) : a.Keeps (s.unreachable dest msg) := by
  unfold State.unreachable
  dsimp only
  exact ((h.bump.setSends.upd.ite h.bump.setSends).migFail).ite (h.bump.setSends.upd.ite h.bump.setSends)

theorem State.Keeps.sendAgain {dest msg : ℕ} (h : a.Keeps s) : a.Keeps (s.sendAgain dest msg) := by
  unfold State.sendAgain
  refine .ite ?_ ?_
  · exact h.sendTo
  · refine .ite ?_ ?_
    · exact h
    · refine .ite ?_ ?_
      · split
        · exact h
        · exact h.emit.count
      · split
        · exact h
        · exact h.emitForward

theorem execEndToEndResend_runs {dest msg : ℕ} (h : a.Keeps s) : Answer.Runs a (execEndToEndResend dest msg s) := by
  unfold execEndToEndResend
  refine .next ?_
  split
  · exact h
  · exact h.ite (h.unreachable.ite h.setSends.bump.count.sendAgain)

theorem execLinkDelayExchange_runs {port delayNs : ℕ} (h : a.Keeps s) : Answer.Runs a (execLinkDelayExchange port delayNs s) :=
  .below h (.next (h.setSwPort.swProgress.ite h))

theorem State.Keeps.fabricOffset {z : ℤ} (h : a.Keeps s) : a.Keeps (s.fabricOffset z) :=
  ((h.upd.setTbState.ite h.upd).upd.setReg.ite (h.upd.setTbState.ite h.upd)).sourceOffset

theorem State.Keeps.noteFabric (h : a.Keeps s) : a.Keeps s.noteFabric := h.upd

theorem State.Keeps.fabricTaken {z leap : ℤ} {announced hops master : ℕ} (h : a.Keeps s) : a.Keeps (s.fabricTaken z leap announced hops master) := by
  unfold State.fabricTaken
  dsimp only
  exact h.setReg.setBit.setBit.takeLeap.announce.fabricOffset.ite h.setReg.setBit.setBit.takeLeap.announce

theorem execFabricTimeMessage_runs {port : ℕ} {ztime leap : ℤ} {announced hops master : ℕ} (h : a.Keeps s) : Answer.Runs a
    (execFabricTimeMessage port ztime leap announced hops master s) :=
  .below h (.next (h.ite (h.count.noteFabric.fabricTaken.foldl (fun _ _ h' => h'.sendOn))))

theorem execPpsEdge_runs (h : a.Keeps s) : Answer.Runs a (execPpsEdge s) :=
  .next ((h.ppsEdge.setReg.setBit.setBit.foldl (fun _ _ h' => h'.sendOn)).ite (h.ppsEdge.setBit.setBit.ite h.ppsEdge))

theorem execForwardedWrite_runs {r : MirrorRec} (h : a.Keeps s) : Answer.Runs a (execForwardedWrite r s) := .next (h.ite h.upd.count.streamPump)

theorem execMirrorRecord_runs {r : MirrorRec} {perr : Perr} (h : a.Keeps s) : Answer.Runs a (execMirrorRecord r perr s) :=
  .next (h.ite ((h.count.ite h.count.rickError).mirrorAckOut.ite
      ((h.count.ite h.count.rickError).ite (h.count.ite h.count.rickError).upd.streamPump)))

theorem State.Keeps.copyDone (h : a.Keeps s) : a.Keeps s.copyDone := (h.resyncEnd.ite h).upd.event.ite (h.resyncEnd.ite h)

theorem execMirrorAck_runs {seq : ℕ} (h : a.Keeps s) : Answer.Runs a (execMirrorAck seq s) := by
  unfold execMirrorAck
  dsimp only
  refine .next ?_
  refine .ite ?_ ?_
  · refine .foldl ?_ (fun _ _ h' => h'.setDirty)
    refine .upd ?_
    refine .foldl ?_ ?_
    · split
      · exact h.count.upd.swProgress
      · exact h.count.upd
    · intro t x h'
      split
      · exact h'.finishWrite.ite h'
      · exact h'.setReq.ite h'
      · exact h'
      · exact h'
      · exact h'
      · exact h'
      · exact h'
      · exact h'
      · exact h'
      · exact h'
  · refine .copyDone ?_
    refine .foldl ?_ (fun _ _ h' => h'.setDirty)
    refine .upd ?_
    refine .foldl ?_ ?_
    · split
      · exact h.count.upd.swProgress
      · exact h.count.upd
    · intro t x h'
      split
      · exact h'.finishWrite.ite h'
      · exact h'.setReq.ite h'
      · exact h'
      · exact h'
      · exact h'
      · exact h'
      · exact h'
      · exact h'
      · exact h'
      · exact h'

theorem execKeepalive_runs {mig : Bool} {word : KeepaliveWord} (h : a.Keeps s) : Answer.Runs a (execKeepalive mig word s) :=
  .next ((h.ite ((h.migFail.deleteDomain.ite h.upd).ite (h.upd.ite h))).ite (h.upd.resyncEnd.ite h.upd))

theorem State.Keeps.partnerLost (h : a.Keeps s) : a.Keeps s.partnerLost := by
  unfold State.partnerLost
  dsimp only
  refine .foldl (((((h.upd.foldl (fun _ _ h' => h'.setDirty)).ite h.upd).setMirror).setFld).event) ?_
  intro t x h'
  split
  · exact h'.ite (h'.mergeTry.ite h'.finishWrite)
  · exact h'.setReq.ite h'
  · exact h'
  · exact h'
  · exact h'
  · exact h'
  · exact h'
  · exact h'
  · exact h'
  · exact h'

theorem execPartnerLoss_runs (h : a.Keeps s) : Answer.Runs a (execPartnerLoss s) := .next (h.partnerLost.ite h)

theorem execResyncStep_runs {m : Meas} (h : a.Keeps s) : Answer.Runs a (execResyncStep m s) := by
  unfold execResyncStep
  refine .next ?_
  refine .ite ?_ ?_
  · exact h
  · split
    · exact h
    · dsimp only
      refine .ite ?_ ?_
      · exact h
      · split
        · exact (h.chargeBg.upd.setFld.ite h.chargeBg.upd).fetchHeld
        · refine .ite (((h.chargeBg.upd.setFld.ite h.chargeBg.upd).readLine).resyncSend) ?_
          split
          · exact (((h.chargeBg.upd.setFld.ite h.chargeBg.upd).readLine).resyncSend).ite
              ((((h.chargeBg.upd.setFld.ite h.chargeBg.upd).readLine).resyncSend).ite
              (((h.chargeBg.upd.setFld.ite h.chargeBg.upd).readLine).fetchNow))
          · split
            · exact (((h.chargeBg.upd.setFld.ite h.chargeBg.upd).readLine).lookup).resyncSend
            · exact (((h.chargeBg.upd.setFld.ite h.chargeBg.upd).readLine).lookup).fetchNow

theorem State.Keeps.peerCommand {src opcode : ℕ} {k : State → State} (h : a.Keeps s) (hk : ∀ t, a.Keeps t → a.Keeps (k t)) : a.Keeps
    (s.peerCommand src opcode k) :=
  h.ite (h.sendTo.ite (h.sendTo.ite (hk _ h.count)))

theorem execPeerBusyResend_runs {opcode : ℕ} (h : a.Keeps s) : Answer.Runs a (execPeerBusyResend opcode s) := by
  unfold execPeerBusyResend
  refine .next ?_
  split
  · exact h
  · exact h.ite (h.upd.setSends.sendTo.ite (h.setSends.migFail.ite h.setSends))

theorem execMirrorBind_runs {dom plots : ℕ} {confirm peerLeads : Bool} (h : a.Keeps s) : Answer.Runs a (execMirrorBind dom plots confirm peerLeads s)
    := by
  unfold execMirrorBind
  refine .next ?_
  split
  · exact h
  · exact h.peerCommand (fun _ h' => (h'.upd.upd.setSends.ite (h'.upd.upd.sendBind.ite h'.upd.upd)).pairTry)

theorem execPrepareTarget_runs {d : DomainSpec} {srcNode : ℕ} {snap : Bool} (h : a.Keeps s) : Answer.Runs a (execPrepareTarget d srcNode snap s) := by
  unfold execPrepareTarget
  refine .next ?_
  refine .peerCommand h ?_
  intro t h'
  split
  next x x1 t1 e =>
  have ht1 : a.Keeps t1 := h'.createDomain.snd e
  exact (ht1.upd.ite ht1).sendTo

theorem execPeerArm_runs {c : CutSpec} {originator : ℕ} (h : a.Keeps s) : Answer.Runs a (execPeerArm c originator s) :=
  .below h (.next ((h.upd.ite h).ite (h.peerCommand (fun _ h' => h'.installCut))))

theorem execCutReport_runs {node ftag : ℕ} {done : Bool} (h : a.Keeps s) : Answer.Runs a (execCutReport node ftag done s) :=
  .below h (.next (h.peerCommand (fun _ h' => h'.setSends.upd)))

theorem State.Keeps.spread3 {k src : ℕ} {payload : List Byte} (h : a.Keeps s) : a.Keeps (s.spread3 k src payload) :=
  h.foldl (fun _ _ h' => (h'.sendOn.ite h').sendOn.ite (h'.sendOn.ite h'))

theorem State.Keeps.downTree {src : ℕ} {payload : List Byte} (h : a.Keeps s) : a.Keeps (s.downTree src payload) := h.foldl (fun _ _ h' => h'.sendOn)

theorem State.Keeps.rootCast {payload : List Byte} (h : a.Keeps s) : a.Keeps (s.rootCast payload) := h.spread3.ite h.downTree

theorem execBroadcast_runs {src port left : ℕ} {payload : List Byte} (h : a.Keeps s) : Answer.Runs a (execBroadcast src port left payload s) := by
  unfold execBroadcast
  refine .below h ?_
  refine .next ?_
  refine .ite ?_ ?_
  · exact h
  · dsimp only
    exact (((h.ite h.count).spread3).ite ((h.ite h.count).ite ((((h.ite h.count).sendOn).ite (h.ite h.count)).spread3))).ite
        (((h.ite h.count).downTree).ite (((h.ite h.count).sendTo).ite ((h.ite h.count).downTree)))

theorem State.Keeps.barrierEnds (h : a.Keeps s) : a.Keeps s.barrierEnds := h.setSends.upd.ite h.setSends

theorem execBarrier_runs {node participants : ℕ} {release : Bool} (h : a.Keeps s) : Answer.Runs a (execBarrier node participants release s) :=
  .below h (.next (h.ite ((h.barrierEnds.ite h.barrierEnds.downTree).ite
      ((((h.upd.ite h).upd.barrierEnds.rootCast.ite (h.upd.ite h).upd).ite
      ((h.upd.ite h).peerCommand (fun _ h' => h'.upd.barrierEnds.rootCast.ite h'.upd))).ite ((h.upd.ite h).sendPeer.ite (h.upd.ite h))))))

theorem State.Keeps.snapshotDom {tag d : ℕ} (h : a.Keeps s) : a.Keeps (s.snapshotDom tag d) := by
  unfold State.snapshotDom
  split
  · exact h
  · exact h.advanceTo.upd.journal

theorem execSnapshotCut_runs {entry : ℕ} (h : a.Keeps s) : Answer.Runs a (execSnapshotCut entry s) := by
  unfold execSnapshotCut
  refine .below h ?_
  refine .ite ?_ ?_
  · exact .next h
  · refine .runAction h ?_
    intro x t h'
    split
    · exact h'
    · refine .ite ?_ ?_
      · exact h'.releaseTag.freeCut
      · dsimp only
        exact ((h'.foldl (fun _ _ h'1 => h'1.event)).freeCut).ite
            (((h'.foldl (fun _ _ h'1 => h'1.event)).foldl (fun _ _ h'1 => h'1.snapshotDom)).freeCut)

theorem execCowWalkerAdvance_runs {dom count : ℕ} (h : a.Keeps s) : Answer.Runs a (execCowWalkerAdvance dom count s) := by
  unfold execCowWalkerAdvance
  refine .below h ?_
  refine .next ?_
  split
  · exact h
  · dsimp only
    exact ((((h.foldl (fun _ _ h' => h'.setCow.ite (h'.ite h'.setCow))).upd).snapGone).retryWrites).ite
        (((h.foldl (fun _ _ h' => h'.setCow.ite (h'.ite h'.setCow))).upd).snapGone)

theorem State.Keeps.fabricReset (h : a.Keeps s) : a.Keeps s.fabricReset := by
  unfold State.fabricReset
  dsimp only
  exact (((((((h.partnerLost.ite h).resetKeep).setReg).upd).setFld).ite ((((h.partnerLost.ite h).resetKeep).setReg).upd)).ite
      (((((((h.partnerLost.ite h).resetKeep).setReg).upd).setFld).ite ((((h.partnerLost.ite h).resetKeep).setReg).upd)).resetDone)).foldl
      (fun _ _ h' => h'.swRetrain)

theorem execFabricResetCut_runs {entry : ℕ} (h : a.Keeps s) : Answer.Runs a (execFabricResetCut entry s) :=
  .below h (.ite (.next h) (.runAction h (fun _ _ h' => h'.freeCut.fabricReset)))

theorem execSwCtlReset_runs {who : Requester} (h : a.Keeps s) : Answer.Runs a (execSwCtlReset who s) :=
  .next (h.asWriter (fun _ h' => h'.fabricReset))

/-! ### Machine/Spool.lean -/

theorem execEventArchiveDrain_runs (h : a.Keeps s) : Answer.Runs a (execEventArchiveDrain s) :=
  .runAction h (fun _ _ h' => h'.archiveDrain.archiveProgram)

theorem execTailWindowProgram_runs (h : a.Keeps s) : Answer.Runs a (execTailWindowProgram s) := .next (h.spoolProgram.spoolErase.meterGo.ite h)

theorem State.Keeps.meterByte (h : a.Keeps s) : a.Keeps s.meterByte := by
  unfold State.meterByte
  refine .ite ?_ ?_
  · exact h.emit.upd
  · split
    · exact h.emit.upd
    · exact h.emit.upd.ite (h.emit.upd.ite (h.emit.upd.ite h.emit.upd.meterRequest.spoolErase.meterGo))

theorem State.Keeps.meterBytes {n : ℕ} (h : a.Keeps s) : a.Keeps (State.meterBytes n s) := by
  induction n generalizing s with
  | zero => exact h
  | succ n ih => exact ih h.meterByte

theorem State.Keeps.meterClock {n : ℕ} (h : a.Keeps s) : a.Keeps (s.meterClock n) := h.meterBytes.ite (h.foldl (fun _ _ h' => h'.emit))

theorem State.Keeps.meterStart {cmd : ℕ} (h : a.Keeps s) : a.Keeps (s.meterStart cmd) := h.upd

theorem execMeterReadStream_runs {bytes : ℕ} (h : a.Keeps s) : Answer.Runs a (execMeterReadStream bytes s) := .next ((h.meterStart.ite h).meterClock)

theorem execMeterReadStatus_runs (h : a.Keeps s) : Answer.Runs a (execMeterReadStatus s) :=
  .next (h.meterClock.ite (h.meterStart.foldl (fun _ _ h' => h'.emit)))

theorem execMeterUnknownCommand_runs {cmd : ℕ} (h : a.Keeps s) : Answer.Runs a (execMeterUnknownCommand cmd s) :=
  .next (h.meterClock.ite (h.ite h.meterStart.emit))

theorem execMtrCsRise_runs (h : a.Keeps s) : Answer.Runs a (execMtrCsRise s) := .next h.upd

/-! ### Machine/Lark.lean -/

theorem State.Keeps.mailboxWrite {who : Requester} {k : ℕ} {f : State → State} (h : a.Keeps s) (hf : ∀ t, a.Keeps t → a.Keeps (f t)) : a.Keeps
    (s.mailboxWrite who k f) :=
  h.ite ((hf _ h).ite h.commonsRefuse)

theorem State.Keeps.ringOut {k : ℕ} {b : Word} (h : a.Keeps s) : a.Keeps (s.ringOut k b) :=
  h.setReg.ite (h.setReg.emit.ite (h.setReg.emit.ite (h.setReg.emit.ite h.setReg)))

theorem State.Keeps.post {k : ℕ} {v : Word} (h : a.Keeps s) : a.Keeps (s.post k v) := h.setReg.setBit.setBit

theorem State.Keeps.rejectPost {who : Requester} {k : ℕ} {v : Word} (h : a.Keeps s) : a.Keeps (s.rejectPost who k v) := by
  cases who with
  | owner => exact h.setBit.bump.emit
  | host i => exact h.setBit.bump.emit
  | mctp => exact h.emit
  | engine => exact State.Keeps.upd (s := s.bump (CP + 0x20) 31 16 1) h.bump
  | peer => exact h.bump
  | lark => exact h.bump

theorem execCpInTagWrite_runs {who : Requester} {mb : ℕ} {v : Word} (h : a.Keeps s) : Answer.Runs a (execCpInTagWrite who mb v s) :=
  .below h (.next (h.mailboxWrite (fun _ h' => h'.rejectPost.ite h'.post)))

theorem execInternalNoticeRetry_runs {mb : ℕ} (h : a.Keeps s) : Answer.Runs a (execInternalNoticeRetry mb s) := by
  unfold execInternalNoticeRetry
  refine .below h ?_
  refine .next ?_
  split
  · exact h
  · exact h.ite (h.bump.ite h.upd.post)

theorem State.Keeps.outRelease {k : ℕ} (h : a.Keeps s) : a.Keeps (s.outRelease k) := h.setBit.setBit.ite h

theorem execCpOutRelease_runs {who : Requester} {mb : ℕ} (h : a.Keeps s) : Answer.Runs a (execCpOutRelease who mb s) :=
  .below h (.next (h.mailboxWrite (fun _ h' => h'.outRelease)))

theorem State.Keeps.doorbellIn {k : ℕ} {v : Word} (h : a.Keeps s) : a.Keeps (s.doorbellIn k v) := h.setReg

theorem execDoorbellSet_runs {who : Requester} {mb : ℕ} {v : Word} (h : a.Keeps s) : Answer.Runs a (execDoorbellSet who mb v s) :=
  .below h (.next (h.mailboxWrite (fun _ h' => h'.doorbellIn)))

theorem State.Keeps.timedDoorbells {entry : ℕ} (h : a.Keeps s) : a.Keeps (s.timedDoorbells entry) := h.foldl (fun _ _ h' => h'.ringOut.ite h')

theorem execLarkDoorbell_runs {entry : ℕ} (h : a.Keeps s) : Answer.Runs a (execLarkDoorbell entry s) :=
  .below h (.ite (.next h) (.runAction h (fun _ _ h' => h'.timedDoorbells)))

theorem State.Keeps.postOut {k ptr : ℕ} {tag : Word} {status : ℕ} (h : a.Keeps s) : a.Keeps (s.postOut k ptr tag status) :=
  h.setReg64.setReg.setReg.ringOut

theorem State.Keeps.writeMessage {ptr : DWord} {m : List Byte} (h : a.Keeps s) : a.Keeps (s.writeMessage ptr m) := by
  refine .ite ?_ h.emit
  exact State.Keeps.upd (h.commons fun hs => Memory.writeBytes_wf m _ (ptr.toNat % 2 ^ 26) hs.2.1)

theorem State.Keeps.answer {t' : Taken} {status detail : ℕ} {payload : List Byte} (h : a.Keeps s) : a.Keeps (s.answer t' status detail payload) :=
  h.upd.countGlobal.ite h.upd.countGlobal.writeMessage.postOut

theorem State.Keeps.authFailed {t' : Taken} (h : a.Keeps s) : a.Keeps (s.authFailed t') := h.upd.bump.eventOnce.answer

theorem State.Keeps.authLocked {t' : Taken} (h : a.Keeps s) : a.Keeps (s.authLocked t') := h.event.answer

theorem State.Keeps.take {t' : Taken} (h : a.Keeps s) : a.Keeps (s.take t') := h.upd

theorem State.Keeps.authPassed {t' : Taken} (h : a.Keeps s) : a.Keeps (s.authPassed t') := by
  unfold State.authPassed
  split
  next x x1 t e =>
  have ht : a.Keeps t := h.advanceCounter.snd e
  extract_lets t1
  have ht1 : a.Keeps t1 := by
    unfold t1
    split
    · exact ht.event.setLock
    · exact ht
  exact ht1.answer.ite ht1.take

theorem State.Keeps.authenticate {t' : Taken} {m : List Byte} (h : a.Keeps s) : a.Keeps (s.authenticate t' m) := by
  unfold State.authenticate
  refine .ite ?_ ?_
  · exact h.answer
  · split
    · exact h.authLocked.ite h.answer
    · exact h.authFailed.ite (h.upd.authLocked.ite (h.upd.answer.ite h.upd.authPassed))

theorem State.Keeps.command {t' : Taken} {m : List Byte} (h : a.Keeps s) : a.Keeps (s.command t' m) :=
  h.answer.ite (h.answer.ite (h.answer.ite (h.answer.ite (h.answer.ite (h.answer.ite (h.authenticate.ite h.take))))))

theorem State.Keeps.takeFrom {k : ℕ} {bytes : List Byte} (h : a.Keeps s) : a.Keeps (s.takeFrom k bytes) := by
  unfold State.takeFrom
  dsimp only
  refine .ite ?_ ?_
  · exact h.setBit.setBit.upd.ringOut
  · split
    · exact h.setBit.setBit.upd.postOut
    · exact h.setBit.setBit.upd.command

theorem execLarkTakeCommand_runs {bytes : List Byte} (h : a.Keeps s) : Answer.Runs a (execLarkTakeCommand bytes s) := by
  unfold execLarkTakeCommand
  refine .next ?_
  refine .ite ?_ ?_
  · exact h
  · split
    · exact h
    · exact h.takeFrom

theorem execAuthLockoutExpire_runs {mb : ℕ} (h : a.Keeps s) : Answer.Runs a (execAuthLockoutExpire mb s) := .below h (.next h.upd)

theorem Answer.Runs.vcs {op : ℕ → Bool} {k : Taken → State → ℕ × ℕ × List Byte × State} (h : a.Keeps s)
    (hk : ∀ y0 t, a.Keeps t → a.Keeps ((((k y0 t).2).2).2)) : Answer.Runs a (s.vcs op k) := by
  unfold State.vcs
  refine .next ?_
  split
  · exact h
  · exact ((((hk _ _ h).ite ((hk _ _ h).answer)).setLock).ite ((hk _ _ h).ite ((hk _ _ h).answer))).ite h

theorem State.Keeps.endLong {result : ℕ} (h : a.Keeps s) : a.Keeps (s.endLong result) := by
  unfold State.endLong
  split
  · exact h
  · dsimp only
    exact ((((h.upd.setBit.setFld.setFld.setFld.ite h.upd.setBit.setFld.setFld).ringOut).ite
        (((h.upd.setBit.setFld.setFld.setFld.ite h.upd.setBit.setFld.setFld).ringOut).ringOut)).emit).event

theorem execLongOperationEnd_runs {result : ℕ} (h : a.Keeps s) : Answer.Runs a (execLongOperationEnd result s) := by
  unfold execLongOperationEnd
  refine .next ?_
  split
  · exact h
  · exact h.migFail.endLong.ite (h.ite h.endLong)

theorem State.Keeps.controlReset {cause : ℕ} (h : a.Keeps s) : a.Keeps (s.controlReset cause) :=
  h.ite (h.resetCore.upd.setBit.setBit.setBit.setBit.setBit.setReg.bump.bump.resetDone.event.foldl (fun _ _ h' => h'.ringOut))

theorem execLarkWatchdogExpire_runs (h : a.Keeps s) : Answer.Runs a (execLarkWatchdogExpire s) := .next (h.controlReset.ite h)

theorem execGlbRstControl_runs (h : a.Keeps s) : Answer.Runs a (execGlbRstControl s) := .next h.controlReset

/-! ### Machine/Format.lean -/

theorem State.Keeps.endRequests (h : a.Keeps s) : a.Keeps s.endRequests := (h.foldl (fun _ _ h' => h'.unresolved)).upd

theorem State.Keeps.dropMediaWork (h : a.Keeps s) : a.Keeps s.dropMediaWork := h.upd

theorem State.Keeps.formatMap (h : a.Keeps s) : a.Keeps s.formatMap := h.upd

theorem State.Keeps.formatTree (h : a.Keeps s) : a.Keeps s.formatTree := (h.advanceTo.ite h).upd.rotShow.setReg

theorem State.Keeps.formatKeys (h : a.Keeps s) : a.Keeps s.formatKeys := h.foldl (fun _ _ h' => h'.foldl (fun _ _ h'1 => h'1.setEntry))

theorem State.Keeps.formatEngines (h : a.Keeps s) : a.Keeps s.formatEngines := (h.upd.maintEnd.ite h.upd).emptyCache.partition.persist

theorem State.Keeps.formatCkpt (h : a.Keeps s) : a.Keeps s.formatCkpt := (h.upd.upd.setReg64.foldl (fun _ _ h' => h'.setPlot)).recomputeX

theorem State.Keeps.format {u : ℕ} (h : a.Keeps s) : a.Keeps (s.format u) := by
  unfold State.format
  dsimp only
  exact h.persistFld.endRequests.dropMediaWork.formatMap.formatTree.formatEngines.formatKeys.formatCkpt.ite
      h.persistFld.endRequests.dropMediaWork.formatMap.formatTree.formatEngines.formatKeys.formatCkpt.newSalt.meterGap.setFld

/-! ### Machine/Vcs.lean -/

theorem State.Keeps.done {payload : List Byte} (h : a.Keeps s) : a.Keeps ((((done s payload).2).2).2) := h.quad

theorem State.Keeps.refused {rule : ℕ} (h : a.Keeps s) : a.Keeps ((((refused s rule).2).2).2) := h.quad

theorem State.Keeps.badInput (h : a.Keeps s) : a.Keeps (Machine.badInput s).2.2.2 := h.draw.quad

theorem State.Keeps.outOfScope (h : a.Keeps s) : a.Keeps ((((outOfScope s).2).2).2) := h.quad

theorem execVcsIdentify_runs (h : a.Keeps s) : Answer.Runs a (execVcsIdentify s) := .vcs h (fun _ _ h' => h'.done)

theorem execGetCounter_runs {authority : ℕ} (h : a.Keeps s) : Answer.Runs a (execGetCounter authority s) :=
  .vcs h (fun _ _ h' => State.Keeps.ite_quad h'.done h'.badInput)

theorem execGetProgress_runs (h : a.Keeps s) : Answer.Runs a (execGetProgress s) := .vcs h (fun _ _ h' => h'.done)

theorem execGetNotices_runs (h : a.Keeps s) : Answer.Runs a (execGetNotices s) := .vcs h (fun _ _ h' => (h'.upd.ite h').done)

theorem execCreateDomain_runs (h : a.Keeps s) : Answer.Runs a (execCreateDomain s) := by
  unfold execCreateDomain
  refine .vcs h ?_
  intro x t h'
  split
  · exact h'.quad
  · dsimp only
    exact State.Keeps.ite_quad h'.outOfScope (State.Keeps.ite_quad h'.createDomain.done h'.createDomain.refused)

theorem execDeleteDomain_runs {dom : ℕ} (h : a.Keeps s) : Answer.Runs a (execDeleteDomain dom s) :=
  .vcs h (fun _ _ h' => State.Keeps.ite_quad h'.badInput (State.Keeps.ite_quad h'.outOfScope (State.Keeps.ite_quad h'.refused h'.deleteDomain.done)))

theorem execModifyDomain_runs {dom : ℕ} {chg : DomainChange} (h : a.Keeps s) : Answer.Runs a (execModifyDomain dom chg s) := by
  unfold execModifyDomain
  refine .vcs h ?_
  intro x t h'
  refine .ite_quad ?_ ?_
  · exact h'.badInput
  · refine .ite_quad ?_ ?_
    · exact h'.outOfScope
    · split
      next x1 x2 t1 e =>
      have ht1 : a.Keeps t1 := h'.modifyDomain.snd e
      exact State.Keeps.ite_quad ht1.done ht1.refused

theorem State.Keeps.createAll {xs : List DomainSpec} (h : a.Keeps s) : a.Keeps (s.createAll xs).2 := by
  induction xs generalizing s with
  | nil => exact h
  | cons x xs ih =>
    unfold State.createAll
    split
    next code t e => exact .ite_snd (ih (h.createDomain.snd e)) h.pair

theorem execLoadDomainPlan_runs {plan : List DomainSpec} (h : a.Keeps s) : Answer.Runs a (execLoadDomainPlan plan s) := by
  unfold execLoadDomainPlan
  refine .vcs h ?_
  intro x t h'
  split
  next x1 x2 t1 e =>
  have ht1 : a.Keeps t1 := h'.createAll.snd e
  exact State.Keeps.ite_quad ht1.done h'.refuseDomain.refused

theorem execListDomains_runs (h : a.Keeps s) : Answer.Runs a (execListDomains s) := .vcs h (fun _ _ h' => h'.done)

theorem State.Keeps.started {c : Taken} {dom : ℕ} (h : a.Keeps s) : a.Keeps ((((started c dom s).2).2).2) := h.beginLong.quad

theorem execRotateDomainKey_runs {dom : ℕ} (h : a.Keeps s) : Answer.Runs a (execRotateDomainKey dom s) :=
  .vcs h (fun _ _ h' => State.Keeps.ite_quad h'.badInput (State.Keeps.ite_quad h'.outOfScope
      (State.Keeps.ite_quad h'.refused (State.Keeps.ite_quad h'.refused h'.wantRotation.started))))

theorem execClearQuarantine_runs {dom : ℕ} (h : a.Keeps s) : Answer.Runs a (execClearQuarantine dom s) :=
  .vcs h (fun _ _ h' => State.Keeps.ite_quad h'.badInput h'.persist.setFld.done)

theorem State.Keeps.freshPlace {x : ℕ} (h : a.Keeps s) (e : s.freshPlace x = some t) : a.Keeps t := by
  unfold State.freshPlace at e
  split at e
  · cases e; exact h.setSpread
  · obtain ⟨f, -, rfl⟩ := Option.map_eq_some_iff.mp e
    exact h.moveCounter

theorem State.Keeps.installKey {a' : ℕ} {key : List Byte} {groups lds : Word} (h : a.Keeps s) : a.Keeps (s.installKey a' key groups lds) :=
  h.upd.setLock.persist.ite h.upd.setLock

theorem execSetDelegate_runs {index : ℕ} {key : List Byte} {groups lds : Word} (h : a.Keeps s) : Answer.Runs a
    (execSetDelegate index key groups lds s) := by
  unfold execSetDelegate
  refine .vcs h ?_
  intro x t h'
  refine .ite_quad ?_ ?_
  · exact h'.badInput
  · split
    · exact h'.refused
    next x1 t1 e =>
      have ht1 : a.Keeps t1 := h'.freshPlace e
      exact ht1.installKey.done

theorem execRevokeDelegate_runs {index : ℕ} (h : a.Keeps s) : Answer.Runs a (execRevokeDelegate index s) :=
  .vcs h (fun _ _ h' => State.Keeps.ite_quad h'.badInput h'.upd.setLock.done)

theorem execRekeyAuthority_runs {index : ℕ} {key : List Byte} (h : a.Keeps s) : Answer.Runs a (execRekeyAuthority index key s) := by
  unfold execRekeyAuthority
  refine .vcs h ?_
  intro x t h'
  refine .ite_quad ?_ ?_
  · exact h'.badInput
  · refine .ite_quad ?_ ?_
    · exact h'.refused
    · split
      · exact h'.refused
      next x1 t1 e =>
        have ht1 : a.Keeps t1 := h'.freshPlace e
        exact ht1.installKey.event.done

theorem execMediaReformatting_runs {u : ℕ} (h : a.Keeps s) : Answer.Runs a (execMediaReformatting u s) :=
  .vcs h (fun _ _ h' => State.Keeps.ite_quad h'.format.started h'.refused)

theorem execOverwriteSanitize_runs (h : a.Keeps s) : Answer.Runs a (execOverwriteSanitize s) := .vcs h (fun _ _ h' => h'.started)

theorem execSetChannelDisable_runs {chan : ℕ} {v : Bool} (h : a.Keeps s) : Answer.Runs a (execSetChannelDisable chan v s) :=
  .vcs h (fun _ _ h' => State.Keeps.ite_quad h'.badInput h'.persistFld.persistDone.done)

theorem execRickMaintenance_runs {op count : ℕ} {key : DWord} (h : a.Keeps s) : Answer.Runs a (execRickMaintenance op count key s) :=
  .vcs h (fun _ _ h' => State.Keeps.ite_quad h'.badInput (State.Keeps.ite_quad h'.maintGo.refused h'.maintGo.maintPump.done))

theorem execSetCommonsSize_runs {mib : ℕ} (h : a.Keeps s) : Answer.Runs a (execSetCommonsSize mib s) :=
  .vcs h (fun _ _ h' => State.Keeps.ite_quad h'.persistFld.done h'.badInput)

theorem State.Keeps.stepBack (h : a.Keeps s) : a.Keeps s.stepBack :=
  (h.upd.setBit.clearPending.setValid.reacquire.meterClose.foldl (fun _ _ h' => h'.recompute.ite h')).event.saveTime

theorem execConfirmBackwardStep_runs (h : a.Keeps s) : Answer.Runs a (execConfirmBackwardStep s) :=
  .vcs h (fun _ _ h' => State.Keeps.ite_quad h'.stepBack.done h'.refused)

theorem execDiscardBackwardStep_runs (h : a.Keeps s) : Answer.Runs a (execDiscardBackwardStep s) :=
  .vcs h (fun _ _ h' => State.Keeps.ite_quad h'.clearPending.upd.event.done h'.refused)

theorem State.Keeps.schedPut {n : ℕ} {ctl period window : Word} {phase : DWord} (h : a.Keeps s) : a.Keeps (s.schedPut n ctl period window phase) :=
  h.setReg.ite h.setReg.setReg.setReg.setReg64

theorem execWriteScheduleEntry_runs {entry : ℕ} {ctl period window : Word} {phase : DWord} (h : a.Keeps s) : Answer.Runs a
    (execWriteScheduleEntry entry ctl period window phase s) :=
  .vcs h (fun _ _ h' => State.Keeps.ite_quad h'.badInput ((h'.schedChanged h'.schedPut).done))

theorem execSaveSchedule_runs (h : a.Keeps s) : Answer.Runs a (execSaveSchedule s) := .vcs h (fun _ _ h' => h'.upd.done)

theorem execSetTimedDoorbell_runs {n : ℕ} {v : Word} (h : a.Keeps s) : Answer.Runs a (execSetTimedDoorbell n v s) :=
  .vcs h (fun _ _ h' => State.Keeps.ite_quad h'.badInput h'.plainWrite.done)

/-! ### Machine/Registers.lean -/

theorem State.Keeps.latch {who : Requester} {o : ℕ} {v : Word} (h : a.Keeps s) : a.Keeps (s.latch who o v) := h.upd

theorem State.Keeps.dropHold {who : Requester} {o : ℕ} (h : a.Keeps s) : a.Keeps (s.dropHold who o) := h.upd

theorem State.Keeps.hold {who : Requester} {o : ℕ} {v : Word} (h : a.Keeps s) : a.Keeps (s.hold who o v) := h.dropHold.upd

theorem State.Keeps.clearRc {o : ℕ} (h : a.Keeps s) : a.Keeps (s.clearRc o) := h.setReg

theorem State.Keeps.readReg {who : Requester} {o : ℕ} (h : a.Keeps s) : a.Keeps (s.readReg who o).2 :=
  State.Keeps.ite_snd ((h.latch.setReg64.ite h.latch).pair) (State.Keeps.ite_snd h.pair h.clearRc.pair)

theorem State.Keeps.seedPop (h : a.Keeps s) : a.Keeps s.seedPop := by
  unfold State.seedPop
  split
  · exact h
  · exact h.upd.setBit.seedWrite

theorem State.Keeps.settleWrites {who : Requester} {o n : ℕ} (h : a.Keeps s) : a.Keeps (State.settleWrites who o n s) := by
  induction n generalizing s with
  | zero => exact h
  | succ n ih => exact .ite (ih h.seedPop) h

theorem State.Keeps.ldRead {who : Requester} {o : ℕ} (h : a.Keeps s) : a.Keeps (s.ldRead who o) := h.upd.emit.ite h.emit

theorem State.Keeps.badAccess {who : Requester} {o : ℕ} {write : Bool} (h : a.Keeps s) : a.Keeps (s.badAccess who o write) :=
  (h.ite h.logRefused).commonsRefuse

theorem State.Keeps.regRead {who : Requester} {o : ℕ} (h : a.Keeps s) : a.Keeps (s.regRead who o) := by
  unfold State.regRead
  refine .ite ?_ ?_
  · exact h
  · refine .ite ?_ ?_
    · exact h.badAccess
    · refine .ite ?_ ?_
      · exact h.ldRead
      · split
        · exact h.disallowed
        · refine .ite ?_ ?_
          · exact h.disallowed
          · dsimp only
            exact h.settleWrites.readReg.emit

theorem State.Keeps.boxWrite {who : Requester} {k w : ℕ} {v : Word} (h : a.Keeps s) : a.Keeps (s.boxWrite who k w v) :=
  (h.rejectPost.ite h.post).ite ((h.outRelease.ite h).ite (h.doorbellIn.ite h.plainWrite))

theorem State.Keeps.rejectPtr {who : Requester} {k : ℕ} (h : a.Keeps s) : a.Keeps (s.rejectPtr who k) := by
  unfold State.rejectPtr
  split
  · exact h.rejectPost
  · exact h.rejectPost
  · exact h.rejectPost
  · exact h.rejectPost
  · exact h.rejectPost
  · exact h.bump

theorem State.Keeps.pmValPut {i : ℕ} {lo hi : Option Word} (h : a.Keeps s) : a.Keeps (s.pmValPut i lo hi) := h.ite h.upd

theorem State.Keeps.maintCmd {who : Requester} {v : Word} (h : a.Keeps s) : a.Keeps (s.maintCmd who v) := h.plainWrite.maintRow.ite h.plainWrite

theorem State.Keeps.wordWrite {who : Requester} {o : ℕ} {v : Word} (h : a.Keeps s) : a.Keeps (s.wordWrite who o v) := by
  unfold State.wordWrite
  split
  · exact h.boxWrite
  · exact (h.plainWrite.triggerReset.ite h.plainWrite).ite (h.arbMapWrite.ite
      (h.guardSel.ite (h.domSel.ite (h.maintCmd.ite ((h.plainWrite.fabricReset.ite h.plainWrite).ite
      ((h.plainWrite.upd.ite h.plainWrite).ite h.plainWrite))))))

theorem State.Keeps.pairWrite {who : Requester} {o : ℕ} {v : Word} (h : a.Keeps s) : a.Keeps (s.pairWrite who o v) := by
  unfold State.pairWrite
  dsimp only
  split
  · refine .ite ?_ ?_
    · refine .ite ?_ ?_
      · exact h.dropHold.rejectPtr
      · refine .setReg ?_
        split
        · exact h.dropHold.setReg
        · exact h.dropHold
    · exact h.dropHold
  · refine .ite ?_ ?_
    · exact h.dropHold.pmValPut
    · split
      · exact h.dropHold.plainWrite
      · exact h.dropHold.queueSeed.ite h.dropHold.plainWrite.plainWrite

theorem State.Keeps.regPut {who : Requester} {o : ℕ} {v : Word} (h : a.Keeps s) : a.Keeps (s.regPut who o v) := by
  unfold State.regPut
  refine .ite ?_ ?_
  · exact h.schedWrite
  · refine .ite ?_ ?_
    · exact h.readSeq
    · refine .ite ?_ ?_
      · split
        · exact h.rejectPtr.ite h.hold
        · exact h.hold
      · exact h.pairWrite.ite h.wordWrite

theorem State.Keeps.regWrite {who : Requester} {o : ℕ} {v : Word} (h : a.Keeps s) : a.Keeps (s.regWrite who o v) := by
  unfold State.regWrite
  refine .ite ?_ ?_
  · exact h
  · refine .ite ?_ ?_
    · exact h.badAccess
    · refine .ite ?_ ?_
      · exact h
      · split
        · exact h.disallowed
        · split
          · exact h.regPut.ite h.commonsRefuse
          · exact h.regPut.ite h.disallowed

theorem execRegisterWrite_runs {who : Requester} {off : ℕ} {v : Word} (h : a.Keeps s) : Answer.Runs a (execRegisterWrite who off v s) :=
  .next h.regWrite

theorem execBar0BadSizeAccess_runs {who : Requester} {off : ℕ} {write : Bool} (h : a.Keeps s) : Answer.Runs a (execBar0BadSizeAccess who off write s)
    :=
  .next (h.badAccess.ite h)

theorem execLowHalfRead_runs {who : Requester} {off : ℕ} (h : a.Keeps s) : Answer.Runs a (execLowHalfRead who off s) := .next h.regRead

theorem execLowHalfWrite_runs {who : Requester} {off : ℕ} {v : Word} (h : a.Keeps s) : Answer.Runs a (execLowHalfWrite who off v s) :=
  .next h.regWrite

theorem execHighHalfWrite_runs {who : Requester} {off : ℕ} {v : Word} (h : a.Keeps s) : Answer.Runs a (execHighHalfWrite who off v s) :=
  .next h.regWrite

theorem execClearOnRead_runs {who : Requester} {off : ℕ} (h : a.Keeps s) : Answer.Runs a (execClearOnRead who off s) := .next h.regRead

theorem execCdLadderCntLowRead_runs {who : Requester} {k : ℕ} (h : a.Keeps s) : Answer.Runs a (execCdLadderCntLowRead who k s) :=
  .below h (.next h.regRead)

theorem State.Keeps.mctpReads {n o : ℕ} (h : a.Keeps s) : a.Keeps (State.mctpReads n o s).2 := by
  induction n generalizing s o with
  | zero => exact h
  | succ n ih => exact (ih h.readReg).pair

theorem execMctpRegisterRead_runs {vendor count off : ℕ} (h : a.Keeps s) : Answer.Runs a (execMctpRegisterRead vendor count off s) :=
  .next (h.ite (h.emit.ite (h.emit.ite (h.emit.ite h.mctpReads.emit))))

/-! ### Machine/Vcs2.lean -/

theorem State.Keeps.showAlt (h : a.Keeps s) : a.Keeps s.showAlt := h.setReg

theorem execActivateInactiveSlot_runs (h : a.Keeps s) : Answer.Runs a (execActivateInactiveSlot s) :=
  .vcs h (fun _ _ h' => State.Keeps.ite_quad h'.refused h'.upd.started)

theorem State.Keeps.writeDirectory {b : Bool} (h : a.Keeps s) : a.Keeps (s.writeDirectory b) := h.upd

theorem State.Keeps.activated {a' : Activation} (h : a.Keeps s) : a.Keeps (s.activated a') :=
  (h.setFld.setReg.upd.writeDirectory.showAlt.foldl (fun _ _ h' => h'.ringOut)).event.endLong

theorem State.Keeps.abandon {a' : Activation} (h : a.Keeps s) : a.Keeps (s.abandon a') := h.upd.upd.event.endLong

theorem execActivationImageReady_runs {accepted : Bool} (h : a.Keeps s) : Answer.Runs a (execActivationImageReady accepted s) := by
  unfold execActivationImageReady
  refine .next ?_
  split
  · exact h
  · exact h.activated.ite h.abandon

theorem execActivationTimeout_runs (h : a.Keeps s) : Answer.Runs a (execActivationTimeout s) := by
  unfold execActivationTimeout
  refine .next ?_
  split
  · exact h
  · exact h.abandon.ite h

theorem execRaiseSvnMin_runs (h : a.Keeps s) : Answer.Runs a (execRaiseSvnMin s) := .vcs h (fun _ _ h' => h'.persistFld.showAlt.done)

theorem State.Keeps.namePartner {uid : DWord} (h : a.Keeps s) : a.Keeps (s.namePartner uid) :=
  (((h.partnerLost.ite h).persist64.setReg.upd.foldl (fun _ _ h' => h'.sendHello)).swFree).pairTry

theorem State.Keeps.promote (h : a.Keeps s) : a.Keeps s.promote := h.setMirror.setBit.setBit

theorem State.Keeps.demote (h : a.Keeps s) : a.Keeps s.demote := (h.setMirror.setBit.setBit.upd.foldl (fun _ _ h' => h'.sendHello)).pairTry

theorem execSetMirrorPartner_runs {uid : DWord} {promote demote : Bool} (h : a.Keeps s) : Answer.Runs a (execSetMirrorPartner uid promote demote s) :=
  .vcs h (fun _ _ h' => State.Keeps.ite_quad h'.refused (State.Keeps.ite_quad h'.badInput
      (State.Keeps.ite_quad (State.Keeps.ite_quad h'.promote.done h'.refused)
      (State.Keeps.ite_quad (State.Keeps.ite_quad h'.demote.done h'.refused) ((h'.ite h'.namePartner).done)))))

theorem execStartLiveDomainMigration_runs {dom node dstDom dstLd dpaBase poolBase : ℕ} {snapSlot : Option ℕ} (h : a.Keeps s) : Answer.Runs a
    (execStartLiveDomainMigration dom node dstDom dstLd dpaBase poolBase snapSlot s) :=
  .vcs h (fun _ _ h' => State.Keeps.ite_quad h'.badInput (State.Keeps.ite_quad h'.refused h'.upd.dirtyDomain.sendPeer.started))

theorem execArmSnapshotOrResetCut_runs {c : CutSpec} (h : a.Keeps s) : Answer.Runs a (execArmSnapshotOrResetCut c s) :=
  .vcs h (fun _ _ h' => State.Keeps.ite_quad h'.badInput (State.Keeps.ite_quad h'.badInput
      (((h'.upd.ite h'.installCut).foldl (fun _ _ h'1 => h'1.sendPeer)).done)))

theorem execRequestPowerState_runs {viaResponder : Bool} {target : ℕ} (h : a.Keeps s) : Answer.Runs a (execRequestPowerState viaResponder target s)
    := by
  unfold execRequestPowerState
  refine .ite ?_ ?_
  · exact .next h.sideband
  · refine .vcs h ?_
    intro x t h'
    split
    next x1 x2 t1 e =>
    have ht1 : a.Keeps t1 := h'.requestState.snd e
    exact State.Keeps.ite_quad ht1.done (State.Keeps.ite_quad ht1.badInput ht1.refused)

theorem execClearEventRecorder_runs (h : a.Keeps s) : Answer.Runs a (execClearEventRecorder s) := .vcs h (fun _ _ h' => h'.upd.event.done)

theorem execFlushMeterStream_runs (h : a.Keeps s) : Answer.Runs a (execFlushMeterStream s) :=
  .vcs h (fun _ _ h' => h'.upd.spoolErase.setReg64.event.meterRequest.done)

theorem State.Keeps.rwaDone {o : ℕ} {v : Word} (h : a.Keeps s) : a.Keeps (s.rwaDone o v) :=
  h.dropAbsent.thermalUpdate.ite ((h.coldRestart.ite (h.warmReset.ite (h.controlReset.ite h))).ite h)

theorem State.Keeps.rwaWrite {o : ℕ} {mask v : Word} (h : a.Keeps s) : a.Keeps (((s.rwaWrite o mask v).2.2).2) :=
  State.Keeps.ite_quad h.rwaDone.done (State.Keeps.ite_quad h.event.refused (State.Keeps.ite_quad h.persist.refused h.persist.rwaDone.done))

theorem execWriteRwaField_runs (h : a.Keeps s) : Answer.Runs a (execWriteRwaField s) :=
  .vcs h (fun _ _ h' => State.Keeps.ite_quad h'.quad (State.Keeps.ite_quad h'.refused
      (State.Keeps.ite_quad h'.quad (State.Keeps.ite_quad h'.quad (State.Keeps.ite_quad h'.quad h'.rwaWrite)))))

theorem execSaveControlProfile_runs {entries : List (ℕ × Word)} (h : a.Keeps s) : Answer.Runs a (execSaveControlProfile entries s) :=
  .vcs h (fun _ _ h' => State.Keeps.ite_quad h'.badInput h'.upd.setFld.done)

theorem execReadOwnerDataArea_runs {off count : ℕ} (h : a.Keeps s) : Answer.Runs a (execReadOwnerDataArea off count s) :=
  .vcs h (fun _ _ h' => State.Keeps.ite_quad h'.badInput h'.done)

theorem execWriteOwnerDataArea_runs {off : ℕ} {bytes : List Byte} (h : a.Keeps s) : Answer.Runs a (execWriteOwnerDataArea off bytes s) :=
  .vcs h (fun _ _ h' => State.Keeps.ite_quad h'.badInput h'.queueSeed.done)

theorem execFmApiTunnel_runs (h : a.Keeps s) : Answer.Runs a (execFmApiTunnel s) := by
  unfold execFmApiTunnel
  refine .vcs h ?_
  intro x t h'
  split
  next x1 x2 t1 e =>
  have ht1 : a.Keeps t1 := h'.drawBytes.snd e
  exact ht1.done

theorem execVcsUnsupportedOpcode_runs (h : a.Keeps s) : Answer.Runs a (execVcsUnsupportedOpcode s) := .vcs h (fun _ _ h' => h'.quad)

/-! ### Machine/Firmware.lean -/

theorem State.Keeps.chooseSlot (h : a.Keeps s) : a.Keeps (s.chooseSlot.2) :=
  State.Keeps.ite_snd (h.event.ite h).pair (State.Keeps.ite_snd (h.event.ite h).pair
      (State.Keeps.ite_snd (h.event.ite h).event.pair (h.event.ite h).pair))

theorem State.Keeps.applyProfile (h : a.Keeps s) : a.Keeps s.applyProfile := by
  unfold State.applyProfile
  refine .ite ?_ ?_
  · exact h
  · dsimp only
    refine .setReg ?_
    refine .foldl_fst h.pair_fst ?_
    intro x x1 h'
    split
    · exact h'.regWrite.pair_fst
    · exact h'.pair_fst

theorem State.Keeps.schedLoadWord {x : ℕ × Word} (h : a.Keeps s) : a.Keeps (s.schedLoadWord x) := h.setReg

theorem State.Keeps.loadSchedule (h : a.Keeps s) : a.Keeps s.loadSchedule :=
  h.ite (((h.foldl (fun _ _ h' => h'.schedLoadWord)).foldl (fun _ _ h' => h.schedChanged h')).upd)

theorem State.Keeps.showEscal (h : a.Keeps s) : a.Keeps s.showEscal := h.foldl (fun _ _ h' => h'.setReg)

theorem State.Keeps.resumeLong (h : a.Keeps s) : a.Keeps s.resumeLong := by
  unfold State.resumeLong
  split
  · exact h
  · refine .ite ?_ ?_
    · split
      · exact h.abandon
      · exact h
    · exact ((h.format.ite h).dirtyDomain.upd.ite (h.format.ite h)).beginLong

theorem State.Keeps.bootFrom {b : Bool} (h : a.Keeps s) : a.Keeps (s.bootFrom b) :=
  h.setFld.setReg.upd.showAlt.applyProfile.showEscal.loadSchedule.setBit.resumeLong

theorem execLarkStart_runs (h : a.Keeps s) : Answer.Runs a (execLarkStart s) := by
  unfold execLarkStart
  refine .next ?_
  refine .ite ?_ ?_
  · exact h
  · split
    next x x1 t e =>
      have ht : a.Keeps t := h.chooseSlot.snd e
      exact ht.bootFrom
    next x t e =>
      have ht : a.Keeps t := h.chooseSlot.snd e
      exact ht.showAlt.setBit.event

/-! ### Safety.lean -/

theorem State.Keeps.handBack {c tag : ℕ} (h : a.Keeps s) : a.Keeps (s.handBack c tag) := h.unsuspend.release

theorem State.Keeps.taught {c tag : ℕ} {q : MCmd} {rs : Bool} {dev : ℤ} (h : a.Keeps s) : a.Keeps (s.taught c tag q rs dev) :=
  h.handBack.resense.learn.ite h.handBack.resense

theorem State.Keeps.concluded {c : Taken} {status detail : ℕ} {payload : List Byte} (h : a.Keeps s) : a.Keeps (s.concluded c status detail payload) :=
  (h.ite h.answer).setLock.ite (h.ite h.answer)

/-- The part with an image chunk written into slot B or A of the boot flash. -/
def State.withChunk (s : State) (off : ℕ) (b : List Byte) : State :=
  let y : ImageSlot := { factory := false, bytes := (s.slotOf (!s.slotRuns)).bytes.writeBytes off b }
  { s with lark := { s.lark with slotA := if !s.slotRuns then s.lark.slotA else y, slotB := if !s.slotRuns then y else s.lark.slotB } }

theorem State.withChunk_canonical {off : ℕ} {b : List Byte} (h : s.Canonical) : (s.withChunk off b).Canonical := by
  obtain ⟨hr, hc, ho, hA, hB⟩ := h
  unfold State.withChunk State.slotOf
  cases s.slotRuns
  · exact ⟨hr, hc, ho, hA, Memory.writeBytes_wf _ _ _ hB⟩
  · exact ⟨hr, hc, ho, Memory.writeBytes_wf _ _ _ hA, hB⟩

/-- A VCS command leaves what it is called in, or Lark's answer to what its meaning leaves. -/
theorem State.vcs_elim {op : ℕ → Bool} {k : Taken → State → ℕ × ℕ × List Byte × State} {P : State → Prop} (hs : P s)
    (hk : ∀ c t, (k c s).2.2.2.Keeps t → P t) : ∃ t, s.vcs op k = .next t ∧ P t := by
  unfold State.vcs
  split
  · exact ⟨_, rfl, hs⟩
  next c _ =>
  split
  · have h := State.Keeps.refl (k c s).2.2.2
    exact ⟨_, rfl, hk c _ ((h.ite h.answer).setLock.ite (h.ite h.answer))⟩
  · exact ⟨_, rfl, hs⟩

theorem execTransferImageChunk_runs {off : ℕ} {b : List Byte} :
    ∃ t, execTransferImageChunk off b s = .next t ∧ t.pending = s.pending ∧ (s.Canonical → t.Canonical) := by
  refine State.vcs_elim ⟨rfl, id⟩ fun c t hc => ?_
  split at hc
  · have h := (State.Keeps.refl s).badInput.trans hc
    exact ⟨h.pending, h.canonical⟩
  · have h : (s.withChunk off b).Keeps t := (State.Keeps.showAlt (.refl (s.withChunk off b))).trans hc
    exact ⟨h.pending, fun hs => h.canonical (State.withChunk_canonical hs)⟩

/-! ### Machine/Dispatch.lean -/

/-- Every command but Transfer image chunk runs and keeps the queue, the image slots and canonical form. -/
theorem exec_runs {i : Instr} (h : a.Keeps s) (hi : ∀ off b, i ≠ .transferImageChunk off b) : Answer.Runs a (exec i s) := by
  cases i with
  | registerWrite => exact Sys2Proof.Machine.execRegisterWrite_runs h
  | bar0BadSizeAccess => exact Sys2Proof.Machine.execBar0BadSizeAccess_runs h
  | lowHalfRead => exact Sys2Proof.Machine.execLowHalfRead_runs h
  | lowHalfWrite => exact Sys2Proof.Machine.execLowHalfWrite_runs h
  | highHalfWrite => exact Sys2Proof.Machine.execHighHalfWrite_runs h
  | clearOnRead => exact Sys2Proof.Machine.execClearOnRead_runs h
  | cdLadderCntLowRead => exact Sys2Proof.Machine.execCdLadderCntLowRead_runs h
  | seedWriteComplete => exact Sys2Proof.Machine.execSeedWriteComplete_runs h
  | mctpRegisterRead => exact Sys2Proof.Machine.execMctpRegisterRead_runs h
  | commonsDisallowedAccess => exact Sys2Proof.Machine.execCommonsDisallowedAccess_runs h
  | memRd => exact Sys2Proof.Machine.execMemRd_runs h
  | memRdData => exact Sys2Proof.Machine.execMemRdData_runs h
  | memInv port link ld tag dpa => exact execMemInv_runs (_dpa := dpa) h
  | memInvNt port link ld tag dpa => exact execMemInvNt_runs (_dpa := dpa) h
  | memSpecRd port link ld tag dpa => exact execMemSpecRd_runs (_tag := tag) (_dpa := dpa) h
  | memWr => exact Sys2Proof.Machine.execMemWr_runs h
  | memWrPtl => exact Sys2Proof.Machine.execMemWrPtl_runs h
  | memUnexpectedOpcode port link tag opcode => exact execMemUnexpectedOpcode_runs (_tag := tag) h
  | admitRequest => exact Sys2Proof.Machine.execAdmitRequest_runs h
  | writeSetWaitResume => exact Sys2Proof.Machine.execWriteSetWaitResume_runs h
  | ppsEdge => exact Sys2Proof.Machine.execPpsEdge_runs h
  | todFrame => exact Sys2Proof.Machine.execTodFrame_runs h
  | timeSourceSwitch => exact Sys2Proof.Machine.execTimeSourceSwitch_runs h
  | sourceLossTimeout => exact Sys2Proof.Machine.execSourceLossTimeout_runs h
  | disciplineComplete => exact Sys2Proof.Machine.execDisciplineComplete_runs h
  | slewComplete => exact Sys2Proof.Machine.execSlewComplete_runs h
  | leapSecond => exact Sys2Proof.Machine.execLeapSecond_runs h
  | scheduleTick => exact Sys2Proof.Machine.execScheduleTick_runs h
  | scheduleWindowMissed => exact Sys2Proof.Machine.execScheduleWindowMissed_runs h
  | deferredActionResume => exact Sys2Proof.Machine.execDeferredActionResume_runs h
  | schedEntryWrite => exact Sys2Proof.Machine.execSchedEntryWrite_runs h
  | meterMinuteClose => exact Sys2Proof.Machine.execMeterMinuteClose_runs h
  | effectiveAgeUpdate => exact Sys2Proof.Machine.execEffectiveAgeUpdate_runs h
  | anchorJournalCheckpoint => exact Sys2Proof.Machine.execAnchorJournalCheckpoint_runs h
  | bestEffortWindow => exact Sys2Proof.Machine.execBestEffortWindow_runs h
  | mapCheckpoint => exact Sys2Proof.Machine.execMapCheckpoint_runs h
  | holdUpTest => exact Sys2Proof.Machine.execHoldUpTest_runs h
  | scrubPassStart => exact Sys2Proof.Machine.execScrubPassStart_runs h
  | marginReadSweep => exact Sys2Proof.Machine.execMarginReadSweep_runs h
  | refreshScan => exact Sys2Proof.Machine.execRefreshScan_runs h
  | wearLevellingEvaluation => exact Sys2Proof.Machine.execWearLevellingEvaluation_runs h
  | parityWriteBackSweep => exact Sys2Proof.Machine.execParityWriteBackSweep_runs h
  | keyRotationStep => exact Sys2Proof.Machine.execKeyRotationStep_runs h
  | rotationTimer => exact Sys2Proof.Machine.execRotationTimer_runs h
  | snapshotCut => exact Sys2Proof.Machine.execSnapshotCut_runs h
  | fabricResetCut => exact Sys2Proof.Machine.execFabricResetCut_runs h
  | seedStoreMarginRead => exact Sys2Proof.Machine.execSeedStoreMarginRead_runs h
  | timeSave => exact Sys2Proof.Machine.execTimeSave_runs h
  | eventArchiveDrain => exact Sys2Proof.Machine.execEventArchiveDrain_runs h
  | larkDoorbell => exact Sys2Proof.Machine.execLarkDoorbell_runs h
  | flitPeriod => exact Sys2Proof.Machine.execFlitPeriod_runs h
  | flitReceive => exact Sys2Proof.Machine.execFlitReceive_runs h
  | ackReceive => exact Sys2Proof.Machine.execAckReceive_runs h
  | ackTimer => exact Sys2Proof.Machine.execAckTimer_runs h
  | replayTimeout => exact Sys2Proof.Machine.execReplayTimeout_runs h
  | blockLockLoss => exact Sys2Proof.Machine.execBlockLockLoss_runs h
  | retrainComplete => exact Sys2Proof.Machine.execRetrainComplete_runs h
  | retrainTimeout => exact Sys2Proof.Machine.execRetrainTimeout_runs h
  | issueSlot => exact Sys2Proof.Machine.execIssueSlot_runs h
  | readResponse => exact Sys2Proof.Machine.execReadResponse_runs h
  | readSoftResponse => exact Sys2Proof.Machine.execReadSoftResponse_runs h
  | marginReadResponse => exact Sys2Proof.Machine.execMarginReadResponse_runs h
  | programResponse => exact Sys2Proof.Machine.execProgramResponse_runs h
  | eraseResponse => exact Sys2Proof.Machine.execEraseResponse_runs h
  | suspendResponse => exact Sys2Proof.Machine.execSuspendResponse_runs h
  | resumeResponse => exact Sys2Proof.Machine.execResumeResponse_runs h
  | copyResponse => exact Sys2Proof.Machine.execCopyResponse_runs h
  | statusResponse chan tag st planes => exact execStatusResponse_runs (_planes := planes) h
  | tempResponse => exact Sys2Proof.Machine.execTempResponse_runs h
  | configResponse => exact Sys2Proof.Machine.execConfigResponse_runs h
  | tempPoll => exact Sys2Proof.Machine.execTempPoll_runs h
  | lngAlertFall => exact Sys2Proof.Machine.execLngAlertFall_runs h
  | mcArbMapWrite => exact Sys2Proof.Machine.execMcArbMapWrite_runs h
  | arbMapRevert => exact Sys2Proof.Machine.execArbMapRevert_runs h
  | arbiterWatchdog => exact Sys2Proof.Machine.execArbiterWatchdog_runs h
  | dataTagTimeout => exact Sys2Proof.Machine.execDataTagTimeout_runs h
  | channelResetComplete => exact Sys2Proof.Machine.execChannelResetComplete_runs h
  | groupSidebandReset => exact Sys2Proof.Machine.execGroupSidebandReset_runs h
  | mcCtlReset => exact Sys2Proof.Machine.execMcCtlReset_runs h
  | mcCtlDisable => exact Sys2Proof.Machine.execMcCtlDisable_runs h
  | channelDisableTakesEffect => exact Sys2Proof.Machine.execChannelDisableTakesEffect_runs h
  | groupRailsGood => exact Sys2Proof.Machine.execGroupRailsGood_runs h
  | lngRstRelease => exact Sys2Proof.Machine.execLngRstRelease_runs h
  | channelTrained => exact Sys2Proof.Machine.execChannelTrained_runs h
  | bringUpTimeout => exact Sys2Proof.Machine.execBringUpTimeout_runs h
  | suspendHoldTimeout => exact Sys2Proof.Machine.execSuspendHoldTimeout_runs h
  | parityEntryAgeTrigger => exact Sys2Proof.Machine.execParityEntryAgeTrigger_runs h
  | parityOverrun => exact Sys2Proof.Machine.execParityOverrun_runs h
  | parityWritebackComplete => exact Sys2Proof.Machine.execParityWritebackComplete_runs h
  | pageRebuildStart => exact Sys2Proof.Machine.execPageRebuildStart_runs h
  | pageRebuildComplete => exact Sys2Proof.Machine.execPageRebuildComplete_runs h
  | mapJournalVerified => exact Sys2Proof.Machine.execMapJournalVerified_runs h
  | checkpointJournalTrigger => exact Sys2Proof.Machine.execCheckpointJournalTrigger_runs h
  | checkpointComplete => exact Sys2Proof.Machine.execCheckpointComplete_runs h
  | spareErase => exact Sys2Proof.Machine.execSpareErase_runs h
  | migrationStart => exact Sys2Proof.Machine.execMigrationStart_runs h
  | migrationMapSwitch => exact Sys2Proof.Machine.execMigrationMapSwitch_runs h
  | migrationSourceErase => exact Sys2Proof.Machine.execMigrationSourceErase_runs h
  | plotRedirect => exact Sys2Proof.Machine.execPlotRedirect_runs h
  | hourBoundary => exact Sys2Proof.Machine.execHourBoundary_runs h
  | ageUncertainAlert => exact Sys2Proof.Machine.execAgeUncertainAlert_runs h
  | inPlaceRefresh => exact Sys2Proof.Machine.execInPlaceRefresh_runs h
  | inPlaceRefreshComplete => exact Sys2Proof.Machine.execInPlaceRefreshComplete_runs h
  | rewriteQueueService => exact Sys2Proof.Machine.execRewriteQueueService_runs h
  | scrubPace => exact Sys2Proof.Machine.execScrubPace_runs h
  | frameScan => exact Sys2Proof.Machine.execFrameScan_runs h
  | apply => exact Sys2Proof.Machine.execApply_runs h
  | regraftComplete => exact Sys2Proof.Machine.execRegraftComplete_runs h
  | dirtyLeafWriteBack => exact Sys2Proof.Machine.execDirtyLeafWriteBack_runs h
  | leafWriteBackComplete => exact Sys2Proof.Machine.execLeafWriteBackComplete_runs h
  | leafAgeExpire => exact Sys2Proof.Machine.execLeafAgeExpire_runs h
  | holdUpFactorUpdate => exact Sys2Proof.Machine.execHoldUpFactorUpdate_runs h
  | holdUpTestSample => exact Sys2Proof.Machine.execHoldUpTestSample_runs h
  | holdUpTestTimeout => exact Sys2Proof.Machine.execHoldUpTestTimeout_runs h
  | holdUpRetest => exact Sys2Proof.Machine.execHoldUpRetest_runs h
  | pwrFail => exact Sys2Proof.Machine.execPwrFail_runs h
  | flushSealed => exact Sys2Proof.Machine.execFlushSealed_runs h
  | anchorRecordVerified => exact Sys2Proof.Machine.execAnchorRecordVerified_runs h
  | anchorCountCheckpoint => exact Sys2Proof.Machine.execAnchorCountCheckpoint_runs h
  | anchorCheckpointComplete => exact Sys2Proof.Machine.execAnchorCheckpointComplete_runs h
  | recovery => exact Sys2Proof.Machine.execRecovery_runs h
  | recoveryComplete => exact Sys2Proof.Machine.execRecoveryComplete_runs h
  | gpfPhase1 => exact Sys2Proof.Machine.execGpfPhase1_runs h
  | gpfPhase2 => exact Sys2Proof.Machine.execGpfPhase2_runs h
  | rpGuardSelWrite => exact Sys2Proof.Machine.execRpGuardSelWrite_runs h
  | evictionBufferWrite => exact Sys2Proof.Machine.execEvictionBufferWrite_runs h
  | maintNone => exact Sys2Proof.Machine.execMaintNone_runs h
  | maintProbe => exact Sys2Proof.Machine.execMaintProbe_runs h
  | maintInvalidate => exact Sys2Proof.Machine.execMaintInvalidate_runs h
  | maintPin => exact Sys2Proof.Machine.execMaintPin_runs h
  | maintUnpin => exact Sys2Proof.Machine.execMaintUnpin_runs h
  | uncleanSweepStep => exact Sys2Proof.Machine.execUncleanSweepStep_runs h
  | ideKmKeyProgram => exact Sys2Proof.Machine.execIdeKmKeyProgram_runs h
  | ideIntegrityFailure => exact Sys2Proof.Machine.execIdeIntegrityFailure_runs h
  | spdmGetVersion => exact Sys2Proof.Machine.execSpdmGetVersion_runs h
  | spdmGetCapabilities => exact Sys2Proof.Machine.execSpdmGetCapabilities_runs h
  | spdmNegotiateAlgorithms => exact Sys2Proof.Machine.execSpdmNegotiateAlgorithms_runs h
  | spdmGetDigests => exact Sys2Proof.Machine.execSpdmGetDigests_runs h
  | spdmGetCertificate => exact Sys2Proof.Machine.execSpdmGetCertificate_runs h
  | spdmChallenge => exact Sys2Proof.Machine.execSpdmChallenge_runs h
  | spdmGetMeasurements => exact Sys2Proof.Machine.execSpdmGetMeasurements_runs h
  | spdmKeyExchange => exact Sys2Proof.Machine.execSpdmKeyExchange_runs h
  | spdmFinish => exact Sys2Proof.Machine.execSpdmFinish_runs h
  | spdmKeyUpdate => exact Sys2Proof.Machine.execSpdmKeyUpdate_runs h
  | spdmHeartbeat => exact Sys2Proof.Machine.execSpdmHeartbeat_runs h
  | spdmEndSession => exact Sys2Proof.Machine.execSpdmEndSession_runs h
  | spdmGetCsr => exact Sys2Proof.Machine.execSpdmGetCsr_runs h
  | spdmSetCertificate => exact Sys2Proof.Machine.execSpdmSetCertificate_runs h
  | regulatorRefill => exact Sys2Proof.Machine.execRegulatorRefill_runs h
  | gRecompute => exact Sys2Proof.Machine.execGRecompute_runs h
  | gRaiseTakesEffect => exact Sys2Proof.Machine.execGRaiseTakesEffect_runs h
  | qsDomSelWrite => exact Sys2Proof.Machine.execQsDomSelWrite_runs h
  | hostLinkUp => exact Sys2Proof.Machine.execHostLinkUp_runs h
  | hostLinkDown => exact Sys2Proof.Machine.execHostLinkDown_runs h
  | hotReset => exact Sys2Proof.Machine.execHotReset_runs h
  | linkDisableReceived => exact Sys2Proof.Machine.execLinkDisableReceived_runs h
  | perstAssert => exact Sys2Proof.Machine.execPerstAssert_runs h
  | perstLow100us => exact Sys2Proof.Machine.execPerstLow100us_runs h
  | perstRelease => exact Sys2Proof.Machine.execPerstRelease_runs h
  | functionLevelReset => exact Sys2Proof.Machine.execFunctionLevelReset_runs h
  | cxlReset => exact Sys2Proof.Machine.execCxlReset_runs h
  | cxlIdentify => exact Sys2Proof.Machine.execCxlIdentify_runs h
  | backgroundOperationStatus => exact Sys2Proof.Machine.execBackgroundOperationStatus_runs h
  | getEventRecords => exact Sys2Proof.Machine.execGetEventRecords_runs h
  | clearEventRecords => exact Sys2Proof.Machine.execClearEventRecords_runs h
  | getEventInterruptPolicy => exact Sys2Proof.Machine.execGetEventInterruptPolicy_runs h
  | setEventInterruptPolicy => exact Sys2Proof.Machine.execSetEventInterruptPolicy_runs h
  | getFwInfo => exact Sys2Proof.Machine.execGetFwInfo_runs h
  | transferFw => exact Sys2Proof.Machine.execTransferFw_runs h
  | activateFw => exact Sys2Proof.Machine.execActivateFw_runs h
  | getSupportedLogs => exact Sys2Proof.Machine.execGetSupportedLogs_runs h
  | getLog => exact Sys2Proof.Machine.execGetLog_runs h
  | identifyMemoryDevice => exact Sys2Proof.Machine.execIdentifyMemoryDevice_runs h
  | getPartitionInfo => exact Sys2Proof.Machine.execGetPartitionInfo_runs h
  | getHealthInfo => exact Sys2Proof.Machine.execGetHealthInfo_runs h
  | getAlertConfiguration => exact Sys2Proof.Machine.execGetAlertConfiguration_runs h
  | setAlertConfiguration => exact Sys2Proof.Machine.execSetAlertConfiguration_runs h
  | getShutdownState => exact Sys2Proof.Machine.execGetShutdownState_runs h
  | setShutdownState => exact Sys2Proof.Machine.execSetShutdownState_runs h
  | getPoisonList => exact Sys2Proof.Machine.execGetPoisonList_runs h
  | injectPoison => exact Sys2Proof.Machine.execInjectPoison_runs h
  | clearPoison => exact Sys2Proof.Machine.execClearPoison_runs h
  | getScanMediaCapabilities => exact Sys2Proof.Machine.execGetScanMediaCapabilities_runs h
  | scanMedia => exact Sys2Proof.Machine.execScanMedia_runs h
  | getScanMediaResults => exact Sys2Proof.Machine.execGetScanMediaResults_runs h
  | sanitize => exact Sys2Proof.Machine.execSanitize_runs h
  | secureErase => exact Sys2Proof.Machine.execSecureErase_runs h
  | backgroundOpComplete => exact Sys2Proof.Machine.execBackgroundOpComplete_runs h
  | getDcConfiguration => exact Sys2Proof.Machine.execGetDcConfiguration_runs h
  | getDcExtentList => exact Sys2Proof.Machine.execGetDcExtentList_runs h
  | addDcResponse => exact Sys2Proof.Machine.execAddDcResponse_runs h
  | releaseDc => exact Sys2Proof.Machine.execReleaseDc_runs h
  | extentReleaseComplete => exact Sys2Proof.Machine.execExtentReleaseComplete_runs h
  | cxlUnsupportedOpcode => exact Sys2Proof.Machine.execCxlUnsupportedOpcode_runs h
  | cxlSetTimestamp => exact Sys2Proof.Machine.execCxlSetTimestamp_runs h
  | cxlGetTimestamp => exact Sys2Proof.Machine.execCxlGetTimestamp_runs h
  | fmGetLdInfo => exact Sys2Proof.Machine.execFmGetLdInfo_runs h
  | fmGetLdAllocations => exact Sys2Proof.Machine.execFmGetLdAllocations_runs h
  | fmSetLdAllocations ld static256m => exact execFmSetLdAllocations_runs (_static256m := static256m) h
  | fmInitiateDcAdd => exact Sys2Proof.Machine.execFmInitiateDcAdd_runs h
  | fmInitiateDcRelease => exact Sys2Proof.Machine.execFmInitiateDcRelease_runs h
  | larkStart => exact Sys2Proof.Machine.execLarkStart_runs h
  | cpInTagWrite => exact Sys2Proof.Machine.execCpInTagWrite_runs h
  | internalNoticeRetry => exact Sys2Proof.Machine.execInternalNoticeRetry_runs h
  | larkTakeCommand => exact Sys2Proof.Machine.execLarkTakeCommand_runs h
  | cpOutRelease => exact Sys2Proof.Machine.execCpOutRelease_runs h
  | doorbellSet => exact Sys2Proof.Machine.execDoorbellSet_runs h
  | vcsIdentify => exact Sys2Proof.Machine.execVcsIdentify_runs h
  | getCounter => exact Sys2Proof.Machine.execGetCounter_runs h
  | getProgress => exact Sys2Proof.Machine.execGetProgress_runs h
  | getNotices => exact Sys2Proof.Machine.execGetNotices_runs h
  | createDomain => exact Sys2Proof.Machine.execCreateDomain_runs h
  | deleteDomain => exact Sys2Proof.Machine.execDeleteDomain_runs h
  | modifyDomain => exact Sys2Proof.Machine.execModifyDomain_runs h
  | loadDomainPlan => exact Sys2Proof.Machine.execLoadDomainPlan_runs h
  | listDomains => exact Sys2Proof.Machine.execListDomains_runs h
  | rotateDomainKey => exact Sys2Proof.Machine.execRotateDomainKey_runs h
  | clearQuarantine => exact Sys2Proof.Machine.execClearQuarantine_runs h
  | setDelegate => exact Sys2Proof.Machine.execSetDelegate_runs h
  | revokeDelegate => exact Sys2Proof.Machine.execRevokeDelegate_runs h
  | rekeyAuthority => exact Sys2Proof.Machine.execRekeyAuthority_runs h
  | mediaReformatting => exact Sys2Proof.Machine.execMediaReformatting_runs h
  | overwriteSanitize => exact Sys2Proof.Machine.execOverwriteSanitize_runs h
  | setChannelDisable => exact Sys2Proof.Machine.execSetChannelDisable_runs h
  | rickMaintenance => exact Sys2Proof.Machine.execRickMaintenance_runs h
  | setCommonsSize => exact Sys2Proof.Machine.execSetCommonsSize_runs h
  | confirmBackwardStep => exact Sys2Proof.Machine.execConfirmBackwardStep_runs h
  | discardBackwardStep => exact Sys2Proof.Machine.execDiscardBackwardStep_runs h
  | writeScheduleEntry => exact Sys2Proof.Machine.execWriteScheduleEntry_runs h
  | saveSchedule => exact Sys2Proof.Machine.execSaveSchedule_runs h
  | setTimedDoorbell => exact Sys2Proof.Machine.execSetTimedDoorbell_runs h
  | transferImageChunk off b => exact absurd rfl (hi off b)
  | activateInactiveSlot => exact Sys2Proof.Machine.execActivateInactiveSlot_runs h
  | activationImageReady => exact Sys2Proof.Machine.execActivationImageReady_runs h
  | activationTimeout => exact Sys2Proof.Machine.execActivationTimeout_runs h
  | raiseSvnMin => exact Sys2Proof.Machine.execRaiseSvnMin_runs h
  | setMirrorPartner => exact Sys2Proof.Machine.execSetMirrorPartner_runs h
  | startLiveDomainMigration => exact Sys2Proof.Machine.execStartLiveDomainMigration_runs h
  | armSnapshotOrResetCut => exact Sys2Proof.Machine.execArmSnapshotOrResetCut_runs h
  | requestPowerState => exact Sys2Proof.Machine.execRequestPowerState_runs h
  | clearEventRecorder => exact Sys2Proof.Machine.execClearEventRecorder_runs h
  | flushMeterStream => exact Sys2Proof.Machine.execFlushMeterStream_runs h
  | writeRwaField => exact Sys2Proof.Machine.execWriteRwaField_runs h
  | saveControlProfile => exact Sys2Proof.Machine.execSaveControlProfile_runs h
  | readOwnerDataArea => exact Sys2Proof.Machine.execReadOwnerDataArea_runs h
  | writeOwnerDataArea => exact Sys2Proof.Machine.execWriteOwnerDataArea_runs h
  | fmApiTunnel => exact Sys2Proof.Machine.execFmApiTunnel_runs h
  | vcsUnsupportedOpcode => exact Sys2Proof.Machine.execVcsUnsupportedOpcode_runs h
  | authLockoutExpire => exact Sys2Proof.Machine.execAuthLockoutExpire_runs h
  | longOperationEnd => exact Sys2Proof.Machine.execLongOperationEnd_runs h
  | larkWatchdogExpire => exact Sys2Proof.Machine.execLarkWatchdogExpire_runs h
  | peerBusyResend => exact Sys2Proof.Machine.execPeerBusyResend_runs h
  | mirrorBind => exact Sys2Proof.Machine.execMirrorBind_runs h
  | prepareTarget => exact Sys2Proof.Machine.execPrepareTarget_runs h
  | peerArm => exact Sys2Proof.Machine.execPeerArm_runs h
  | cutReport => exact Sys2Proof.Machine.execCutReport_runs h
  | barrier => exact Sys2Proof.Machine.execBarrier_runs h
  | broadcast => exact Sys2Proof.Machine.execBroadcast_runs h
  | swardReplayTimeout => exact Sys2Proof.Machine.execSwardReplayTimeout_runs h
  | swardRetrainTimeout => exact Sys2Proof.Machine.execSwardRetrainTimeout_runs h
  | swardLinkSession => exact Sys2Proof.Machine.execSwardLinkSession_runs h
  | swardHello => exact Sys2Proof.Machine.execSwardHello_runs h
  | swardLinkUp => exact Sys2Proof.Machine.execSwardLinkUp_runs h
  | swardLinkDown => exact Sys2Proof.Machine.execSwardLinkDown_runs h
  | formationUidFlood => exact Sys2Proof.Machine.execFormationUidFlood_runs h
  | formationLinkReport => exact Sys2Proof.Machine.execFormationLinkReport_runs h
  | routingTables => exact Sys2Proof.Machine.execRoutingTables_runs h
  | endToEndResend => exact Sys2Proof.Machine.execEndToEndResend_runs h
  | fabricTimeMessage => exact Sys2Proof.Machine.execFabricTimeMessage_runs h
  | linkDelayExchange => exact Sys2Proof.Machine.execLinkDelayExchange_runs h
  | forwardedWrite => exact Sys2Proof.Machine.execForwardedWrite_runs h
  | mirrorRecord => exact Sys2Proof.Machine.execMirrorRecord_runs h
  | mirrorAck => exact Sys2Proof.Machine.execMirrorAck_runs h
  | keepalive => exact Sys2Proof.Machine.execKeepalive_runs h
  | partnerLoss => exact Sys2Proof.Machine.execPartnerLoss_runs h
  | resyncStep => exact Sys2Proof.Machine.execResyncStep_runs h
  | swCtlReset => exact Sys2Proof.Machine.execSwCtlReset_runs h
  | sidebandPowerRequest => exact Sys2Proof.Machine.execSidebandPowerRequest_runs h
  | wakeTimer => exact Sys2Proof.Machine.execWakeTimer_runs h
  | a2DrainComplete => exact Sys2Proof.Machine.execA2DrainComplete_runs h
  | a3DrainComplete => exact Sys2Proof.Machine.execA3DrainComplete_runs h
  | drainTimeout => exact Sys2Proof.Machine.execDrainTimeout_runs h
  | a2ExitComplete => exact Sys2Proof.Machine.execA2ExitComplete_runs h
  | a3ExitComplete => exact Sys2Proof.Machine.execA3ExitComplete_runs h
  | railStepGood => exact Sys2Proof.Machine.execRailStepGood_runs h
  | pgTimeout => exact Sys2Proof.Machine.execPgTimeout_runs h
  | shutdownStepDone => exact Sys2Proof.Machine.execShutdownStepDone_runs h
  | offTimeoutExpire => exact Sys2Proof.Machine.execOffTimeoutExpire_runs h
  | adcConversion => exact Sys2Proof.Machine.execAdcConversion_runs h
  | pgLowFault => exact Sys2Proof.Machine.execPgLowFault_runs h
  | railRetryExpire => exact Sys2Proof.Machine.execRailRetryExpire_runs h
  | minOffExpire => exact Sys2Proof.Machine.execMinOffExpire_runs h
  | faultNExternal => exact Sys2Proof.Machine.execFaultNExternal_runs h
  | faultNRelease => exact Sys2Proof.Machine.execFaultNRelease_runs h
  | faultHoldExpire => exact Sys2Proof.Machine.execFaultHoldExpire_runs h
  | biasStep => exact Sys2Proof.Machine.execBiasStep_runs h
  | ondieSensorRead => exact Sys2Proof.Machine.execOndieSensorRead_runs h
  | remoteDiodeRead => exact Sys2Proof.Machine.execRemoteDiodeRead_runs h
  | aonSensorRead => exact Sys2Proof.Machine.execAonSensorRead_runs h
  | tempMissingTimeout => exact Sys2Proof.Machine.execTempMissingTimeout_runs h
  | rateHoldExpire => exact Sys2Proof.Machine.execRateHoldExpire_runs h
  | bgLevelTimer => exact Sys2Proof.Machine.execBgLevelTimer_runs h
  | graceExpire => exact Sys2Proof.Machine.execGraceExpire_runs h
  | stepRiseTimer => exact Sys2Proof.Machine.execStepRiseTimer_runs h
  | stepFallTimer => exact Sys2Proof.Machine.execStepFallTimer_runs h
  | comparatorTrip => exact Sys2Proof.Machine.execComparatorTrip_runs h
  | ringPageWrite => exact Sys2Proof.Machine.execRingPageWrite_runs h
  | evReadSeqWrite => exact Sys2Proof.Machine.execEvReadSeqWrite_runs h
  | meterReadStream => exact Sys2Proof.Machine.execMeterReadStream_runs h
  | meterReadStatus => exact Sys2Proof.Machine.execMeterReadStatus_runs h
  | meterUnknownCommand => exact Sys2Proof.Machine.execMeterUnknownCommand_runs h
  | mtrCsRise => exact Sys2Proof.Machine.execMtrCsRise_runs h
  | tailWindowProgram => exact Sys2Proof.Machine.execTailWindowProgram_runs h
  | pmCounterOverflow => exact Sys2Proof.Machine.execPmCounterOverflow_runs h
  | pmSlotClear => exact Sys2Proof.Machine.execPmSlotClear_runs h
  | coldPowerOn => exact Sys2Proof.Machine.execColdPowerOn_runs h
  | strapLatch => exact Sys2Proof.Machine.execStrapLatch_runs h
  | seedRecallComplete => exact Sys2Proof.Machine.execSeedRecallComplete_runs h
  | vddAonLow => exact Sys2Proof.Machine.execVddAonLow_runs h
  | vddAonRemoved => exact Sys2Proof.Machine.execVddAonRemoved_runs h
  | glbRstWarm => exact Sys2Proof.Machine.execGlbRstWarm_runs h
  | glbRstControl => exact Sys2Proof.Machine.execGlbRstControl_runs h
  | glbRstCold => exact Sys2Proof.Machine.execGlbRstCold_runs h
  | pwrFailReturn => exact Sys2Proof.Machine.execPwrFailReturn_runs h
  | fmApiLdReset => exact Sys2Proof.Machine.execFmApiLdReset_runs h
  | fmSetDcRegionConfig => exact Sys2Proof.Machine.execFmSetDcRegionConfig_runs h
  | commonsWrite => exact Sys2Proof.Machine.execCommonsWrite_runs h
  | vddNvLoss => exact Sys2Proof.Machine.execVddNvLoss_runs h
  | swardKeyUpdateCount => exact Sys2Proof.Machine.execSwardKeyUpdateCount_runs h
  | cowWalkerAdvance => exact Sys2Proof.Machine.execCowWalkerAdvance_runs h

/-- Every command runs, takes nothing from the queue and adds nothing to it, and keeps canonical form. -/
theorem exec_keepsQueue (i : Instr) (s : State) : ∃ t, exec i s = .next t ∧ t.pending = s.pending ∧ (s.Canonical → t.Canonical) := by
  by_cases hi : ∃ off b, i = .transferImageChunk off b
  · obtain ⟨off, b, rfl⟩ := hi
    exact execTransferImageChunk_runs
  · obtain ⟨t, ht, hk⟩ := exec_runs (.refl s) fun off b e => hi ⟨off, b, e⟩
    exact ⟨t, ht, hk.pending, hk.canonical⟩

/-- A step with a command waiting is exec of it on the state with the queue's rest. -/
theorem step_cons {c : Instr} {rest : List Instr} (h : s.pending = c :: rest) : step s = exec c { s with pending := rest } := by
  simp [step, h]

/-- A step with nothing waiting leaves the state. -/
theorem step_nil (h : s.pending = []) : step s = .next s := by simp [step, h]

end Sys2Proof.Machine

/-! SUPPORT. The settlements about every step. -/

namespace Sys2Proof.Proofs

open Sys2Proof Sys2Proof.Machine

/-- Settles O1: step is defined so. -/
theorem stepRunsFront : Obligations.StepRunsFront := ⟨fun _ _ _ => step_cons rfl, fun _ => step_nil⟩

/-- Settles O2: a step takes the front command, and exec leaves the queue it is given. -/
theorem stepTakesOne : Obligations.StepTakesOne := by
  intro s t c rest hp hs
  obtain ⟨u, hu, hq, -⟩ := exec_keepsQueue c { s with pending := rest }
  rw [step_cons hp, hu] at hs
  cases hs
  exact hq

/-- Settles O3. -/
theorem resetCanonical : Obligations.ResetCanonical := ⟨⟨rfl, rfl, rfl, rfl, rfl⟩, rfl⟩

/-- Settles O4: canonical form does not depend on the queue, and exec keeps it. -/
theorem stepKeepsCanonical : Obligations.StepKeepsCanonical := by
  intro s t hc hs
  cases hp : s.pending with
  | nil =>
    rw [step_nil hp] at hs
    cases hs
    exact hc
  | cons c rest =>
    obtain ⟨u, hu, -, hk⟩ := exec_keepsQueue c { s with pending := rest }
    rw [step_cons hp, hu] at hs
    cases hs
    exact hk hc

/-- Settles O5: exec answers a next state, so neither a refusal nor a fault. -/
theorem commandsRun : Obligations.CommandsRun := by
  intro c s
  obtain ⟨t, ht, -⟩ := exec_keepsQueue c s
  exact ⟨⟨t, ht⟩, fun r => by simp [ht], fun f => by simp [ht]⟩

/-- Settles O6: every command but Transfer image chunk keeps both slots. -/
theorem imagesKept : Obligations.ImagesKept := by
  intro s t hs hne
  cases hp : s.pending with
  | nil =>
    rw [step_nil hp] at hs
    cases hs
    exact ⟨rfl, rfl⟩
  | cons c rest =>
    obtain ⟨u, hu, hk⟩ := exec_runs (.refl { s with pending := rest }) fun off b e => hne off b rest (e ▸ hp)
    rw [step_cons hp, hu] at hs
    cases hs
    exact ⟨hk.slotA, hk.slotB⟩

end Sys2Proof.Proofs

/-! SUPPORT. What a plain write leaves in each field (O8): the fields of every register fit a word, and what an assembled word holds outside them. -/

namespace Sys2Proof.Machine

/-! ### The fields of every register lie apart and within 32 bits -/

section
variable {fs gs : List Fld}

theorem FieldsFit.ite {c : Prop} [Decidable c] (h : FieldsFit fs) (k : FieldsFit gs) : FieldsFit (if c then fs else gs) := by
  split <;> assumption

/-- Positions alone decide it, whatever the reset values are. -/
theorem FieldsFit.of_decide
    (h : decide ((∀ f ∈ fs, f.hi < 32 ∧ f.lo ≤ f.hi) ∧ fs.Pairwise fun f g => g.hi < f.lo ∨ f.hi < g.lo) = true) : FieldsFit fs := by
  have hfit := of_decide_eq_true h
  exact hfit

end

theorem fieldsFit_glb (o : Nat) : FieldsFit (glbFields o) := by
  unfold glbFields
  repeat' apply FieldsFit.ite
  all_goals exact .of_decide rfl

theorem fieldsFit_sched (n w : Nat) : FieldsFit (schedFields n w) := by
  unfold schedFields
  repeat' apply FieldsFit.ite
  all_goals exact .of_decide rfl

theorem fieldsFit_tb (o : Nat) : FieldsFit (tbFields o) :=
  .ite (.of_decide rfl) <| .ite (.of_decide rfl) <| .ite (.of_decide rfl) <| .ite (.of_decide rfl) <| .ite (.of_decide rfl) <|
    .ite (.of_decide rfl) <| .ite (.of_decide rfl) <| .ite (.of_decide rfl) <| .ite (fieldsFit_sched _ _) (.of_decide rfl)

theorem fieldsFit_mc (o : Nat) : FieldsFit (mcFields o) := by
  unfold mcFields
  repeat' apply FieldsFit.ite
  all_goals exact .of_decide rfl

theorem fieldsFit_cd (o : Nat) : FieldsFit (cdFields o) := by
  unfold cdFields
  repeat' apply FieldsFit.ite
  all_goals exact .of_decide rfl

theorem fieldsFit_tp (o : Nat) : FieldsFit (tpFields o) := by
  unfold tpFields
  repeat' apply FieldsFit.ite
  all_goals exact .of_decide rfl

theorem fieldsFit_df (o : Nat) : FieldsFit (dfFields o) := by
  unfold dfFields
  repeat' apply FieldsFit.ite
  all_goals exact .of_decide rfl

theorem fieldsFit_wp (o : Nat) : FieldsFit (wpFields o) := by
  unfold wpFields
  repeat' apply FieldsFit.ite
  all_goals exact .of_decide rfl

theorem fieldsFit_rp (o : Nat) : FieldsFit (rpFields o) := by
  unfold rpFields
  repeat' apply FieldsFit.ite
  all_goals exact .of_decide rfl

theorem fieldsFit_rk (o : Nat) : FieldsFit (rkFields o) := by
  unfold rkFields
  repeat' apply FieldsFit.ite
  all_goals exact .of_decide rfl

theorem fieldsFit_gx (o : Nat) : FieldsFit (gxFields o) := by
  unfold gxFields
  repeat' apply FieldsFit.ite
  all_goals exact .of_decide rfl

theorem fieldsFit_dom (n w : Nat) : FieldsFit (domFields n w) := by
  unfold domFields
  repeat' apply FieldsFit.ite
  all_goals exact .of_decide rfl

theorem fieldsFit_qs (o : Nat) : FieldsFit (qsFields o) := by
  unfold qsFields
  repeat' apply FieldsFit.ite
  all_goals exact .of_decide rfl

theorem fieldsFit_hi (o : Nat) : FieldsFit (hiFields o) := by
  unfold hiFields
  repeat' apply FieldsFit.ite
  all_goals exact .of_decide rfl

theorem fieldsFit_mb (n w : Nat) : FieldsFit (mbFields n w) := by
  unfold mbFields
  repeat' apply FieldsFit.ite
  all_goals exact .of_decide rfl

theorem fieldsFit_cp (o : Nat) : FieldsFit (cpFields o) :=
  .ite (.of_decide rfl) <| .ite (.of_decide rfl) <| .ite (.of_decide rfl) <| .ite (.of_decide rfl) <| .ite (.of_decide rfl) <|
    .ite (.of_decide rfl) <| .ite (.of_decide rfl) <| .ite (.of_decide rfl) <| .ite (.of_decide rfl) <| .ite (.of_decide rfl) <|
    .ite (.of_decide rfl) <| .ite (.of_decide rfl) <| .ite (fieldsFit_mb _ _) (.of_decide rfl)

theorem fieldsFit_sw (o : Nat) : FieldsFit (swFields o) := by
  unfold swFields
  repeat' apply FieldsFit.ite
  all_goals exact .of_decide rfl

theorem fieldsFit_pw (o : Nat) : FieldsFit (pwFields o) := by
  unfold pwFields
  repeat' apply FieldsFit.ite
  all_goals exact .of_decide rfl

theorem fieldsFit_rail (n w : Nat) : FieldsFit (railFields n w) := by
  unfold railFields
  repeat' apply FieldsFit.ite
  all_goals exact .of_decide rfl

theorem fieldsFit_sq (o : Nat) : FieldsFit (sqFields o) :=
  .ite (.of_decide rfl) <| .ite (.of_decide rfl) <| .ite (.of_decide rfl) <| .ite (fieldsFit_rail _ _) (.of_decide rfl)

theorem fieldsFit_th (o : Nat) : FieldsFit (thFields o) := by
  unfold thFields
  repeat' apply FieldsFit.ite
  all_goals exact .of_decide rfl

theorem fieldsFit_ev (o : Nat) : FieldsFit (evFields o) := by
  unfold evFields
  repeat' apply FieldsFit.ite
  all_goals exact .of_decide rfl

theorem fieldsFit_mt (o : Nat) : FieldsFit (mtFields o) := by
  unfold mtFields
  repeat' apply FieldsFit.ite
  all_goals exact .of_decide rfl

theorem fieldsFit_pm (o : Nat) : FieldsFit (pmFields o) := by
  unfold pmFields
  repeat' apply FieldsFit.ite
  all_goals exact .of_decide rfl

theorem fieldsFit_sd (o : Nat) : FieldsFit (sdFields o) := by
  unfold sdFields
  repeat' apply FieldsFit.ite
  all_goals exact .of_decide rfl

/-- The fields of every register of the map. -/
theorem fieldsFit (o : Nat) : FieldsFit (fieldsAt o) :=
  .ite (fieldsFit_glb _) <| .ite (fieldsFit_tb _) <| .ite (fieldsFit_mc _) <| .ite (.of_decide rfl) <| .ite (fieldsFit_cd _) <|
    .ite (fieldsFit_tp _) <| .ite (fieldsFit_df _) <| .ite (fieldsFit_wp _) <| .ite (fieldsFit_rp _) <| .ite (fieldsFit_rk _) <|
    .ite (fieldsFit_gx _) <| .ite (fieldsFit_dom _ _) <| .ite (fieldsFit_hi _) <| .ite (fieldsFit_cp _) <| .ite (fieldsFit_sw _) <|
    .ite (fieldsFit_pw _) <| .ite (fieldsFit_sq _) <| .ite (fieldsFit_th _) <| .ite (fieldsFit_ev _) <| .ite (fieldsFit_mt _) <|
    .ite (fieldsFit_pm _) <| .ite (fieldsFit_sd _) <| .ite (fieldsFit_qs _) <| .of_decide rfl

/-! ### Fields of a plain write -/

section
variable {o : Nat} {f : Fld} {old v : Word}

theorem Fld.after_lt : f.after o old v < 2 ^ (f.hi + 1 - f.lo) := by
  have hold := bits_lt old f.hi f.lo
  have hv := bits_lt v f.hi f.lo
  unfold Fld.after
  cases f.acc
  case rw =>
    dsimp only
    split <;> assumption
  all_goals dsimp only; omega

/-- A write that is not ignored as a whole leaves in each field what the field's access code makes of it. -/
theorem bits_plainWord (hok : wholeOk o v = true) (hf : f ∈ fieldsAt o) : bits (plainWord o old v) f.hi f.lo = f.after o old v := by
  rw [plainWord, if_pos hok, bits_assemble _ (fieldsFit o) hf, Nat.mod_eq_of_lt Fld.after_lt]

theorem Fld.after_rw_taken (ha : f.acc = .rw) (hl : f.legal.ok (bits v f.hi f.lo) = true) (hc : crossOk o f old v = true) :
    f.after o old v = bits v f.hi f.lo := by simp [Fld.after, ha, hl, hc]

theorem Fld.after_rw_reserved (ha : f.acc = .rw) (hl : f.legal.ok (bits v f.hi f.lo) = false) : f.after o old v = bits old f.hi f.lo := by
  simp [Fld.after, ha, hl]

theorem Fld.after_w1c (ha : f.acc = .w1c) : f.after o old v = bits old f.hi f.lo - (bits old f.hi f.lo &&& bits v f.hi f.lo) := by
  simp [Fld.after, ha]

theorem Fld.after_kept (ha : f.acc = .ro ∨ f.acc = .rwa ∨ f.acc = .rwp ∨ f.acc = .rc) : f.after o old v = bits old f.hi f.lo := by
  rcases ha with ha | ha | ha | ha <;> simp [Fld.after, ha]

theorem Fld.after_wo (ha : f.acc = .wo) : f.after o old v = 0 := by simp [Fld.after, ha]

/-- A bit in none of the fields of an assembled word is clear. -/
theorem getLsbD_assemble_outside (val : Fld → Nat) {fs : List Fld} {b : Nat} (hb : ∀ f ∈ fs, b < f.lo ∨ f.hi < b) :
    (assemble val fs).getLsbD b = false := by
  induction fs with
  | nil => simp [assemble]
  | cons f fs ih =>
    obtain ⟨hf, hfs⟩ := List.forall_mem_cons.mp hb
    have hclear : (val f % 2 ^ (f.hi + 1 - f.lo) * 2 ^ f.lo).testBit b = false := by
      rw [Nat.testBit_mul_two_pow, Nat.testBit_mod_two_pow]
      rcases hf with h | h
      · simp [Nat.not_le.mpr h]
      · simp [show ¬ b - f.lo < f.hi + 1 - f.lo by omega]
    rw [assemble, BitVec.getLsbD_or, ih hfs, BitVec.getLsbD_ofNat, hclear]
    simp

end

end Sys2Proof.Machine

namespace Sys2Proof.Proofs

open Sys2Proof Sys2Proof.Machine

/-- Settles O8: the fields of a register lie apart, so each holds what its own access code makes of the write. -/
theorem plainWriteFields : Obligations.PlainWriteFields := by
  intro o old v
  refine ⟨fun hw => by simp [plainWord, hw], fun hw f hf => ?_, fun hw b _ hb => ?_⟩
  · rw [bits_plainWord hw hf]
    exact ⟨Fld.after_rw_taken, Fld.after_rw_reserved, Fld.after_w1c, Fld.after_kept, Fld.after_wo⟩
  · rw [plainWord, if_pos hw]
    exact getLsbD_assemble_outside _ hb

end Sys2Proof.Proofs

/-! SUPPORT. An advance of a spread counter (O13), by its three outcomes. -/

namespace Sys2Proof.Machine

section
variable {p : Spread} {c : Nat}

/-- The contents with base `c` under the next sequence in slot A, tally cleared. -/
def Spread.nextA (p : Spread) (c : Nat) : Spread := { p with baseA := c, seqA := p.seq + 1, validA := true, tally := 0, inUse := true }

/-- The same in slot B. -/
def Spread.nextB (p : Spread) (c : Nat) : Spread := { p with baseB := c, seqB := p.seq + 1, validB := true, tally := 0, inUse := true }

theorem Spread.seqA_le_seq (h : p.validA = true) : p.seqA ≤ p.seq := by
  unfold Spread.seq
  cases p.validB <;> simp [h]

theorem Spread.seqB_le_seq (h : p.validB = true) : p.seqB ≤ p.seq := by
  unfold Spread.seq
  cases p.validA <;> simp [h]

theorem Spread.nextA_base : (p.nextA c).base = c := by
  have hB : p.validB = true → ¬ p.seq + 1 < p.seqB := fun h => by have := Spread.seqB_le_seq h; omega
  simp only [Spread.nextA, Spread.base]
  cases hv : p.validB
  · simp
  · simp [hB hv]

theorem Spread.nextB_base : (p.nextB c).base = c := by
  have hlt : p.validA = true → p.seqA < p.seq + 1 := fun h => by have := Spread.seqA_le_seq h; omega
  simp only [Spread.nextB, Spread.base]
  by_cases hv : p.validA = true
  · simp [hv, hlt hv]
  · simp [hv]

theorem Spread.le_nextA_seq : p.seq ≤ (p.nextA c).seq :=
  (Nat.le_succ _).trans (Spread.seqA_le_seq (p := p.nextA c) rfl)

theorem Spread.le_nextB_seq : p.seq ≤ (p.nextB c).seq :=
  (Nat.le_succ _).trans (Spread.seqB_le_seq (p := p.nextB c) rfl)

theorem Spread.advance_passed (h : c ≤ p.value) : p.advance c = p := if_pos h

theorem Spread.advance_cells (h : p.value < c) (hc : c - p.value ≤ 1920 - p.tally) :
    p.advance c = { p with tally := p.tally + (c - p.value), inUse := true } := by
  simp [Spread.advance, Nat.not_le.mpr h, hc]

theorem Spread.advance_slotA (h : p.value < c) (hc : 1920 - p.tally < c - p.value) (hs : p.seqA ≤ p.seqB) : p.advance c = p.nextA c := by
  simp [Spread.advance, Spread.nextA, Nat.not_le.mpr h, Nat.not_le.mpr hc, hs]

theorem Spread.advance_slotB (h : p.value < c) (hc : 1920 - p.tally < c - p.value) (hs : p.seqB < p.seqA) : p.advance c = p.nextB c := by
  simp [Spread.advance, Spread.nextB, Nat.not_le.mpr h, Nat.not_le.mpr hc, Nat.not_le.mpr hs]

/-- An advance past the value reaches it, under no lower sequence. -/
theorem Spread.advance_reaches (h : p.value < c) : (p.advance c).value = c ∧ p.seq ≤ (p.advance c).seq ∧ (p.advance c).inUse = true := by
  rcases Nat.lt_or_ge (1920 - p.tally) (c - p.value) with hc | hc
  · rcases Nat.lt_or_ge p.seqB p.seqA with hs | hs
    · rw [Spread.advance_slotB h hc hs]
      exact ⟨Spread.nextB_base, Spread.le_nextB_seq, rfl⟩
    · rw [Spread.advance_slotA h hc hs]
      exact ⟨Spread.nextA_base, Spread.le_nextA_seq, rfl⟩
  · rw [Spread.advance_cells h hc]
    refine ⟨?_, le_refl p.seq, rfl⟩
    have hv : p.value = p.base + p.tally := rfl
    change p.base + (p.tally + (c - p.value)) = c
    omega

end

end Sys2Proof.Machine

namespace Sys2Proof.Proofs

open Sys2Proof Sys2Proof.Machine

/-- Settles O13: by the three outcomes of an advance. -/
theorem spreadAdvance : Obligations.SpreadAdvance := by
  intro p c
  refine ⟨Spread.advance_passed, Spread.advance_reaches, fun h hc => ?_, fun h hc => ⟨?_, fun hs => ?_, fun hs => ?_⟩⟩
  · rw [Spread.advance_cells h hc]
    exact ⟨rfl, rfl, rfl⟩
  · rcases Nat.lt_or_ge p.seqB p.seqA with hs | hs
    · rw [Spread.advance_slotB h hc hs]
      rfl
    · rw [Spread.advance_slotA h hc hs]
      rfl
  · rw [Spread.advance_slotA h hc hs]
    exact ⟨rfl, rfl, rfl⟩
  · rw [Spread.advance_slotB h hc hs]
    exact ⟨rfl, rfl, rfl⟩

end Sys2Proof.Proofs

/-! SUPPORT. Counting and recording. Counting a performance event touches the registers of the monitor and its counters alone; recording an event lets the
record numbers rise and keeps staging bounded (O14). -/

namespace Sys2Proof.Machine

/-! ### Counting -/

/-- `t` is `s` but for the performance monitor and its registers. -/
structure State.Counted (s t : State) : Prop where
  same : t = { s with regs := t.regs, pm := t.pm }
  reg : ∀ o, o < PM ∨ PM + 0x1000 ≤ o → t.reg o = s.reg o

section
variable {a s t : State}

theorem State.Counted.refl (s : State) : s.Counted s := ⟨rfl, fun _ _ => rfl⟩

theorem State.Counted.trans (h : a.Counted s) (k : s.Counted t) : a.Counted t :=
  ⟨by rw [k.same, h.same], fun o ho => (k.reg o ho).trans (h.reg o ho)⟩

theorem State.Counted.setFld {o hi lo x : Nat} (h : a.Counted s) (ho : PM ≤ o ∧ o < PM + 0x1000) : a.Counted (s.setFld o hi lo x) :=
  h.trans ⟨rfl, fun o' ho' => State.reg_setReg_other s o o' _ (by omega)⟩

theorem State.Counted.setBit {o b : Nat} {v : Bool} (h : a.Counted s) (ho : PM ≤ o ∧ o < PM + 0x1000) : a.Counted (s.setBit o b v) := h.setFld (o := o) ho

theorem State.Counted.setPm {pm : Perf} (h : a.Counted s) : a.Counted { s with pm := pm } :=
  h.trans (t := { s with pm := pm }) ⟨rfl, fun _ _ => rfl⟩

theorem State.Counted.foldl {α : Type} {f : State → α → State} {l : List α} (h : a.Counted s) (hf : ∀ t, ∀ x ∈ l, a.Counted t → a.Counted (f t x)) :
    a.Counted (l.foldl f s) := by
  induction l generalizing s with
  | nil => exact h
  | cons x l ih => exact ih (hf s x (by simp) h) fun t y hy => hf t y (by simp [hy])

theorem State.Counted.pmOverflow {b k : Nat} (hk : 16 * b + k < 4096) (h : a.Counted s) : a.Counted (s.pmOverflow b k) := by
  have h4 : PM ≤ PM + 4 ∧ PM + 4 < PM + 0x1000 := by decide
  have ho : PM ≤ PM + 0xD00 + 4 * ((16 * b + k) / 32) ∧ PM + 0xD00 + 4 * ((16 * b + k) / 32) < PM + 0x1000 := ⟨by omega, by omega⟩
  have h1 := h.setBit (b := (16 * b + k) % 32) (v := true) ho
  unfold State.pmOverflow
  dsimp only
  split
  · split
    · exact h1.setFld h4
    · split
      · exact h1.setFld h4
      · exact h1.setPm
  · exact h1

theorem State.Counted.countOne {b e i n k : Nat} (hk : 16 * b + k < 4096) (h : a.Counted s) : a.Counted (s.countOne b e i n k) := by
  unfold State.countOne
  dsimp only
  split
  · split
    · exact h.setPm.pmOverflow hk
    · exact h.setPm
  · exact h

theorem State.Counted.count {b e i n : Nat} (hb : b < 12) (h : a.Counted s) : a.Counted (s.count b e i n) := by
  unfold State.count
  split
  · refine h.foldl fun t k hk ht => ht.countOne ?_
    have := List.mem_range.mp hk
    omega
  · exact h

theorem State.Counted.countGlobal {e n : Nat} (h : a.Counted s) : a.Counted (s.countGlobal e n) := (h.count (by decide)).count (by decide)

theorem State.Counted.ev (h : a.Counted s) : s.ev = a.ev := by rw [h.same]

end

@[simp] theorem State.countGlobal_ev (s : State) (e n : Nat) : (s.countGlobal e n).ev = s.ev := (State.Counted.refl s).countGlobal.ev

/-! ### Record numbers and staging -/

/-- From `s` to `t` no record number falls, staging stays bounded, and what staging held stays, with more behind it. -/
structure State.Trails (s t : State) : Prop where
  next : s.ev.next ≤ t.ev.next
  ok : s.StagingOk → t.StagingOk
  more : ∃ l, t.ev.staging = s.ev.staging ++ l

/-- The record that the model makes of an event. -/
def State.recordOf (s : State) (code inst : Nat) (dom : Option Nat) (p0 p1 : Nat) : EventRec :=
  { seq := s.ev.next, ztime := s.tb.ztime, code := code, block := codeBlock code, inst := inst, dom := dom, sev := codeSeverity code
    flags := (if s.tbState = 2 then 0 else 1) + (if s.flag TB 8 then 0 else 2) + (if s.wb.recovered then 0 else 4)
    p0 := p0 % 2 ^ 32, p1 := p1 % 2 ^ 32 }

section
variable {s t u : State} {e : EventRec} {code inst p0 p1 : Nat} {dom : Option Nat}

theorem State.Trails.of_ev (h : t.ev = s.ev) : s.Trails t := by
  refine ⟨by rw [h], fun hs => ?_, [], by rw [h, List.append_nil]⟩
  unfold State.StagingOk
  rwa [h]

theorem State.Trails.refl (s : State) : s.Trails s := .of_ev rfl

theorem State.Trails.trans (h : s.Trails t) (k : t.Trails u) : s.Trails u := by
  obtain ⟨l, hl⟩ := h.more
  obtain ⟨m, hm⟩ := k.more
  exact ⟨h.next.trans k.next, fun hs => k.ok (h.ok hs), l ++ m, by rw [hm, hl, List.append_assoc]⟩

theorem State.Trails.foldl {α : Type} {f : State → α → State} {l : List α} (h : s.Trails t) (hf : ∀ t x, State.Trails t (f t x)) :
    s.Trails (l.foldl f t) := by
  induction l generalizing t with
  | nil => exact h
  | cons x l ih => exact ih (h.trans (hf t x))

theorem codeSeverity_le (code : Nat) : codeSeverity code ≤ 3 := by
  unfold codeSeverity
  split
  · decide
  · split
    · decide
    · split <;> decide

theorem State.stage_next : (s.stage e).ev.next = s.ev.next := by
  unfold State.stage
  split
  · rfl
  · dsimp only
    split <;> rfl

theorem State.stage_room (h : s.ev.staging.length < 256) : (s.stage e).ev.staging = s.ev.staging ++ [⟨e, false, false⟩] := by
  simp [State.stage, h]

/-- A record of a severity below the highest never displaces another. -/
theorem State.stage_low (h : e.sev ≠ 3) : ∃ l, (s.stage e).ev.staging = s.ev.staging ++ l := by
  by_cases hr : s.ev.staging.length < 256
  · exact ⟨_, State.stage_room hr⟩
  · exact ⟨[], by simp [State.stage, hr, h]⟩

end

/-- The lowest of some severities and 3 is one of them, where there are any and none is over 3. -/
theorem foldl_min_mem {l : List Nat} (hne : l ≠ []) (hl : ∀ x ∈ l, x ≤ 3) : l.foldl min 3 ∈ l := by
  have key : ∀ (l : List Nat) (m : Nat), l.foldl min m = m ∨ l.foldl min m ∈ l := by
    intro l
    induction l with
    | nil => exact fun m => .inl rfl
    | cons x l ih =>
      intro m
      rw [List.foldl_cons]
      rcases ih (min m x) with h | h
      · rw [h]
        rcases Nat.le_total m x with hm | hm
        · exact .inl (Nat.min_eq_left hm)
        · exact .inr (by simp [Nat.min_eq_right hm])
      · exact .inr (List.mem_cons_of_mem _ h)
  cases l with
  | nil => exact absurd rfl hne
  | cons x l =>
    have hx : min 3 x = x := Nat.min_eq_right (hl x (by simp))
    rw [List.foldl_cons, hx]
    rcases key l x with h | h
    · rw [h]; simp
    · exact List.mem_cons_of_mem _ h

/-- Taking out the first entry with a property that some entry has leaves one entry fewer. -/
theorem length_takeWhile_drop {α : Type} {p : α → Bool} {l : List α} (h : ∃ x ∈ l, p x = false) :
    (l.takeWhile p ++ (l.dropWhile p).drop 1).length + 1 = l.length := by
  have hsplit := congrArg List.length (List.takeWhile_append_dropWhile (p := p) (l := l))
  have hne : l.dropWhile p ≠ [] := by
    obtain ⟨x, hx, hp⟩ := h
    intro hd
    exact absurd (List.dropWhile_eq_nil_iff.mp hd x hx) (by simp [hp])
  have hpos := List.length_pos_iff.mpr hne
  rw [List.length_append] at hsplit ⊢
  rw [List.length_drop]
  omega

/-- Full staging without its newest record of the lowest severity. -/
def evictLowest (l : List Staged) : List Staged :=
  (l.reverse.takeWhile (fun x => x.ev.sev ≠ (l.map fun x => x.ev.sev).foldl min 3) ++
    (l.reverse.dropWhile fun x => x.ev.sev ≠ (l.map fun x => x.ev.sev).foldl min 3).drop 1).reverse

theorem length_evictLowest {l : List Staged} (hne : l ≠ []) (hl : ∀ x ∈ l, x.ev.sev ≤ 3) : (evictLowest l).length + 1 = l.length := by
  have hmem : (l.map fun x => x.ev.sev).foldl min 3 ∈ l.map fun x => x.ev.sev := foldl_min_mem (by simpa using hne) (by simpa using hl)
  obtain ⟨x, hx, hlow⟩ := List.mem_map.mp hmem
  rw [evictLowest, List.length_reverse, length_takeWhile_drop ⟨x, List.mem_reverse.mpr hx, by simp [hlow]⟩, List.length_reverse]

theorem mem_of_mem_evictLowest {l : List Staged} {x : Staged} (h : x ∈ evictLowest l) : x ∈ l := by
  rw [evictLowest, List.mem_reverse, List.mem_append] at h
  rcases h with h | h
  · exact List.mem_reverse.mp ((List.takeWhile_sublist _).mem h)
  · exact List.mem_reverse.mp ((List.dropWhile_sublist _).mem (List.mem_of_mem_drop h))

section
variable {s t u : State} {e : EventRec} {code inst p0 p1 : Nat} {dom : Option Nat}

theorem State.stage_full (hr : ¬ s.ev.staging.length < 256) (he : e.sev = 3) :
    (s.stage e).ev.staging = evictLowest s.ev.staging ++ [⟨e, false, false⟩] := by
  rw [State.stage, if_neg hr]
  dsimp only
  rw [if_pos he]
  rfl

theorem State.stage_lost (hr : ¬ s.ev.staging.length < 256) (he : e.sev ≠ 3) : (s.stage e).ev.staging = s.ev.staging := by
  simp [State.stage, hr, he]

/-- Staging stays bounded: a full one takes a record of the highest severity in the place of its newest one of the lowest. -/
theorem State.stage_ok (he : e.sev ≤ 3) (h : s.StagingOk) : (s.stage e).StagingOk := by
  obtain ⟨hlen, hsev⟩ := h
  have key : ∀ l : List Staged, l.length < 256 → (∀ x ∈ l, x.ev.sev ≤ 3) → (s.stage e).ev.staging = l ++ [⟨e, false, false⟩] → (s.stage e).StagingOk := by
    intro l hl hs hst
    rw [State.StagingOk, hst]
    refine ⟨by simp; omega, fun x hx => ?_⟩
    rcases List.mem_append.mp hx with hx | hx
    · exact hs x hx
    · rw [List.mem_singleton.mp hx]
      exact he
  by_cases hr : s.ev.staging.length < 256
  · exact key _ hr hsev (State.stage_room hr)
  by_cases h3 : e.sev = 3
  · have hout := length_evictLowest (l := s.ev.staging) (fun h => hr (by simp [h])) hsev
    exact key _ (by omega) (fun x hx => hsev x (mem_of_mem_evictLowest hx)) (State.stage_full hr h3)
  · rw [State.StagingOk, State.stage_lost hr h3]
    exact ⟨hlen, hsev⟩

theorem State.emitIf_ev {c : Prop} [Decidable c] {x : Out} : (if c then s.emit x else s).ev = s.ev := by
  split <;> rfl

theorem State.putRecord_ev : (s.putRecord code inst dom p0 p1).ev =
    (({ s with ev := { s.ev with next := s.ev.next + 1 } } : State).stage (s.recordOf code inst dom p0 p1)).ev := by
  unfold State.putRecord
  rw [State.countGlobal_ev]
  exact State.emitIf_ev.trans State.emitIf_ev

theorem State.putRecord_next : (s.putRecord code inst dom p0 p1).ev.next = s.ev.next + 1 := by
  rw [State.putRecord_ev, State.stage_next]

theorem State.putRecord_ok (h : s.StagingOk) : (s.putRecord code inst dom p0 p1).StagingOk := by
  rw [State.StagingOk, State.putRecord_ev]
  exact State.stage_ok (codeSeverity_le code) h

theorem State.putRecord_room (h : s.ev.staging.length < 256) :
    (s.putRecord code inst dom p0 p1).ev.staging = s.ev.staging ++ [⟨s.recordOf code inst dom p0 p1, false, false⟩] := by
  rw [State.putRecord_ev]
  exact State.stage_room h

/-- A record of a severity below the highest joins staging or is lost. -/
theorem State.Trails.putRecord (hc : codeSeverity code ≠ 3) (h : s.Trails t) : s.Trails (t.putRecord code inst dom p0 p1) := by
  refine h.trans ⟨by rw [State.putRecord_next]; omega, State.putRecord_ok, ?_⟩
  rw [State.putRecord_ev]
  exact State.stage_low (s := { t with ev := { t.ev with next := t.ev.next + 1 } }) (e := t.recordOf code inst dom p0 p1) hc

theorem State.advanceCounter_ev (q c : Nat) : (s.advanceCounter q c).2.ev = s.ev := by
  unfold State.advanceCounter
  dsimp only
  split
  · rfl
  · split
    · rfl
    · split <;> rfl

theorem State.nextSeq_covered (h : s.ev.next < s.ev.covered) : s.nextSeq = (none, s) := if_pos h

theorem State.nextSeq_ev (h : ¬ s.ev.next < s.ev.covered) :
    s.nextSeq.2.ev = { s.ev with covered := s.counter 9 + 256, next := max s.ev.next (s.counter 9 + 256 - 256) } := by
  rw [State.nextSeq, if_neg h]
  dsimp only
  rw [State.advanceCounter_ev]

theorem State.Trails.nextSeq (h : s.Trails t) : s.Trails t.nextSeq.2 := by
  refine h.trans ?_
  by_cases hc : t.ev.next < t.ev.covered
  · rw [State.nextSeq_covered hc]
    exact .refl t
  · have hev := State.nextSeq_ev hc
    refine ⟨?_, fun hs => ?_, [], ?_⟩
    · rw [hev]
      exact le_max_left _ _
    · rw [State.StagingOk, hev]
      exact hs
    · rw [hev, List.append_nil]

/-- An event is a record under a number, and one more where a worn counter place was left for another. -/
theorem State.record_eq : s.record code inst dom p0 p1 = s.nextSeq.2.putRecord code inst dom p0 p1 ∨
    ∃ x : Nat × Nat, s.record code inst dom p0 p1 = (s.nextSeq.2.putRecord code inst dom p0 p1).putRecord 0xF304 0 none x.1 x.2 := by
  unfold State.record
  rcases hq : s.nextSeq with ⟨m, t⟩
  cases m with
  | none => exact .inl rfl
  | some x => exact .inr ⟨x, rfl⟩

theorem State.record_covered (h : s.ev.next < s.ev.covered) : s.record code inst dom p0 p1 = s.putRecord code inst dom p0 p1 := by
  simp [State.record, State.nextSeq_covered h]

theorem State.record_next : s.ev.next < (s.record code inst dom p0 p1).ev.next := by
  have hn := (State.Trails.refl s).nextSeq.next
  rcases State.record_eq (s := s) (code := code) (inst := inst) (dom := dom) (p0 := p0) (p1 := p1) with h | ⟨x, h⟩
  · rw [h, State.putRecord_next]
    exact Nat.lt_succ_of_le hn
  · rw [h, State.putRecord_next, State.putRecord_next]
    exact Nat.lt_succ_of_le (Nat.le_succ_of_le hn)

theorem State.record_ok (hs : s.StagingOk) : (s.record code inst dom p0 p1).StagingOk := by
  have hn := State.putRecord_ok (code := code) (inst := inst) (dom := dom) (p0 := p0) (p1 := p1) ((State.Trails.refl s).nextSeq.ok hs)
  rcases State.record_eq (s := s) (code := code) (inst := inst) (dom := dom) (p0 := p0) (p1 := p1) with h | ⟨x, h⟩
  · rw [h]; exact hn
  · rw [h]; exact State.putRecord_ok hn

theorem State.Trails.record (hc : codeSeverity code ≠ 3) (h : s.Trails t) : s.Trails (t.record code inst dom p0 p1) := by
  have hn := h.nextSeq.putRecord (inst := inst) (dom := dom) (p0 := p0) (p1 := p1) hc
  rcases State.record_eq (s := t) (code := code) (inst := inst) (dom := dom) (p0 := p0) (p1 := p1) with h | ⟨x, h⟩
  · rw [h]; exact hn
  · rw [h]; exact hn.putRecord (by decide)

theorem State.Trails.recordOnce {key : Nat} (hc : codeSeverity code ≠ 3) (h : s.Trails t) : s.Trails (t.recordOnce key code inst dom p0 p1) := by
  unfold State.recordOnce
  split
  · exact h
  · exact (h.trans (u := { t with ev := { t.ev with marks := (code, key, t.minute) :: t.ev.marks.filter fun m => m.2.2 = t.minute } })
      ⟨le_refl _, id, [], (List.append_nil _).symm⟩).record hc

theorem State.Trails.cxlRecord {i log : Nat} (h : s.Trails t) : s.Trails (t.cxlRecord i log code p0) := by
  unfold State.cxlRecord
  dsimp only
  split
  · split
    · exact h.trans (.of_ev rfl)
    · exact h.trans (.of_ev rfl)
  · refine State.Trails.recordOnce (by decide) (h.trans ?_)
    exact .of_ev rfl

theorem State.Trails.cxlEvents (h : s.Trails t) : s.Trails (t.cxlEvents code dom p0) := by
  unfold State.cxlEvents
  split
  · exact h
  split
  · split
    · exact h.cxlRecord
    · exact h
  · refine h.foldl fun t x => ?_
    split
    · exact (State.Trails.refl t).cxlRecord
    · exact .refl t

theorem State.cxlEvents_none (h : cxlLog code = none) : s.cxlEvents code dom p0 = s := by simp [State.cxlEvents, h]

theorem State.event_next_lt : s.ev.next < (s.event code inst dom p0 p1).ev.next :=
  State.record_next.trans_le (State.Trails.refl _).cxlEvents.next

theorem State.event_ok (h : s.StagingOk) : (s.event code inst dom p0 p1).StagingOk :=
  (State.Trails.refl _).cxlEvents.ok (State.record_ok h)

/-- With a number covered and room, the record of an event stands next in staging. -/
theorem State.event_staging (hn : s.ev.next < s.ev.covered) (hr : s.ev.staging.length < 256) :
    ∃ l, (s.event code inst dom p0 p1).ev.staging = s.ev.staging ++ ⟨s.recordOf code inst dom p0 p1, false, false⟩ :: l := by
  obtain ⟨l, hl⟩ := (State.Trails.refl (s.record code inst dom p0 p1)).cxlEvents (code := code) (dom := dom) (p0 := p0 % 2 ^ 32) |>.more
  exact ⟨l, by rw [State.event, hl, State.record_covered hn, State.putRecord_room hr, List.append_assoc]; rfl⟩

/-- An event that no CXL event log takes makes that one record. -/
theorem State.event_of_no_log (hn : s.ev.next < s.ev.covered) (hc : cxlLog code = none) :
    s.event code inst dom p0 p1 = s.putRecord code inst dom p0 p1 := by
  rw [State.event, State.cxlEvents_none hc, State.record_covered hn]

end

end Sys2Proof.Machine

namespace Sys2Proof.Proofs

open Sys2Proof Sys2Proof.Machine

/-- Settles O14: no follow-up record has the highest severity, so none displaces the event's own. -/
theorem recordRules : Obligations.RecordRules := by
  intro s code inst dom p0 p1
  refine ⟨State.event_next_lt, State.event_ok, fun hn hr => ?_⟩
  obtain ⟨l, hl⟩ := State.event_staging (code := code) (inst := inst) (dom := dom) (p0 := p0) (p1 := p1) hn hr
  refine ⟨_, l, hl, rfl, rfl, rfl, rfl, rfl, rfl, rfl, fun hc => ?_⟩
  rw [State.event_of_no_log hn hc] at hl ⊢
  rw [State.putRecord_room hr] at hl
  exact ⟨by simpa using hl, State.putRecord_next⟩

end Sys2Proof.Proofs

/-! SUPPORT. Lark's answers, the order of authentication and of the mailboxes (O15 to O17). -/

namespace Sys2Proof.Machine

/-! ### What posting an answer changes (R353) -/

/-- `t` is `s` but for registers and what is sent out. -/
structure State.Rings (s t : State) : Prop where
  same : t = { s with regs := t.regs, out := t.out }

/-- `t` is `s` but for what posting an answer changes: registers, bytes of Commons, the command taken, the monitor and what is sent out. -/
structure State.Posted (s t : State) : Prop where
  same : t = { s with
    regs := t.regs, rk := { s.rk with commons := t.rk.commons, badBytes := t.rk.badBytes }
    lark := { s.lark with taken := t.lark.taken }, pm := t.pm, out := t.out }

/-- The registers of MB k that an answer writes. -/
def outReg (k o : Nat) : Prop := o = mbOff k + 0x10 ∨ o = mbOff k + 0x14 ∨ o = mbOff k + 0x18 ∨ o = mbOff k + 0x1C ∨ o = mbOff k + 0x2C

section
variable {a s t : State} {k o : Nat} {b : Word}

theorem State.Rings.refl (s : State) : s.Rings s := ⟨rfl⟩

theorem State.Rings.trans (h : a.Rings s) (k : s.Rings t) : a.Rings t := ⟨by rw [k.same, h.same]⟩

theorem State.Rings.setReg {v : Word} (h : a.Rings s) : a.Rings (s.setReg o v) := h.trans ⟨rfl⟩
theorem State.Rings.setReg64 {x : Nat} (h : a.Rings s) : a.Rings (s.setReg64 o x) := h.trans ⟨rfl⟩
theorem State.Rings.emit {x : Out} (h : a.Rings s) : a.Rings (s.emit x) := h.trans ⟨rfl⟩

theorem State.Rings.ite {c : Prop} [Decidable c] (h : a.Rings s) (k : a.Rings t) : a.Rings (if c then s else t) := by
  split <;> assumption

theorem State.Rings.ringOut (h : a.Rings s) : a.Rings (s.ringOut k b) :=
  .ite h.setReg <| .ite h.setReg.emit <| .ite h.setReg.emit <| .ite h.setReg.emit h.setReg

theorem State.Rings.postOut {ptr status : Nat} {tag : Word} (h : a.Rings s) : a.Rings (s.postOut k ptr tag status) :=
  h.setReg64.setReg.setReg.ringOut

theorem State.Posted.refl (s : State) : s.Posted s := ⟨rfl⟩

theorem State.Posted.trans (h : a.Posted s) (k : s.Posted t) : a.Posted t := ⟨by rw [k.same, h.same]⟩

theorem State.Posted.rings (h : a.Posted s) (k : s.Rings t) : a.Posted t := h.trans ⟨by rw [k.same]⟩
theorem State.Posted.emit {x : Out} (h : a.Posted s) : a.Posted (s.emit x) := h.trans ⟨rfl⟩
theorem State.Posted.countGlobal {e n : Nat} (h : a.Posted s) : a.Posted (s.countGlobal e n) := by
  have hc := (State.Counted.refl s).countGlobal (e := e) (n := n)
  exact h.trans ⟨by rw [hc.same]⟩

theorem State.reg_ringOut : (s.ringOut k b).reg o = if o = mbOff k + 0x2C then s.reg o ||| b else s.reg o := by
  have hset : (s.setReg (mbOff k + 0x2C) (s.reg (mbOff k + 0x2C) ||| b)).reg o = if o = mbOff k + 0x2C then s.reg o ||| b else s.reg o := by
    rw [State.reg_setReg]
    split
    next h => rw [h]
    · rfl
  rw [← hset]
  unfold State.ringOut
  dsimp only
  split
  · rfl
  split
  · rfl
  split
  · rfl
  split <;> rfl

theorem State.Posted.postOut {ptr status : Nat} {tag : Word} (h : a.Posted s) : a.Posted (s.postOut k ptr tag status) :=
  h.rings (State.Rings.refl s).postOut

theorem State.postOut_reg {ptr status : Nat} {tag : Word} (h : ¬ outReg k o) : (s.postOut k ptr tag status).reg o = s.reg o := by
  unfold outReg at h
  simp only [not_or] at h
  obtain ⟨h10, h14, h18, h1c, h2c⟩ := h
  simp only [State.postOut, State.reg_ringOut, State.reg_setReg, State.reg_setReg64, h2c, h1c, h18, h10, if_false]
  rw [if_neg (by omega)]

theorem State.Posted.writeMessage {ptr : DWord} {m : List Byte} (h : a.Posted s) : a.Posted (s.writeMessage ptr m) := by
  unfold State.writeMessage
  split
  · exact h.trans ⟨rfl⟩
  · exact h.emit

end

section
variable {a s : State} {c : Taken} {st d o : Nat} {p : List Byte}

/-- An answer changes what posting changes. -/
theorem State.Posted.answer (h : a.Posted s) : a.Posted (s.answer c st d p) := by
  have h1 : a.Posted (({ s with lark := { s.lark with taken := none } } : State).countGlobal 0xD4 1) := (h.trans ⟨rfl⟩).countGlobal
  unfold State.answer
  extract_lets
  split
  · exact h1
  · exact h1.writeMessage.postOut

theorem State.writeMessage_reg {ptr : DWord} {m : List Byte} : (s.writeMessage ptr m).reg o = s.reg o := by
  unfold State.writeMessage
  split <;> rfl

/-- An answer writes registers of its mailbox and of the performance monitor alone. -/
theorem State.answer_reg (h : ¬ outReg c.mb o) (hpm : o < PM ∨ PM + 0x1000 ≤ o) : (s.answer c st d p).reg o = s.reg o := by
  have h1 := ((State.Counted.refl { s with lark := { s.lark with taken := none } }).countGlobal (e := 0xD4) (n := 1)).reg o hpm
  unfold State.answer
  extract_lets
  split
  · exact h1
  · rw [State.postOut_reg h, State.writeMessage_reg]
    exact h1

theorem State.postOut_lark {k ptr status : Nat} {tag : Word} : (s.postOut k ptr tag status).lark = s.lark := by
  rw [(State.Rings.refl s).postOut.same]

theorem State.writeMessage_lark {ptr : DWord} {m : List Byte} : (s.writeMessage ptr m).lark = s.lark := by
  unfold State.writeMessage
  split <;> rfl

/-- Lark has no command any more. -/
theorem State.answer_lark : (s.answer c st d p).lark = { s.lark with taken := none } := by
  have h1 : (({ s with lark := { s.lark with taken := none } } : State).countGlobal 0xD4 1).lark = { s.lark with taken := none } := by
    rw [((State.Counted.refl _).countGlobal).same]
  unfold State.answer
  extract_lets
  split
  · exact h1
  · rw [State.postOut_lark, State.writeMessage_lark]
    exact h1

@[simp] theorem State.answer_sd : (s.answer c st d p).sd = s.sd := by rw [(State.Posted.refl s).answer.same]
@[simp] theorem State.answer_gx : (s.answer c st d p).gx = s.gx := by rw [(State.Posted.refl s).answer.same]
@[simp] theorem State.answer_tb : (s.answer c st d p).tb = s.tb := by rw [(State.Posted.refl s).answer.same]
@[simp] theorem State.answer_tp : (s.answer c st d p).tp = s.tp := by rw [(State.Posted.refl s).answer.same]
@[simp] theorem State.answer_wb : (s.answer c st d p).wb = s.wb := by rw [(State.Posted.refl s).answer.same]
@[simp] theorem State.answer_host : (s.answer c st d p).host = s.host := by rw [(State.Posted.refl s).answer.same]
@[simp] theorem State.answer_ev : (s.answer c st d p).ev = s.ev := by rw [(State.Posted.refl s).answer.same]
@[simp] theorem State.answer_sw : (s.answer c st d p).sw = s.sw := by rw [(State.Posted.refl s).answer.same]
@[simp] theorem State.answer_pw : (s.answer c st d p).pw = s.pw := by rw [(State.Posted.refl s).answer.same]
@[simp] theorem State.answer_codes : (s.answer c st d p).codes = s.codes := by rw [(State.Posted.refl s).answer.same]
@[simp] theorem State.answer_media : (s.answer c st d p).media = s.media := by rw [(State.Posted.refl s).answer.same]

end

/-! ### The order of authentication (R359 to R361) -/

section
variable {s : State} {c : Taken} {m key : List Byte}

/-- The part with no authentication failure counted on mailbox `k`. -/
def State.clearFails (s : State) (k : Nat) : State := { s with lark := { s.lark with failRun := Tbl.set (fun _ => 0) s.lark.failRun k 0 } }

/-- An authentication of a command whose authority has a key, on a mailbox that is not locked out, is the check of the tag, the lock, the counter. -/
theorem State.authenticate_of_key (ha : c.auth = true) (hm : c.mb ∉ s.lark.lockout.map Prod.fst) (h8 : c.authority ≤ 8)
    (hk : (s.auth c.authority).key = some key) :
    s.authenticate c m = if (m.drop (32 + c.payload.length)).take 16 ≠ vcsTag key (m.take 32) c.payload then s.authFailed c
      else if (s.auth c.authority).locked then (s.clearFails c.mb).authLocked c
      else if c.counter ≤ s.counter c.authority then (s.clearFails c.mb).answer c 6 0 []
      else (s.clearFails c.mb).authPassed c := by
  unfold State.authenticate
  rw [if_neg (by simp [ha, hm]), if_pos h8, hk]
  rfl

theorem quietReg_of_cp {o : Nat} (hlo : CP ≤ o) (hhi : o < CP + 0x10000) : quietReg o := by
  simp only [quietReg, CP, EV, HI, PM] at *
  omega

/-- A failure counts in CP_AUTH_FAIL. -/
theorem State.authFailed_count : (s.authFailed c).fld (CP + 0x1C) 31 0 = satAdd (s.fld (CP + 0x1C) 31 0) 1 (2 ^ 32 - 1) := by
  have hq : quietReg (CP + 0x1C) := quietReg_of_cp (by decide) (by decide)
  have ho : ¬ outReg c.mb (CP + 0x1C) := by simp only [outReg, mbOff]; omega
  unfold State.authFailed
  dsimp only
  rw [State.fld, State.answer_reg ho (by decide), (State.eventOnce_logs _ _ _ _ _ _ _).reg _ hq]
  exact State.fld_bump { s with lark := _ } _ _ _ _ (by decide) (by decide)

/-- The fourth failure in a row locks the mailbox out. -/
theorem State.authFailed_lockout (h : Tbl.get (fun _ => 0) s.lark.failRun c.mb = 3) : c.mb ∈ (s.authFailed c).lark.lockout.map Prod.fst := by
  unfold State.authFailed
  dsimp only
  rw [State.answer_lark, State.eventOnce_lark, State.bump_lark, h]
  simp

/-- A counter place that does not wear out is advanced, and nothing else changes. -/
theorem State.advanceCounter_fresh {q x : Nat} (h : ((s.spread q).advance x).wornOut = false) :
    s.advanceCounter q x = (none, s.setSpread q ((s.spread q).advance x)) := by
  simp [State.advanceCounter, h]

theorem State.counter_setSpread {q : Nat} {p : Spread} : (s.setSpread q p).counter q = p.value := by
  have hp : (s.setSpread q p).spread q = p := Tbl.get_set_same _ _ _ _
  rw [State.counter, hp]

/-- The owner's command passes: its counter is stored and Lark has it. -/
theorem State.authPassed_owner (h0 : c.authority = 0) (hw : ((s.spread 0).advance c.counter).wornOut = false) :
    s.authPassed c = (s.setSpread 0 ((s.spread 0).advance c.counter)).take c := by
  simp [State.authPassed, h0, State.advanceCounter_fresh hw]

end

/-! ### Which mailbox Lark takes from (R351) -/

section
variable {s : State} {k o : Nat}

/-- May Lark take from MB k now? -/
def State.offers (s : State) (k : Nat) : Bool := s.inFull k && !s.outFull k

theorem State.offers_eq_false : s.offers k = false ↔ s.inFull k = false ∨ s.outFull k = true := by
  unfold State.offers
  cases s.inFull k <;> cases s.outFull k <;> decide

/-- The mailbox taken from offers a command and is one of the forty. -/
theorem State.nextMailbox_offers (h : s.nextMailbox = some k) : k < 40 ∧ s.offers k = true := by
  refine ⟨?_, List.find?_some (p := fun k => s.inFull k && !s.outFull k) h⟩
  rcases List.mem_append.mp (List.mem_of_find?_eq_some h) with hm | hm
  · simp only [List.mem_cons, List.not_mem_nil, or_false] at hm
    omega
  · obtain ⟨i, -, rfl⟩ := List.mem_map.mp hm
    omega

/-- One of MB0 to MB35 is taken from only where none of MB36 to MB39 offers, as the first after the mailbox taken last. -/
theorem State.nextMailbox_robin (h : s.nextMailbox = some k) (hk : k < 36) :
    (∀ j, 36 ≤ j → j < 40 → s.offers j = false) ∧
    ∃ i < 36, k = (s.lark.lastMb + 1 + i) % 36 ∧ ∀ h < i, s.offers ((s.lark.lastMb + 1 + h) % 36) = false := by
  have hfind : ([36, 37, 38, 39] ++ (List.range 36).map fun i => (s.lark.lastMb + 1 + i) % 36).find? s.offers = some k := h
  rw [List.find?_append] at hfind
  cases hn : [36, 37, 38, 39].find? s.offers with
  | some j =>
    have hj := List.mem_of_find?_eq_some hn
    rw [hn] at hfind
    simp only [List.mem_cons, List.not_mem_nil, or_false] at hj
    have : j = k := Option.some.inj hfind
    omega
  | none =>
    rw [hn, Option.none_or, List.find?_map, Option.map_eq_some_iff] at hfind
    obtain ⟨i, hi, rfl⟩ := hfind
    obtain ⟨-, hlt, hfirst⟩ := List.find?_range_eq_some.mp hi
    refine ⟨fun j h36 h40 => ?_, i, List.mem_range.mp hlt, rfl, fun h hh => by simpa using hfirst h hh⟩
    have := List.find?_eq_none.mp hn j (by simp; omega)
    simpa using this

end

/-! ### What examining a command leaves of the mailbox it came from -/

/-- `t` has the inbound slot of MB k and the mailbox taken last as in `s`. -/
structure State.SlotKept (k : Nat) (s t : State) : Prop where
  slot : t.reg (mbOff k + 0x0C) = s.reg (mbOff k + 0x0C)
  last : t.lark.lastMb = s.lark.lastMb

/-- `t` is `s` but for what class P writes and recorded events change. -/
structure State.Stored (s t : State) : Prop where
  same : t = { s with
    regs := t.regs, ev := t.ev, host := { s.host with lds := t.host.lds }, pm := t.pm, sd := t.sd, out := t.out }

section
variable {a s t : State} {o p : Nat} {v : Word}

theorem State.Stored.refl (s : State) : s.Stored s := ⟨rfl⟩

theorem State.Stored.trans (h : a.Stored s) (k : s.Stored t) : a.Stored t := ⟨by rw [k.same, h.same]⟩

theorem State.Stored.logs (h : a.Stored s) (k : State.Logs s t) : a.Stored t := by
  refine h.trans ⟨?_⟩
  obtain ⟨pending, regs, latches, holds, tb, media, codes, tp, log, df, wb, host, rk, gx, qs, lark, sw, pw, th, ev, mt, pm, sd, pins, out, free⟩ := t
  obtain ⟨h1, h2, h3, h4, h5, h6, h7, h8, h9, h10, h11, h12, h13, h14, h15, h16, h17, h18, h19, h20, -, -, -, -, -, -, -, hh, -, -⟩ := k
  dsimp only at *
  subst h1 h2 h3 h4 h5 h6 h7 h8 h9 h10 h11 h12 h13 h14 h15 h16 h17 h18 h19 h20
  have hhost : host = { s.host with lds := host.lds } := by rw [← hh]
  rw [← hhost]

theorem State.Stored.setReg (h : a.Stored s) : a.Stored (s.setReg o v) := h.trans ⟨rfl⟩

theorem State.Stored.seed {sd : Seed} (h : a.Stored s) : a.Stored { s with sd := sd } := h.trans (t := { s with sd := sd }) ⟨rfl⟩

theorem State.Stored.seedWear {c : Nat} (h : a.Stored s) : a.Stored (s.seedWear c) := by
  unfold State.seedWear
  split
  · exact h.setReg
  · exact h

theorem State.Stored.event {code inst p0 p1 : Nat} {dom : Option Nat} (h : a.Stored s) : a.Stored (s.event code inst dom p0 p1) :=
  h.logs (State.event_logs s code inst dom p0 p1)

theorem State.Stored.slotWrite (h : a.Stored s) : a.Stored (s.slotWrite p) := by
  unfold State.slotWrite
  dsimp only
  split
  · exact h.seed.seedWear
  split
  · exact h.seed.event
  split
  · exact h.seed.seedWear
  · exact h.seed.seedWear.seed.event

theorem State.Stored.freeze (h : a.Stored s) : a.Stored (s.freeze p) := by
  unfold State.freeze
  split
  · exact h
  · exact (State.Stored.setReg (State.Stored.setReg h.seed)).event

theorem State.Stored.persist (h : a.Stored s) : a.Stored (s.persist p v) := by
  unfold State.persist
  dsimp only
  split
  · exact h.setReg.slotWrite
  · exact h.freeze

/-- A class P write to another register touches a register of the recorder, the monitor or the Seed store at most. -/
theorem State.persist_reg (hq : quietReg o) (hsd : o < SD) (ho : o ≠ p) : (s.persist p v).reg o = s.reg o := by
  have hwear : o ≠ SD + 0x0C ∧ o ≠ SD + 0x04 ∧ o ≠ SD + 0x08 := by omega
  unfold State.persist
  dsimp only
  split
  · rw [State.slotWrite_reg _ o _ hq hwear.1, State.reg_setReg_other _ _ _ _ ho]
  · exact State.freeze_reg _ o _ hq hwear.2.1 hwear.2.2

end

section
variable {a s : State} {k : Nat}

theorem State.SlotKept.refl (s : State) : State.SlotKept k s s := ⟨rfl, rfl⟩

theorem State.SlotKept.trans {t : State} (h : State.SlotKept k a s) (h' : State.SlotKept k s t) : State.SlotKept k a t :=
  ⟨h'.slot.trans h.slot, h'.last.trans h.last⟩

theorem State.SlotKept.ite {t : State} {c : Prop} [Decidable c] (h : State.SlotKept k a s) (h' : State.SlotKept k a t) :
    State.SlotKept k a (if c then s else t) := by
  split <;> assumption

theorem quietReg_slot (hk : k < 40) : quietReg (mbOff k + 0x0C) := by
  refine quietReg_of_cp ?_ ?_ <;> simp only [mbOff, CP] <;> omega

theorem not_outReg_slot (j : Nat) : ¬ outReg j (mbOff k + 0x0C) := by
  simp only [outReg, mbOff]
  omega

theorem State.SlotKept.logs {t : State} (hk : k < 40) (h : State.SlotKept k a s) (hl : State.Logs s t) : State.SlotKept k a t :=
  h.trans ⟨hl.reg _ (quietReg_slot hk), congrArg Lark.lastMb hl.lark⟩

theorem State.SlotKept.answer {c : Taken} {st d : Nat} {p : List Byte} (hk : k < 40) (h : State.SlotKept k a s) : State.SlotKept k a (s.answer c st d p) := by
  have hpm : mbOff k + 0x0C < PM ∨ PM + 0x1000 ≤ mbOff k + 0x0C := by
    simp only [mbOff, CP, PM]
    omega
  exact h.trans ⟨State.answer_reg (not_outReg_slot _) hpm, by rw [State.answer_lark]⟩

theorem State.SlotKept.setLock {x : Nat} {v : Bool} (hk : k < 40) (h : State.SlotKept k a s) : State.SlotKept k a (s.setLock x v) := by
  have hq := quietReg_slot hk
  have hsd : mbOff k + 0x0C < SD ∧ mbOff k + 0x0C ≠ CP := by
    simp only [mbOff, CP, SD]
    omega
  refine h.trans ⟨?_, ?_⟩
  · rw [State.setLock, State.persist_reg hq hsd.1 hsd.2]
    rfl
  · rw [State.setLock, (State.Stored.persist (State.Stored.refl _)).same]

theorem State.SlotKept.authPassed {c : Taken} (hk : k < 40) : State.SlotKept k s (s.authPassed c) := by
  have hadv := (State.SlotKept.refl (k := k) s).logs hk (State.advanceCounter_logs (State.Logs.refl s) c.authority c.counter)
  have hend (t : State) (h : State.SlotKept k s t) : State.SlotKept k s (if c.authority ≠ 0 ∧ ¬ (vcsDelegable c.opcode = true ∧
      (t.auth c.authority).groups.toNat.testBit (c.opcode / 256) = true) then t.answer c 0x0B 0 [] else t.take c) :=
    .ite (h.answer hk) (h.trans ⟨rfl, rfl⟩)
  unfold State.authPassed
  rcases hm : s.advanceCounter c.authority c.counter with ⟨m, t⟩
  rw [hm] at hadv
  cases m with
  | none => exact hend _ hadv
  | some x => exact hend _ ((hadv.logs hk (State.event_logs t 0xF304 0 none x.1 x.2)).setLock hk)

theorem State.SlotKept.authFailed {c : Taken} (hk : k < 40) : State.SlotKept k s (s.authFailed c) := by
  have hcp : mbOff k + 0x0C ≠ CP + 0x1C := by
    simp only [mbOff]
    omega
  unfold State.authFailed
  dsimp only
  refine (State.SlotKept.logs hk ?_ (State.eventOnce_logs _ _ _ _ _ _ _)).answer hk
  exact ⟨State.reg_bump _ _ _ _ _ _ hcp, rfl⟩

theorem State.SlotKept.authenticate {c : Taken} {m : List Byte} (hk : k < 40) : State.SlotKept k s (s.authenticate c m) := by
  have hlocked (t : State) : State.SlotKept k t (t.authLocked c) := ((State.SlotKept.refl t).logs hk (State.event_logs t _ _ _ _ _)).answer hk
  have hclear : State.SlotKept k s (s.clearFails c.mb) := ⟨rfl, rfl⟩
  unfold State.authenticate
  split
  · exact (State.SlotKept.refl s).answer hk
  split
  · split
    · exact hlocked s
    · exact (State.SlotKept.refl s).answer hk
  split
  · exact .authFailed hk
  dsimp only
  split
  · exact hclear.trans (hlocked _)
  split
  · exact hclear.answer hk
  · exact hclear.trans (.authPassed hk)

theorem State.SlotKept.command {c : Taken} {m : List Byte} (hk : k < 40) : State.SlotKept k s (s.command c m) := by
  have hanswer (st d : Nat) (p : List Byte) : State.SlotKept k s (s.answer c st d p) := (State.SlotKept.refl s).answer hk
  exact .ite (hanswer _ _ _) <| .ite (hanswer _ _ _) <| .ite (hanswer _ _ _) <| .ite (hanswer _ _ _) <| .ite (hanswer _ _ _) <|
    .ite (hanswer _ _ _) <| .ite (.authenticate hk) ⟨rfl, rfl⟩

theorem State.inFull_of_reg {t : State} (h : t.reg (mbOff k + 0x0C) = s.reg (mbOff k + 0x0C)) : t.inFull k = s.inFull k := by
  rw [State.inFull, State.inFull, State.flag, State.flag, State.fld, State.fld, h]

/-- The mailbox's slot is clear once its command is taken, and a mailbox under 36 is then the one taken last. -/
theorem State.takeFrom_slot (hk : k < 40) (bytes : List Byte) : (s.takeFrom k bytes).inFull k = false ∧ (k < 36 → (s.takeFrom k bytes).lark.lastMb = k) := by
  have hclear : ((s.setBit (mbOff k + 0x0C) 0 false).setBit (mbOff k + 0x24) 0 false).inFull k = false := by
    refine (State.inFull_of_reg (s := s.setBit (mbOff k + 0x0C) 0 false) ?_).trans (State.flag_setBit_same s _ _ _ (by decide))
    exact State.reg_setReg_other _ _ _ _ (by omega)
  unfold State.takeFrom
  dsimp only
  split
  next h36 =>
    refine ⟨?_, fun h => absurd h (by omega)⟩
    refine (State.inFull_of_reg ?_).trans hclear
    rw [State.reg_ringOut, if_neg (by simp only [mbOff]; omega)]
    rfl
  next h36 =>
    split
    · refine ⟨?_, fun _ => by rw [State.postOut_lark]⟩
      rw [State.inFull_of_reg (State.postOut_reg (not_outReg_slot _))]
      exact hclear
    next m _ =>
      have h (c : Taken) := State.SlotKept.command (c := c) (m := m) (s := { (s.setBit (mbOff k + 0x0C) 0 false).setBit (mbOff k + 0x24) 0 false with
        lark := { s.lark with lastMb := k } }) hk
      exact ⟨(State.inFull_of_reg (h _).slot).trans hclear, fun _ => (h _).last⟩

theorem execLarkTakeCommand_open {bytes : List Byte} (hup : s.mailboxesUp = true) (hrun : s.flag CP 31 = true) (hp : s.flag CP 28 = false)
    (hn : s.lark.taken = none) (hk : s.nextMailbox = some k) : execLarkTakeCommand bytes s = .next (s.takeFrom k bytes) := by
  simp [execLarkTakeCommand, hup, hrun, hp, hn, hk]

theorem execLarkTakeCommand_busy {bytes : List Byte} (h : s.lark.taken.isSome = true) : execLarkTakeCommand bytes s = .next s := by
  simp [execLarkTakeCommand, h]

end

end Sys2Proof.Machine

namespace Sys2Proof.Proofs

open Sys2Proof Sys2Proof.Machine

/-- Settles O15: authenticate checks the tag, then the lock, then the counter. -/
theorem authenticationOrder : Obligations.AuthenticationOrder := by
  intro s c m key ha hm h8 hk
  have hauth := State.authenticate_of_key (m := m) ha hm h8 hk
  refine ⟨fun ht => ?_, fun ht hl => ?_, fun ht hl hc => ?_, fun ht h0 hl hc hw => ?_⟩
  · rw [hauth, if_pos ht]
    exact ⟨rfl, State.authFailed_count, State.authFailed_lockout⟩
  · rw [hauth, if_neg (not_not.mpr ht), if_pos hl]
    exact ⟨s.clearFails c.mb, rfl, rfl, rfl⟩
  · rw [hauth, if_neg (not_not.mpr ht), if_neg (by simp [hl]), if_pos hc]
    exact ⟨s.clearFails c.mb, rfl, rfl, rfl⟩
  · rw [hauth, if_neg (not_not.mpr ht), if_neg (by simp [h0, hl]), if_neg (by rw [h0]; omega), State.authPassed_owner (s := s.clearFails c.mb) h0 hw]
    refine ⟨rfl, ?_, rfl⟩
    exact State.counter_setSpread.trans (Spread.advance_reaches hc).1

/-- Settles O16: nextMailbox finds the first that offers; whatever examining the command answers, its slot stays clear. -/
theorem mailboxOrder : Obligations.MailboxOrder := by
  refine ⟨fun s k h => ?_, fun s k bytes hup hrun hp hn hk => ?_, fun s bytes h => execLarkTakeCommand_busy h⟩
  · obtain ⟨h40, hoff⟩ := State.nextMailbox_offers h
    simp only [State.offers, Bool.and_eq_true, Bool.not_eq_true'] at hoff
    refine ⟨h40, hoff.1, hoff.2, fun hk => ?_⟩
    simpa only [State.offers_eq_false] using State.nextMailbox_robin h hk
  · exact ⟨_, execLarkTakeCommand_open hup hrun hp hn hk, State.takeFrom_slot (State.nextMailbox_offers hk).1 bytes⟩

end Sys2Proof.Proofs

/-! SUPPORT. An answer in Commons and in its mailbox (O17). -/

namespace Sys2Proof.Machine

/-! ### Bytes of a header (Table 13.7) -/

theorem length_leBytes (n x : Nat) : (leBytes n x).length = n := by
  induction n generalizing x with
  | zero => rfl
  | succ n ih => simp [leBytes, ih]

theorem leNat_leBytes (n x : Nat) : leNat (leBytes n x) = x % 256 ^ n := by
  induction n generalizing x with
  | zero => simp [leBytes, leNat, Nat.mod_one]
  | succ n ih =>
    have hmod : x % (256 * 256 ^ n) = x % 256 + 256 * (x / 256 % 256 ^ n) := Nat.mod_mul
    simp only [leBytes, leNat, ih, BitVec.toNat_ofNat, Nat.pow_succ']
    exact hmod.symm

/-- A number of a message stands behind the bytes before it. -/
theorem msgNat_append {m l : List Byte} {lo n x : Nat} (hm : m.length = lo) : msgNat (m ++ (leBytes n x ++ l)) lo n = x % 256 ^ n := by
  rw [msgNat, List.drop_left' hm, List.take_left' (length_leBytes n x), leNat_leBytes]

/-- What a memory reads after a stretch of bytes is written. -/
theorem Memory.read_writeBytes (m : Memory) (a b : Nat) (bs : List Byte) :
    (m.writeBytes a bs).read b = if a ≤ b ∧ b < a + bs.length then bs.getD (b - a) 0 else m.read b := by
  split
  next h =>
    obtain ⟨i, rfl⟩ := Nat.exists_eq_add_of_le h.1
    have hi : i < bs.length := by omega
    rw [Memory.read_writeBytes_in _ _ _ _ hi, Nat.add_sub_cancel_left, List.getD_eq_getElem _ _ hi]
  next h => exact Memory.read_writeBytes_out _ _ _ _ (by omega)

section
variable {c : Taken} {st d len : Nat} {auth : Bool}

theorem length_answerHeader : (answerHeader c st d len auth).length = 32 := by
  cases auth <;> simp [answerHeader, length_leBytes]

theorem answerHeader_opcode : msgNat (answerHeader c st d len auth) 2 2 = c.opcode % 2 ^ 16 := by
  simp only [answerHeader, List.append_assoc]
  exact msgNat_append (m := [3, if auth then 3 else 2]) rfl

theorem answerHeader_length : msgNat (answerHeader c st d len auth) 4 4 = len % 2 ^ 32 := by
  have hsplit : answerHeader c st d len auth = ([3, if auth then 3 else 2] ++ leBytes 2 c.opcode) ++ (leBytes 4 len ++ (leBytes 4 c.buffer ++
      leBytes 1 c.authority ++ leBytes 1 st ++ leBytes 2 d ++ leBytes 8 (if auth then c.counter else 0) ++ leBytes 8 0)) := by
    simp [answerHeader]
  rw [hsplit]
  exact msgNat_append (by simp [length_leBytes])

theorem answerHeader_status : msgNat (answerHeader c st d len auth) 13 1 = st % 2 ^ 8 := by
  have hsplit : answerHeader c st d len auth = ([3, if auth then 3 else 2] ++ leBytes 2 c.opcode ++ leBytes 4 len ++ leBytes 4 c.buffer ++
      leBytes 1 c.authority) ++ (leBytes 1 st ++ (leBytes 2 d ++ leBytes 8 (if auth then c.counter else 0) ++ leBytes 8 0)) := by
    simp [answerHeader]
  rw [hsplit]
  exact msgNat_append (by simp [length_leBytes])

theorem answerHeader_detail : msgNat (answerHeader c st d len auth) 14 2 = d % 2 ^ 16 := by
  have hsplit : answerHeader c st d len auth = ([3, if auth then 3 else 2] ++ leBytes 2 c.opcode ++ leBytes 4 len ++ leBytes 4 c.buffer ++
      leBytes 1 c.authority ++ leBytes 1 st) ++ (leBytes 2 d ++ (leBytes 8 (if auth then c.counter else 0) ++ leBytes 8 0)) := by
    simp [answerHeader]
  rw [hsplit]
  exact msgNat_append (by simp [length_leBytes])

end

/-! ### An answer posted -/

section
variable {s : State} {c : Taken} {st d k : Nat} {p m : List Byte} {tag : Word} {ptr : DWord}

/-- Lark without the command, with the answer counted. -/
def State.unburdened (s : State) : State := ({ s with lark := { s.lark with taken := none } } : State).countGlobal 0xD4 1

theorem State.unburdened_rk : s.unburdened.rk = s.rk := by
  rw [State.unburdened, ((State.Counted.refl _).countGlobal).same]

/-- An answer without a tag that fits its buffer is written at the command's pointer and posted. -/
theorem State.answer_plain (hl : c.lost = false) (ha : c.auth = false) (hb : 32 + p.length ≤ c.buffer) :
    s.answer c st d p = (s.unburdened.writeMessage c.ptr (answerHeader c st d p.length false ++ p)).postOut c.mb c.ptr.toNat c.tag 0 := by
  simp [State.answer, State.unburdened, hl, ha, hb]

theorem State.postOut_rk {n status : Nat} : (s.postOut k n tag status).rk = s.rk := by
  rw [(State.Rings.refl s).postOut.same]

theorem State.writeMessage_commons (hp : ptr.toNat < 2 ^ 63) : (s.writeMessage ptr m).rk.commons = s.rk.commons.writeBytes (ptr.toNat % 2 ^ 26) m := by
  rw [State.writeMessage, if_pos hp]

theorem State.postOut_ptr {n status : Nat} : (s.postOut k n tag status).reg64 (mbOff k + 0x10) = n % 2 ^ 64 := by
  have h10 : mbOff k + 0x10 ≠ mbOff k + 0x2C := by omega
  rw [State.postOut, State.reg64, State.reg_ringOut, State.reg_ringOut, if_neg (by omega), if_neg (by omega), State.reg_setReg_other _ _ _ _ (by omega),
    State.reg_setReg_other _ _ _ _ (by omega), State.reg_setReg_other _ _ _ _ (by omega), State.reg_setReg_other _ _ _ _ (by omega)]
  exact State.reg64_setReg64_same _ _ _

theorem State.postOut_tag {n status : Nat} : (s.postOut k n tag status).reg (mbOff k + 0x18) = tag := by
  rw [State.postOut, State.reg_ringOut, if_neg (by omega), State.reg_setReg_other _ _ _ _ (by omega), State.reg_setReg_same]

theorem State.postOut_full {n : Nat} : (s.postOut k n tag 0).outFull k = true := by
  have hreg : (s.postOut k n tag 0).reg (mbOff k + 0x1C) = 1 := by
    rw [State.postOut, State.reg_ringOut, if_neg (by omega), State.reg_setReg_same]
    rfl
  rw [State.outFull, State.flag, State.fld, hreg]
  rfl

/-- Outbound DB0 is set. -/
theorem State.postOut_bell {n status : Nat} : (s.postOut k n tag status).flag (mbOff k + 0x2C) 0 = true := by
  have hbit (w : Word) : bits (w ||| 1) 0 0 = 1 := by simp [bits]
  rw [State.postOut, State.flag, State.fld, State.reg_ringOut, if_pos rfl, hbit]
  rfl

end

end Sys2Proof.Machine

namespace Sys2Proof.Proofs

open Sys2Proof Sys2Proof.Machine

/-- Settles O17: the answer is its header and payload written at the pointer, and posted. -/
theorem answerWritten : Obligations.AnswerWritten := by
  intro s c st d p hl ha _ hp hb
  rw [State.answer_plain hl ha hb]
  have hlen : (answerHeader c st d p.length false ++ p).length = 32 + p.length := by rw [List.length_append, length_answerHeader]
  refine ⟨fun a => ?_, ?_, ?_, State.postOut_tag, State.postOut_full, State.postOut_bell, length_answerHeader, answerHeader_opcode, answerHeader_length,
    answerHeader_status, answerHeader_detail⟩
  · rw [State.postOut_rk, State.writeMessage_commons hp, Memory.read_writeBytes, hlen, State.unburdened_rk]
  · rw [State.postOut_lark, State.writeMessage_lark, State.unburdened, ((State.Counted.refl _).countGlobal).same]
  · rw [State.postOut_ptr, Nat.mod_eq_of_lt c.ptr.isLt]

end Sys2Proof.Proofs

/-! SUPPORT. One bit of a byte at a time (O19). -/

namespace Sys2Proof.Machine

section
variable {b : Byte} {k : Nat}

theorem and_not_twoPow_add (b : Byte) (k : Nat) : (b &&& ~~~ BitVec.twoPow 8 k) + BitVec.twoPow 8 k = b ||| BitVec.twoPow 8 k := by
  rw [BitVec.add_eq_or_of_and_eq_zero]
  · ext i
    simp
    grind
  · ext i
    simp

theorem or_twoPow_of_set (h : b.getLsbD k = true) : b ||| BitVec.twoPow 8 k = b := by
  ext i
  simp
  grind

/-- The number of a byte with bit `k` clear. -/
def clearedNat (b : Byte) (k : Nat) : Nat := if b.toNat.testBit k then b.toNat - 2 ^ k else b.toNat

theorem ofNat_clearedNat (hk : k < 8) : BitVec.ofNat 8 (clearedNat b k) = b &&& ~~~ BitVec.twoPow 8 k := by
  unfold clearedNat
  split
  next h =>
    have hle : 2 ^ k ≤ b.toNat := Nat.ge_two_pow_of_testBit h
    have hsub : b - BitVec.twoPow 8 k = b &&& ~~~ BitVec.twoPow 8 k := by
      rw [sub_eq_iff_eq_add, and_not_twoPow_add, or_twoPow_of_set h]
    rw [← hsub]
    apply BitVec.eq_of_toNat_eq
    rw [BitVec.toNat_sub, BitVec.toNat_twoPow_of_lt hk, BitVec.toNat_ofNat]
    have := b.isLt
    omega
  next h =>
    rw [BitVec.ofNat_toNat, BitVec.setWidth_eq]
    have hclear : b.getLsbD k = false := by simpa [BitVec.getLsbD] using h
    ext i
    simp
    grind

theorem ofNat_clearedNat_add (hk : k < 8) : BitVec.ofNat 8 (clearedNat b k + 2 ^ k) = b ||| BitVec.twoPow 8 k := by
  have hpow : BitVec.ofNat 8 (2 ^ k) = BitVec.twoPow 8 k := BitVec.eq_of_toNat_eq (by simp)
  rw [BitVec.ofNat_add, ofNat_clearedNat hk, hpow, and_not_twoPow_add]

/-- Bit `k` put into a byte, and the others as they were. -/
theorem testBit_putBit {v : Bool} {j : Nat} (hk : k < 8) :
    (BitVec.ofNat 8 (if v then clearedNat b k + 2 ^ k else clearedNat b k)).toNat.testBit j = if j = k then v else b.toNat.testBit j := by
  have hbit (w : Byte) : w.toNat.testBit j = w.getLsbD j := rfl
  cases v
  · rw [if_neg (by simp), ofNat_clearedNat hk, hbit, hbit]
    simp
    grind
  · rw [if_pos rfl, ofNat_clearedNat_add hk, hbit, hbit]
    simp
    grind

end

section
variable {s : State} {p q : Nat} {v : Bool}

theorem State.setDirty_commons : (s.setDirty p v).rk.commons = s.rk.commons.write (s.bitmapBase + p / 8)
    (BitVec.ofNat 8 (if v then clearedNat (s.rk.commons.read (s.bitmapBase + p / 8)) (p % 8) + 2 ^ (p % 8)
      else clearedNat (s.rk.commons.read (s.bitmapBase + p / 8)) (p % 8))) := rfl

theorem State.setDirty_bitmapBase : (s.setDirty p v).bitmapBase = s.bitmapBase := rfl

/-- Setting or clearing a plot's bit leaves every other plot's. -/
theorem State.dirtyPlot_setDirty : (s.setDirty p v).dirtyPlot q = if q = p then v else s.dirtyPlot q := by
  rw [State.dirtyPlot, State.setDirty_bitmapBase, State.setDirty_commons, State.dirtyPlot]
  by_cases hbyte : q / 8 = p / 8
  · rw [hbyte, Memory.read_write_same, testBit_putBit (Nat.mod_lt _ (by decide))]
    have hiff : q % 8 = p % 8 ↔ q = p := by omega
    simp only [hiff]
  · rw [Memory.read_write_other _ _ _ _ (by omega), if_neg (by rintro rfl; exact hbyte rfl)]

end

end Sys2Proof.Machine

namespace Sys2Proof.Proofs

open Sys2Proof Sys2Proof.Machine

/-- Settles O19: one byte is written, with one bit of it changed. -/
theorem dirtyBits : Obligations.DirtyBits := by
  intro s p q v
  refine ⟨State.dirtyPlot_setDirty, fun a ha => ?_, rfl⟩
  rw [State.setDirty_commons, Memory.read_write_other _ _ _ _ ha]

end Sys2Proof.Proofs

/-! SUPPORT. Lark's commands: what `vcs` answers, and the two writes of bytes that last (O18). -/

namespace Sys2Proof.Machine

/-! ### The command taken is executed (R352, R353) -/

section
variable {s u : State} {c : Taken} {op : Nat → Bool} {k : Taken → State → Nat × Nat × List Byte × State} {st d : Nat} {p : List Byte}

/-- The command taken, if it has the opcode, ends as its meaning says. -/
theorem State.vcs_taken (ht : s.lark.taken = some c) (hop : op c.opcode = true) (hk : k c s = (st, d, p, u)) :
    s.vcs op k = .next (u.concluded c st d p) := by
  simp only [State.vcs, ht, hop, if_true, hk, State.concluded]

/-- With no command taken nothing happens. -/
theorem State.vcs_idle (ht : s.lark.taken = none) : s.vcs op k = .next s := by simp [State.vcs, ht]

theorem State.concluded_taken (ht : u.lark.taken.isSome = true) (hc : vcsCritical c.opcode c.mb = false) : u.concluded c st d p = u.answer c st d p := by
  have hn : u.lark.taken.isNone = false := by simpa using ht
  simp [State.concluded, hn, hc]

end

/-! ### An image chunk and owner data (R341, R473) -/

section
variable {s : State} {c : Taken} {off : Nat} {b : List Byte}

theorem execTransferImageChunk_taken (ht : s.Executes c 0x0601) (hb : off + b.length ≤ 0x100000) :
    execTransferImageChunk off b s = .next ((s.withChunk off b).showAlt.concluded c 0 0 []) := by
  refine State.vcs_taken ht.1 (by simp [ht.2]) ?_
  rw [if_neg (Nat.not_lt.mpr hb)]
  rfl

theorem State.withChunk_slot : (s.withChunk off b).slotOf (!s.slotRuns) = { factory := false, bytes := (s.slotOf (!s.slotRuns)).bytes.writeBytes off b } := by
  unfold State.withChunk State.slotOf
  cases s.slotRuns <;> rfl

theorem State.withChunk_running : (s.withChunk off b).slotOf s.slotRuns = s.slotOf s.slotRuns := by
  unfold State.withChunk State.slotOf
  cases s.slotRuns <;> rfl

/-- Concluding a command that is not critical keeps the slots and the owner data. -/
theorem State.concluded_slots {u : State} {st d : Nat} {p : List Byte} (hc : vcsCritical c.opcode c.mb = false) (v : Bool) :
    (u.concluded c st d p).slotOf v = u.slotOf v ∧ (u.concluded c st d p).sd.ownerData = u.sd.ownerData := by
  unfold State.concluded
  simp only [hc, Bool.false_eq_true, false_and, if_false]
  split
  · exact ⟨rfl, rfl⟩
  · rw [State.slotOf, State.slotOf, State.answer_lark, State.answer_sd]
    exact ⟨rfl, rfl⟩

end

end Sys2Proof.Machine

namespace Sys2Proof.Proofs

open Sys2Proof Sys2Proof.Machine

/-- Settles O18: each of the two writes one stretch of one memory. -/
theorem storedBytes : Obligations.StoredBytes := by
  refine ⟨fun s off b rest hq => ?_, fun s c off b ht hb => ?_⟩
  · refine ⟨_, rfl, ?_⟩
    rw [hq]
    exact ⟨fun a => Memory.read_writeBytes _ _ _ _, rfl, rfl, rfl⟩
  · have hc : vcsCritical c.opcode c.mb = false := by
      rw [ht.2]
      rfl
    refine ⟨_, execTransferImageChunk_taken ht hb, fun a => ?_, ?_, ?_⟩
    · rw [(State.concluded_slots hc _).1]
      change ((s.withChunk off b).slotOf (!s.slotRuns)).bytes.read a = _
      rw [State.withChunk_slot]
      exact Memory.read_writeBytes _ _ _ _
    · exact ((State.concluded_slots hc _).1).trans State.withChunk_running
    · exact (State.concluded_slots hc s.slotRuns).2

end Sys2Proof.Proofs

/-! SUPPORT. Class P writes by mask, and a security alarm (O22). -/

namespace Sys2Proof.Machine

/-! ### Words mixed by a mask -/

section
variable {v w m : Word} {hi lo : Nat}

theorem testBit_bits (v : Word) (hi lo i : Nat) : (bits v hi lo).testBit i = (decide (i < hi + 1 - lo) && v.getLsbD (lo + i)) := by
  rw [bits, Nat.testBit_mod_two_pow, Nat.testBit_div_two_pow, Nat.add_comm i lo]
  rfl

theorem bits_congr (h : ∀ i, lo ≤ i → i ≤ hi → v.getLsbD i = w.getLsbD i) : bits v hi lo = bits w hi lo := by
  apply Nat.eq_of_testBit_eq
  intro i
  rw [testBit_bits, testBit_bits]
  by_cases hi' : i < hi + 1 - lo
  · rw [h (lo + i) (by omega) (by omega)]
  · simp [hi']

/-- Where the mask is clear the old word shows. -/
theorem bits_mix_clear (h : ∀ i, lo ≤ i → i ≤ hi → m.getLsbD i = false) : bits ((w &&& ~~~m) ||| (v &&& m)) hi lo = bits w hi lo := by
  refine bits_congr fun i h1 h2 => ?_
  by_cases h32 : i < 32
  · simp only [BitVec.getLsbD_or, BitVec.getLsbD_and, BitVec.getLsbD_not, h i h1 h2]
    simp [h32]
  · rw [BitVec.getLsbD_of_ge _ _ (Nat.not_lt.mp h32), BitVec.getLsbD_of_ge _ _ (Nat.not_lt.mp h32)]

/-- Where the mask is set the new word shows. -/
theorem bits_mix_set (h : ∀ i, lo ≤ i → i ≤ hi → m.getLsbD i = true) : bits ((w &&& ~~~m) ||| (v &&& m)) hi lo = bits v hi lo :=
  bits_congr fun i h1 h2 => by simp [h i h1 h2]

end

/-! ### The state registers of a domain (Table 10.9) -/

section
variable {s : State} {d : Nat}

theorem gxDom_range (hd : d < 4096) : GX + 0x1000 ≤ gxDom d ∧ gxDom d < GX + 0x5000 := by
  simp only [gxDom]
  omega

theorem quietReg_gx {o : Nat} (h : o < QD) : quietReg o := by
  simp only [quietReg, EV, HI, PM, QD] at *
  omega

/-- Of a domain's state word the bits 28 to 31 are class P. -/
theorem persistMask_gxDom (hd : d < 4096) : persistMask (gxDom d) = 0xF0000000#32 := by
  have hr : GX = 0xB0000 := rfl
  have hfields : fieldsAt (gxDom d) = [fld 31 31 .rwa 0 .p, fld 30 30 .ro 0 .p, fld 29 29 .ro 0 .p, fld 28 28 .ro 0 .p, fld 15 0 .ro 0 .a] := by
    unfold fieldsAt gxDom
    iterate 10 rw [if_neg (by omega)]
    rw [if_pos (by omega)]
    unfold gxFields
    iterate 9 rw [if_neg (by omega)]
    exact if_pos (by omega)
  rw [persistMask, if_neg (by simp only [gxDom]; omega), hfields]
  rfl

theorem State.seedOpen_gxDom (hd : d < 4096) : s.seedOpen (gxDom d) = true := by
  have h := gxDom_range hd
  simp [State.seedOpen, selfWritten, h.1, h.2]

/-- A class P write to a domain's state word mixes the new bits 28 to 31 into it. -/
theorem State.persist_gxDom (hd : d < 4096) (v : Word) :
    (s.persist (gxDom d) v).reg (gxDom d) = (s.reg (gxDom d) &&& ~~~ 0xF0000000#32) ||| (v &&& 0xF0000000#32) := by
  have hr : GX = 0xB0000 := rfl
  have hs : SD = 0x150000 := rfl
  have hq : QD = 0xC0000 := rfl
  have h := gxDom_range hd
  unfold State.persist
  dsimp only
  rw [if_pos (State.seedOpen_gxDom hd), State.slotWrite_reg _ _ _ (quietReg_gx (by omega)) (by omega), State.reg_setReg_same, persistMask_gxDom hd]

end

/-! ### The alarm (R293) -/

section
variable {s : State} {d line code : Nat}

/-- The part with the alarm counted, shown and recorded, before a quarantine that follows. -/
def State.alarmed (s : State) (d line code : Nat) : State :=
  let s := (s.bump (gxDom d) 15 0 1).bump (GX + 0x20) 31 0 1
  let s := s.alarmPending d
  let s := { s with qs := { s.qs with cnts := match Tbl.find s.qs.cnts d with | some c => Tbl.put s.qs.cnts d { c with alarms := c.alarms + 1 } | none => s.qs.cnts } }
  s.event code 0 (some d) (lineLo line) (lineHi line)

/-- The quarantine that the count of alarms brings. -/
def State.alarmQuarantine (s : State) (d line : Nat) : State :=
  (((s.persistFld (gxDom d) 31 31 1).meter d (fun a => { a with quarantined := true })).bump (GX + 0x34) 31 0 1).event 0x8102 0 (some d) (lineLo line) (lineHi line)

theorem State.alarm_eq : s.alarm d line code =
    if (s.alarmed d line code).fld (GX + 8) 15 0 ≠ 0 ∧ (s.alarmed d line code).fld (GX + 8) 15 0 ≤ (s.alarmed d line code).fld (gxDom d) 15 0 ∧
      ¬ (s.alarmed d line code).quarantined d then (s.alarmed d line code).alarmQuarantine d line else s.alarmed d line code := rfl

/-- The registers of the alarm are the domain's word, GX_ALARM_STAT and the count of alarms. -/
theorem State.alarmed_reg {o : Nat} (ho : o < QD) : (s.alarmed d line code).reg o =
    (((s.bump (gxDom d) 15 0 1).bump (GX + 0x20) 31 0 1).alarmPending d).reg o := by
  unfold State.alarmed
  exact State.event_reg _ _ _ _ _ _ o (quietReg_gx ho)

theorem State.alarmPending_reg {o : Nat} (ho : o ≠ GX + 0x0C) : (s.alarmPending d).reg o = s.reg o := by
  have h (t : State) : ((t.setBit (GX + 0x0C) 0 true).setFld (GX + 0x0C) 27 16 d).reg o = t.reg o := by
    rw [State.reg_setFld, if_neg ho, State.reg_setBit, if_neg ho]
  unfold State.alarmPending
  dsimp only
  rw [h]
  split <;> rfl

theorem State.alarmPending_flag : (s.alarmPending d).flag (GX + 0x0C) 0 = true := by
  unfold State.alarmPending
  dsimp only
  generalize (if s.flag (GX + 0x0C) 0 = true then s else s.emit (.msix 2)) = t
  have h := State.fld_setFld_other (t.setBit (GX + 0x0C) 0 true) (GX + 0x0C) 27 16 d 0 0 (by decide) (by decide) (by decide)
  rw [State.flag, h]
  exact State.flag_setBit_same t _ _ _ (by decide)

theorem State.alarmed_dom (hd : d < 4096) : (s.alarmed d line code).reg (gxDom d) = (s.bump (gxDom d) 15 0 1).reg (gxDom d) := by
  have hr : GX = 0xB0000 := rfl
  have hq : QD = 0xC0000 := rfl
  have h := gxDom_range hd
  rw [State.alarmed_reg (by omega), State.alarmPending_reg (by omega), State.reg_bump _ _ _ _ _ _ (by omega)]

theorem State.alarmed_limit : (s.alarmed d line code).fld (GX + 8) 15 0 = s.fld (GX + 8) 15 0 := by
  rw [State.fld, State.alarmed_reg (by decide), State.alarmPending_reg (by decide), State.reg_bump _ _ _ _ _ _ (by decide),
    State.reg_bump _ _ _ _ _ _ (by simp only [gxDom]; omega)]
  rfl

theorem State.alarmed_count (hd : d < 4096) : (s.alarmed d line code).fld (gxDom d) 15 0 = satAdd (s.fld (gxDom d) 15 0) 1 (2 ^ 16 - 1) := by
  rw [State.fld, State.alarmed_dom hd]
  exact State.fld_bump s _ _ _ _ (by decide) (by decide)

theorem State.alarmed_quarantined (hd : d < 4096) : (s.alarmed d line code).quarantined d = s.quarantined d := by
  have h := State.fld_setFld_other s (gxDom d) 15 0 (satAdd (s.fld (gxDom d) 15 0) 1 (2 ^ 16 - 1)) 31 31 (by decide) (by decide) (by decide)
  rw [State.quarantined, State.flag, State.fld, State.alarmed_dom hd, State.quarantined, State.flag, ← h]
  rfl

theorem State.alarmed_pending : (s.alarmed d line code).flag (GX + 0x0C) 0 = true := by
  rw [State.flag, State.fld, State.alarmed_reg (by decide)]
  exact State.alarmPending_flag

theorem State.alarmed_next : s.ev.next < (s.alarmed d line code).ev.next := by
  have hev : (((s.bump (gxDom d) 15 0 1).bump (GX + 0x20) 31 0 1).alarmPending d).ev = s.ev := by
    unfold State.alarmPending
    dsimp only
    split <;> rfl
  refine lt_of_eq_of_lt ?_ State.event_next_lt
  exact congrArg Recorder.next hev.symm

/-- A quarantine leaves every register under QD but the domain's word and the count of quarantines. -/
theorem State.alarmQuarantine_reg {o : Nat} (ho : o < QD) (h34 : o ≠ GX + 0x34) :
    (s.alarmQuarantine d line).reg o = (s.persistFld (gxDom d) 31 31 1).reg o := by
  have hmeter (t : State) (f : MeterAcc → MeterAcc) : (t.meter d f).reg o = t.reg o := by
    unfold State.meter
    split <;> rfl
  rw [State.alarmQuarantine, State.event_reg _ _ _ _ _ _ o (quietReg_gx ho), State.reg_bump _ _ _ _ _ _ h34, hmeter]

theorem State.alarmQuarantine_dom (hd : d < 4096) : (s.alarmQuarantine d line).reg (gxDom d) =
    (s.reg (gxDom d) &&& ~~~ 0xF0000000#32) ||| (putBits (s.reg (gxDom d)) 31 31 1 &&& 0xF0000000#32) := by
  have hr : GX = 0xB0000 := rfl
  have hq : QD = 0xC0000 := rfl
  have h := gxDom_range hd
  rw [State.alarmQuarantine_reg (by omega) (by omega)]
  exact State.persist_gxDom hd _

theorem State.alarmQuarantine_count (hd : d < 4096) : (s.alarmQuarantine d line).fld (gxDom d) 15 0 = s.fld (gxDom d) 15 0 := by
  rw [State.fld, State.alarmQuarantine_dom hd]
  exact bits_mix_clear fun i _ hi => by interval_cases i <;> rfl

theorem State.alarmQuarantine_quarantined (hd : d < 4096) : (s.alarmQuarantine d line).quarantined d = true := by
  rw [State.quarantined, State.flag, State.fld, State.alarmQuarantine_dom hd, bits_mix_set fun i h1 h2 => by
    obtain rfl : i = 31 := by omega
    rfl]
  rw [bits_putBits _ _ _ _ (by decide) (by decide)]
  rfl

theorem State.alarmQuarantine_pending (hd : d < 4096) : (s.alarmQuarantine d line).flag (GX + 0x0C) 0 = s.flag (GX + 0x0C) 0 := by
  have hr : GX = 0xB0000 := rfl
  have hs : SD = 0x150000 := rfl
  have h := gxDom_range hd
  rw [State.flag, State.fld, State.alarmQuarantine_reg (by decide) (by decide), State.persistFld,
    State.persist_reg (quietReg_gx (by decide)) (by omega) (by omega)]
  rfl

theorem State.seedWear_ev (n : Nat) : (s.seedWear n).ev = s.ev := by
  unfold State.seedWear
  split <;> rfl

/-- Record numbers do not fall over a slot write, which may record an event. -/
theorem State.slotWrite_next (k : Nat) : s.ev.next ≤ (s.slotWrite k).ev.next := by
  have wear (t : State) (n : Nat) (h : t.ev = s.ev) : s.ev.next ≤ (t.seedWear n).ev.next := by rw [State.seedWear_ev, h]
  have record (t : State) (code inst p0 p1 : Nat) (h : s.ev.next ≤ t.ev.next) : s.ev.next ≤ (t.event code inst none p0 p1).ev.next :=
    h.trans State.event_next_lt.le
  unfold State.slotWrite
  dsimp only
  split
  · exact wear _ _ rfl
  split
  · exact record _ _ _ _ _ (le_refl _)
  split
  · exact wear _ _ rfl
  · exact record _ _ _ _ _ (wear _ _ rfl)

theorem State.alarmQuarantine_next (hd : d < 4096) : s.ev.next < (s.alarmQuarantine d line).ev.next := by
  have hmeter (t : State) (f : MeterAcc → MeterAcc) : (t.meter d f).ev = t.ev := by
    unfold State.meter
    split <;> rfl
  refine lt_of_le_of_lt ?_ State.event_next_lt
  rw [State.bump_ev, hmeter, State.persistFld, State.persist, if_pos (State.seedOpen_gxDom hd)]
  exact State.slotWrite_next (s := s.setReg _ _) _

end

end Sys2Proof.Machine

namespace Sys2Proof.Proofs

open Sys2Proof Sys2Proof.Machine

/-- Settles O22: the alarm is counted first, and the quarantine that may follow keeps the count. -/
theorem securityAlarm : Obligations.SecurityAlarm := by
  intro s d line code hd
  rw [State.alarm_eq, State.alarmed_limit, State.alarmed_count hd, State.alarmed_quarantined hd]
  split
  next h =>
    obtain ⟨h0, -, -⟩ := h
    refine ⟨?_, ?_, ?_, fun _ _ => State.alarmQuarantine_quarantined hd, fun h => absurd h h0⟩
    · rw [State.alarmQuarantine_count hd, State.alarmed_count hd]
    · rw [State.alarmQuarantine_pending hd, State.alarmed_pending]
    · exact State.alarmed_next.trans (State.alarmQuarantine_next hd)
  next h =>
    refine ⟨State.alarmed_count hd, State.alarmed_pending, State.alarmed_next, fun h0 hle => ?_, fun _ => State.alarmed_quarantined hd⟩
    rw [State.alarmed_quarantined hd]
    by_contra hq
    exact h ⟨h0, hle, hq⟩

end Sys2Proof.Proofs

/-! SUPPORT. Power state requests (O21). -/

namespace Sys2Proof.Machine

section
variable {s : State} {x code : Nat}

theorem quietReg_pw {o : Nat} (hlo : PW ≤ o) (hhi : o < PW + 0x8000) : quietReg o := by
  simp only [quietReg, PW, EV, HI, PM] at *
  omega

theorem State.refusePower_last : (s.refusePower x code).reg (PW + 0x1C) = BitVec.ofNat 32 (x + code * 256) := by
  rw [State.refusePower, State.event_reg _ _ _ _ _ _ _ (quietReg_pw (by decide) (by decide)), State.reg_setReg_same]

theorem State.refusePower_power : (s.refusePower x code).power = s.power := by
  rw [State.power, State.refusePower, State.event_fld _ _ _ _ _ _ _ _ _ (quietReg_pw (by decide) (by decide)), State.fld_setReg_other _ _ _ _ _ _ (by decide),
    State.fld, State.reg_bump _ _ _ _ _ _ (by decide)]
  rfl

/-- The refusals of a state count in a byte of their own. -/
theorem State.refusePower_count (h1 : 1 ≤ x) (h3 : x ≤ 3) :
    (s.refusePower x code).fld (PW + 0x14) (8 * x - 1) (8 * x - 8) = satAdd (s.fld (PW + 0x14) (8 * x - 1) (8 * x - 8)) 1 255 := by
  have hw : 8 * x - 1 + 1 - (8 * x - 8) = 8 := by omega
  have hbump := State.fld_bump s (PW + 0x14) (8 * x - 1) (8 * x - 8) 1 (by omega) (by omega)
  rw [hw] at hbump
  rw [State.refusePower, State.event_fld _ _ _ _ _ _ _ _ _ (quietReg_pw (by decide) (by decide)), State.fld_setReg_other _ _ _ _ _ _ (by decide), hbump]
  rfl

theorem State.requestState_refused (h1 : 1 ≤ x) (h3 : x ≤ 3) (hr : s.refuseCode x ≠ 0) :
    s.requestState x = (4, s.refusePower x (s.refuseCode x)) := by
  rw [State.requestState, if_neg (by omega), if_neg (by omega), if_neg (by omega), if_neg hr]

theorem State.requestState_on (hp : s.power = 0) (hb : s.flag PW 7 = false) : s.requestState 0 = (0, s) := by
  have hh (n : Nat) : s.heading n = false := by simp [State.heading, hb]
  simp [State.requestState, State.requestOn, State.wake, State.entering, hp, hb, hh]

/-- The command ends as the state request does. -/
theorem exec_requestPowerState {c : Taken} {st d : Nat} {p : List Byte} {u : State} (ht : s.Executes c 0x0801)
    (hk : (if (s.requestState x).1 = 0 then done (s.requestState x).2 [] else if (s.requestState x).1 = 3 then badInput (s.requestState x).2
      else refused (s.requestState x).2 404) = (st, d, p, u)) :
    exec (.requestPowerState false x) s = .next (u.concluded c st d p) := by
  obtain ⟨htaken, hop⟩ := ht
  change execRequestPowerState false x s = _
  rw [execRequestPowerState, if_neg Bool.false_ne_true]
  exact State.vcs_taken htaken (by simp [hop]) hk

end

end Sys2Proof.Machine

namespace Sys2Proof.Proofs

open Sys2Proof Sys2Proof.Machine

/-- Settles O21: a refusal is counted and recorded; A0 asked for in A0 is there. -/
theorem powerRequests : Obligations.PowerRequests := by
  refine ⟨fun s c x ht h1 h3 hr => ⟨?_, State.refusePower_count h1 h3, State.refusePower_last, State.refusePower_power⟩, fun s c ht hp hb => ?_⟩
  · refine exec_requestPowerState ht ?_
    rw [State.requestState_refused h1 h3 hr]
    rfl
  · refine exec_requestPowerState ht ?_
    rw [State.requestState_on hp hb]
    rfl

end Sys2Proof.Proofs

/-! SUPPORT. Values right after reset (O7). -/

namespace Sys2Proof.Machine

/-- Right after reset a register holds its reset value. -/
theorem State.reset_reg (o : Nat) : State.reset.reg o = resetWord o := rfl

/-- The words of a channel's registers are those of channel 0. -/
theorem fieldsAt_chan {c w : Nat} (hc : c < 40) (hw : w < 0x1000) : fieldsAt (MC + c * 0x1000 + w) = mcFields w := by
  have hmc : MC = 0x20000 := rfl
  have hoff : (MC + c * 0x1000 + w - MC) % 0x1000 = w := by omega
  unfold fieldsAt
  rw [if_neg (by omega), if_neg (by omega), if_pos (by omega), hoff]

theorem resetWord_chan {c w : Nat} (hc : c < 40) (hw : w < 0x1000) : resetWord (MC + c * 0x1000 + w) = assemble Fld.rst (mcFields w) := by
  rw [resetWord, fieldsAt_chan hc hw]

theorem State.reset_chan_fld {c : Nat} (w hi lo : Nat) (hc : c < 40) (hw : w < 0x1000) :
    State.reset.fld (MC + c * 0x1000 + w) hi lo = bits (assemble Fld.rst (mcFields w)) hi lo := by
  rw [State.fld, State.reset_reg, resetWord_chan hc hw]

/-- No output of a bank without supply is driven. -/
theorem State.reset_pin {p : OutPin} (h : p.bank ≠ .alwaysOn) : State.reset.pinLevel p = .highZ := by
  have hoff : State.reset.bankOn p.bank = false := by
    cases hb : p.bank
    · exact absurd hb h
    · rfl
    · rfl
  simp [State.pinLevel, hoff]

theorem State.reset_rail (n : Nat) : State.reset.pinLevel (.sqEn n) = .low := by
  simp [State.pinLevel, State.bankOn, OutPin.bank, State.pinDrive, State.reset, pushPull]

end Sys2Proof.Machine

namespace Sys2Proof.Proofs

open Sys2Proof Sys2Proof.Machine

/-- Settles O7: each value is the reset value of its fields. -/
theorem resetValues : Obligations.ResetValues := by
  have hchan (c : Nat) (hc : c < 40) : State.reset.fld (MC + c * 0x1000) 23 16 = 0x40 ∧ State.reset.fld (MC + c * 0x1000) 15 12 = 8 ∧
      State.reset.fld (MC + c * 0x1000 + 0x0C) 15 0 = 0x14 ∧ State.reset.chanState c = 0 :=
    ⟨State.reset_chan_fld 0 _ _ hc (by decide), State.reset_chan_fld 0 _ _ hc (by decide), State.reset_chan_fld 0x0C _ _ hc (by decide),
      State.reset_chan_fld 4 _ _ hc (by decide)⟩
  have hmap : ∀ e < 8, State.reset.fld (MC + 8) (3 * e + 2) (3 * e) = e := by decide
  exact ⟨rfl, rfl, rfl, rfl, rfl, hchan, hmap, rfl, rfl, rfl, rfl, rfl, rfl, rfl, rfl, rfl, rfl, rfl, rfl, rfl, rfl, rfl, rfl,
    fun _ h => State.reset_pin h, fun n _ => State.reset_rail n⟩

end Sys2Proof.Proofs

/-! SUPPORT. A tick of the schedule table (O12): what starts an action, and what keeps those that run running. -/

namespace Sys2Proof.Machine

/-- From `s` to `t` no action starts or is taken, and every entry that runs goes on running. -/
structure State.Ran (s t : State) : Prop where
  started : t.tb.started = s.tb.started
  running : ∀ m < 64, s.schedRunning m = true → t.schedRunning m = true

section
variable {a s t : State} {n m : Nat}

theorem State.Ran.refl (s : State) : s.Ran s := ⟨rfl, fun _ _ h => h⟩

theorem State.Ran.trans (h : a.Ran s) (k : s.Ran t) : a.Ran t :=
  ⟨k.started.trans h.started, fun m hm hr => k.running m hm (h.running m hm hr)⟩

theorem State.Ran.ite {c : Prop} [Decidable c] (h : a.Ran s) (k : a.Ran t) : a.Ran (if c then s else t) := by
  split <;> assumption

theorem State.Ran.foldl {α : Type} {f : State → α → State} {l : List α} (h : a.Ran s) (hf : ∀ t x, a.Ran t → a.Ran (f t x)) : a.Ran (l.foldl f s) := by
  induction l generalizing s with
  | nil => exact h
  | cons x l ih => exact ih (hf s x h)

/-- Nothing of the table changes where no control word of it does. -/
theorem State.Ran.of_regs (h : a.Ran s) (ht : t.tb.started = s.tb.started) (hr : ∀ m < 64, t.reg (schedOff m) = s.reg (schedOff m)) : a.Ran t := by
  refine h.trans ⟨ht, fun m hm hrun => ?_⟩
  rw [State.schedRunning, State.flag, State.fld] at hrun ⊢
  rw [hr m hm]
  exact hrun

theorem quietReg_sched (hm : m < 64) : quietReg (schedOff m) := by
  refine quietReg_of_lt ?_
  simp only [schedOff, TB, MC]
  omega

theorem State.Ran.logs (h : a.Ran s) (hl : State.Logs s t) : a.Ran t :=
  h.of_regs (by rw [hl.tb]) fun _ hm => hl.reg _ (quietReg_sched hm)

theorem State.Ran.event {code inst p0 p1 : Nat} {dom : Option Nat} (h : a.Ran s) : a.Ran (s.event code inst dom p0 p1) :=
  h.logs (State.event_logs s code inst dom p0 p1)

theorem State.Ran.eventOnce {key code inst p0 p1 : Nat} {dom : Option Nat} (h : a.Ran s) : a.Ran (s.eventOnce key code inst dom p0 p1) :=
  h.logs (State.eventOnce_logs s key code inst dom p0 p1)

theorem State.Ran.counted (h : a.Ran s) (hc : s.Counted t) : a.Ran t := by
  refine h.of_regs (by rw [hc.same]) fun m hm => hc.reg _ ?_
  simp only [schedOff, TB, PM]
  omega

/-- A field of a control word other than `running` may be written. -/
theorem State.Ran.setFld {hi lo x : Nat} (h : a.Ran s) (hhi : hi < 32) (hle : lo ≤ hi) (hd : 28 < lo ∨ hi < 28) : a.Ran (s.setFld (schedOff n) hi lo x) := by
  refine h.trans ⟨rfl, fun m hm hrun => ?_⟩
  rw [State.schedRunning, State.flag] at hrun ⊢
  by_cases hmn : schedOff m = schedOff n
  · rw [hmn] at hrun ⊢
    rw [State.fld_setFld_other _ _ _ _ _ _ _ hhi hle hd]
    exact hrun
  · rw [State.fld_setFld_reg _ _ _ _ _ _ _ _ hmn]
    exact hrun

theorem State.Ran.setDue {x : Nat} (h : a.Ran s) : a.Ran (s.setDue n x) := by
  refine h.of_regs rfl fun m _ => ?_
  rw [State.setDue, State.reg_setReg64, if_neg (by simp only [schedOff]; omega), if_neg (by simp only [schedOff]; omega)]

/-- The same with other notes of the time base. -/
theorem State.Ran.setTb {tb : TimeBase} (h : a.Ran s) (ht : tb.started = s.tb.started := by rfl) : a.Ran { s with tb := tb } :=
  h.trans (t := { s with tb := tb }) ⟨ht, fun _ _ hr => hr⟩

theorem State.Ran.setSw {sw : Sward} (h : a.Ran s) : a.Ran { s with sw := sw } :=
  h.trans (t := { s with sw := sw }) ⟨rfl, fun _ _ hr => hr⟩

theorem State.Ran.schedAdvance (h : a.Ran s) : a.Ran (s.schedAdvance n) :=
  .ite (h.setFld (by decide) (by decide) (by decide)).setDue h.setDue

theorem State.Ran.schedMissed {k : Nat} (h : a.Ran s) : a.Ran (s.schedMissed n k) := h.setFld (by decide) (by decide) (by decide)

theorem State.Ran.sendPeer {dest op : Nat} {vals : List Nat} (h : a.Ran s) : a.Ran (s.sendPeer dest op vals) := by
  have hsend : a.Ran (s.sendTo dest 2 msgPeer (op :: vals)) := by
    unfold State.sendTo
    split
    · exact (h.trans (t := s.emit _) ⟨rfl, fun _ _ hr => hr⟩).counted ((State.Counted.refl _).count (by decide))
    · exact h
  exact hsend.setSw

theorem State.Ran.reportCut {o tag : Nat} {done : Bool} (h : a.Ran s) : a.Ran (s.reportCut o tag done) := .ite h.setSw h.sendPeer

theorem State.Ran.reportNoCuts (h : a.Ran s) : a.Ran s.reportNoCuts := .ite h (h.setSw.foldl fun _ _ h' => h'.reportCut)

theorem State.Ran.freeCut {done : Bool} (h : a.Ran s) : a.Ran (s.freeCut n done) := by
  unfold State.freeCut
  split
  · exact h
  · exact (h.reportCut.setFld (by decide) (by decide) (by decide)).setSw

theorem State.Ran.missDue (h : a.Ran s) : a.Ran (s.missDue n) := by
  have hmissed : a.Ran ((s.schedMissed n 1).schedAdvance n) := h.schedMissed.schedAdvance
  have hnoted (t : State) (ht : a.Ran t) : a.Ran (if t.schedAction n = 7 ∧ t.df.scrub.isSome then t.event 0x4104 0 none (t.fld (DF + 0x2C) 15 0) 0 else t) :=
    .ite ht.event ht
  have hdone (t : State) (ht : a.Ran t) : a.Ran (if t.schedAction n = 0x0D ∨ t.schedAction n = 0x0E then t.freeCut n false else t) := .ite ht.freeCut ht
  exact hdone _ (hnoted _ hmissed.setTb.eventOnce)

theorem State.Ran.recompute (h : a.Ran s) : a.Ran (s.recompute n) := h.setDue.setTb

theorem State.Ran.countTick (h : a.Ran s) : a.Ran s.countTick := by
  unfold State.countTick
  split
  · have hb : s.Counted ((List.range 12).foldl (fun t b => t.count b 0x01 8 1) s) :=
      (State.Counted.refl s).foldl fun t b hb ht => ht.count (List.mem_range.mp hb)
    exact .ite (h.counted hb.countGlobal) (h.counted hb)
  · exact h

/-- An entry that starts its action is one more started action, and runs. -/
theorem State.schedStart_started : (s.schedStart n).tb.started = s.tb.started ++ [(n, s.schedAction n)] := by
  have h := (State.Ran.refl (s.setBit (schedOff n) 28 true)).schedAdvance (n := n)
  exact congrArg (· ++ [(n, s.schedAction n)]) h.started

theorem State.schedStart_running (hn : n < 64) : (s.schedStart n).schedRunning n = true := by
  have h := (State.Ran.refl (s.setBit (schedOff n) 28 true)).schedAdvance (n := n)
  exact h.running n hn (State.flag_setBit_same s _ _ _ (by decide))

theorem State.schedStart_keeps (hm : m < 64) (hmn : m ≠ n) (hr : s.schedRunning m = true) : (s.schedStart n).schedRunning m = true := by
  have h := (State.Ran.refl (s.setBit (schedOff n) 28 true)).schedAdvance (n := n)
  refine h.running m hm ?_
  rw [State.schedRunning, State.flag, State.fld] at hr ⊢
  rw [State.reg_setBit, if_neg (by simp only [schedOff]; omega)]
  exact hr

/-- Evaluating an entry starts its action or starts nothing. -/
theorem State.schedEval_cases (z : Nat) : s.Ran (State.schedEval z s n) ∨ State.schedEval z s n = s.schedStart n := by
  have hdefer : s.Ran (s.defer n) := (State.Ran.refl s).setTb
  unfold State.schedEval
  dsimp only
  split
  · split
    · exact .inl (State.Ran.refl s).schedAdvance
    split
    · exact .inl (.ite hdefer (.refl s))
    split
    · exact .inl (State.Ran.refl s).missDue
    split
    · exact .inl (.refl s)
    · exact .inr rfl
  · exact .inl (.refl s)

/-- The entries under `k` have been evaluated from `s` to `t`: those that started are in order, each once, and run. -/
structure State.Evaluated (k : Nat) (s t : State) : Prop where
  inOrder : ∃ l : List (Nat × Nat), t.tb.started = s.tb.started ++ l ∧ (l.map fun p => p.1).Pairwise (fun a b => a < b) ∧
    ∀ p ∈ l, p.1 < k ∧ t.schedRunning p.1 = true

theorem State.Evaluated.ran {k : Nat} (hk : k ≤ 64) (h : State.Evaluated k a s) (hr : s.Ran t) : State.Evaluated k a t := by
  obtain ⟨l, hl, hp, hrun⟩ := h.inOrder
  exact ⟨l, hr.started.trans hl, hp, fun p hm => ⟨(hrun p hm).1, hr.running _ (by have := (hrun p hm).1; omega) (hrun p hm).2⟩⟩

theorem State.Evaluated.next {z k : Nat} (hk : k < 64) (h : State.Evaluated k a s) : State.Evaluated (k + 1) a (State.schedEval z s k) := by
  rcases State.schedEval_cases (s := s) (n := k) z with hr | hs
  · obtain ⟨l, hl, hp, hrun⟩ := (h.ran (by omega) hr).inOrder
    exact ⟨l, hl, hp, fun p hm => ⟨by have := (hrun p hm).1; omega, (hrun p hm).2⟩⟩
  · obtain ⟨l, hl, hp, hrun⟩ := h.inOrder
    rw [hs]
    refine ⟨l ++ [(k, s.schedAction k)], ?_, ?_, fun p hm => ?_⟩
    · rw [State.schedStart_started, hl, List.append_assoc]
    · rw [List.map_append, List.pairwise_append]
      refine ⟨hp, by simp, fun x hx y hy => ?_⟩
      obtain ⟨p, hm, rfl⟩ := List.mem_map.mp hx
      simp only [List.map_cons, List.map_nil, List.mem_singleton] at hy
      rw [hy]
      exact (hrun p hm).1
    · rcases List.mem_append.mp hm with hm | hm
      · have hlt := (hrun p hm).1
        exact ⟨by omega, State.schedStart_keeps (by omega) (by omega) (hrun p hm).2⟩
      · rw [List.mem_singleton.mp hm]
        exact ⟨Nat.lt_succ_self k, State.schedStart_running hk⟩

theorem State.evaluated_foldl {z : Nat} (s : State) (k : Nat) (hk : k ≤ 64) : State.Evaluated k s ((List.range k).foldl (State.schedEval z) s) := by
  induction k with
  | zero => exact ⟨[], by simp, by simp, by simp⟩
  | succ k ih =>
    rw [List.range_succ, List.foldl_append]
    exact (ih (by omega)).next (by omega)

/-- A tick evaluates the table in index order. -/
theorem State.tick_evaluated (s : State) : State.Evaluated 64 s s.tick := by
  have hclock (t : State) (z : Nat) (h : s.Ran t) : State.Evaluated 64 s ((List.range 64).foldl (State.schedEval z) t.countTick).reportNoCuts := by
    obtain ⟨l, hl, hp, hrun⟩ := ((State.evaluated_foldl (z := z) t.countTick 64 le_rfl).ran le_rfl (State.Ran.refl _).reportNoCuts).inOrder
    exact ⟨l, by rw [hl, h.countTick.started], hp, hrun⟩
  have hadv : s.tb.advance.started = s.tb.started := by
    unfold TimeBase.advance
    split
    · rfl
    split
    · rfl
    split
    · rfl
    split
    · rfl
    split <;> rfl
  exact hclock _ _ (.setTb (.foldl (.setTb (.setTb (.refl s) hadv)) fun _ _ h => h.recompute))

end

/-! ### An entry evaluated again -/

/-- From `s` to `t` the action of entry `n` stays, and the drift engine's own state. -/
structure State.ActKept (n : Nat) (s t : State) : Prop where
  action : t.schedAction n = s.schedAction n
  df : t.df = s.df

section
variable {a s t : State} {n z : Nat}

theorem State.ActKept.refl (s : State) : State.ActKept n s s := ⟨rfl, rfl⟩

theorem State.ActKept.trans (h : State.ActKept n a s) (k : State.ActKept n s t) : State.ActKept n a t :=
  ⟨k.action.trans h.action, k.df.trans h.df⟩

theorem State.ActKept.setFld {hi lo x : Nat} (h : State.ActKept n a s) (hhi : hi < 32) (hle : lo ≤ hi) (hd : 7 < lo) :
    State.ActKept n a (s.setFld (schedOff n) hi lo x) :=
  h.trans ⟨State.fld_setFld_other _ _ _ _ _ _ _ hhi hle (.inl hd), rfl⟩

theorem State.ActKept.setDue {x : Nat} (h : State.ActKept n a s) : State.ActKept n a (s.setDue n x) := by
  refine h.trans ⟨?_, rfl⟩
  rw [State.schedAction, State.fld, State.setDue, State.reg_setReg64, if_neg (by omega), if_neg (by omega)]
  rfl

theorem State.ActKept.setTb {tb : TimeBase} (h : State.ActKept n a s) : State.ActKept n a { s with tb := tb } :=
  h.trans (t := { s with tb := tb }) ⟨rfl, rfl⟩

theorem State.ActKept.logs (hn : n < 64) (h : State.ActKept n a s) (hl : State.Logs s t) : State.ActKept n a t := by
  refine h.trans ⟨?_, hl.df⟩
  rw [State.schedAction, State.schedAction, State.fld, State.fld, hl.reg _ (quietReg_sched hn)]

theorem State.ActKept.schedAdvance (h : State.ActKept n a s) : State.ActKept n a (s.schedAdvance n) := by
  unfold State.schedAdvance
  split
  · exact (h.setFld (by decide) (by decide) (by decide)).setDue
  · exact h.setDue

theorem State.ActKept.schedStart : State.ActKept n s (s.schedStart n) :=
  ((State.ActKept.refl s).setFld (by decide) (by decide) (by decide)).schedAdvance.setTb

/-- Of an entry that misses its due instant at once the action stays, and the scrub pass that it falls due with. -/
theorem State.ActKept.missDue (hn : n < 64) (h7 : s.schedAction n = 7) : State.ActKept n s (s.missDue n) := by
  have hmissed : State.ActKept n s ((s.schedMissed n 1).schedAdvance n) :=
    ((State.ActKept.refl s).setFld (by decide) (by decide) (by decide)).schedAdvance
  have hnoted (t : State) (ht : State.ActKept n s t) :
      State.ActKept n s (if t.schedAction n = 7 ∧ t.df.scrub.isSome then t.event 0x4104 0 none (t.fld (DF + 0x2C) 15 0) 0 else t) := by
    split
    · exact ht.logs hn (State.event_logs _ _ _ _ _ _)
    · exact ht
  have hdone (t : State) (ht : State.ActKept n s t) :
      State.ActKept n s (if t.schedAction n = 0x0D ∨ t.schedAction n = 0x0E then t.freeCut n false else t) := by
    rw [if_neg (by rw [ht.action, h7]; decide)]
    exact ht
  exact hdone _ (hnoted _ (hmissed.setTb.logs hn (State.eventOnce_logs _ _ _ _ _ _ _)))

/-- Entry `n` starts its action when it is evaluated. -/
structure State.Starts (s : State) (n : Nat) : Prop where
  due : s.schedEnabled n = true ∧ s.schedDue n ≤ s.tb.ztime
  action : s.schedAction n ≠ 0
  running : s.paused (s.schedAction n) = false
  free : s.missesNow n = false
  idle : ¬ (s.actionBusy (s.schedAction n) = true ∨ s.schedDue n + s.schedWindow n < s.tb.ztime)

theorem State.schedEval_of_starts (h : s.Starts n) : State.schedEval z s n = s.schedStart n := by
  obtain ⟨hd, ha, hr, hf, hi⟩ := h
  rw [State.schedEval, if_pos hd]
  dsimp only
  rw [if_neg ha, if_neg (by simp [hr]), if_neg (by simp [hf]), if_neg hi]

/-- An entry that does not start is left, deferred or, where it misses its due instant at once, missed. -/
theorem State.schedEval_of_not_starts (ha : s.schedAction n ≠ 0) (h : ¬ s.Starts n) :
    State.schedEval z s n = s ∨ State.schedEval z s n = s.defer n ∨ (s.missesNow n = true ∧ State.schedEval z s n = s.missDue n) := by
  unfold State.schedEval
  dsimp only
  split
  next hd =>
    split
    · split
      · exact .inr (.inl rfl)
      · exact .inl rfl
    next hr =>
      split
      next hf => exact .inr (.inr ⟨hf, rfl⟩)
      next hf =>
        split
        · exact .inl rfl
        next hi => exact absurd ⟨hd, ha, by simpa using hr, by simpa using hf, hi⟩ h
  · exact .inl rfl

theorem State.started_of_not_starts (ha : s.schedAction n ≠ 0) (h : ¬ s.Starts n) : (State.schedEval z s n).tb.started = s.tb.started := by
  rcases State.schedEval_of_not_starts (z := z) ha h with he | he | ⟨-, he⟩
  · rw [he]
  · rw [he]
    rfl
  · rw [he, (State.Ran.refl s).missDue.started]

/-- Once evaluated an entry keeps its action and starts no more: it runs, waits or misses its due instants. -/
theorem State.schedEval_settled (hn : n < 64) (ha : s.schedAction n ≠ 0) :
    (State.schedEval z s n).schedAction n ≠ 0 ∧ ¬ (State.schedEval z s n).Starts n := by
  by_cases hs : s.Starts n
  · rw [State.schedEval_of_starts hs]
    have hact := (State.ActKept.schedStart (s := s) (n := n)).action
    refine ⟨hact ▸ ha, fun h => h.idle (.inl ?_)⟩
    rw [State.actionBusy, Bool.or_eq_true]
    exact .inr (List.any_eq_true.mpr ⟨n, List.mem_range.mpr hn, by simp [State.schedStart_running hn]⟩)
  · rcases State.schedEval_of_not_starts (z := z) ha hs with he | he | ⟨hm, he⟩
    · rw [he]
      exact ⟨ha, hs⟩
    · rw [he]
      exact ⟨ha, fun h => hs ⟨h.due, h.action, h.running, h.free, h.idle⟩⟩
    · simp only [State.missesNow, Bool.and_eq_true, decide_eq_true_eq] at hm
      have hk := State.ActKept.missDue hn hm.1
      rw [he]
      refine ⟨hk.action ▸ ha, fun h => ?_⟩
      have hfree := h.free
      rw [State.missesNow, hk.action, hk.df] at hfree
      simp [hm] at hfree

end

end Sys2Proof.Machine

namespace Sys2Proof.Proofs

open Sys2Proof Sys2Proof.Machine

/-- Settles O12: the table is evaluated in index order, and an entry once evaluated does not start again. -/
theorem scheduleOrder : Obligations.ScheduleOrder := by
  refine ⟨fun s t h => ?_, fun s z n hn ha => ?_⟩
  · change Host.Outcome.next s.tick = .next t at h
    cases h
    exact s.tick_evaluated.inOrder
  · obtain ⟨ha', hs'⟩ := State.schedEval_settled (z := z) hn ha
    exact State.started_of_not_starts ha' hs'

end Sys2Proof.Proofs

/-! SUPPORT. The mailbox of an LD (O23, O46, O47): what a command of it answers, and that the reading ones change nothing. -/

namespace Sys2Proof.Machine

section
variable {s t : State} {i op rc : Nat} {vals : List Nat} {k : State → Nat × List Nat × State}

@[simp] theorem State.ld_setLd_same (l : Ld) : (s.setLd i l).ld i = l := Tbl.get_set_same _ _ _ _

@[simp] theorem State.ld_emit (x : Out) : (s.emit x).ld i = s.ld i := rfl

theorem below_of_lt {n : Nat} {x : Answer} (h : i < n) : below i n s x = x := if_pos h

/-- An open mailbox answers with what its command answers. -/
theorem State.mailCommand_open (h : s.MailOpen i) (hk : k s = (rc, vals, t)) : s.mailCommand i op k = t.emit (.cxl i op rc vals) := by
  obtain ⟨-, hthere, hpower, hsan⟩ := h
  simp [State.mailCommand, hthere, hpower, hsan, hk]

theorem State.mailRead_open (h : s.MailOpen i) : s.mailRead i op vals = s.emit (.cxl i op 0 vals) := State.mailCommand_open h rfl

theorem State.below_mailCommand (h : s.MailOpen i) (hk : k s = (rc, vals, t)) :
    below i 32 s (.next (s.mailCommand i op k)) = .next (t.emit (.cxl i op rc vals)) := by
  rw [below_of_lt h.1, State.mailCommand_open h hk]

theorem State.below_mailRead (h : s.MailOpen i) : below i 32 s (.next (s.mailRead i op vals)) = .next (s.emit (.cxl i op 0 vals)) :=
  State.below_mailCommand h rfl

/-! ### Reading changes nothing -/

theorem State.OnlySends.refl (s : State) : State.OnlySends s s := ⟨[], s.free, rfl⟩

theorem State.OnlySends.trans {u : State} (h : State.OnlySends s t) (k : State.OnlySends t u) : State.OnlySends s u := by
  obtain ⟨o, n, rfl⟩ := h
  obtain ⟨o', n', rfl⟩ := k
  exact ⟨o' ++ o, n', by simp⟩

theorem State.OnlySends.emit {x : Out} (h : State.OnlySends s t) : State.OnlySends s (t.emit x) := h.trans ⟨[x], t.free, rfl⟩

theorem State.OnlySends.draw : State.OnlySends s s.draw.2 := ⟨[], s.free + 1, rfl⟩

theorem State.OnlySends.mailCommand (h : State.OnlySends s (k s).2.2) : State.OnlySends s (s.mailCommand i op k) := by
  unfold State.mailCommand
  split
  · exact .refl s
  split
  · exact (State.OnlySends.refl s).emit
  · exact h.emit

theorem State.OnlySends.mailRead : State.OnlySends s (s.mailRead i op vals) := .mailCommand (.refl s)

/-- Answer `x` is a next state that only sends. -/
theorem State.OnlySends.of_below {n : Nat} {u : State} (h : State.OnlySends s u) (ht : below i n s (.next u) = .next t) : State.OnlySends s t := by
  unfold below at ht
  split at ht
  · cases ht
    exact h
  · cases ht
    exact .refl s

end

end Sys2Proof.Machine

namespace Sys2Proof.Proofs

open Sys2Proof Sys2Proof.Machine

/-- Settles O23: each of the commands is a mailRead, or a mailCommand whose meaning leaves the state it is given. -/
theorem frameMailboxReads : Obligations.FrameMailboxReads := by
  intro s t i log c hc ht
  have hread (op : Nat) (vals : List Nat) (h : below i 32 s (.next (s.mailRead i op vals)) = .next t) : State.OnlySends s t :=
    State.OnlySends.of_below .mailRead h
  simp only [List.mem_cons, List.not_mem_nil, or_false] at hc
  rcases hc with rfl | rfl | rfl | rfl | rfl | rfl | rfl | rfl | rfl | rfl | rfl | rfl | rfl | rfl | rfl | rfl | rfl
  case inr.inr.inr.inr.inr.inr.inr.inr.inr.inr.inr.inr.inl => exact State.OnlySends.of_below (.mailCommand .draw) ht
  case inr.inr.inr.inr.inr.inr.inr.inr.inr.inr.inr.inr.inr.inr.inr.inr =>
    refine State.OnlySends.of_below (.mailCommand ?_) ht
    dsimp only
    split <;> exact .refl s
  all_goals exact hread _ _ ht

end Sys2Proof.Proofs

/-! SUPPORT. What the commands of an LD's mailbox and the FM API leave (O46 to O48). -/

namespace Sys2Proof.Machine

section
variable {s t : State} {i : Nat}

/-- GET_HEALTH_INFO answers its seven values. -/
theorem exec_getHealthInfo (h : s.MailOpen i) : exec (.getHealthInfo i) s = .next (s.emit (.cxl i 0x4200 0 [s.healthBits i,
    if ¬ s.wb.recovered then 1 else if s.anyProtected then 2 else 0, s.fld (TP + 0x20) 31 24, match s.highest 0 32 with | some v => tempCode v | none => 0,
    (s.reg (HI + 0xC0)).toNat, s.rk.corrected, s.host.corrected])) := State.below_mailRead h

theorem mediaStatus_eq_one {r p : Bool} : (if ¬ r = true then 1 else if p = true then 2 else 0) = 1 ↔ r = false := by
  cases r <;> cases p <;> decide

/-- The overflow flag and timestamp of a poison list. -/
def poisonHead (o : Option Nat) : List Nat := match o with | some z => [1, z] | none => [0, 0]

theorem poisonHead_pair (o : Option Nat) : ∃ a b, poisonHead o = [a, b] ∧ (a = 1 ↔ o.isSome = true) := by
  cases o with
  | none => exact ⟨0, 0, rfl, by decide⟩
  | some z => exact ⟨1, z, rfl, by simp⟩

theorem exec_getPoisonList (h : s.MailOpen i) :
    exec (.getPoisonList i) s = .next (s.emit (.cxl i 0x4300 0 (poisonHead (s.ld i).poisonOvf ++ (s.ld i).poison))) := State.below_mailRead h

end

end Sys2Proof.Machine

namespace Sys2Proof.Proofs

open Sys2Proof Sys2Proof.Machine

/-- Settles O46: an open mailbox answers a reading command with what it reads. -/
theorem mailboxReads : Obligations.MailboxReads := by
  intro s i h
  refine ⟨State.below_mailRead h, State.below_mailRead h, State.below_mailRead h, State.below_mailRead h, State.below_mailRead h, State.below_mailRead h,
    State.below_mailRead h, State.below_mailRead h, ?_, State.below_mailRead h, State.below_mailRead h, ?_, ?_, State.below_mailRead h,
    State.below_mailRead h, State.below_mailRead h, fun log hl => ?_, fun log hl => ?_⟩
  · exact ⟨_, exec_getHealthInfo h, _, _, _, _, _, _, _, rfl, rfl, mediaStatus_eq_one, rfl, rfl⟩
  · obtain ⟨a, b, hab, ha⟩ := poisonHead_pair (s.ld i).poisonOvf
    exact ⟨_, exec_getPoisonList h, a, b, by rw [hab]; rfl, ha⟩
  · exact ⟨_, State.below_mailCommand h rfl, _, Nat.mod_lt _ (by decide), rfl, rfl⟩
  · exact State.below_mailCommand h (if_neg (Nat.not_le.mpr hl))
  · exact State.below_mailCommand h (if_pos hl)

end Sys2Proof.Proofs

namespace Sys2Proof.Machine

/-- A log without its oldest records, put back or, when empty, dropped, reads so. -/
theorem Tbl.find_rest {α : Type} (l : Tbl (List α)) (log : Nat) (rest : List α) :
    (Tbl.find (if rest = [] then Tbl.del l log else Tbl.put l log rest) log).getD [] = rest := by
  split
  next h => rw [Tbl.find_del_same, h]; rfl
  · rw [Tbl.find_put_same]; rfl

end Sys2Proof.Machine

namespace Sys2Proof.Proofs

open Sys2Proof Sys2Proof.Machine

/-- Settles O47: each command is answered, and its own change is that of its LD. -/
theorem mailboxWrites : Obligations.MailboxWrites := by
  refine ⟨fun s i stamp h hp => ?_, fun s i stamp h hp => ?_, fun s i log n h hl hn => ?_, fun s i w h => ?_, fun s i a b c h => ?_, fun s i v h => ?_,
    fun s i op h => ?_, fun s i dpa h hf => ?_, fun s u i dpa d h hf hd hw => ?_, fun s u i dpa d data h hd hw => ?_, fun s i hi ht hp hb => ?_⟩
  · exact State.below_mailCommand h (by rw [if_pos hp]; rfl)
  · exact State.below_mailCommand h (by rw [if_neg (by simp [hp])]; rfl)
  · have hc : ¬ (5 ≤ log ∨ ((Tbl.find (s.ld i).logs log).getD []).length < n) := by omega
    refine ⟨_, State.below_mailCommand h (if_neg hc), ?_, ?_, rfl⟩
    · rw [State.ld_emit, State.ld_setLd_same]
      exact Tbl.find_rest _ _ _
    · rw [State.ld_emit, State.ld_setLd_same]
      exact Tbl.find_del_same _ _
  · refine ⟨_, State.below_mailCommand h rfl, ?_⟩
    dsimp only
    rw [State.ld_emit, State.ld_setLd_same]
    exact ⟨rfl, rfl, rfl⟩
  · refine ⟨_, State.below_mailCommand h rfl, ?_⟩
    dsimp only
    rw [State.ld_emit, State.ld_setLd_same]
    exact ⟨rfl, rfl, rfl, rfl⟩
  · refine ⟨_, State.below_mailCommand h rfl, ?_⟩
    dsimp only
    rw [State.ld_emit, State.ld_setLd_same]
    exact ⟨rfl, rfl⟩
  · exact ⟨State.below_mailCommand h rfl, State.below_mailCommand h rfl, State.below_mailCommand h rfl⟩
  · exact State.below_mailCommand h (if_pos (by simp [hf]))
  · refine State.below_mailCommand h ?_
    rw [if_neg (by simp [hf]), hd]
    dsimp only
    rw [hw]
    rfl
  · refine ⟨_, State.below_mailCommand h (t := u.setLd i { u.ld i with poison := (u.ld i).poison.filter fun a => ¬ a / 64 = dpa / 64 }) (rc := 0) (vals := []) ?_, ?_, rfl⟩
    · rw [hd]
      dsimp only
      rw [hw]
      rfl
    · rw [State.ld_emit, State.ld_setLd_same]
      intro a ha
      simpa using (List.mem_filter.mp ha).2
  · change below i 32 s _ = _
    rw [below_of_lt hi, if_neg (by simp [ht, hp])]
    dsimp only
    rw [if_neg hb]
    rfl

end Sys2Proof.Proofs

/-! SUPPORT. Background operations, dynamic capacity and the FM API (O48). -/

namespace Sys2Proof.Machine

section
variable {s t : State} {i : Nat}

/-- A background operation starts where none of the LD's runs. -/
theorem State.background_idle {op : Nat} {k : State → State} (h : (s.ld i).bgState ≠ 1) :
    s.background i op k = (1, [], k (s.setLd i { s.ld i with bgOp := op, bgState := 1 })) := if_neg h

/-- Lark answers an FM command while it runs. -/
theorem State.fmCommand_up {rc : Nat} {vals : List Nat} {k : State → Nat × List Nat × State} (h : s.larkUp = true) (hk : k s = (rc, vals, t)) :
    s.fmCommand k = t.emit (.fm rc vals) := by
  simp [State.fmCommand, h, hk]

theorem State.below_fmCommand {rc : Nat} {vals : List Nat} {k : State → Nat × List Nat × State} (h : s.larkUp = true) (hi : i < 32)
    (hk : k s = (rc, vals, t)) : below i 32 s (.next (s.fmCommand k)) = .next (t.emit (.fm rc vals)) := by
  rw [below_of_lt hi, State.fmCommand_up h hk]

/-! ### A CXL event record leaves the extents -/

theorem State.advanceCounter_host (q c : Nat) : (s.advanceCounter q c).2.host = s.host := by
  unfold State.advanceCounter
  dsimp only
  split
  · rfl
  · split
    · rfl
    · split <;> rfl

theorem State.nextSeq_host : s.nextSeq.2.host = s.host := by
  unfold State.nextSeq
  split
  · rfl
  · exact State.advanceCounter_host _ _

theorem State.stage_host (e : EventRec) : (s.stage e).host = s.host := by
  unfold State.stage
  split
  · rfl
  · dsimp only
    split <;> rfl

theorem State.putRecord_host {code inst p0 p1 : Nat} {dom : Option Nat} : (s.putRecord code inst dom p0 p1).host = s.host := by
  have hemit (t : State) (c : Prop) [Decidable c] (x : Out) : (if c then t.emit x else t).host = t.host := by
    split <;> rfl
  unfold State.putRecord
  rw [((State.Counted.refl _).countGlobal).same]
  exact (hemit _ _ _).trans ((hemit _ _ _).trans (State.stage_host _))

theorem State.record_host {code inst p0 p1 : Nat} {dom : Option Nat} : (s.record code inst dom p0 p1).host = s.host := by
  rcases State.record_eq (s := s) (code := code) (inst := inst) (dom := dom) (p0 := p0) (p1 := p1) with h | ⟨x, h⟩
  · rw [h, State.putRecord_host, State.nextSeq_host]
  · rw [h, State.putRecord_host, State.putRecord_host, State.nextSeq_host]

theorem State.recordOnce_host {key code inst p0 p1 : Nat} {dom : Option Nat} : (s.recordOnce key code inst dom p0 p1).host = s.host := by
  unfold State.recordOnce
  split
  · rfl
  · exact State.record_host

theorem State.cxlRecord_extents {log code p0 : Nat} : ((s.cxlRecord i log code p0).ld i).extents = (s.ld i).extents := by
  unfold State.cxlRecord
  dsimp only
  split
  · split
    · rw [State.ld_emit, State.ld_setLd_same]
    · rw [State.ld_setLd_same]
  · rw [State.ld, State.recordOnce_host]
    change ((s.setLd i _).ld i).extents = _
    rw [State.ld_setLd_same]

/-- A scan that has read its lines out ends. -/
theorem exec_backgroundOpComplete_scan (hi : i < 32) (hb : (s.ld i).bgState = 1) (ho : (s.ld i).bgOp = 0x4304) (hd : s.bgDone i = true) :
    exec (.backgroundOpComplete i) s = .next ((s.setLd i { s.ld i with bgState := 2 }).emit (.hostMsix i 1)) := by
  change execBackgroundOpComplete i s = _
  rw [execBackgroundOpComplete, below_of_lt hi]
  simp [hb, ho, hd]

end

end Sys2Proof.Machine

namespace Sys2Proof.Proofs

open Sys2Proof Sys2Proof.Machine

/-- Settles O48: the mailbox and the FM API answer, and the extents and regions of the LD change as asked. -/
theorem capacityCommands : Obligations.CapacityCommands := by
  refine ⟨fun s i dpa n h hb hr => ?_, fun s i h hb => ?_, fun s i h hb => ?_, fun s i hi hb ho hd => ?_, fun s i d e h he hd hs => ⟨?_, ?_⟩,
    fun s i d e h he hd hs => ?_, fun s i d e hi hd hv he hde hs hl hr => ?_, fun s h => ⟨?_, ?_⟩, fun s i n h hi => ?_,
    fun s i k b n h hi hk hn hb hr => ?_, fun s i k b h hi hk => ?_, fun s i d n r h hi hd hv hl hsz hr hlo hhi hne => ?_,
    fun s i d e h hi hsan hf hs => ?_, fun s i d e h hi hsan hf hs => ?_⟩
  · exact ⟨_, State.below_mailCommand h ((if_neg (Nat.not_lt.mpr hr)).trans (State.background_idle hb)), rfl⟩
  · exact State.below_mailCommand h (State.background_idle hb)
  · exact ⟨_, State.below_mailCommand h (State.background_idle hb), rfl⟩
  · refine ⟨_, exec_backgroundOpComplete_scan hi hb ho hd, ?_, rfl, rfl⟩
    rw [State.ld_emit, State.ld_setLd_same]
  · have hany : (s.ld i).extents.any (fun e => decide (e.dom = d) && decide (e.st = 0)) = true := List.any_eq_true.mpr ⟨e, he, by simp [hd, hs]⟩
    refine ⟨_, State.below_mailCommand h ((if_pos hany).trans rfl), ?_, rfl⟩
    rw [State.ld_emit, State.setExtents, State.ld_setLd_same]
    intro x hx
    obtain ⟨y, -, rfl⟩ := List.mem_map.mp hx
    split <;> simp_all
  · have hany : (s.ld i).extents.any (fun e => decide (e.dom = d) && decide (e.st = 0)) = true := List.any_eq_true.mpr ⟨e, he, by simp [hd, hs]⟩
    refine ⟨_, State.below_mailCommand h ((if_pos hany).trans rfl), ?_, rfl⟩
    rw [State.ld_emit, State.setExtents, State.ld_setLd_same]
    intro x hx
    simpa using (List.mem_filter.mp hx).2
  · have hany : (s.ld i).extents.any (fun e => decide (e.dom = d) && decide (e.st = 1)) = true := List.any_eq_true.mpr ⟨e, he, by simp [hd, hs]⟩
    refine ⟨_, State.below_mailCommand h (if_pos hany), ?_, rfl⟩
    rw [State.ld_emit, State.cxlRecord_extents, State.setExtents, State.ld_setLd_same]
    intro x hx
    obtain ⟨y, -, rfl⟩ := List.mem_map.mp hx
    split <;> simp_all
  · have hany : (s.ld i).extents.any (fun e => decide (e.dom = d) && decide (e.st = 2)) = true := List.any_eq_true.mpr ⟨e, he, by simp [hde, hs]⟩
    have hreq : ¬ s.host.reqs.any (fun r => decide (r.dom = d)) = true := by simpa using hr
    exact (below_of_lt hi).trans (congrArg Host.Outcome.next (if_pos ⟨hv, hany, hl, hreq⟩))
  · exact congrArg Host.Outcome.next (State.fmCommand_up h rfl)
  · exact congrArg Host.Outcome.next (State.fmCommand_up h rfl)
  · exact congrArg Host.Outcome.next (State.fmCommand_up h (if_neg (Nat.not_le.mpr hi)))
  · have hapart : ¬ (b < s.ldStatic i ∨ ((s.ld i).regions.filter fun r => ¬ r.1 = k).any
        (fun r => decide (r.2.1 < b + n) && decide (b < r.2.1 + r.2.2)) = true) := by
      rw [not_or, List.any_eq_true]
      refine ⟨Nat.not_lt.mpr hb, fun ⟨r, hm, hover⟩ => ?_⟩
      obtain ⟨hmem, hne⟩ := List.mem_filter.mp hm
      simp only [Bool.and_eq_true, decide_eq_true_eq] at hover
      rcases hr r hmem (by simpa using hne) with h1 | h1 <;> omega
    refine ⟨_, State.below_fmCommand h hi ((if_neg (Nat.not_le.mpr hk)).trans ((if_neg (by omega)).trans (if_neg hapart))), ?_, rfl⟩
    rw [State.ld_emit, State.ld_setLd_same]
    exact Tbl.find_put_same _ _ _
  · refine ⟨_, State.below_fmCommand h hi ((if_neg (Nat.not_le.mpr hk)).trans (if_pos rfl)), ?_, rfl⟩
    rw [State.ld_emit, State.ld_setLd_same]
    intro r hr
    simpa using (List.mem_filter.mp hr).2
  · have hfits : (decide (d < 4096) && s.domValid d && decide (s.domLd d = i) &&
        decide (s.fld (QD + d * 0x20 + 4) 23 0 = s.fld (QD + d * 0x20 + 4) 23 0) &&
        decide (s.fld (QD + d * 0x20 + 8) 23 0 = s.fld (QD + d * 0x20 + 4) 23 0 + n)) = true := by simp [hd, hv, hl, hsz]
    have hregion : (s.ld i).regions.any (fun r => decide (r.2.1 * 256 ≤ s.fld (QD + d * 0x20 + 4) 23 0) &&
        decide (s.fld (QD + d * 0x20 + 4) 23 0 + n ≤ (r.2.1 + r.2.2) * 256)) = true := List.any_eq_true.mpr ⟨r, hr, by simp [hlo, hhi]⟩
    have hnew : ¬ (s.ld i).extents.any (fun e => decide (e.dom = d)) = true := by simpa using hne
    refine ⟨_, State.below_fmCommand h hi (if_pos ⟨hfits, hregion, hnew⟩), ?_, rfl⟩
    rw [State.ld_emit, State.cxlRecord_extents, State.setExtents, State.ld_setLd_same]
  · refine ⟨_, State.below_fmCommand h hi (t := s.setExtents i ((s.ld i).extents.filter fun x => ¬ x.dom = d)) (rc := 0) (vals := []) ?_, ?_, rfl⟩
    · rw [if_neg (by simp [hsan]), hf]
      exact if_pos hs
    · rw [State.ld_emit, State.setExtents, State.ld_setLd_same]
      intro x hx
      simpa using (List.mem_filter.mp hx).2
  · refine State.below_fmCommand h hi ?_
    rw [if_neg (by simp [hsan]), hf]
    exact if_neg hs

end Sys2Proof.Proofs

/-! SUPPORT. The registers of a mailbox set (O24). -/

namespace Sys2Proof.Machine

/-- The registers that posts, releases and doorbells of MB k write. -/
def postReg (k o : Nat) : Prop := o = mbOff k + 8 ∨ o = mbOff k + 0x0C ∨ o = mbOff k + 0x1C ∨ o = mbOff k + 0x24 ∨ o = CP + 0x20

/-- `t` is `s` but for those registers, the notices kept back and what is sent out. -/
structure State.InBox (k : Nat) (s t : State) : Prop where
  same : t = { s with regs := t.regs, lark := { s.lark with kept := t.lark.kept }, out := t.out }
  reg : ∀ o, ¬ postReg k o → t.reg o = s.reg o

section
variable {a s t : State} {k o : Nat} {who : Requester} {v : Word}

theorem State.InBox.refl (s : State) : State.InBox k s s := ⟨rfl, fun _ _ => rfl⟩

theorem State.InBox.trans (h : State.InBox k a s) (h' : State.InBox k s t) : State.InBox k a t :=
  ⟨by rw [h'.same, h.same], fun o ho => (h'.reg o ho).trans (h.reg o ho)⟩

theorem State.InBox.setReg (h : State.InBox k a s) (ho : postReg k o) : State.InBox k a (s.setReg o v) :=
  h.trans ⟨rfl, fun _ ho' => State.reg_setReg_other _ _ _ _ fun e => ho' (e ▸ ho)⟩

theorem State.InBox.setBit {b : Nat} {x : Bool} (h : State.InBox k a s) (ho : postReg k o) : State.InBox k a (s.setBit o b x) := h.setReg ho

theorem State.InBox.bump {hi lo n : Nat} (h : State.InBox k a s) (ho : postReg k o) : State.InBox k a (s.bump o hi lo n) := h.setReg ho

theorem State.InBox.emit {x : Out} (h : State.InBox k a s) : State.InBox k a (s.emit x) := h.trans ⟨rfl, fun _ _ => rfl⟩

theorem State.InBox.setKept {l : List (Nat × Word)} (h : State.InBox k a s) : State.InBox k a { s with lark := { s.lark with kept := l } } :=
  h.trans (t := { s with lark := { s.lark with kept := l } }) ⟨rfl, fun _ _ => rfl⟩

theorem State.InBox.commonsRefuse (h : State.InBox k a s) : State.InBox k a (s.commonsRefuse who true) := by
  unfold State.commonsRefuse
  rw [if_pos rfl]
  split
  · exact h.emit
  · exact h

theorem State.InBox.post (h : State.InBox k a s) : State.InBox k a (s.post k v) :=
  ((h.setReg (.inl rfl)).setBit (.inr (.inl rfl))).setBit (.inr (.inr (.inr (.inl rfl))))

theorem State.InBox.rejectPost (h : State.InBox k a s) : State.InBox k a (s.rejectPost who k v) := by
  have hcount : postReg k (CP + 0x20) := .inr (.inr (.inr (.inr rfl)))
  unfold State.rejectPost
  split
  · exact ((h.setBit (.inr (.inl rfl))).bump hcount).emit
  · exact ((h.setBit (.inr (.inl rfl))).bump hcount).emit
  · exact h.emit
  · exact (h.bump hcount).setKept
  · exact h.bump hcount
  · exact h.bump hcount

theorem State.InBox.outRelease (h : State.InBox k a s) : State.InBox k a (s.outRelease k) := by
  unfold State.outRelease
  split
  · exact (h.setBit (.inr (.inr (.inl rfl)))).setBit (.inr (.inr (.inr (.inl rfl))))
  · exact h

theorem State.InBox.doorbellIn (h : State.InBox k a s) : State.InBox k a (s.doorbellIn k v) := h.setReg (.inr (.inr (.inr (.inl rfl))))

theorem State.InBox.mailboxWrite {f : State → State} (hf : State.InBox k s (f s)) : State.InBox k s (s.mailboxWrite who k f) := by
  unfold State.mailboxWrite
  split
  · exact .refl s
  split
  · exact hf
  · exact (State.InBox.refl s).commonsRefuse

theorem State.InBox.noticeRetry (ht : execInternalNoticeRetry k s = .next t) : State.InBox k s t := by
  unfold execInternalNoticeRetry below at ht
  split at ht
  · cases ht
    split
    · exact .refl s
    split
    · exact .refl s
    split
    · exact (State.InBox.refl s).bump (.inr (.inr (.inr (.inr rfl))))
    · exact (State.InBox.refl s).setKept.post
  · cases ht
    exact .refl s

/-- A row bounded by the number of mailboxes does what its state does, or nothing. -/
theorem State.InBox.of_below {n : Nat} {u : State} (h : State.InBox k s u) (ht : below k n s (.next u) = .next t) : State.InBox k s t := by
  unfold below at ht
  split at ht
  · cases ht
    exact h
  · cases ht
    exact .refl s

theorem State.SameBytes.of_eq (hc : t.rk.commons = s.rk.commons) (ho : t.sd.ownerData = s.sd.ownerData) (ha : t.lark.slotA = s.lark.slotA)
    (hb : t.lark.slotB = s.lark.slotB) : State.SameBytes s t := by
  refine ⟨fun x => ?_, fun x => ?_, fun x => ?_, fun x => ?_⟩
  · rw [hc]
  · rw [ho]
  · rw [ha]
  · rw [hb]

end

end Sys2Proof.Machine

namespace Sys2Proof.Proofs

open Sys2Proof Sys2Proof.Machine

/-- Settles O24: each row is a mailboxWrite of one of the four, or the retry of a notice, and stays in its set. -/
theorem framePosts : Obligations.FramePosts := by
  intro s t who k v c hc ht
  have h : State.InBox k s t := by
    simp only [List.mem_cons, List.not_mem_nil, or_false] at hc
    rcases hc with rfl | rfl | rfl | rfl
    · refine State.InBox.of_below (.mailboxWrite ?_) ht
      split
      · exact (State.InBox.refl s).rejectPost
      · exact (State.InBox.refl s).post
    · exact State.InBox.of_below (.mailboxWrite (State.InBox.refl s).outRelease) ht
    · exact State.InBox.of_below (.mailboxWrite (State.InBox.refl s).doorbellIn) ht
    · exact State.InBox.noticeRetry ht
  obtain ⟨hsame, hreg⟩ := h
  refine ⟨fun o h8 hc h1c h24 hcp => hreg o (by simp [postReg, h8, hc, h1c, h24, hcp]), ?_⟩
  rw [hsame]
  exact ⟨.of_eq rfl rfl rfl rfl, rfl, rfl, rfl, rfl, rfl, rfl, rfl, rfl, rfl, rfl, rfl⟩

end Sys2Proof.Proofs

/-! SUPPORT. Channel links (O25, O30). -/

namespace Sys2Proof.Machine

/-! ### Reading a channel -/

section
variable {s t : State} {c k : Nat} {x : Chan}

@[simp] theorem State.chan_setChan_same : (s.setChan c x).chan c = x := Tbl.get_set_same _ _ _ _

theorem State.chan_setChan_other (h : k ≠ c) : (s.setChan c x).chan k = s.chan k := Tbl.get_set_other _ _ _ _ _ h

theorem State.chan_of_media (h : t.media = s.media) : t.chan k = s.chan k := by rw [State.chan, State.chan, h]

@[simp] theorem State.chan_event {code inst p0 p1 : Nat} {dom : Option Nat} : (s.event code inst dom p0 p1).chan k = s.chan k :=
  State.chan_of_media (State.event_logs s code inst dom p0 p1).media

@[simp] theorem State.chanState_setChan {j : Nat} : (s.setChan c x).chanState j = s.chanState j := rfl

@[simp] theorem State.chanState_setChanState_same {n : Nat} : (s.setChanState c n).chanState c = n % 16 :=
  State.fld_setFld_same s _ _ _ _ (by decide) (by decide)

@[simp] theorem State.chan_setReg {o : Nat} {v : Word} : (s.setReg o v).chan k = s.chan k := rfl

theorem State.Counted.chan (h : s.Counted t) : t.chan k = s.chan k := State.chan_of_media (by rw [h.same])

theorem State.Counted.fld (h : s.Counted t) {o hi lo : Nat} (ho : o < PM ∨ PM + 0x1000 ≤ o) : t.fld o hi lo = s.fld o hi lo := by
  rw [State.fld, State.fld, h.reg o ho]

end

/-! ### What stays in a channel -/

/-- A register of channel `c`, or one that recording and counting write. -/
def chanReg (c o : Nat) : Prop := (MC + c * 0x1000 ≤ o ∧ o < MC + c * 0x1000 + 0x1000) ∨ recorderReg o = true

/-- `t` is `s` but for channel `c`, its registers, its temperature time and what recording and counting change. -/
structure State.InChan (c : Nat) (s t : State) : Prop where
  same : t = { s with
    regs := t.regs, media := { s.media with chans := t.media.chans }, th := { s.th with tempTick := t.th.tempTick }
    ev := t.ev, host := { s.host with lds := t.host.lds }, pm := t.pm, sd := { s.sd with spread := t.sd.spread, moved := t.sd.moved }, out := t.out }
  reg : ∀ o, ¬ chanReg c o → t.reg o = s.reg o
  chan : ∀ k, k ≠ c → t.chan k = s.chan k

section
variable {a s t : State} {c o : Nat}

theorem recorderReg_of_not_quiet (h : ¬ quietReg o) : recorderReg o = true := by
  simp only [quietReg, recorderReg, Bool.or_eq_true, Bool.and_eq_true, decide_eq_true_eq] at *
  omega

theorem quietReg_of_not_chanReg (h : ¬ chanReg c o) : quietReg o :=
  Classical.by_contradiction fun hq => h (.inr (recorderReg_of_not_quiet hq))

theorem State.InChan.refl (s : State) : State.InChan c s s := ⟨rfl, fun _ _ => rfl, fun _ _ => rfl⟩

theorem State.InChan.trans (h : State.InChan c a s) (k : State.InChan c s t) : State.InChan c a t :=
  ⟨by rw [k.same, h.same], fun o ho => (k.reg o ho).trans (h.reg o ho), fun j hj => (k.chan j hj).trans (h.chan j hj)⟩

theorem State.InChan.ite {p : Prop} [Decidable p] (h : State.InChan c a s) (k : State.InChan c a t) : State.InChan c a (if p then s else t) := by
  split <;> assumption

theorem State.InChan.foldl {α : Type} {f : State → α → State} {l : List α} (h : State.InChan c a s) (hf : ∀ t x, State.InChan c t (f t x)) :
    State.InChan c a (l.foldl f s) := by
  induction l generalizing s with
  | nil => exact h
  | cons x l ih => exact ih (h.trans (hf s x))

theorem State.InChan.logs (h : State.InChan c a s) (k : State.Logs s t) : State.InChan c a t := by
  refine h.trans ⟨?_, fun o ho => k.reg o (quietReg_of_not_chanReg ho), fun j _ => State.chan_of_media k.media⟩
  obtain ⟨pending, regs, latches, holds, tb, media, codes, tp, log, df, wb, host, rk, gx, qs, lark, sw, pw, th, ev, mt, pm, sd, pins, out, free⟩ := t
  obtain ⟨h1, h2, h3, h4, h5, h6, h7, h8, h9, h10, h11, h12, h13, h14, h15, h16, h17, h18, h19, h20, -, -, -, -, -, -, -, hh, hs, -⟩ := k
  dsimp only at *
  subst h1 h2 h3 h4 h5 h6 h7 h8 h9 h10 h11 h12 h13 h14 h15 h16 h17 h18 h19 h20
  have hhost : host = { s.host with lds := host.lds } := by rw [← hh]
  have hseed : sd = { s.sd with spread := sd.spread, moved := sd.moved } := by rw [← hs]
  rw [← hhost, ← hseed]

theorem State.InChan.setChan {x : Chan} (h : State.InChan c a s) : State.InChan c a (s.setChan c x) :=
  h.trans ⟨rfl, fun _ _ => rfl, fun _ hk => State.chan_setChan_other hk⟩

theorem State.InChan.setReg {v : Word} (h : State.InChan c a s) (ho : chanReg c o) : State.InChan c a (s.setReg o v) :=
  h.trans ⟨rfl, fun _ ho' => State.reg_setReg_other _ _ _ _ fun e => ho' (e ▸ ho), fun _ _ => rfl⟩

theorem State.InChan.setFld {hi lo x : Nat} (h : State.InChan c a s) (ho : chanReg c o) : State.InChan c a (s.setFld o hi lo x) := h.setReg ho
theorem State.InChan.bump {hi lo n : Nat} (h : State.InChan c a s) (ho : chanReg c o) : State.InChan c a (s.bump o hi lo n) := h.setReg ho

theorem chanReg_offset {j : Nat} (hj : j < 0x1000) : chanReg c (MC + c * 0x1000 + j) := .inl ⟨by omega, by omega⟩

theorem State.InChan.setChanState {x : Nat} (h : State.InChan c a s) : State.InChan c a (s.setChanState c x) := h.setFld (chanReg_offset (by decide))

theorem State.InChan.setTemp {tt : Tbl Nat} (h : State.InChan c a s) : State.InChan c a { s with th := { s.th with tempTick := tt } } :=
  h.trans (t := { s with th := { s.th with tempTick := tt } }) ⟨rfl, fun _ _ => rfl, fun _ _ => rfl⟩

theorem State.InChan.emit {x : Out} (h : State.InChan c a s) : State.InChan c a (s.emit x) := h.trans ⟨rfl, fun _ _ => rfl, fun _ _ => rfl⟩

theorem State.InChan.count {b e i n : Nat} (h : State.InChan c a s) (hb : b < 12) : State.InChan c a (s.count b e i n) :=
  h.logs (State.count_logs (State.Logs.refl s) b e i n hb)

theorem State.InChan.event {code inst p0 p1 : Nat} {dom : Option Nat} (h : State.InChan c a s) : State.InChan c a (s.event code inst dom p0 p1) :=
  h.logs (State.event_logs s code inst dom p0 p1)

theorem State.InChan.retrain (h : State.InChan c a s) : State.InChan c a (s.retrain c) := .ite h.setChan.setChanState.event h

theorem State.InChan.sendAck {r : Bool} (h : State.InChan c a s) : State.InChan c a (s.sendAck c r) := h.setChan

theorem State.InChan.resent {l : List (Nat × List Byte)} (hc : c < 40) (h : State.InChan c a s) :
    State.InChan c a (((l.foldl (fun (t : State) f => t.emit (.flit c (flitBytes f.1 f.2))) s).bump (MC + c * 0x1000 + 0x18) 31 16 1).count
      (2 + c / 8) 0x67 (c % 8) 1) :=
  ((h.foldl fun t _ => (State.InChan.refl t).emit).bump (chanReg_offset (by decide))).count (by omega)

theorem State.InChan.replay {n : Nat} (hc : c < 40) (h : State.InChan c a s) : State.InChan c a (s.replay c n) :=
  .ite (h.setChan.resent hc).retrain (h.setChan.resent hc)

theorem State.InChan.ackTaken {n : Nat} {r : Bool} (hc : c < 40) (h : State.InChan c a s) : State.InChan c a (s.ackTaken c n r) :=
  .ite (h.setChan.replay hc) h.setChan

theorem State.InChan.replayAll (h : State.InChan c a s) : State.InChan c a (s.replayAll c) := by
  refine h.foldl fun t f => ?_
  split
  · exact (State.InChan.refl t).setChan
  · exact (State.InChan.refl t).setChan
  · exact (State.InChan.refl t).setChan
  · exact (State.InChan.refl t).setChan
  · exact .ite (State.InChan.refl t).setChan ((State.InChan.refl t).foldl fun u _ => (State.InChan.refl u).setChan)
  · exact .ite (State.InChan.refl t).setChan ((State.InChan.refl t).foldl fun u _ => (State.InChan.refl u).setChan)
  all_goals exact .refl t

theorem State.InChan.configDone (h : State.InChan c a s) : State.InChan c a (s.configDone c) := .ite h.setTemp.setChanState.replayAll h

theorem State.InChan.of_below {u : State} (h : c < 40 → State.InChan c s u) (ht : below c 40 s (.next u) = .next t) : State.InChan c s t := by
  unfold below at ht
  split at ht
  · cases ht
    exact h ‹_›
  · cases ht
    exact .refl s

/-- A flit out of sequence, or not intact, is answered with a replay request. -/
theorem execFlitReceive_discard {f : List Byte} (hc : c < 40) (h : flitIntact f = true → (f.getD 29 0).toNat ≠ (s.chan c).link.rxSeq) :
    execFlitReceive c f s =
      .next ((if flitIntact f then s else (s.bump (MC + c * 0x1000 + 0x18) 15 0 1).count (2 + c / 8) 0x66 (c % 8) 1).sendAck c true) := by
  rw [execFlitReceive, below_of_lt hc]
  dsimp only
  rw [if_neg fun k => h k.1 k.2]

theorem State.InChan.discarded {f : List Byte} (hc : c < 40) :
    State.InChan c s (if flitIntact f then s else (s.bump (MC + c * 0x1000 + 0x18) 15 0 1).count (2 + c / 8) 0x66 (c % 8) 1) :=
  .ite (.refl s) (((State.InChan.refl s).bump (chanReg_offset (by decide))).count (by omega))

end

end Sys2Proof.Machine

namespace Sys2Proof.Proofs

open Sys2Proof Sys2Proof.Machine

/-- Settles O25: every row of the link works on its own channel, records and counts. -/
theorem frameLinks : Obligations.FrameLinks := by
  intro s t c n r f hf i hi ht
  have h : State.InChan c s t := by
    simp only [List.mem_cons, List.not_mem_nil, or_false] at hi
    rcases hi with rfl | rfl | rfl | rfl | rfl | rfl | rfl
    · exact .of_below (fun _ => .ite (State.InChan.refl s).setChan.emit (.refl s)) ht
    · by_cases hc : c < 40
      · change execFlitReceive c f s = _ at ht
        rw [execFlitReceive_discard hc hf] at ht
        cases ht
        exact (State.InChan.discarded hc).sendAck
      · exact .of_below (fun k => absurd k hc) ht
    · exact .of_below (fun hc => (State.InChan.refl s).ackTaken hc) ht
    · exact .of_below (fun _ => .ite (State.InChan.refl s).sendAck (.refl s)) ht
    · refine .of_below (fun hc => ?_) ht
      split
      · exact .refl s
      · exact (State.InChan.refl s).replay hc
    · exact .of_below (fun _ => (State.InChan.refl s).retrain) ht
    · exact .of_below (fun _ => .ite (State.InChan.refl s).setChan.setChanState.configDone (.refl s)) ht
  refine ⟨h.chan, fun o ho hr => h.reg o fun k => ?_, ?_⟩
  · exact k.elim ho (by simp [hr])
  · rw [h.same]
    exact ⟨.of_eq rfl rfl rfl rfl, rfl, rfl, rfl, rfl, rfl, rfl, rfl⟩

end Sys2Proof.Proofs

namespace Sys2Proof.Machine

/-! ### What each row of the link leaves (O30) -/

theorem Completes.intro {i : Instr} {s t : State} {P : State → Prop} (h : exec i s = .next t) (hp : P t) : Completes i s P := ⟨t, h, hp⟩

section
variable {a s t : State} {c i n : Nat} {m : MCmd} {f : List Byte}

theorem State.InChan.slotStart (hc : c < 40) (h : State.InChan c a s) : State.InChan c a (s.slotStart c) := by
  have hocc : State.InChan c s (s.slotOccupancy c) := (((State.InChan.refl s).count (by omega)).count (by omega)).count (by omega)
  refine (h.trans (hocc.foldl fun t p => ?_)).setChan
  split
  · exact .refl t
  · exact .ite (.refl t) (State.InChan.refl t).setChan

theorem State.Counted.slotCount {k : Nat} (hc : c < 40) (h : a.Counted s) : a.Counted (s.slotCount c k) := by
  unfold State.slotCount
  split
  · exact State.Counted.count (by omega) h.setPm
  · exact h

theorem State.slotCount_chan {k : Nat} (hc : c < 40) : (s.slotCount c k).chan c = s.chan c := ((State.Counted.refl s).slotCount hc).chan

theorem State.handOver_grant (hc : c < 40) : ((s.handOver c m).chan c).grant = none ∧ (s.handOver c m).flag (MC + c * 0x1000 + 4) 3 = false := by
  unfold State.handOver
  dsimp only
  refine ⟨?_, ?_⟩
  · rw [State.slotCount_chan hc, State.setBit, State.setFld, State.chan_setReg, State.chan_setChan_same]
  · rw [State.flag, ((State.Counted.refl _).slotCount hc).fld (.inl (by simp only [MC, PM]; omega))]
    exact State.flag_setBit_same _ _ _ _ (by decide)

theorem State.holdGrant_grant {e : Nat} (hc : c < 40) : ((s.holdGrant c i e).chan c).grant = some (i, e, s.tb.tick) := by
  have htb : (s.showGrant c i).tb = s.tb := by
    rw [State.showGrant, (State.count_logs (State.Logs.refl _) _ _ _ _ (by omega)).tb]
    rfl
  unfold State.holdGrant
  dsimp only
  rw [State.slotCount_chan hc, State.setBit, State.setFld, State.chan_setReg, State.chan_setChan_same, htb]

/-- With nothing granted, an engine that asks and the background not held back, the slot goes to the highest input that asks. -/
theorem execIssueSlot_ask {hands : Bool} (hc : c < 40) (hg : ((s.slotStart c).chan c).grant = none)
    (hb : ¬ (((s.slotStart c).heads c).any (fun p => (s.slotStart c).bucketHolds p.2)) = true) (hr : (s.slotStart c).linkReady c = true)
    (ha : (s.slotStart c).nextAsk c = some (i, m)) :
    execIssueSlot ⟨c, hands⟩ s = .next (if hands then (s.slotStart c).grant c i m else (s.slotStart c).holdGrant c i m.eng) := by
  rw [execIssueSlot, below_of_lt hc]
  dsimp only
  rw [if_neg hb, State.slotTurn, hg]
  dsimp only
  rw [if_pos hr, ha]

theorem execFlitPeriod_send (hc : c < 40) (hs : s.chanState c = 3 ∨ s.chanState c = 4) (hu : (s.chan c).link.unacked.length < 64) :
    execFlitPeriod c s = .next ((s.setChan c { s.chan c with link := (s.chan c).link.sent }).emit
      (.flit c (flitBytes (s.chan c).link.txSeq (s.chan c).link.payload))) := by
  rw [execFlitPeriod, below_of_lt hc]
  dsimp only
  rw [if_pos ⟨hs, hu⟩]

theorem Link.length_payload (l : Link) : l.payload.length = 29 := by
  simp [Link.payload]

theorem Link.payload_getD {k : Nat} (l : Link) (hk : k < 29) : l.payload.getD k 0 = l.tx.flatten.getD k 0 := by
  unfold Link.payload
  dsimp only
  by_cases h : k < l.tx.flatten.length
  · rw [List.getD_append _ _ _ _ (by simp [-List.length_flatten]; omega), List.getD_eq_getElem?_getD, List.getElem?_take_of_lt hk, ← List.getD_eq_getElem?_getD]
  · rw [List.getD_append_right _ _ _ _ (by simp [-List.length_flatten]; omega), List.getD_eq_getElem?_getD, List.getElem?_replicate,
      List.getD_eq_default _ _ (by omega)]
    split <;> rfl

/-- A message of one zero byte is a pad. -/
theorem State.chanMessage_pad : s.chanMessage c [0] = s := rfl

/-- Pads are taken off the received stream and change nothing else of the channel, nor send anything. -/
theorem State.deframe_pads (h : ∀ b ∈ (s.chan c).link.rxBytes, b = 0) (hn : (s.chan c).link.rxBytes.length ≤ n) :
    (State.deframe c n s).chan c = { s.chan c with link := { (s.chan c).link with rxBytes := [] } } ∧ (State.deframe c n s).out = s.out := by
  have hnil (s : State) (hr : (s.chan c).link.rxBytes = []) : s.chan c = { s.chan c with link := { (s.chan c).link with rxBytes := [] } } := by rw [← hr]
  induction n generalizing s with
  | zero => exact ⟨hnil s (List.length_eq_zero_iff.mp (Nat.le_zero.mp hn)), rfl⟩
  | succ n ih =>
    cases hr : (s.chan c).link.rxBytes with
    | nil =>
      rw [State.deframe, if_pos (.inl hr)]
      exact ⟨hnil s hr, rfl⟩
    | cons b r =>
      rw [hr] at h hn
      obtain rfl : b = 0 := h b (by simp)
      have hlen : messageLen ((0 : Byte) :: r |>.getD 0 0).toNat = 1 := rfl
      rw [State.deframe, hr]
      dsimp only
      rw [hlen, if_neg (by simp), List.drop_one, List.tail_cons, List.take_one]
      dsimp only [List.head?_cons, Option.toList_some]
      rw [State.chanMessage_pad]
      have hi := ih (s := s.setChan c { s.chan c with link := { (s.chan c).link with rxBytes := r } })
        (by rw [State.chan_setChan_same]; exact fun b hb => h b (by simp [hb]))
        (by rw [State.chan_setChan_same]; simpa using hn)
      rw [State.chan_setChan_same] at hi
      exact hi

/-- A flit in sequence that holds pads alone is accepted. -/
theorem execFlitReceive_pads (hc : c < 40) (hl : f.length = 32) (hcrc : leNat (f.drop 30) = crc16 0x8BB7 (f.take 30))
    (hs : (f.getD 29 0).toNat = (s.chan c).link.rxSeq) (hz : ∀ b ∈ f.take 29, b = 0) (hr : (s.chan c).link.rxBytes = []) (hp : (s.chan c).link.rxPending < 15) :
    ∃ t, execFlitReceive c f s = .next t ∧
      t.chan c = { s.chan c with link := { (s.chan c).link.accepted f with rxBytes := [] } } ∧ t.out = s.out := by
  have hgood : flitIntact f = true := by simp [flitIntact, hl, hcrc]
  have hpend : ¬ 16 ≤ ((s.chan c).link.accepted f).rxPending := Nat.not_le.mpr (Nat.succ_lt_succ hp)
  have hbytes : ((s.chan c).link.accepted f).rxBytes = f.take 29 := by rw [Link.accepted, hr, List.nil_append]
  have hd := State.deframe_pads (s := s.setChan c { s.chan c with link := (s.chan c).link.accepted f })
    (n := ((s.chan c).link.accepted f).rxBytes.length)
    (by rw [State.chan_setChan_same]; dsimp only; rwa [hbytes]) (by rw [State.chan_setChan_same])
  rw [State.chan_setChan_same] at hd
  refine ⟨_, ?_, hd⟩
  rw [execFlitReceive, below_of_lt hc]
  dsimp only
  rw [if_pos ⟨hgood, hs⟩, if_neg hpend]

theorem mem_ack_tx (l : Link) (r : Bool) : [0x7E, BitVec.ofNat 8 l.rxSeq, if r then 1 else 0] ∈ (l.ack r).tx := by
  unfold Link.ack
  dsimp only
  split
  · split <;> simp [leBytes]
  · simp [leBytes]

theorem State.discarded_chan (hc : c < 40) :
    (if flitIntact f then s else (s.bump (MC + c * 0x1000 + 0x18) 15 0 1).count (2 + c / 8) 0x66 (c % 8) 1).chan c = s.chan c := by
  split
  · rfl
  · exact (State.Counted.count (by omega) (State.Counted.refl _)).chan

theorem Link.acked_of_mem {l : Link} (h : ∃ f ∈ l.unacked, (f.1 + 1) % 256 = n % 256) :
    l.acked n = { l with unacked := l.unacked.drop (l.unacked.findIdx (fun f => decide ((f.1 + 1) % 256 = n % 256)) + 1), replays := 0, replayMark := none } := by
  refine if_pos (List.findIdx_lt_length_of_exists ?_)
  simpa using h

theorem Link.acked_of_not_mem {l : Link} (h : ∀ f ∈ l.unacked, (f.1 + 1) % 256 ≠ n % 256) : l.acked n = l := by
  refine if_neg (Nat.not_lt.mpr (Nat.le_of_eq (List.findIdx_eq_length.mpr ?_).symm))
  simpa using h

/-! ### Replays and retraining -/

theorem State.retrain_in (hs : s.chanState c = 3 ∨ s.chanState c = 4) :
    s.retrain c = ((s.setChan c { s.chan c with before := s.chanState c }).setChanState c 5).event 0x1101 c none c 0 := if_pos hs

theorem quietReg_chan {o : Nat} (h : ∃ j < 0x1000, o = MC + c * 0x1000 + j) (hc : c < 40) : quietReg o := by
  obtain ⟨j, hj, rfl⟩ := h
  simp only [quietReg, MC, EV, HI, PM]
  omega

theorem State.Logs.chanState (hc : c < 40) (h : State.Logs s t) : t.chanState c = s.chanState c := by
  rw [State.chanState, State.fld, h.reg _ (quietReg_chan ⟨4, by decide, rfl⟩ hc)]
  rfl

theorem State.retrain_state (hc : c < 40) (hs : s.chanState c = 3 ∨ s.chanState c = 4) :
    (s.retrain c).chanState c = 5 ∧ ((s.retrain c).chan c).before = s.chanState c := by
  rw [State.retrain_in hs, (State.event_logs _ _ _ _ _ _).chanState hc, State.chanState_setChanState_same, State.chan_event, State.setChanState,
    State.setFld, State.chan_setReg, State.chan_setChan_same]
  exact ⟨rfl, rfl⟩

theorem State.retrain_link : ((s.retrain c).chan c).link = (s.chan c).link := by
  unfold State.retrain
  split
  · rw [State.chan_event, State.setChanState, State.setFld, State.chan_setReg, State.chan_setChan_same]
  · rfl

/-- What a replay has done before the eighth one retrains: it resends, and counts. -/
def State.resent (s : State) (c mark : Nat) : State :=
  (((s.chan c).link.unacked.foldl (fun (t : State) (f : Nat × List Byte) => t.emit (.flit c (flitBytes f.1 f.2)))
    (s.setChan c { s.chan c with link := { (s.chan c).link with replays := (s.chan c).link.replays + 1, replayMark := some mark } })).bump
    (MC + c * 0x1000 + 0x18) 31 16 1).count (2 + c / 8) 0x67 (c % 8) 1

theorem State.replay_eq : s.replay c n = if 8 ≤ (s.chan c).link.replays + 1 then (s.resent c n).retrain c else s.resent c n := rfl

theorem State.foldl_emit {α : Type} (g : α → Out) (l : List α) :
    (l.foldl (fun (t : State) x => t.emit (g x)) s).media = s.media ∧ (l.foldl (fun (t : State) x => t.emit (g x)) s).regs = s.regs := by
  induction l generalizing s with
  | nil => exact ⟨rfl, rfl⟩
  | cons x l ih => exact ih

theorem State.resent_chan (hc : c < 40) : (s.resent c n).chan c =
    { s.chan c with link := { (s.chan c).link with replays := (s.chan c).link.replays + 1, replayMark := some n } } := by
  unfold State.resent
  rw [(State.Counted.count (by omega) (State.Counted.refl _)).chan]
  refine (State.chan_of_media ?_).trans (State.chan_setChan_same (s := s))
  exact (State.foldl_emit (fun x : Nat × List Byte => Out.flit c (flitBytes x.1 x.2)) _).1

theorem State.resent_state (hc : c < 40) : (s.resent c n).chanState c = s.chanState c := by
  unfold State.resent
  rw [(State.count_logs (State.Logs.refl _) _ _ _ _ (by omega)).chanState hc, State.chanState, State.fld, State.reg_bump _ _ _ _ _ _ (by omega), State.reg,
    (State.foldl_emit (fun x : Nat × List Byte => Out.flit c (flitBytes x.1 x.2)) _).2]
  rfl

theorem State.replay_link (hc : c < 40) :
    ((s.replay c n).chan c).link = { (s.chan c).link with replays := (s.chan c).link.replays + 1, replayMark := some n } := by
  rw [State.replay_eq]
  split
  · rw [State.retrain_link, State.resent_chan hc]
  · rw [State.resent_chan hc]

/-- The eighth replay in a row retrains. -/
theorem State.replay_eighth (hc : c < 40) (h : 7 ≤ (s.chan c).link.replays) (hs : s.chanState c = 3 ∨ s.chanState c = 4) : (s.replay c n).chanState c = 5 := by
  rw [State.replay_eq, if_pos (by omega)]
  rw [← State.resent_state hc (n := n)] at hs
  exact (State.retrain_state hc hs).1

theorem execReplayTimeout_replay (hc : c < 40) (h : (s.chan c).link.unacked ≠ []) :
    ∃ n, execReplayTimeout c s = .next (s.replay c n) := by
  rw [execReplayTimeout, below_of_lt hc]
  cases hu : (s.chan c).link.unacked with
  | nil => exact absurd hu h
  | cons f l => exact ⟨f.1, rfl⟩

/-- A channel that was READY is READY again. -/
theorem execRetrainComplete_ready (hc : c < 40) (h5 : s.chanState c = 5) (h4 : (s.chan c).before = 4) :
    execRetrainComplete c s = .next ((s.setChan c { s.chan c with link := { (s.chan c).link with replays := 0 } }).setChanState c 4) := by
  rw [execRetrainComplete, below_of_lt hc, if_pos h5, h4]
  dsimp only
  rw [State.configDone, if_neg]
  rw [State.chanState_setChanState_same]
  exact fun h => absurd h.1 (by decide)

end

end Sys2Proof.Machine

namespace Sys2Proof.Proofs

open Sys2Proof Sys2Proof.Machine

/-- Settles O30: each clause is the row's own equation, read at the channel. -/
theorem channelLinkCommands : Obligations.ChannelLinkCommands := by
  refine ⟨fun s c i m hc hg hb hr ha => ⟨?_, ?_⟩, fun s c hc hs hu => ?_, fun s c f hc hl hcrc hs hz hr hp => ?_, fun s c f hc hf => ?_, fun s c n hc hu => ?_,
    fun s c n hc hu hm => ?_, fun s c hc hp => ?_, fun s c hc hu => ?_, fun s c hc hs => ?_, fun s c hc h5 h4 => ?_⟩
  · exact ⟨_, execIssueSlot_ask hc hg hb hr ha, rfl, State.handOver_grant hc⟩
  · refine ⟨_, execIssueSlot_ask hc hg hb hr ha, rfl, ?_⟩
    rw [if_neg (by decide), State.holdGrant_grant hc, ((State.InChan.refl s).slotStart hc).same]
  · refine ⟨_, execFlitPeriod_send hc hs hu, ⟨(s.chan c).link.payload, Link.length_payload _, rfl, ?_, fun k hk => Link.payload_getD _ hk⟩, ?_⟩
    · exact congrArg (fun x : Chan => x.link.unacked) State.chan_setChan_same
    · exact congrArg (fun x : Chan => x.link.txSeq) State.chan_setChan_same
  · obtain ⟨t, ht, hchan, hout⟩ := execFlitReceive_pads hc hl hcrc hs hz hr hp
    refine .intro ht ?_
    rw [hchan]
    exact ⟨rfl, rfl, rfl, rfl, hout⟩
  · refine .intro (execFlitReceive_discard hc fun hi => ?_) ?_
    · simp only [flitIntact, Bool.and_eq_true, decide_eq_true_eq] at hi
      exact (hf.resolve_left (not_not.mpr hi.1)).resolve_left (not_not.mpr hi.2)
    · rw [State.sendAck, State.chan_setChan_same, State.discarded_chan hc]
      exact ⟨rfl, rfl, mem_ack_tx _ true, rfl⟩
  · refine .intro (below_of_lt hc) ?_
    rw [State.ackTaken, if_neg (by simp), State.chan_setChan_same, Link.acked_of_mem hu]
    exact ⟨rfl, rfl⟩
  · refine .intro (below_of_lt hc) ?_
    rw [State.ackTaken, Link.acked_of_not_mem hu, if_neg (by simp [hm]), State.chan_setChan_same]
    exact ⟨rfl, rfl, rfl⟩
  · refine .intro ((below_of_lt hc).trans (congrArg _ (if_pos hp))) ?_
    rw [State.sendAck, State.chan_setChan_same]
    exact ⟨mem_ack_tx _ false, rfl⟩
  · obtain ⟨n, hn⟩ := execReplayTimeout_replay hc hu
    refine .intro hn ?_
    rw [State.replay_link hc]
    exact ⟨rfl, rfl, fun h7 hs => State.replay_eighth hc h7 hs⟩
  · exact ⟨_, below_of_lt hc, State.retrain_state hc hs⟩
  · refine ⟨_, execRetrainComplete_ready hc h5 h4, State.chanState_setChanState_same, ?_⟩
    rw [State.setChanState, State.setFld, State.chan_setReg, State.chan_setChan_same]

end Sys2Proof.Proofs

/-! SUPPORT. Responses from the stacks (O33, O34). -/

namespace Sys2Proof.Machine

section
variable {s : State} {c tag n : Nat} {q : MCmd} {ops : List MOp} {k : MCmd → State → State}

/-- A response that is taken has its row's effect once its tag is free, and the channel goes on. -/
theorem State.answered_of (h : s.Answers c tag ops q) : s.answered c tag ops k = .next ((k q (s.handBack c tag)).settle c) := by
  obtain ⟨hc, h6, hop, f, hf, rfl⟩ := h
  rw [State.answered, below_of_lt hc, if_neg h6, hf]
  dsimp only
  rw [if_pos hop]
  rfl

/-- A response for a tag without a command, or to a channel in reset, does nothing. -/
theorem State.answered_not (hc : c < 40) (h : (s.chan c).byTag tag = none ∨ s.chanState c = 6) : s.answered c tag ops k = .next s := by
  rw [State.answered, below_of_lt hc]
  by_cases h6 : s.chanState c = 6
  · rw [if_pos h6]
  · rw [if_neg h6, h.resolve_right h6]

@[simp] theorem State.showSuspended_media : (s.showSuspended c).media = s.media := rfl

theorem State.handBack_chan : (s.handBack c tag).chan c = { (s.unsuspend c tag).chan c with
    flight := (s.chan c).flight.filter (fun f => ¬ f.tag = tag) } := by
  have hflight : ((s.unsuspend c tag).chan c).flight = (s.chan c).flight := by
    rw [State.unsuspend, State.chan_of_media State.showSuspended_media, State.chan_setChan_same]
  rw [State.handBack, State.release, State.chan_setChan_same, hflight]

theorem State.handBack_byTag : ((s.handBack c tag).chan c).byTag tag = none := by
  rw [State.handBack_chan, Chan.byTag, List.find?_eq_none]
  intro f hf
  simpa using (List.mem_filter.mp hf).2

/-- The plane of operation `f` is suspended. -/
def State.suspendedNow (s : State) (c : Nat) (q : MCmd) (f : InFlight) : State :=
  ((s.setChan c ((s.chan c).setPlane (planeKey q.addr) { (s.chan c).plane (planeKey q.addr) with suspended := some f.tag, suspendedAt := some s.tb.tick })).showSuspended c).count
    (2 + c / 8) 0x63 (c % 8) 1

theorem State.suspendedNow_chan {f : InFlight} (hc : c < 40) : (s.suspendedNow c q f).chan c =
    (s.chan c).setPlane (planeKey q.addr) { (s.chan c).plane (planeKey q.addr) with suspended := some f.tag, suspendedAt := some s.tb.tick } := by
  rw [State.suspendedNow, ((State.Counted.refl _).count (by omega)).chan, State.chan_of_media State.showSuspended_media, State.chan_setChan_same]

theorem Chan.plane_setPlane_same {x : Chan} {p : Plane} : (x.setPlane n p).plane n = p := Tbl.get_set_same _ _ _ _

theorem execSuspendResponse_success {f : InFlight} (h : s.Answers c tag [.suspend] q)
    (hr : ((s.handBack c tag).chan c).running (planeKey q.addr) = some f) (hs : f.cmd.op.suspendable = true) :
    execSuspendResponse c tag .success s = .next (((s.handBack c tag).suspendedNow c q f).settle c) := by
  rw [execSuspendResponse, State.answered_of h, if_pos rfl]
  dsimp only
  rw [hr]
  dsimp only
  rw [if_pos hs]
  rfl

end

end Sys2Proof.Machine

namespace Sys2Proof.Proofs

open Sys2Proof Sys2Proof.Machine

/-- Settles O33: a response taken runs its row on the state with its tag free. -/
theorem hubReadResponses : Obligations.HubReadResponses := by
  refine ⟨fun s c tag q rs dev slot b m h hb => ?_, fun s c tag q rs dev slot m h hb => ?_, fun s c tag q rs dev slot m h => ?_,
    fun s c tag q st rs dev slot m h hst => ?_, fun s c tag q rs dev slot m h hw => ?_, fun s c tag q slot b er m h hb => ?_,
    fun s c tag q slot er m h hb => ?_, fun s c tag q slot er m h => ?_, fun s c tag id item weak q j h hw hj => ?_,
    fun s c tag st rs dev slot er m hc h => ⟨?_, ?_⟩⟩
  · change execReadResponse c tag .success rs dev slot m s = _
    rw [execReadResponse, State.answered_of h]
    dsimp only
    rw [hb]
    rfl
  · change execReadResponse c tag .success rs dev slot m s = _
    rw [execReadResponse, State.answered_of h]
    dsimp only
    rw [hb]
    rfl
  · change execReadResponse c tag .dieFailed rs dev slot m s = _
    rw [execReadResponse, State.answered_of h]
  · change execReadResponse c tag st rs dev slot m s = _
    rw [execReadResponse, State.answered_of h]
    rcases hst with rfl | rfl | rfl <;> rfl
  · change execReadResponse c tag .aborted rs dev slot m s = _
    rw [execReadResponse, State.answered_of h]
    dsimp only
    rw [if_neg (by simp [hw])]
  · change execReadSoftResponse c tag .success slot er m s = _
    rw [execReadSoftResponse, State.answered_of h]
    dsimp only
    rw [hb]
  · change execReadSoftResponse c tag .success slot er m s = _
    rw [execReadSoftResponse, State.answered_of h]
    dsimp only
    rw [hb]
  · change execReadSoftResponse c tag .dieFailed slot er m s = _
    rw [execReadSoftResponse, State.answered_of h]
  · change execMarginReadResponse c tag .success weak s = _
    rw [execMarginReadResponse, State.answered_of h, hw]
    dsimp only
    rw [if_neg (by simp), if_neg (by decide), hj]
    rfl
  · change execReadResponse c tag st rs dev slot m s = _
    rw [execReadResponse, State.answered_not hc h]
  · change execReadSoftResponse c tag st slot er m s = _
    rw [execReadSoftResponse, State.answered_not hc h]

/-- Settles O34: a response taken runs its row on the state with its tag free. -/
theorem hubControlResponses : Obligations.HubControlResponses := by
  refine ⟨fun s c tag q st h => ?_, fun s c tag q st h => ?_, fun s c tag p n q h hw => ?_,
    fun s c tag p n q st h hw hst hf => ?_, fun s c tag q f h hr hs => ?_, fun s c tag q h => ?_, fun s c tag q v h hp => ?_, fun s c tag q v h hp => ?_,
    fun s c tag q st w h hst => ?_, fun s c tag q w h => ?_⟩
  · change execProgramResponse c tag st s = _
    rw [execProgramResponse, State.answered_of h]
  · change execCopyResponse c tag st s = _
    rw [execCopyResponse, State.answered_of h]
  · refine ⟨?_, ?_, ?_⟩
    · change execEraseResponse c tag .success s = _
      rw [execEraseResponse, State.answered_of h, hw]
    · change execEraseResponse c tag .eraseFailed s = _
      rw [execEraseResponse, State.answered_of h, hw]
    · change execEraseResponse c tag .dieFailed s = _
      rw [execEraseResponse, State.answered_of h, hw]
  · change execEraseResponse c tag st s = _
    rw [execEraseResponse, State.answered_of h, hw]
    have hflag : ¬ (s.handBack c tag).flag (WP + 0x2C) 0 = true := by simp [hf]
    rcases hst with rfl | rfl | rfl <;> dsimp only <;> rw [if_neg hflag]
  · refine .intro (execSuspendResponse_success h hr hs) ⟨_, rfl, ?_⟩
    rw [State.suspendedNow_chan h.1, Chan.plane_setPlane_same]
    exact ⟨rfl, rfl, State.handBack_byTag⟩
  · change execResumeResponse c tag .success s = _
    rw [execResumeResponse, State.answered_of h, if_neg (by decide)]
  · change execConfigResponse c tag .success v s = _
    rw [execConfigResponse, State.answered_of h, if_pos rfl, if_pos hp]
  · refine ⟨(((s.handBack c tag).setChan c { (s.handBack c tag).chan c with standby := decide (q.dst = 1) }).settle c), ?_, _, rfl, ?_⟩
    · change execConfigResponse c tag .success v s = _
      rw [execConfigResponse, State.answered_of h, if_pos rfl, if_neg (by simp [hp]), if_pos hp]
    · rw [State.chan_setChan_same]
  · change execStatusResponse c tag st w s = _
    rw [execStatusResponse, State.answered_of h, if_neg hst]
  · change execStatusResponse c tag .dieFailed w s = _
    rw [execStatusResponse, State.answered_of h, if_pos rfl]

end Sys2Proof.Proofs

/-! SUPPORT. Channel resets, bring-up and the arbiter map (O35, O36). -/

namespace Sys2Proof.Machine

/-! ### Folds that pass one entry -/

section
variable {β : Type} {v : State → β} {f : State → Nat → State} {j n : Nat} {s : State}

theorem foldl_view {α : Type} {f : State → α → State} {l : List α} (h : ∀ t, ∀ k ∈ l, v (f t k) = v t) : v (l.foldl f s) = v s := by
  induction l generalizing s with
  | nil => rfl
  | cons k l ih => exact (ih fun t m hm => h t m (by simp [hm])).trans (h s k (by simp))

/-- A fold over the first `n` numbers shows in a view that only its step at `j` changes what that step makes of it. -/
theorem foldl_range_view {x y : β} (hj : j < n) (hother : ∀ t k, k ≠ j → v (f t k) = v t) (hat : ∀ t, v t = x → v (f t j) = y) (hs : v s = x) :
    v ((List.range n).foldl f s) = y := by
  induction n with
  | zero => exact absurd hj (Nat.not_lt_zero _)
  | succ n ih =>
    rw [List.range_succ, List.foldl_append, List.foldl_cons, List.foldl_nil]
    rcases Nat.lt_succ_iff_lt_or_eq.mp hj with h | rfl
    · rw [hother _ _ (Nat.ne_of_gt h)]
      exact ih h
    · refine hat _ ((foldl_view fun t k hk => hother t k ?_).trans hs)
      exact Nat.ne_of_lt (List.mem_range.mp hk)

end

/-! ### Resets of a channel (R87 to R90) -/

section
variable {a s t : State} {c o : Nat}

theorem State.delayReads_regs : (s.delayReads c).regs = s.regs := by
  unfold State.delayReads
  refine foldl_view (v := State.regs) fun t m _ => ?_
  have hnote (id : Nat) : (match t.fetch id with
    | some f => t.setFetch { f with cause := lowerCause 2 f.cause, reset := true }
    | none => t).regs = t.regs := by
    split <;> rfl
  dsimp only
  split
  · exact hnote _
  · split
    · split
      · exact hnote _
      all_goals rfl
    · rfl
  all_goals rfl

theorem State.fld_of_regs (h : t.regs = s.regs) {hi lo : Nat} : t.fld o hi lo = s.fld o hi lo := by rw [State.fld, State.fld, State.reg, State.reg, h]

theorem State.fld_bump_other {hi lo n o' hi' lo' : Nat} (h : o' ≠ o) : (s.bump o hi lo n).fld o' hi' lo' = s.fld o' hi' lo' :=
  State.fld_setFld_reg _ _ _ _ _ _ _ _ h

theorem State.Logs.fld (h : State.Logs s t) (ho : quietReg o) {hi lo : Nat} : t.fld o hi lo = s.fld o hi lo := by
  rw [State.fld, State.fld, h.reg o ho]

/-- A channel reset shows its state and its cause. -/
theorem State.resetChannel_shows {cause : Nat} (hc : c < 40) (hcause : cause < 256) :
    (s.resetChannel c cause).chanState c = 6 ∧ (s.resetChannel c cause).fld (MC + c * 0x1000 + 4) 23 16 = cause := by
  have hq : quietReg (MC + c * 0x1000 + 4) := quietReg_chan ⟨4, by decide, rfl⟩ hc
  have hshow (u : State) (hi lo x : Nat) (h8 : 15 < lo) (h32 : hi < 32) (hl : lo ≤ hi) (hu : u.fld (MC + c * 0x1000 + 4) hi lo = x) :
      ((u.setFld (MC + c * 0x1000 + 4) 15 8 0).setBit (MC + c * 0x1000 + 4) 3 false).fld (MC + c * 0x1000 + 4) hi lo = x := by
    rw [State.setBit, State.fld_setFld_other _ _ _ _ _ _ _ (by decide) (by decide) (.inr (by omega)),
      State.fld_setFld_other _ _ _ _ _ _ _ (by decide) (by decide) (.inr h8), hu]
  have hbump (u : State) (hi lo : Nat) : (if cause = 1 then (u.bump (MC + c * 0x1000 + 0x1C) 15 0 1).bump (MC + c * 0x1000 + 0x1C) 31 16 1 else
      u.bump (MC + c * 0x1000 + 0x1C) 15 0 1).fld (MC + c * 0x1000 + 4) hi lo = u.fld (MC + c * 0x1000 + 4) hi lo := by
    split
    · rw [State.fld_bump_other (by omega), State.fld_bump_other (by omega)]
    · exact State.fld_bump_other (by omega)
  unfold State.resetChannel State.chanState
  dsimp only
  rw [(State.event_logs _ _ _ _ _ _).fld hq, (State.event_logs _ _ _ _ _ _).fld hq,
    (State.count_logs (State.Logs.refl _) _ _ _ _ (by omega)).fld hq, (State.count_logs (State.Logs.refl _) _ _ _ _ (by omega)).fld hq,
    State.fld_emit, State.fld_emit]
  refine ⟨hshow _ 27 24 6 (by decide) (by decide) (by decide) ?_, hshow _ 23 16 cause (by decide) (by decide) (by decide) ?_⟩
  · rw [hbump, State.fld_setFld_other _ _ _ _ _ _ _ (by decide) (by decide) (.inr (by decide))]
    exact State.chanState_setChanState_same
  · rw [hbump, State.fld_setFld_same _ _ _ _ _ (by decide) (by decide)]
    exact Nat.mod_eq_of_lt hcause

/-- A trigger that is not the third resets the channel. -/
theorem State.triggerReset_shows {cause : Nat} (hc : c < 40) (hcause : cause < 256) (hr : s.chanState c = 4 ∨ s.chanState c = 5) (h3 : s.thirdReset c = false) :
    (s.triggerReset c cause).chanState c = 6 ∧ (s.triggerReset c cause).fld (MC + c * 0x1000 + 4) 23 16 = cause := by
  have hres : ¬ ¬ s.resettable c = true := by simp [State.resettable, hr]
  rw [State.triggerReset, if_neg hres, h3]
  exact State.resetChannel_shows hc hcause

/-! ### Timers of a channel -/

theorem execSuspendHoldTimeout_due {d p t0 : Nat} (hc : c < 40) (hd : d < 8) (hp : p < 16) (hs : ((s.chan c).plane (16 * d + p)).suspendedAt = some t0)
    (ht : t0 + s.fld (MC + c * 0x1000 + 0x10) 15 8 ≤ s.tb.tick) :
    execSuspendHoldTimeout c d p s = .next ((((s.leaveWaiting c (16 * d + p)).submitHead c (MCmd.of .resume (mediaAddr d p 0 0) 0 6 .ctl)).count
      (2 + c / 8) 0x64 (c % 8) 1).event 0x1106 c none c (16 * d + p)) := by
  rw [execSuspendHoldTimeout, below_of_lt hc, below_of_lt hd, below_of_lt hp, hs]
  dsimp only
  rw [if_neg (Nat.not_lt.mpr ht)]

theorem State.leaveWaiting_waits {k : Nat} {m : MCmd} (hm : m ∈ ((s.leaveWaiting c k).chan c).queue) (hr : m.op.reads = true) (hk : planeKey m.addr = k) :
    m.waits = true := by
  rw [State.leaveWaiting, State.chan_setChan_same] at hm
  obtain ⟨q, -, rfl⟩ := List.mem_map.mp hm
  by_cases h : (q.op.reads && decide (planeKey q.addr = k)) = true
  · rw [if_pos h]
  · rw [if_neg h] at hr hk
    simp [hr, hk] at h

theorem execArbiterWatchdog_due {i e t0 : Nat} (hc : c < 40) (hg : (s.chan c).grant = some (i, e, t0)) (ht : t0 + s.fld (MC + c * 0x1000 + 0xC) 15 0 ≤ s.tb.tick) :
    execArbiterWatchdog c s = .next (s.triggerReset c 1) := by
  rw [execArbiterWatchdog, below_of_lt hc, hg]
  dsimp only
  rw [if_pos ht]

theorem execDataTagTimeout_due {tag : Nat} {f : InFlight} (hc : c < 40) (hf : (s.chan c).byTag tag = some f) (hd : f.cmd.op.isData = true)
    (ht : f.issued + 10000 ≤ s.tb.tick) : execDataTagTimeout c tag s = .next (s.triggerReset c 1) := by
  rw [execDataTagTimeout, below_of_lt hc, hf]
  dsimp only
  rw [if_pos ⟨hd, ht⟩]

theorem State.asWriter_of {who : Requester} {k : State → State} (hup : s.regsUp = true) (hw : mayWrite who = true) : s.asWriter who o k = k s := by
  rw [State.asWriter, if_neg (not_not.mpr hup), if_pos hw]

/-! ### Bring-up of a group -/

theorem State.chanState_setChanState_other {k n : Nat} (h : k ≠ c) : (s.setChanState k n).chanState c = s.chanState c :=
  State.fld_setFld_reg _ _ _ _ _ _ _ _ (by omega)

theorem State.flag_setChanState {k n : Nat} : (s.setChanState k n).flag (MC + c * 0x1000) 30 = s.flag (MC + c * 0x1000) 30 := by
  rw [State.flag, State.flag, State.setChanState, State.fld_setFld_reg _ _ _ _ _ _ _ _ (by omega)]

theorem State.leaveOff_other {k : Nat} (h : k ≠ c) :
    ((s.leaveOff k).chanState c, (s.leaveOff k).flag (MC + c * 0x1000) 30) = (s.chanState c, s.flag (MC + c * 0x1000) 30) := by
  unfold State.leaveOff
  split
  · rw [State.chanState_setChanState_other h, State.flag_setChanState]
  · rfl

theorem State.leaveOff_chanState (h0 : s.chanState c = 0) : (s.leaveOff c).chanState c = if s.flag (MC + c * 0x1000) 30 then 8 else 1 := by
  rw [State.leaveOff, if_pos h0, State.chanState_setChanState_same]
  split <;> rfl

theorem State.beginTrain_other {k : Nat} (h : k ≠ c) : (s.beginTrain k).chanState c = s.chanState c := by
  unfold State.beginTrain
  split
  · exact State.chanState_setChanState_other h
  · rfl

theorem State.beginTrain_chanState (h1 : s.chanState c = 1) : (s.beginTrain c).chanState c = 2 := by
  rw [State.beginTrain, if_pos h1, State.chanState_setChanState_same]

theorem State.beginTrain_pins {k : Nat} : (s.beginTrain k).pins = s.pins := by
  unfold State.beginTrain
  split <;> rfl

/-- A channel that was off, of a group whose rails are good, waits for its reset or stays disabled. -/
theorem State.leaveOff_group {g : Nat} {b : Bool} (hlo : 8 * g ≤ c) (hhi : c < 8 * g + 8) (h0 : s.chanState c = 0) (hb : s.flag (MC + c * 0x1000) 30 = b) :
    ((List.range 8).foldl (fun (t : State) k => t.leaveOff (8 * g + k)) s).chanState c = if b then 8 else 1 := by
  have hfold := foldl_range_view (v := fun t => (t.chanState c, t.flag (MC + c * 0x1000) 30)) (f := fun t k => t.leaveOff (8 * g + k)) (j := c - 8 * g) (n := 8)
    (s := s) (x := (0, b)) (y := (if b then 8 else 1, b)) (by omega) (fun t k hk => State.leaveOff_other (by omega)) (fun t ht => ?_) (by rw [h0, hb])
  · exact congrArg Prod.fst hfold
  · obtain ⟨h0, hb⟩ := Prod.ext_iff.mp ht
    dsimp only at h0 hb ⊢
    rw [Nat.add_sub_of_le hlo, State.leaveOff_chanState h0, hb, State.leaveOff, if_pos h0, State.flag_setChanState, hb]

theorem State.beginTrain_group {g : Nat} (hlo : 8 * g ≤ c) (hhi : c < 8 * g + 8) (h1 : s.chanState c = 1) :
    ((List.range 8).foldl (fun (t : State) k => t.beginTrain (8 * g + k)) s).chanState c = 2 :=
  foldl_range_view (v := fun t => t.chanState c) (f := fun t k => t.beginTrain (8 * g + k)) (j := c - 8 * g) (by omega)
    (fun t k hk => State.beginTrain_other (by omega)) (fun t ht => by rw [Nat.add_sub_of_le hlo]; exact State.beginTrain_chanState ht) h1

theorem State.driveReset_high {g : Nat} (hg : g < 5) : (s.driveReset g true).pins.lngRstN.getLsbD g = true := by
  have hb : (BitVec.ofNat 5 (2 ^ g)).getLsbD g = true := by
    rw [BitVec.getLsbD_ofNat, Nat.testBit_two_pow_self]
    simpa using hg
  simp only [State.driveReset, if_true, BitVec.getLsbD_or, hb, Bool.or_true]

theorem State.comingUp_of (h : s.chanState c = 1 ∨ s.chanState c = 2 ∨ s.chanState c = 3) : s.comingUp c = true := by simp [State.comingUp, h]

/-! ### The arbiter map -/

theorem execArbMapRevert_held {w : Word} (hc : c < 40) (hm : s.mapHeld c = some w) (hw : s.reg (MC + c * 0x1000 + 8) ≠ w) :
    execArbMapRevert c s = .next ((s.setReg (MC + c * 0x1000 + 8) w).event 0x9105 c none c 0) := by
  rw [execArbMapRevert, below_of_lt hc, hm]
  dsimp only
  rw [if_neg hw]

theorem execChannelDisableTakesEffect_now (hc : c < 40) (hd : (s.chan c).disabling = true) (hf : (s.chan c).flight = []) (h7 : s.chanState c ≠ 7) (h8 : s.chanState c ≠ 8) :
    execChannelDisableTakesEffect c s = .next ((((s.setChan c { s.chan c with disabling := false }).setChanState c 8).mediaLost).endAll c) := by
  rw [execChannelDisableTakesEffect, below_of_lt hc]
  dsimp only
  rw [if_pos ⟨hd, hf, not_or.mpr ⟨h7, h8⟩⟩]

end

end Sys2Proof.Machine

namespace Sys2Proof.Proofs

open Sys2Proof Sys2Proof.Machine

/-- Settles O35: each row runs on a channel in the state it asks for. -/
theorem channelControlCommands : Obligations.ChannelControlCommands := by
  refine ⟨fun s c hc h4 => ?_, fun s c d p t0 hc hd hp hs ht => ?_, fun s c hc h6 => ?_, fun s c hc h5 h3 => ?_, fun s c i e t0 hc hr h3 hg ht => ?_,
    fun s c tag f hc hr h3 hf hd ht => ?_, fun s who c hc hup hw hr h3 => ?_, fun s c hc h6 => ?_, fun s g c hg hp hlo hhi h0 => ?_,
    fun s g c hg hp hlo hhi h1 => ?_, fun s c hc h2 => ?_, fun s c hc hs => ?_⟩
  · refine .intro ((below_of_lt hc).trans (congrArg _ (if_pos h4))) ?_
    rw [State.submit, State.chan_setChan_same]
    exact ⟨rfl, rfl⟩
  · refine .intro (execSuspendHoldTimeout_due hc hd hp hs ht) ?_
    rw [State.chan_event, ((State.Counted.refl _).count (by omega)).chan, State.submitHead, State.chan_setChan_same]
    refine ⟨rfl, ?_, fun m hm hr hk => ?_⟩
    · rw [State.leaveWaiting, State.chan_setChan_same]
      simp
    · rcases List.mem_cons.mp hm with rfl | hm
      · exact absurd hr Bool.false_ne_true
      · exact State.leaveWaiting_waits hm hr hk
  · exact .intro ((below_of_lt hc).trans (congrArg _ (if_pos h6))) ⟨rfl, State.reg_setReg_same _ _ _⟩
  · exact .intro ((below_of_lt hc).trans (congrArg _ (if_pos h5))) (State.triggerReset_shows hc (by decide) (.inr h5) h3)
  · exact .intro (execArbiterWatchdog_due hc hg ht) (State.triggerReset_shows hc (by decide) hr h3)
  · exact .intro (execDataTagTimeout_due hc hf hd ht) (State.triggerReset_shows hc (by decide) hr h3)
  · exact .intro ((below_of_lt hc).trans (congrArg _ (State.asWriter_of hup hw))) (State.triggerReset_shows hc (by decide) hr h3)
  · exact .intro ((below_of_lt hc).trans (congrArg _ (if_pos h6))) rfl
  · exact .intro ((below_of_lt hg).trans (congrArg _ (if_pos hp))) (State.leaveOff_group hlo hhi h0 rfl)
  · refine .intro ((below_of_lt hg).trans (congrArg _ (if_neg (not_not.mpr hp)))) ⟨State.beginTrain_group hlo hhi h1, ?_⟩
    rw [foldl_view (v := State.pins) fun t k _ => State.beginTrain_pins]
    exact State.driveReset_high hg
  · exact .intro ((below_of_lt hc).trans (congrArg _ (if_pos h2))) rfl
  · exact .intro ((below_of_lt hc).trans (congrArg _ (if_pos (State.comingUp_of hs)))) rfl

/-- Settles O36: a writer's row runs on the register it names. -/
theorem channelRegisterCommands : Obligations.ChannelRegisterCommands := by
  refine ⟨fun s g hg => below_of_lt hg, fun s who c v hc hup hw => ?_, fun s c hc hd hf h7 h8 => execChannelDisableTakesEffect_now hc hd hf h7 h8,
    fun s who c v hc hup hw hok => ?_, fun s who c v hc hup hw hok => ?_, fun s c w hc hm hw => ?_⟩
  · refine .intro ((below_of_lt hc).trans (congrArg _ (State.asWriter_of hup hw))) ⟨rfl, State.flag_setBit_same _ _ _ _ (by decide), ?_⟩
    exact State.reg_setReg_other _ _ _ _ (by simp only [MC, SD]; omega)
  · exact .intro ((below_of_lt hc).trans (congrArg _ (State.asWriter_of hup hw))) (if_pos hok)
  · refine .intro ((below_of_lt hc).trans (congrArg _ (State.asWriter_of hup hw))) ?_
    rw [State.arbMapWrite, if_neg (by simp [hok])]
    exact ⟨rfl, (State.event_logs _ _ _ _ _ _).reg _ (quietReg_chan ⟨8, by decide, rfl⟩ hc)⟩
  · refine .intro (execArbMapRevert_held hc hm hw) ⟨?_, rfl⟩
    rw [(State.event_logs _ _ _ _ _ _).reg _ (quietReg_chan ⟨8, by decide, rfl⟩ hc), State.reg_setReg_same]

end Sys2Proof.Proofs

/-! SUPPORT. Rows of the schedule table (O32). -/

namespace Sys2Proof.Machine

section
variable {s t : State} {n e w o : Nat} {who : Requester} {v : Word}

theorem State.sendPeer_reg {dest op : Nat} {vals : List Nat} (ho : o < PM ∨ PM + 0x1000 ≤ o) : (s.sendPeer dest op vals).reg o = s.reg o := by
  have hsend : (s.sendTo dest 2 msgPeer (op :: vals)).reg o = s.reg o := by
    unfold State.sendTo
    split
    · exact ((State.Counted.refl _).count (by decide)).reg o ho
    · rfl
  exact hsend

theorem State.reportCut_reg {dest tag : Nat} {done : Bool} (ho : o < PM ∨ PM + 0x1000 ≤ o) : (s.reportCut dest tag done).reg o = s.reg o := by
  unfold State.reportCut
  split
  · rfl
  · exact State.sendPeer_reg ho

/-- The count of missed due instants in a control word. -/
def State.missCount (s : State) (n : Nat) : Nat := s.fld (schedOff n) 23 16

theorem State.missCount_schedMissed : (s.schedMissed n 1).missCount n = satAdd (s.missCount n) 1 255 := State.fld_bump _ _ _ _ _ (by decide) (by decide)

theorem State.missCount_setFld {hi lo x : Nat} (hhi : hi < 32) (hle : lo ≤ hi) (hd : 23 < lo ∨ hi < 16) : (s.setFld (schedOff n) hi lo x).missCount n = s.missCount n :=
  State.fld_setFld_other _ _ _ _ _ _ _ hhi hle hd

theorem State.missCount_setDue {x : Nat} : (s.setDue n x).missCount n = s.missCount n := by
  rw [State.missCount, State.fld, State.setDue, State.reg_setReg64, if_neg (by omega), if_neg (by omega)]
  rfl

theorem State.missCount_schedAdvance : (s.schedAdvance n).missCount n = s.missCount n := by
  unfold State.schedAdvance
  split
  · rw [State.missCount_setDue]
    exact State.missCount_setFld (by decide) (by decide) (.inl (by decide))
  · exact State.missCount_setDue

theorem State.Logs.missCount (hn : n < 64) (h : State.Logs s t) : t.missCount n = s.missCount n := h.fld (quietReg_sched hn)

theorem State.missCount_freeCut {done : Bool} (hn : n < 64) : (s.freeCut n done).missCount n = s.missCount n := by
  unfold State.freeCut
  split
  · rfl
  · refine (State.missCount_setFld (n := n) (by decide) (by decide) (.inr (by decide))).trans ?_
    rw [State.missCount, State.fld, State.reportCut_reg (by simp only [schedOff, TB, PM]; omega)]
    rfl

/-- A due instant that is missed counts once. -/
theorem State.missCount_missDue (hn : n < 64) : (s.missDue n).missCount n = satAdd (s.missCount n) 1 255 := by
  have hscrub (t : State) : (if t.schedAction n = 7 ∧ t.df.scrub.isSome then t.event 0x4104 0 none (t.fld (DF + 0x2C) 15 0) 0 else t).missCount n = t.missCount n := by
    split
    · exact (State.event_logs _ _ _ _ _ _).missCount hn
    · rfl
  have hcut (t : State) : (if t.schedAction n = 0x0D ∨ t.schedAction n = 0x0E then t.freeCut n false else t).missCount n = t.missCount n := by
    split
    · exact State.missCount_freeCut hn
    · rfl
  unfold State.missDue
  dsimp only
  rw [hcut, hscrub, (State.eventOnce_logs _ _ _ _ _ _ _).missCount hn]
  exact State.missCount_schedAdvance.trans State.missCount_schedMissed

theorem execScheduleWindowMissed_missed (hn : n < 64) (hp : s.windowPassed n = true) (hd : n ∉ s.tb.deferred) :
    execScheduleWindowMissed n s = .next (s.missDue n) := by
  rw [execScheduleWindowMissed, below_of_lt hn, if_pos ⟨hp, fun h => hd h.1⟩]

theorem execDeferredActionResume_start (hn : n < 64) (hd : n ∈ s.tb.deferred) (he : s.schedEnabled n = true) (hdue : s.schedDue n ≤ s.tb.ztime)
    (hp : s.paused (s.schedAction n) = false) (hw : s.windowPassed n = false) (hm : s.missesNow n = false) (hb : s.actionBusy (s.schedAction n) = false) :
    execDeferredActionResume n s = .next (s.schedStart n) := by
  rw [execDeferredActionResume, below_of_lt hn, if_pos ⟨hd, he, hdue, by simp [hp]⟩, if_neg (by simp [hw, hm]), if_neg (by simp [hb])]

/-- A writer's word of an entry goes to the table. -/
theorem execSchedEntryWrite_of (hn : n < 64) (hw : w < 8) (hup : s.regsUp = true) (hwho : mayWrite who = true) :
    execSchedEntryWrite who n w v s = .next (s.schedWrite who n w v) := by
  rw [execSchedEntryWrite, below_of_lt hn, below_of_lt hw, State.asWriter_of hup hwho]

theorem State.schedChanged_of {old : State} (h : ¬ (s.schedAction n = 0x10 ∨ old.schedAction n = 0x10)) :
    State.schedChanged old s n = { s with tb := { s.tb with stale := if n ∈ s.tb.stale then s.tb.stale else s.tb.stale ++ [n] } } := if_neg h

/-- A period or window that the entry may have is written. -/
theorem State.schedWrite_valid (hn : n ≠ 0) (hw : w = 1 ∨ w = 2) (hv : (s.setReg (schedOff n + 4 * w) v).schedValid n = true) (ha : s.schedAction n ≠ 0x10) :
    ((s.schedWrite who n w v).reg (schedOff n + 4 * w) = v) ∧ n ∈ (s.schedWrite who n w v).tb.stale := by
  have hact : (s.setReg (schedOff n + 4 * w) v).schedAction n ≠ 0x10 := by
    rw [State.schedAction, State.fld_setReg_other _ _ _ _ _ _ (by omega)]
    exact ha
  have hchange : ¬ ((s.setReg (schedOff n + 4 * w) v).schedAction n = 0x10 ∨ s.schedAction n = 0x10) := not_or.mpr ⟨hact, ha⟩
  rw [State.schedWrite]
  dsimp only
  rw [if_neg (fun h => hn h.1), if_neg (by omega), if_pos hw, if_pos hv]
  rw [State.schedChanged_of hchange]
  refine ⟨State.reg_setReg_same _ _ _, ?_⟩
  show n ∈ if n ∈ s.tb.stale then s.tb.stale else s.tb.stale ++ [n]
  split
  · assumption
  · simp

theorem State.schedWrite_invalid (hn : n ≠ 0) (hw : w = 1 ∨ w = 2) (hv : (s.setReg (schedOff n + 4 * w) v).schedValid n = false) : s.schedWrite who n w v = s := by
  rw [State.schedWrite]
  dsimp only
  rw [if_neg (fun h => hn h.1), if_neg (by omega), if_pos hw, if_neg (by simp [hv])]

theorem State.schedRunning_endEntry : (s.endEntry n).schedRunning n = false := State.flag_setBit_same _ _ _ _ (by decide)

theorem execMeterMinuteClose_of (h : s.takeAction 0x01 = some (n, t)) : execMeterMinuteClose s = .next ((t.meterClose t.utcMinute false).endEntry n) := by
  rw [execMeterMinuteClose, State.runAction, h]

theorem execTimeSave_of (h : s.takeAction 0x10 = some (n, t)) : execTimeSave s = .next (t.saveTime.endEntry n) := by
  rw [execTimeSave, h]

theorem execTimeSave_own (h : s.takeAction 0x10 = none) (hd : s.ownSaveDue = true) : execTimeSave s = .next s.saveTime := by
  rw [execTimeSave, h]
  dsimp only
  rw [if_pos hd]

theorem State.persistPair_tb {lo hi : Word} : (s.persistPair o lo hi).tb = s.tb := by
  have hslot (u : State) (p : Nat) : (u.slotWrite p).tb = u.tb := by rw [(State.Stored.refl u).slotWrite.same]
  have hfreeze (u : State) (p : Nat) : (u.freeze p).tb = u.tb := by rw [(State.Stored.refl u).freeze.same]
  unfold State.persistPair
  repeat' split
  all_goals simp only [hslot, hfreeze]
  all_goals rfl

/-- A save of the time is noted with its instant. -/
theorem State.saveTime_lastSave : (s.saveTime).tb.lastSave = s.tb.ztime := by
  show (s.persist64 (TB + 0x28) (s.tb.ztime + s.saveMargin)).tb.ztime = s.tb.ztime
  rw [State.persist64, State.persistPair_tb]

/-- Taking a started action leaves the clock. -/
theorem State.takeAction_ztime {x : Nat} (h : s.takeAction x = some (n, t)) : t.tb.ztime = s.tb.ztime := by
  unfold State.takeAction at h
  split at h
  · cases h
  · cases h
    rfl

end

end Sys2Proof.Machine

namespace Sys2Proof.Proofs

open Sys2Proof Sys2Proof.Machine

/-- Settles O32: a due instant missed, started or taken, and the words of an entry. -/
theorem scheduleCommands : Obligations.ScheduleCommands := by
  refine ⟨fun s e he hp hd => ?_, fun s e he hd hen hdue hp hw hm hb => ?_, fun s who e w v he h0 hw hup hwho hv ha => ?_,
    fun s who e w v he h0 hw hup hwho hv => ?_, fun s who w v hw h2 hup hwho => ?_, fun s t n h => ?_, fun s t n h => ?_, fun s h hd => ?_⟩
  · exact .intro (execScheduleWindowMissed_missed he hp hd) ⟨rfl, State.missCount_missDue he⟩
  · exact .intro (execDeferredActionResume_start he hd hen hdue hp hw hm hb) ⟨State.schedStart_running he, State.schedStart_started, by simp [State.schedStart]⟩
  · exact .intro (execSchedEntryWrite_of he (by omega) hup hwho) (State.schedWrite_valid h0 hw hv ha)
  · exact (execSchedEntryWrite_of he (by omega) hup hwho).trans (congrArg _ (State.schedWrite_invalid h0 hw hv))
  · exact (execSchedEntryWrite_of (by decide) hw hup hwho).trans (congrArg _ (if_pos ⟨rfl, h2⟩))
  · exact .intro (execMeterMinuteClose_of h) ⟨rfl, State.schedRunning_endEntry⟩
  · refine .intro (execTimeSave_of h) ⟨rfl, State.schedRunning_endEntry, ?_⟩
    rw [← State.takeAction_ztime h]
    exact State.saveTime_lastSave
  · exact .intro (execTimeSave_own h hd) ⟨rfl, State.saveTime_lastSave⟩

end Sys2Proof.Proofs

/-! SUPPORT. The recorder, the meter port and the performance monitor (O28, O29). -/

namespace Sys2Proof.Machine

/-! ### What the rows of telemetry touch -/

/-- A register of telemetry's blocks, or one of the log of refused accesses. -/
def telemetryReg (o : Nat) : Prop := o < 0x100 ∨ (EV ≤ o ∧ o < PM + 0x10000) ∨ o = HI + 0xC4

/-- `t` is `s` but for telemetry's own state and registers, and what is sent out. -/
structure State.Telemetry (s t : State) : Prop where
  same : t = { s with regs := t.regs, holds := t.holds, ev := t.ev, mt := t.mt, pm := t.pm, pins := t.pins, out := t.out }
  reg : ∀ o, ¬ telemetryReg o → t.reg o = s.reg o

section
variable {a s t : State} {o n : Nat} {who : Requester} {v : Word}

theorem State.Telemetry.refl (s : State) : s.Telemetry s := ⟨rfl, fun _ _ => rfl⟩

theorem State.Telemetry.trans (h : a.Telemetry s) (k : s.Telemetry t) : a.Telemetry t :=
  ⟨by rw [k.same, h.same], fun o ho => (k.reg o ho).trans (h.reg o ho)⟩

theorem State.Telemetry.setReg (h : a.Telemetry s) (ho : telemetryReg o) : a.Telemetry (s.setReg o v) :=
  h.trans ⟨rfl, fun _ ho' => State.reg_setReg_other _ _ _ _ fun e => ho' (e ▸ ho)⟩

theorem State.Telemetry.bump {hi lo : Nat} (h : a.Telemetry s) (ho : telemetryReg o) : a.Telemetry (s.bump o hi lo n) := h.setReg ho

theorem State.Telemetry.emit {x : Out} (h : a.Telemetry s) : a.Telemetry (s.emit x) := h.trans ⟨rfl, fun _ _ => rfl⟩

theorem State.Telemetry.foldl {α : Type} {f : State → α → State} {l : List α} (h : a.Telemetry s) (hf : ∀ t x, State.Telemetry t (f t x)) :
    a.Telemetry (l.foldl f s) := by
  induction l generalizing s with
  | nil => exact h
  | cons x l ih => exact ih (h.trans (hf s x))

/-- The same with other notes of telemetry. -/
theorem State.Telemetry.upd {holds : List HalfLatch} {ev : Recorder} {mt : Meter} {pm : Perf} {pins : Pins} (h : a.Telemetry s) :
    a.Telemetry { s with holds := holds, ev := ev, mt := mt, pm := pm, pins := pins } :=
  h.trans (t := { s with holds := holds, ev := ev, mt := mt, pm := pm, pins := pins }) ⟨rfl, fun _ _ => rfl⟩

theorem telemetryReg_ev {j : Nat} (hj : j < 0x1000) : telemetryReg (EV + j) := .inr (.inl (by simp only [EV, PM]; omega))

theorem telemetryReg_low (h : o < 0x100) : telemetryReg o := .inl h

theorem State.Telemetry.logRefused {rule off : Nat} {write : Bool} (h : a.Telemetry s) : a.Telemetry (s.logRefused who rule off write) := by
  have h14 : telemetryReg (GLB + 0x14) := telemetryReg_low (by decide)
  unfold State.logRefused
  dsimp only
  split
  · split
    · exact h.bump h14
    · exact (h.bump h14).setReg (telemetryReg_low (by decide))
  · split
    · exact h.bump h14
    · exact (h.bump h14).setReg (telemetryReg_low (by decide))

theorem State.Telemetry.disallowed (h : a.Telemetry s) : a.Telemetry (s.disallowed who o true) := h.logRefused.emit

theorem State.Telemetry.asWriter {k : State → State} (hk : s.Telemetry (k s)) : s.Telemetry (s.asWriter who o k) := by
  unfold State.asWriter
  split
  · exact .refl s
  split
  · exact hk
  · exact (State.Telemetry.refl s).disallowed

theorem State.Telemetry.readSeq (h : a.Telemetry s) : a.Telemetry (s.readSeq who v) := by
  have h38 {u : State} (hu : a.Telemetry u) {w : Word} {r : Option EventRec} : a.Telemetry { u.setReg (EV + 0x38) w with ev := { u.ev with latched := r } } :=
    (hu.setReg (telemetryReg_ev (by decide))).upd
  unfold State.readSeq
  split
  · exact h38 ((h.setReg (telemetryReg_ev (by decide))).upd.setReg (telemetryReg_ev (by decide)))
  · exact h38 (h.setReg (telemetryReg_ev (by decide)))

theorem State.Telemetry.meterStart {cmd : Nat} (h : a.Telemetry s) : a.Telemetry (s.meterStart cmd) := h.upd

/-- A byte before the last of a unit consumes none. -/
theorem State.Telemetry.meterByte (hp : s.mt.portPos < 64) : s.Telemetry s.meterByte ∧ s.meterByte.mt.portPos ≤ s.mt.portPos + 1 := by
  have hemit {x : Out} {mt : Meter} : s.Telemetry { s.emit x with mt := mt } := (State.Telemetry.refl s).emit.upd
  unfold State.meterByte
  split
  · exact ⟨hemit, le_rfl⟩
  split
  · exact ⟨hemit, Nat.zero_le _⟩
  split
  · exact ⟨hemit, Nat.zero_le _⟩
  split
  · exact ⟨hemit, Nat.le_add_left 1 _⟩
  · dsimp only
    rw [if_pos (show (s.emit _).mt.portPos < 64 from hp)]
    exact ⟨hemit, le_rfl⟩

theorem State.Telemetry.meterBytes (h : a.Telemetry s) (hp : n + s.mt.portPos ≤ 64) : a.Telemetry (State.meterBytes n s) := by
  induction n generalizing s with
  | zero => exact h
  | succ n ih =>
    obtain ⟨hb, hpos⟩ := State.Telemetry.meterByte (s := s) (by omega)
    exact ih (h.trans hb) (by omega)

theorem State.Telemetry.meterClock (h : a.Telemetry s) (hp : s.mt.portCmd = some 1 → n + s.mt.portPos ≤ 64) : a.Telemetry (s.meterClock n) := by
  unfold State.meterClock
  split
  next h1 => exact h.meterBytes (hp h1)
  · exact h.foldl fun t _ => (State.Telemetry.refl t).emit

theorem State.Telemetry.readStream (hp : n + s.mt.portPos ≤ 64) : s.Telemetry ((if s.mt.portCmd.isNone then s.meterStart 1 else s).meterClock n) := by
  split
  · exact (State.Telemetry.refl s).meterStart.meterClock fun _ => by change n + 0 ≤ 64; omega
  · exact (State.Telemetry.refl s).meterClock fun _ => hp

/-! ### What each row leaves -/

theorem execRingPageWrite_due (h : s.ev.lastRing = none ∨ ∃ t0, s.ev.lastRing = some t0 ∧ s.fld EV 7 0 * 1000000 ≤ s.tb.tick - t0) :
    execRingPageWrite s = .next s.ringPage := by
  unfold execRingPageWrite
  rcases h with h | ⟨t0, h, ht⟩
  · rw [h]
  · rw [h]
    dsimp only
    rw [if_pos ht]

/-- Room made in staging leaves the ring. -/
theorem State.stagingRoom_ring : s.stagingRoom.ev.ring = s.ev.ring ∧ s.stagingRoom.ev.lastRing = s.ev.lastRing ∧ s.stagingRoom.ev.ringAt = s.ev.ringAt := by
  unfold State.stagingRoom
  dsimp only
  split
  · rw [State.event_ring, State.event_lastRing, State.event_ringAt]
    exact ⟨rfl, rfl, rfl⟩
  · exact ⟨rfl, rfl, rfl⟩

theorem State.ringPage_ring (h : s.unoffered ≠ []) :
    s.ringPage.ev.ring = (ringPick s.unoffered :: s.ev.ring).take 512 ∧ s.ringPage.ev.lastRing = some s.tb.tick ∧ s.ringPage.ev.ringAt = s.ev.ringAt + 1 := by
  rw [State.ringPage]
  dsimp only
  rw [if_neg h]
  exact State.stagingRoom_ring

theorem State.findRecord_lt {q : Nat} : (s.findRecord q).1 < 4 := by
  unfold State.findRecord
  split
  · simp
  split
  · simp
  split <;> simp

theorem State.findRecord_of_ev {q : Nat} (h : t.ev = s.ev) : t.findRecord q = s.findRecord q := by
  unfold State.findRecord
  rw [h]

/-- The same with record `r` latched and its place shown. -/
def State.showRecord (s : State) (loc : Nat) (r : Option EventRec) : State :=
  { (s.setReg (EV + 0x38) (BitVec.ofNat 32 loc)) with ev := { s.ev with latched := r } }

theorem State.readSeq_eq : ∃ u : State, u.ev = s.ev ∧
    s.readSeq who v = (u.setReg (EV + 0x34) v).showRecord (s.findRecord ((u.setReg (EV + 0x34) v).reg64 (EV + 0x30))).1
      (s.findRecord ((u.setReg (EV + 0x34) v).reg64 (EV + 0x30))).2 := by
  unfold State.readSeq
  split
  next h _ =>
    exact ⟨{ (s.setReg (EV + 0x30) h.val) with holds := s.holds.filter (fun h => ¬ (h.who = who ∧ h.off = EV + 0x30)) }, rfl, rfl⟩
  · exact ⟨s, rfl, rfl⟩

theorem State.readSeq_shows : (s.readSeq who v).reg (EV + 0x34) = v ∧ (s.readSeq who v).ev.latched = (s.findRecord ((s.readSeq who v).reg64 (EV + 0x30))).2 ∧
    (s.readSeq who v).fld (EV + 0x38) 1 0 = (s.findRecord ((s.readSeq who v).reg64 (EV + 0x30))).1 := by
  obtain ⟨u, -, hq⟩ := State.readSeq_eq (s := s) (who := who) (v := v)
  have hhalf (w : State) {loc : Nat} {r : Option EventRec} {o : Nat} (ho : o ≠ EV + 0x38) : (w.showRecord loc r).reg o = w.reg o := State.reg_setReg_other _ _ _ _ ho
  have h64 (w : State) {loc : Nat} {r : Option EventRec} : (w.showRecord loc r).reg64 (EV + 0x30) = w.reg64 (EV + 0x30) := by
    rw [State.reg64, State.reg64, hhalf w (by decide), hhalf w (by decide)]
  rw [hq, h64, hhalf _ (by decide), State.reg_setReg_same]
  refine ⟨rfl, rfl, ?_⟩
  have hlt := State.findRecord_lt (s := s) (q := (u.setReg (EV + 0x34) v).reg64 (EV + 0x30))
  refine (State.fld_setReg_same _ _ _ _ _).trans ?_
  rw [bits, BitVec.toNat_ofNat]
  omega

/-- An idle port that streams starts at a unit's first byte. -/
theorem execMeterReadStream_start (h : s.mt.portCmd = none) : execMeterReadStream 1 s = .next (s.meterStart 1).meterByte := by
  rw [execMeterReadStream, h]
  rfl

theorem execMeterReadStream_on (h : s.mt.portCmd = some 1) : execMeterReadStream 1 s = .next s.meterByte := by
  rw [execMeterReadStream, h]
  dsimp only [Option.isNone_some]
  rw [if_neg (by decide), State.meterClock, if_pos h]
  rfl

theorem State.meterAvail_meterStart {cmd : Nat} : (s.meterStart cmd).meterAvail = s.meterAvail := rfl

/-- A unit begins with 0xA5. -/
theorem State.meterByte_first {u : Nat × List Byte} {rest : List (Nat × List Byte)} (hu : s.mt.units = u :: rest) (ha : s.meterAvail = true) (hc : s.mt.cut = false)
    (hp : s.mt.portPos = 0) : s.meterByte = { s.emit (.meterByte 0xA5) with mt := { s.mt with portPos := 1 } } := by
  rw [State.meterByte, if_neg (by simp [hc]), hu]
  dsimp only
  rw [if_neg (not_not.mpr ha), if_pos hp]

theorem State.meterByte_next {u : Nat × List Byte} {rest : List (Nat × List Byte)} (hu : s.mt.units = u :: rest) (ha : s.meterAvail = true) (hc : s.mt.cut = false)
    (hp : 0 < s.mt.portPos) (hlt : s.mt.portPos < 64) :
    s.meterByte = { s.emit (.meterByte (u.2.getD (s.mt.portPos - 1) 0)) with mt := { s.mt with portPos := s.mt.portPos + 1 } } := by
  rw [State.meterByte, if_neg (by simp [hc]), hu]
  dsimp only
  rw [if_neg (not_not.mpr ha), if_neg (Nat.ne_of_gt hp)]
  exact if_pos hlt

/-- With no unit to give the port gives a zero. -/
theorem State.meterByte_none (ha : s.meterAvail = false) (hc : s.mt.cut = false) : s.meterByte = { s.emit (.meterByte 0) with mt := { s.mt with portPos := 0 } } := by
  rw [State.meterByte, if_neg (by simp [hc])]
  split
  · rfl
  · rw [if_pos (by simp [ha])]

theorem State.foldl_meterByte (l : List Byte) : l.foldl (fun (t : State) b => t.emit (.meterByte b)) s = { s with out := (l.map Out.meterByte).reverse ++ s.out } := by
  induction l generalizing s with
  | nil => rfl
  | cons b l ih =>
    rw [List.foldl_cons, ih]
    simp [State.emit]

theorem execMeterReadStatus_start (h : s.mt.portCmd = none) : execMeterReadStatus s =
    .next ((leBytes 4 s.mt.units.length ++ leBytes 4 s.mtStatus.toNat ++ leBytes 8 ((s.mt.units.map (fun u => u.1)).headD 0)).foldl
      (fun (t : State) b => t.emit (.meterByte b)) (s.meterStart 2)) := by
  rw [execMeterReadStatus, h]
  rfl

theorem execMeterUnknownCommand_start {cmd : Nat} (h : s.mt.portCmd = none) (h1 : cmd % 256 ≠ 1) (h2 : cmd % 256 ≠ 2) :
    execMeterUnknownCommand cmd s = .next ((s.meterStart cmd).emit (.meterByte 0xFF)) := by
  rw [execMeterUnknownCommand, h]
  dsimp only [Option.isSome_none]
  rw [if_neg (by decide), if_neg (not_or.mpr ⟨h1, h2⟩)]

theorem execMeterUnknownCommand_on {c cmd : Nat} (h : s.mt.portCmd = some c) (h1 : c ≠ 1) : execMeterUnknownCommand cmd s = .next (s.emit (.meterByte 0xFF)) := by
  rw [execMeterUnknownCommand, h]
  dsimp only [Option.isSome_some]
  rw [if_pos rfl, State.meterClock, if_neg (by simp [h, h1])]
  rfl

/-- An overflow shows in its counter's bit; the counters stay. -/
theorem State.pmOverflow_shows {b k : Nat} : (s.pmOverflow b k).pm.vals = s.pm.vals ∧
    (s.pmOverflow b k).flag (PM + 0xD00 + 4 * ((16 * b + k) / 32)) ((16 * b + k) % 32) = true := by
  have hset := State.flag_setBit_same s (PM + 0xD00 + 4 * ((16 * b + k) / 32)) ((16 * b + k) % 32) true (Nat.mod_lt _ (by decide))
  have hbump {u : State} {n : Nat} (hu : u.flag (PM + 0xD00 + 4 * ((16 * b + k) / 32)) ((16 * b + k) % 32) = true) :
      (u.bump (PM + 4) 31 16 n).flag (PM + 0xD00 + 4 * ((16 * b + k) / 32)) ((16 * b + k) % 32) = true := by
    rw [State.flag, State.fld_bump_other (by omega)]
    exact hu
  unfold State.pmOverflow
  dsimp only
  split
  · split
    · exact ⟨rfl, hbump hset⟩
    · split
      · exact ⟨rfl, hbump hset⟩
      · exact ⟨rfl, hset⟩
  · exact ⟨rfl, hset⟩

theorem execPmCounterOverflow_of {b k : Nat} (hb : b < 12) (hk : k < 16) (hpm : s.flag PM 0 = true) (hen : s.flag (PM + 0x100 + (16 * b + k) * 0x10) 31 = true) :
    execPmCounterOverflow b k s = .next (({ s with pm := { s.pm with vals := Tbl.set (fun _ => 0) s.pm.vals (16 * b + k) 0 } } : State).pmOverflow b k) := by
  rw [execPmCounterOverflow, below_of_lt hb, below_of_lt hk, if_pos ⟨hpm, hen⟩]

end

end Sys2Proof.Machine

namespace Sys2Proof.Proofs

open Sys2Proof Sys2Proof.Machine

/-- Settles O28: the rows work on telemetry's own state; a refused writer adds to the log of refused accesses. -/
theorem frameTelemetry : Obligations.FrameTelemetry := by
  intro s t who v n x c hc hn hst hun ht
  have h : s.Telemetry t := by
    simp only [List.mem_cons, List.not_mem_nil, or_false] at hc
    rcases hc with rfl | rfl | rfl | rfl | rfl | rfl
    · cases ht
      exact .asWriter (State.Telemetry.refl s).readSeq
    · cases ht
      exact .asWriter (State.Telemetry.refl s).upd
    · cases ht
      exact .readStream (hn rfl)
    · cases ht
      dsimp only
      split
      · exact (State.Telemetry.refl s).meterClock fun h1 => absurd h1 (hst rfl)
      · exact (State.Telemetry.refl s).meterStart.foldl fun u _ => (State.Telemetry.refl u).emit
    · cases ht
      split
      · exact (State.Telemetry.refl s).meterClock fun h1 => absurd h1 (hun rfl)
      split
      · exact .refl s
      · exact (State.Telemetry.refl s).meterStart.emit
    · cases ht
      exact (State.Telemetry.refl s).upd
  refine ⟨fun o hlo hout hne => h.reg o ?_, ?_⟩
  · unfold telemetryReg
    omega
  · rw [h.same]
    exact ⟨.of_eq rfl rfl rfl rfl, rfl, rfl, rfl, rfl, rfl, rfl, rfl, rfl, rfl⟩

/-- Settles O29: each row's own equation, read at the recorder, the port and the monitor. -/
theorem recorderCommands : Obligations.RecorderCommands := by
  refine ⟨fun s hu hr => ?_, fun s who v hup hw => ?_, fun s u rest hu ha hp => ?_, fun s u rest hu ha hp hc h0 h64 => ?_, fun s ha hp => ?_, fun s hp => ?_,
    fun s cmd hp h1 h2 => ?_, fun s c cmd hp h1 => ?_, fun s => ?_, fun s b k hb hk hpm hen => ?_, fun s who hup hw => ?_⟩
  · exact .intro (execRingPageWrite_due hr) (State.ringPage_ring hu)
  · exact .intro (congrArg Host.Outcome.next (State.asWriter_of hup hw)) State.readSeq_shows
  · refine .intro (execMeterReadStream_start hp) ?_
    rw [State.meterByte_first (s := s.meterStart 1) hu ha rfl rfl]
    exact ⟨rfl, rfl, rfl, rfl⟩
  · refine .intro (execMeterReadStream_on hp) ?_
    rw [State.meterByte_next hu ha hc h0 h64]
    exact ⟨rfl, rfl, rfl⟩
  · refine .intro (execMeterReadStream_start hp) ?_
    rw [State.meterByte_none (s := s.meterStart 1) ha rfl]
    exact ⟨rfl, rfl⟩
  · refine .intro (execMeterReadStatus_start hp) ?_
    rw [State.foldl_meterByte]
    exact ⟨rfl, rfl, rfl⟩
  · exact .intro (execMeterUnknownCommand_start hp h1 h2) ⟨rfl, rfl, rfl⟩
  · exact .intro (execMeterUnknownCommand_on hp h1) ⟨rfl, rfl⟩
  · exact .intro (P := fun t => _) rfl ⟨rfl, rfl, rfl, rfl⟩
  · refine .intro (execPmCounterOverflow_of hb hk hpm hen) ⟨?_, State.pmOverflow_shows.2⟩
    rw [State.pmOverflow_shows.1]
    exact Tbl.get_set_same _ _ _ _
  · exact .intro (congrArg Host.Outcome.next (State.asWriter_of hup hw)) rfl

end Sys2Proof.Proofs

/-! SUPPORT. Read cache maintenance, Aftermath and Commons (O37, O38). -/

namespace Sys2Proof.Machine

/-! ### What a maintenance operation leaves unread -/

/-- `t` is `s` for all that cache maintenance reads: it may differ in the operation's own registers and notes. -/
structure State.MaintSame (s t : State) : Prop where
  rk : t.rk = { s.rk with maint := t.rk.maint }
  host : t.host = s.host
  reg : ∀ o, o ≠ RK + 0x38 → o ≠ RK + 0x3C → t.reg o = s.reg o

section
variable {a s t : State} {b : Bool} {n w op : Nat} {m : Maint}

theorem State.MaintSame.refl (s : State) : s.MaintSame s := ⟨rfl, rfl, fun _ _ _ => rfl⟩

theorem State.MaintSame.trans (h : a.MaintSame s) (k : s.MaintSame t) : a.MaintSame t :=
  ⟨by rw [k.rk, h.rk], k.host.trans h.host, fun o h1 h2 => (k.reg o h1 h2).trans (h.reg o h1 h2)⟩

theorem State.MaintSame.setReg {o : Nat} {v : Word} (h : a.MaintSame s) (ho : o = RK + 0x38 ∨ o = RK + 0x3C) : a.MaintSame (s.setReg o v) :=
  h.trans ⟨rfl, rfl, fun o' h1 h2 => State.reg_setReg_other _ _ _ _ (by omega)⟩

theorem State.MaintSame.setFld {o hi lo x : Nat} (h : a.MaintSame s) (ho : o = RK + 0x38 ∨ o = RK + 0x3C) : a.MaintSame (s.setFld o hi lo x) := h.setReg ho
theorem State.MaintSame.setBit {o i : Nat} {v : Bool} (h : a.MaintSame s) (ho : o = RK + 0x38 ∨ o = RK + 0x3C) : a.MaintSame (s.setBit o i v) := h.setReg ho

theorem State.MaintSame.setMaint {x : Option Maint} (h : a.MaintSame s) : a.MaintSame { s with rk := { s.rk with maint := x } } :=
  h.trans (t := { s with rk := { s.rk with maint := x } }) ⟨rfl, rfl, fun _ _ _ => rfl⟩

theorem State.MaintSame.fld {o hi lo : Nat} (h : s.MaintSame t) (h1 : o ≠ RK + 0x38) (h2 : o ≠ RK + 0x3C) : t.fld o hi lo = s.fld o hi lo := by
  rw [State.fld, State.fld, h.reg o h1 h2]

theorem State.MaintSame.usable (h : s.MaintSame t) : t.usable = s.usable := h.fld (by decide) (by decide)

theorem State.MaintSame.keyLimit (h : s.MaintSame t) : t.keyLimit b = s.keyLimit b := by
  rw [State.keyLimit, State.keyLimit, h.usable]

theorem State.MaintSame.filling (h : s.MaintSame t) : t.filling b n = s.filling b n := by
  have hnode (f : Fetch) (l : Nat) : t.fillNode f l = s.fillNode f l := by
    unfold State.fillNode
    rw [h.usable]
  have hfills (f : Fetch) : t.fills f b n = s.fills f b n := by
    unfold State.fills
    rw [hnode, hnode]
  rw [State.filling, State.filling, h.host]
  simp only [hfills]

theorem State.MaintSame.lineAt {set : Nat} (h : s.MaintSame t) : t.lineAt set w = s.lineAt set w := by
  rw [State.lineAt, State.lineAt, h.rk]

theorem State.MaintSame.cacheSet (h : s.MaintSame t) : t.cacheSet b n = s.cacheSet b n := by
  rw [State.cacheSet, State.cacheSet, h.rk, h.fld (by decide) (by decide)]

theorem State.MaintSame.cacheWay (h : s.MaintSame t) : t.cacheWay b n = s.cacheWay b n := by
  rw [State.cacheWay, State.cacheWay, h.cacheSet]
  simp only [h.lineAt]

theorem State.MaintSame.pinFull (h : s.MaintSame t) : t.pinFull b n = s.pinFull b n := by
  have hpin (set : Nat) : t.wayPinned set = s.wayPinned set := by
    funext w
    rw [State.wayPinned, State.wayPinned, h.lineAt]
  rw [State.pinFull, State.pinFull, State.pinnedIn, State.pinnedIn, h.cacheSet, h.fld (by decide) (by decide), hpin]

/-! ### How an operation ends -/

/-- The operation has ended with a status and a count of keys done. -/
structure State.MaintDone (t : State) (status done : Nat) : Prop where
  status : t.fld (RK + 0x3C) 29 26 = status
  done : t.fld (RK + 0x3C) 16 0 = done
  idle : t.flag (RK + 0x3C) 31 = false
  maint : t.rk.maint = none

theorem State.maintEnd_done {st d : Nat} (hst : st < 16) (hd : s.fld (RK + 0x3C) 16 0 = d) : (s.maintEnd st).MaintDone st d := by
  refine ⟨?_, ?_, State.flag_setBit_same _ _ _ _ (by decide), rfl⟩
  · rw [State.maintEnd, State.setBit, State.fld_setFld_other _ _ _ _ _ _ _ (by decide) (by decide) (.inl (by decide)),
      State.fld_setFld_same _ _ _ _ _ (by decide) (by decide)]
    exact Nat.mod_eq_of_lt hst
  · rw [State.maintEnd, State.setBit, State.fld_setFld_other _ _ _ _ _ _ _ (by decide) (by decide) (.inl (by decide)),
      State.fld_setFld_other _ _ _ _ _ _ _ (by decide) (by decide) (.inl (by decide))]
    exact hd

/-- The only key of an operation ends it. -/
theorem State.maintNext_done (hl : m.left ≤ 1) (h0 : s.fld (RK + 0x3C) 16 0 = 0) : (s.maintNext m).MaintDone 0 1 := by
  rw [State.maintNext]
  dsimp only
  rw [if_pos hl]
  refine State.maintEnd_done (by decide) ?_
  rw [State.fld_bump _ _ _ _ _ (by decide) (by decide), h0]
  rfl

theorem State.maintRun_idle {k : Nat} (h : s.rk.maint = none) : State.maintRun k s = s := by
  cases k with
  | zero => rfl
  | succ k => rw [State.maintRun, h]

theorem State.maintPump_idle {k : Nat} (h : s.rk.maint = none) : State.maintPump k s = s := by
  cases k with
  | zero => rfl
  | succ k => rw [State.maintPump, h]

/-! ### One key -/

/-- An operation at work on its first key. -/
structure State.AtKey (s u : State) (m : Maint) : Prop where
  same : s.MaintSame u
  maint : u.rk.maint = some m
  waiting : m.waiting = false
  done : u.fld (RK + 0x3C) 16 0 = 0

variable {u : State} {k : Nat}

theorem State.AtKey.run_out (h : s.AtKey u m) (ho : s.keyLimit m.isNode ≤ m.next) : (State.maintRun (k + 1) u).MaintDone 4 0 := by
  rw [State.maintRun, h.maint]
  dsimp only
  rw [if_neg (by simp [h.waiting]), if_pos (by rwa [h.same.keyLimit])]
  exact State.maintEnd_done (by decide) h.done

theorem State.probe_done : (s.probe b n).fld (RK + 0x3C) 16 0 = s.fld (RK + 0x3C) 16 0 := by
  have hshow (t u : State) (loc way : Nat) (pin f : Bool) (h : t.regs = u.regs) :
      ((((t.setFld (RK + 0x3C) 25 24 loc).setFld (RK + 0x3C) 20 17 way).setBit (RK + 0x3C) 23 pin).setBit (RK + 0x3C) 22 f).fld (RK + 0x3C) 16 0 =
        u.fld (RK + 0x3C) 16 0 := by
    rw [State.setBit, State.setBit, State.fld_setFld_other _ _ _ _ _ _ _ (by decide) (by decide) (.inl (by decide)),
      State.fld_setFld_other _ _ _ _ _ _ _ (by decide) (by decide) (.inl (by decide)),
      State.fld_setFld_other _ _ _ _ _ _ _ (by decide) (by decide) (.inl (by decide)),
      State.fld_setFld_other _ _ _ _ _ _ _ (by decide) (by decide) (.inl (by decide)), State.fld_of_regs h]
  unfold State.probe
  dsimp only
  split
  · exact hshow s s _ _ _ _ rfl
  split
  · exact hshow s s _ _ _ _ rfl
  split
  · exact hshow s.draw.2 s _ _ _ _ rfl
  · exact hshow s s _ _ _ _ rfl

theorem State.AtKey.run_probe (h : s.AtKey u m) (ho : m.next < s.keyLimit m.isNode) (hop : m.op = 1) : (State.maintRun (k + 1) u).MaintDone 0 1 := by
  rw [State.maintRun, h.maint]
  dsimp only
  rw [if_neg (by simp [h.waiting]), if_neg (by rw [h.same.keyLimit]; omega), if_pos hop]
  exact State.maintNext_done le_rfl (State.probe_done.trans h.done)

theorem State.cacheDrop_regs : (s.cacheDrop b n).regs = s.regs := by
  unfold State.cacheDrop
  dsimp only
  split <;> rfl

theorem State.cacheDrop_evb : (s.cacheDrop b n).rk.evb = s.rk.evb.filter (fun e => !e.line.named b n) := by
  unfold State.cacheDrop
  dsimp only
  split <;> rfl

theorem State.maintNext_evb : (s.maintNext m).rk.evb = s.rk.evb := by
  unfold State.maintNext
  dsimp only
  split <;> rfl

theorem State.AtKey.run_invalidate (h : s.AtKey u m) (hl : m.left = 1) (ho : m.next < s.keyLimit m.isNode) (hop : m.op = 2) (hf : s.filling m.isNode m.next = false) :
    (State.maintRun (k + 1) u).MaintDone 0 1 ∧ (State.maintRun (k + 1) u).rk.evb = s.rk.evb.filter (fun e => !e.line.named m.isNode m.next) := by
  have hdone : ((u.cacheDrop m.isNode m.next).maintNext m).MaintDone 0 1 :=
    State.maintNext_done (by rw [hl]) ((State.fld_of_regs State.cacheDrop_regs).trans h.done)
  rw [State.maintRun, h.maint]
  dsimp only
  rw [if_neg (by simp [h.waiting]), if_neg (by rw [h.same.keyLimit]; omega), if_neg (by omega), if_pos hop, if_neg (by rw [h.same.filling]; simp [hf]),
    State.maintRun_idle hdone.maint]
  refine ⟨hdone, ?_⟩
  rw [State.maintNext_evb, State.cacheDrop_evb, h.same.rk]

theorem State.markPinned_regs {v : Bool} : (s.markPinned b n v).regs = s.regs := by
  unfold State.markPinned
  dsimp only
  split
  · split <;> rfl
  · rfl

theorem State.AtKey.run_unpin (h : s.AtKey u m) (hl : m.left = 1) (ho : m.next < s.keyLimit m.isNode) (hop : m.op = 4) : (State.maintRun (k + 1) u).MaintDone 0 1 := by
  have hdone : ((u.markPinned m.isNode m.next false).maintNext m).MaintDone 0 1 :=
    State.maintNext_done (by rw [hl]) ((State.fld_of_regs State.markPinned_regs).trans h.done)
  rw [State.maintRun, h.maint]
  dsimp only
  rw [if_neg (by simp [h.waiting]), if_neg (by rw [h.same.keyLimit]; omega), if_neg (by omega), if_neg (by omega), if_neg (by omega),
    State.maintRun_idle hdone.maint]
  exact hdone

theorem State.AtKey.pinKey (h : s.AtKey u m) (hl : m.left = 1) (hf : s.filling m.isNode m.next = false) (hw : s.cacheWay m.isNode m.next = some w)
    (hp : s.pinFull m.isNode m.next = false) : (u.pinKey m).MaintDone 0 1 := by
  have hroom : u.fld (RK + 4) 15 12 ≠ 0 := by
    rw [h.same.fld (by decide) (by decide)]
    simp only [State.pinFull, decide_eq_false_iff_not] at hp
    omega
  rw [State.pinKey, if_neg hroom, if_neg (by rw [h.same.filling]; simp [hf]), h.same.cacheWay, hw]
  dsimp only
  split
  · exact State.maintNext_done (by rw [hl]) h.done
  · rw [if_neg (by rw [h.same.pinFull]; simp [hp])]
    exact State.maintNext_done (by rw [hl]) ((State.fld_of_regs State.markPinned_regs).trans h.done)

theorem State.AtKey.run_pin (h : s.AtKey u m) (hl : m.left = 1) (ho : m.next < s.keyLimit m.isNode) (hop : m.op = 3) (hf : s.filling m.isNode m.next = false)
    (hw : s.cacheWay m.isNode m.next = some w) (hp : s.pinFull m.isNode m.next = false) : (State.maintRun (k + 1) u).MaintDone 0 1 := by
  have hdone := h.pinKey hl hf hw hp
  rw [State.maintRun, h.maint]
  dsimp only
  rw [if_neg (by simp [h.waiting]), if_neg (by rw [h.same.keyLimit]; omega), if_neg (by omega), if_neg (by omega), if_pos hop,
    State.maintRun_idle hdone.maint]
  exact hdone

/-! ### The rows -/

/-- The operation word as a go leaves it before any key: no status, no key done. -/
def State.maintCleared (s : State) (op : Nat) : State :=
  (s.setFld (RK + 0x38) 19 16 op).setReg (RK + 0x3C) (putBits (putBits (s.reg (RK + 0x3C)) 29 17 0) 16 0 0)

/-- The notes of an operation on `l` keys from that which RK_MAINT_ADDR names. -/
def State.maintKey (s : State) (op l : Nat) : Maint :=
  { op := op, isNode := (s.reg64 (RK + 0x30)).testBit 38, next := s.reg64 (RK + 0x30) % 2 ^ 38, left := l, waiting := false, want := false, stalled := false }

/-- The state in which an operation on `l` keys begins. -/
def State.maintBegun (s : State) (op l : Nat) : State :=
  { (((s.maintCleared op).setBit (RK + 0x3C) 31 true).setFld (RK + 0x3C) 29 26 1) with rk := { s.rk with maint := some (s.maintKey op l) } }

theorem State.maintCleared_flag (h : s.flag (RK + 0x3C) 31 = false) : (s.maintCleared op).flag (RK + 0x3C) 31 = false := by
  rw [State.flag, State.fld] at h ⊢
  rw [State.maintCleared, State.reg_setReg_same, bits_putBits_other _ _ _ _ _ _ (by decide) (by decide) (.inr (by decide)),
    bits_putBits_other _ _ _ _ _ _ (by decide) (by decide) (.inr (by decide))]
  exact h

theorem State.maintCleared_done : (s.maintCleared op).fld (RK + 0x3C) 16 0 = 0 := by
  rw [State.maintCleared, State.fld_setReg_same, bits_putBits _ _ _ _ (by decide) (by decide), Nat.zero_mod]

theorem State.maintCleared_status : (s.maintCleared op).fld (RK + 0x3C) 29 26 = 0 := by
  rw [State.maintCleared, State.fld_setReg_same, bits_putBits_other _ _ _ _ _ _ (by decide) (by decide) (.inr (by decide))]
  have h := bits_putBits (s.reg (RK + 0x3C)) 29 17 0 (by decide) (by decide)
  rw [bits] at h ⊢
  omega

theorem State.maintCleared_reg {o : Nat} (h1 : o ≠ RK + 0x38) (h2 : o ≠ RK + 0x3C) : (s.maintCleared op).reg o = s.reg o := by
  rw [State.maintCleared, State.reg_setReg_other _ _ _ _ h2, State.reg_setFld, if_neg h1]

theorem State.MaintSame.maintBegun {l : Nat} : s.MaintSame (s.maintBegun op l) :=
  .setMaint (.setFld (.setBit (.setReg (.setFld (.refl s) (.inl rfl)) (.inr rfl)) (.inr rfl)) (.inr rfl))

theorem State.maintBegun_done {l : Nat} : (s.maintBegun op l).fld (RK + 0x3C) 16 0 = 0 := by
  have hregs : (s.maintBegun op l).regs = (((s.maintCleared op).setBit (RK + 0x3C) 31 true).setFld (RK + 0x3C) 29 26 1).regs := rfl
  rw [State.fld_of_regs hregs, State.setBit, State.fld_setFld_other _ _ _ _ _ _ _ (by decide) (by decide) (.inl (by decide)),
    State.fld_setFld_other _ _ _ _ _ _ _ (by decide) (by decide) (.inl (by decide)), State.maintCleared_done]

theorem State.maintBegun_atKey {l : Nat} : s.AtKey (s.maintBegun op l) (s.maintKey op l) := ⟨.maintBegun, rfl, rfl, State.maintBegun_done⟩

theorem State.flag_setFld_reg {o o' hi lo x b' : Nat} (h : o' ≠ o) : (s.setFld o hi lo x).flag o' b' = s.flag o' b' := by
  rw [State.flag, State.flag, State.fld_setFld_reg _ _ _ _ _ _ _ _ h]

/-- The keys an operation acts on. -/
def State.maintKeys (s : State) (op : Nat) : Nat := if op = 1 then 1 else s.fld (RK + 0x38) 15 0 + 1

/-- The row of an operation that acts on keys runs it. -/
theorem State.maintRow_keys (hup : s.regsUp = true) (hidle : s.flag (RK + 0x3C) 31 = false) (hop : op ≠ 0) :
    s.maintRow op = State.maintPump (s.fld (RK + 0x38) 15 0 + 1) (State.maintRun (s.fld (RK + 0x38) 15 0 + 2) (s.maintBegun op (s.maintKeys op))) := by
  have hcount : (s.setFld (RK + 0x38) 19 16 op).fld (RK + 0x38) 15 0 = s.fld (RK + 0x38) 15 0 :=
    State.fld_setFld_other _ _ _ _ _ _ _ (by decide) (by decide) (.inl (by decide))
  have hbusy : (s.setFld (RK + 0x38) 19 16 op).flag (RK + 0x3C) 31 = false := (State.flag_setFld_reg (by decide)).trans hidle
  have haddr : (s.setFld (RK + 0x38) 19 16 op).reg64 (RK + 0x30) = s.reg64 (RK + 0x30) := by
    rw [State.reg64, State.reg64, State.reg_setFld, State.reg_setFld, if_neg (by decide), if_neg (by decide)]
  have hword : (s.setFld (RK + 0x38) 19 16 op).reg (RK + 0x3C) = s.reg (RK + 0x3C) := by rw [State.reg_setFld, if_neg (by decide)]
  rw [State.maintRow, if_neg (not_not.mpr hup)]
  dsimp only
  rw [hcount, haddr, State.maintGo, if_neg (by simp [hbusy]), hword]
  dsimp only
  rw [if_neg hop]
  rfl

/-- Where the operation ends in its row, its row leaves that. -/
theorem State.maintRow_done {st d : Nat} (hup : s.regsUp = true) (hidle : s.flag (RK + 0x3C) 31 = false) (hop : op ≠ 0)
    (h : (State.maintRun (s.fld (RK + 0x38) 15 0 + 2) (s.maintBegun op (s.maintKeys op))).MaintDone st d) :
    s.maintRow op = State.maintRun (s.fld (RK + 0x38) 15 0 + 2) (s.maintBegun op (s.maintKeys op)) := by
  rw [State.maintRow_keys hup hidle hop, State.maintPump_idle h.maint]

theorem State.maintKeys_one (h : s.fld (RK + 0x38) 15 0 = 0) : s.maintKeys op = 1 := by
  rw [State.maintKeys, h]
  split <;> rfl

theorem State.maintRow_none (hup : s.regsUp = true) (hidle : s.flag (RK + 0x3C) 31 = false) (hm : s.rk.maint = none) : s.maintRow 0 = s.maintCleared 0 := by
  have hbusy : (s.setFld (RK + 0x38) 19 16 0).flag (RK + 0x3C) 31 = false := (State.flag_setFld_reg (by decide)).trans hidle
  have hword : (s.setFld (RK + 0x38) 19 16 0).reg (RK + 0x3C) = s.reg (RK + 0x3C) := by rw [State.reg_setFld, if_neg (by decide)]
  rw [State.maintRow, if_neg (not_not.mpr hup)]
  dsimp only
  rw [State.maintGo, if_neg (by simp [hbusy]), hword]
  exact State.maintPump_idle hm

theorem State.maintRow_busy (hup : s.regsUp = true) (hbusy : s.flag (RK + 0x3C) 31 = true) (hm : s.rk.maint = none) :
    s.maintRow op = (s.setFld (RK + 0x38) 19 16 op).setBit (RK + 0x3C) 30 true := by
  have hbusy' : (s.setFld (RK + 0x38) 19 16 op).flag (RK + 0x3C) 31 = true := (State.flag_setFld_reg (by decide)).trans hbusy
  rw [State.maintRow, if_neg (not_not.mpr hup)]
  dsimp only
  rw [State.maintGo, if_pos hbusy']
  exact State.maintPump_idle hm

end

end Sys2Proof.Machine

namespace Sys2Proof.Machine

/-! ### Aftermath and Commons -/

section
variable {s : State} {e : EvLine} {rest : List EvLine} {who : Requester} {off : Nat} {bs : List Byte}

theorem execEvictionBufferWrite_of (hm : s.rk.maint = none) : execEvictionBufferWrite s = .next s.evbWrite := by
  have hmaint : s.evbWrite.rk.maint = none := by
    unfold State.evbWrite
    split
    · exact hm
    · dsimp only
      split <;> exact hm
  rw [execEvictionBufferWrite]
  dsimp only
  rw [hmaint]

/-- A line that leaves the eviction buffer goes to its set of Aftermath, unpinned, behind the fifteen latest there. -/
theorem State.evbWrite_on (he : s.rk.evb = e :: rest) (hon : s.flag (RK + 4) 1 = true) :
    s.evbWrite.rk.evb = rest ∧ s.evbWrite.aftLines (s.aftSet e.line.isNode e.line.num) =
      (s.aftLines (s.aftSet e.line.isNode e.line.num) ++ [{ e.line with pinned := false }]).drop
        ((s.aftLines (s.aftSet e.line.isNode e.line.num)).length + 1 - 16) := by
  have hflag : ({ s with rk := { s.rk with evb := rest } } : State).flag (RK + 4) 1 = true := hon
  rw [State.evbWrite, he]
  dsimp only
  rw [if_pos hflag]
  refine ⟨rfl, ?_⟩
  refine (Tbl.get_set_same _ _ _ _).trans ?_
  rw [List.length_append]
  rfl

theorem State.evbWrite_off (he : s.rk.evb = e :: rest) (hoff : s.flag (RK + 4) 1 = false) : s.evbWrite = { s with rk := { s.rk with evb := rest } } := by
  have hflag : ({ s with rk := { s.rk with evb := rest } } : State).flag (RK + 4) 1 = false := hoff
  rw [State.evbWrite, he]
  dsimp only
  rw [if_neg (by simp [hflag])]

theorem execCommonsWrite_allowed (h : ∀ i, i < bs.length → s.commonsAllowed who (off + i) true = true) : execCommonsWrite who off bs s = .next { s with rk := { s.rk with
    commons := Memory.writeBytes s.rk.commons off bs, badBytes := s.rk.badBytes.filter (fun a => ¬ (off ≤ a ∧ a < off + bs.length)) } } := by
  refine congrArg _ (if_pos ?_)
  rw [List.all_eq_true]
  exact fun i hi => h i (List.mem_range.mp hi)

theorem execCommonsWrite_refused {i : Nat} (hi : i < bs.length) (h : s.commonsAllowed who (off + i) true = false) :
    execCommonsWrite who off bs s = .next (s.commonsRefuse who true) := by
  refine congrArg _ (if_neg ?_)
  rw [List.all_eq_true]
  exact fun k => by simp [k i (List.mem_range.mpr hi)] at h

theorem execCommonsDisallowedAccess_of {write : Bool} (h : s.commonsAllowed who off write = false) :
    execCommonsDisallowedAccess who off write s = .next (s.commonsRefuse who write) := congrArg _ (if_neg (by simp [h]))

theorem State.commonsRefuse_rk {write : Bool} : (s.commonsRefuse who write).rk = s.rk ∧ (s.commonsRefuse who write).regs = s.regs := by
  unfold State.commonsRefuse
  split <;> split <;> exact ⟨rfl, rfl⟩

end

end Sys2Proof.Machine

namespace Sys2Proof.Proofs

open Sys2Proof Sys2Proof.Machine

/-- Settles O37: an operation on one key ends in its row. -/
theorem readCacheCommands : Obligations.ReadCacheCommands := by
  refine ⟨fun s e rest he hm hon => .intro (execEvictionBufferWrite_of hm) (State.evbWrite_on he hon), fun s e rest he hm hoff => ?_, fun s hup hidle hm => ?_,
    fun s hup hbusy hm => ?_, fun s hup hidle hone hlt => ?_, fun s hup hidle hone hlt hf => ?_, fun s w hup hidle hone hlt hf hw hp => ?_,
    fun s hup hidle hone hlt => ?_, fun s c hc hup hidle hout => ?_, fun s who v hup hw => ?_⟩
  · refine .intro (execEvictionBufferWrite_of hm) ?_
    rw [State.evbWrite_off he hoff]
    exact ⟨rfl, rfl⟩
  · refine .intro (congrArg Host.Outcome.next (State.maintRow_none hup hidle hm)) ?_
    exact ⟨State.maintCleared_status, State.maintCleared_done, State.maintCleared_flag hidle⟩
  · exact .intro (congrArg Host.Outcome.next (State.maintRow_busy hup hbusy hm)) ⟨State.flag_setBit_same _ _ _ _ (by decide), rfl⟩
  · have h := (State.maintBegun_atKey (s := s) (op := 1) (l := s.maintKeys 1)).run_probe (k := s.fld (RK + 0x38) 15 0 + 1) hlt rfl
    exact .intro (congrArg Host.Outcome.next (State.maintRow_done hup hidle (by decide) h)) ⟨h.status, h.done, h.idle, h.maint⟩
  · have h := (State.maintBegun_atKey (s := s) (op := 2) (l := s.maintKeys 2)).run_invalidate (k := s.fld (RK + 0x38) 15 0 + 1) (State.maintKeys_one (op := 2) hone) hlt rfl hf
    exact .intro (congrArg Host.Outcome.next (State.maintRow_done hup hidle (by decide) h.1)) ⟨h.1.status, h.1.done, h.1.idle, h.2⟩
  · have h := (State.maintBegun_atKey (s := s) (op := 3) (l := s.maintKeys 3)).run_pin (k := s.fld (RK + 0x38) 15 0 + 1) (State.maintKeys_one (op := 3) hone) hlt rfl hf hw hp
    exact .intro (congrArg Host.Outcome.next (State.maintRow_done hup hidle (by decide) h)) ⟨h.status, h.done, h.idle, h.maint⟩
  · have h := (State.maintBegun_atKey (s := s) (op := 4) (l := s.maintKeys 4)).run_unpin (k := s.fld (RK + 0x38) 15 0 + 1) (State.maintKeys_one (op := 4) hone) hlt rfl
    exact .intro (congrArg Host.Outcome.next (State.maintRow_done hup hidle (by decide) h)) ⟨h.status, h.done, h.idle, h.maint⟩
  · have h (op : Nat) := (State.maintBegun_atKey (s := s) (op := op) (l := s.maintKeys op)).run_out (k := s.fld (RK + 0x38) 15 0 + 1) hout
    have hend (op : Nat) (hop : op ≠ 0) (he : exec c s = .next (s.maintRow op)) : Completes c s (fun t =>
        t.fld (RK + 0x3C) 29 26 = 4 ∧ t.fld (RK + 0x3C) 16 0 = 0 ∧ t.flag (RK + 0x3C) 31 = false ∧ t.rk.maint = none) :=
      .intro (he.trans (congrArg Host.Outcome.next (State.maintRow_done hup hidle hop (h op)))) ⟨(h op).status, (h op).done, (h op).idle, (h op).maint⟩
    simp only [List.mem_cons, List.not_mem_nil, or_false] at hc
    rcases hc with rfl | rfl | rfl | rfl
    · exact hend 1 (by decide) rfl
    · exact hend 2 (by decide) rfl
    · exact hend 3 (by decide) rfl
    · exact hend 4 (by decide) rfl
  · exact .intro (congrArg Host.Outcome.next (State.asWriter_of hup hw)) ⟨rfl, rfl, State.reg_setReg_same _ _ _⟩

/-- Settles O38: an allowed write stores its bytes; a refused access only answers. -/
theorem commonsCommands : Obligations.CommonsCommands := by
  refine ⟨fun s who off bs h => ?_, fun s who off bs i hi h => .intro (execCommonsWrite_refused hi h) State.commonsRefuse_rk,
    fun s who off h => .intro (execCommonsDisallowedAccess_of h) ⟨rfl, State.commonsRefuse_rk⟩,
    fun s off h => .intro (execCommonsDisallowedAccess_of h) ⟨rfl, rfl⟩⟩
  refine .intro (execCommonsWrite_allowed h) ⟨fun a => Memory.read_writeBytes _ _ _ _, fun a ha => ?_, rfl⟩
  have hk := (List.mem_filter.mp ha).2
  simp only [decide_eq_true_eq] at hk
  omega

end Sys2Proof.Proofs

/-! SUPPORT. The journal ring: what placing and appending records leaves (O39 and others). -/

namespace Sys2Proof.Machine

/-- `t` is `s` but for records placed in the ring, and the commands that program and erase its log plots. -/
structure State.Placed (s t : State) : Prop where
  same : t = { s with
    media := { s.media with chans := t.media.chans }, log := t.log
    tp := { s.tp with unverified := t.tp.unverified, erasing := t.tp.erasing }, wb := { s.wb with anchors := t.wb.anchors } }
  recs : ∀ r ∈ s.tp.unverified, ∃ p, { r with pos := p } ∈ t.tp.unverified
  anchors : ∀ a ∈ s.wb.anchors, ∃ p, { a with pos := p } ∈ t.wb.anchors

section
variable {a s t : State} {p n : Nat} {r : JRec}

theorem State.Placed.refl (s : State) : s.Placed s := ⟨rfl, fun r h => ⟨r.pos, h⟩, fun a h => ⟨a.pos, h⟩⟩

theorem State.Placed.trans (h : a.Placed s) (k : s.Placed t) : a.Placed t := by
  refine ⟨by rw [k.same, h.same], fun r hr => ?_, fun x hx => ?_⟩
  · obtain ⟨p, hp⟩ := h.recs r hr
    obtain ⟨q, hq⟩ := k.recs _ hp
    exact ⟨q, hq⟩
  · obtain ⟨p, hp⟩ := h.anchors x hx
    obtain ⟨q, hq⟩ := k.anchors _ hp
    exact ⟨q, hq⟩

theorem State.Placed.ite {c : Prop} [Decidable c] (h : a.Placed s) (k : a.Placed t) : a.Placed (if c then s else t) := by
  split <;> assumption

theorem State.Placed.foldl {α : Type} {f : State → α → State} {l : List α} (h : a.Placed s) (hf : ∀ t x, State.Placed t (f t x)) : a.Placed (l.foldl f s) := by
  induction l generalizing s with
  | nil => exact h
  | cons x l ih => exact ih (h.trans (hf s x))

theorem State.Placed.submit {c : Nat} {m : MCmd} (h : a.Placed s) : a.Placed (s.submit c m) := h.trans ⟨rfl, fun r h => ⟨r.pos, h⟩, fun a h => ⟨a.pos, h⟩⟩

theorem State.Placed.setLog {log : LogField} (h : a.Placed s) : a.Placed { s with log := log } :=
  h.trans (t := { s with log := log }) ⟨rfl, fun r h => ⟨r.pos, h⟩, fun a h => ⟨a.pos, h⟩⟩

theorem State.Placed.setErasing {e : Tbl Nat} (h : a.Placed s) : a.Placed { s with tp := { s.tp with erasing := e } } :=
  h.trans (t := { s with tp := { s.tp with erasing := e } }) ⟨rfl, fun r h => ⟨r.pos, h⟩, fun a h => ⟨a.pos, h⟩⟩

/-- Giving the anchor record of a number its place keeps every record. -/
theorem State.Placed.setAnchorPos {q : Nat} (h : a.Placed s) :
    a.Placed { s with wb := { s.wb with anchors := s.wb.anchors.map fun (x : AnchorRec) => if x.seq = q then { x with pos := some p } else x } } := by
  refine h.trans ⟨rfl, fun r h => ⟨r.pos, h⟩, fun x hx => ?_⟩
  by_cases hq : x.seq = q
  · exact ⟨some p, List.mem_map.mpr ⟨x, hx, if_pos hq⟩⟩
  · exact ⟨x.pos, List.mem_map.mpr ⟨x, hx, if_neg hq⟩⟩

theorem State.Placed.putLog {page sl : Nat} {b : List Byte} (h : a.Placed s) : a.Placed (s.putLog p page sl b) := .ite h h.submit

theorem State.Placed.putLogParity {page : Nat} {l : List (List Byte)} (h : a.Placed s) : a.Placed (s.putLogParity p page l) :=
  h.foldl fun t _ => (State.Placed.refl t).putLog

theorem State.Placed.ringAppend {b : List Byte} (h : a.Placed s) : a.Placed (s.ringAppend b) := by
  have hput := h.putLog (p := ringPlot s.log.pos) (page := ringLogPage s.log.pos) (sl := s.log.pos % 64) (b := b)
  unfold State.ringAppend
  dsimp only
  split
  · exact hput.setLog
  · exact hput.setLog.putLogParity

theorem State.Placed.ringClose (h : a.Placed s) : a.Placed s.ringClose := by
  unfold State.ringClose
  dsimp only
  split
  · exact h
  · exact h.setLog.putLogParity

theorem State.Placed.erasePlot (h : a.Placed s) : a.Placed (s.erasePlot p n) := h.setErasing.foldl fun t _ => (State.Placed.refl t).submit

theorem State.Placed.ringErase (h : a.Placed s) : a.Placed s.ringErase := .ite h h.erasePlot

/-- Giving the record of a number its place keeps every record. -/
theorem State.Placed.setPos {q : Nat} (h : a.Placed s) :
    a.Placed { s with tp := { s.tp with unverified := s.tp.unverified.map fun (x : JRec) => if x.seq = q then { x with pos := some p } else x } } := by
  refine h.trans ⟨rfl, fun r hr => ?_, fun x hx => ⟨x.pos, hx⟩⟩
  by_cases hq : r.seq = q
  · exact ⟨some p, List.mem_map.mpr ⟨r, hr, if_pos hq⟩⟩
  · exact ⟨r.pos, List.mem_map.mpr ⟨r, hr, if_neg hq⟩⟩

theorem State.Placed.ringPump (h : a.Placed s) : a.Placed s.ringPump := by
  refine State.Placed.ringErase (State.Placed.foldl (h.foldl fun t r => ?_) fun t x => ?_)
  · exact .ite (.refl t) (State.Placed.refl t).ringAppend.setPos
  · exact .ite (.refl t) ((State.Placed.refl t).foldl fun u _ => (State.Placed.refl u).ringAppend).setAnchorPos

end

/-- `t` is `s` but for journal records appended and placed, and what is counted. -/
structure State.Journaled (s t : State) : Prop where
  same : t = { s with
    regs := t.regs, media := { s.media with chans := t.media.chans }, log := t.log
    tp := { s.tp with nextSeq := t.tp.nextSeq, unverified := t.tp.unverified, erasing := t.tp.erasing }
    wb := { s.wb with anchors := t.wb.anchors }, pm := t.pm }
  reg : ∀ o, o < PM ∨ PM + 0x1000 ≤ o → t.reg o = s.reg o

section
variable {a s t : State} {p n o : Nat} {r : JRec}

theorem State.Journaled.refl (s : State) : s.Journaled s := ⟨rfl, fun _ _ => rfl⟩

theorem State.Journaled.trans (h : a.Journaled s) (k : s.Journaled t) : a.Journaled t :=
  ⟨by rw [k.same, h.same], fun o ho => (k.reg o ho).trans (h.reg o ho)⟩

theorem State.Journaled.foldl {α : Type} {f : State → α → State} {l : List α} (h : a.Journaled s) (hf : ∀ t x, State.Journaled t (f t x)) :
    a.Journaled (l.foldl f s) := by
  induction l generalizing s with
  | nil => exact h
  | cons x l ih => exact ih (h.trans (hf s x))

theorem State.Journaled.placed (h : a.Journaled s) (k : s.Placed t) : a.Journaled t :=
  h.trans ⟨by rw [k.same], fun o _ => by rw [k.same]; rfl⟩

theorem State.Journaled.counted (h : a.Journaled s) (k : s.Counted t) : a.Journaled t := h.trans ⟨by rw [k.same], k.reg⟩

theorem State.Journaled.setRecs {q : Nat} {l : List JRec} (h : a.Journaled s) : a.Journaled { s with tp := { s.tp with nextSeq := q, unverified := l } } :=
  h.trans (t := { s with tp := { s.tp with nextSeq := q, unverified := l } }) ⟨rfl, fun _ _ => rfl⟩

theorem State.Journaled.journal (h : a.Journaled s) : a.Journaled (s.journal r) :=
  (h.setRecs.placed (State.Placed.refl _).ringPump).counted (State.Counted.refl _).countGlobal

theorem State.Journaled.journalPlot {f : PlotRec → PlotRec} (h : a.Journaled s) : a.Journaled (s.journalPlot p f) := h.journal

/-- A record is appended under the next sequence number. -/
theorem State.journal_appends : (s.journal r).tp.nextSeq = s.tp.nextSeq + 1 ∧
    ∃ p, { r with seq := s.tp.nextSeq, pos := p } ∈ (s.journal r).tp.unverified := by
  have hp := (State.Placed.refl { s with tp := { s.tp with nextSeq := s.tp.nextSeq + 1, unverified := s.tp.unverified ++ [{ r with seq := s.tp.nextSeq }] } }).ringPump
  rw [State.journal, State.countGlobal_tp]
  refine ⟨by rw [hp.same], ?_⟩
  exact hp.recs { r with seq := s.tp.nextSeq } (List.mem_append_right _ (List.mem_singleton.mpr rfl))

end

end Sys2Proof.Machine

/-! SUPPORT. Plots, checkpoints and drift (O39, O40). -/

namespace Sys2Proof.Machine

section
variable {s t : State} {kind i p n x plot page : Nat} {node : Bool} {m : Migration}

/-! ### Started actions -/

/-- A started action runs, and its entry ends with it. -/
theorem State.runAction_of {k : Nat → State → State} (h : s.Takes x n t) : s.runAction x k = .next ((k n t).endEntry n) := by
  rw [State.runAction, show s.takeAction x = some (n, t) from h]

theorem State.beginAction_of {k : Nat → State → State} (h : s.Takes x n t) : s.beginAction x k = .next (k n t) := by
  rw [State.beginAction, show s.takeAction x = some (n, t) from h]

/-! ### Migrations and erases -/

theorem execMigrationStart_new (hq : (kind, node, i) ∈ s.tp.migQueue) (hs : s.stillness = 0) (hm : s.migrationOf node i = none)
    (hroom : s.migsActive < s.fld (TP + 0x28) 8 0) :
    execMigrationStart kind i node s = .next (
      if ¬ s.mayAllocate (decide (kind = 4)) false then s.migrationRefused kind node i
      else match s.takeSpare (decide (kind = 1) && decide ((s.plotRec (s.entry node i).phys).cycles + 1 ≤ s.fld (TP + 0x48) 20 0)) with
        | none => s
        | some (p, s) => s.beginMigration kind node i p) := by
  rw [execMigrationStart, if_pos ⟨hq, by omega, by omega⟩, hm]
  dsimp only
  exact congrArg Host.Outcome.next (if_neg (Nat.not_le_of_lt hroom))

theorem State.beginMigration_journals : (s.beginMigration kind node i p).tp.nextSeq = s.tp.nextSeq + 1 ∧ ∃ r ∈ (s.beginMigration kind node i p).tp.unverified,
    r.type = 0x01 ∧ r.seq = s.tp.nextSeq ∧ r.entry = i ∧ r.node = node ∧ r.kind = kind ∧ r.plotA = (s.entry node i).phys ∧ r.plotB = p := by
  unfold State.beginMigration State.journalStart
  obtain ⟨hseq, q, hq⟩ := State.journal_appends
  exact ⟨hseq, _, hq, rfl, rfl, rfl, rfl, rfl, rfl, rfl⟩

theorem execMigrationMapSwitch_of (hm : s.migrationOf node i = some m) (h3 : m.step = 3) (hd : m.dual = 0) (hk : m.kind ≠ 4) :
    execMigrationMapSwitch i node s = .next (s.journalSwitch m) := by
  rw [execMigrationMapSwitch, hm]
  dsimp only
  rw [if_pos ⟨h3, hd⟩, if_neg (fun h => hk h.1), if_neg (fun h => hk h.1), if_neg (fun h => hk h.1)]

theorem State.migrationOf_some (h : s.migrationOf node i = some m) : m.node = node ∧ m.entry = i := by
  have hm := List.find?_some h
  simp only [decide_eq_true_eq] at hm
  exact ⟨hm.1, hm.2.1⟩

theorem State.journalSwitch_journals (hk : m.kind ≠ 4) : (s.journalSwitch m).tp.nextSeq = s.tp.nextSeq + 1 ∧ ∃ r ∈ (s.journalSwitch m).tp.unverified,
    r.type = 0x02 ∧ r.seq = s.tp.nextSeq ∧ r.entry = m.entry ∧ r.node = m.node ∧ r.kind = (if m.retire then 2 else m.kind) ∧ r.plotA = m.src ∧ r.plotB = m.tgt ∧
      r.value = (if m.kind = 5 then s.hour else m.hour) := by
  unfold State.journalSwitch
  obtain ⟨hseq, q, hq⟩ := State.journal_appends
  exact ⟨hseq, _, hq, rfl, rfl, rfl, rfl, by simp [hk], rfl, rfl, rfl⟩

theorem execMigrationSourceErase_of (hm : s.tp.migs.find? (fun m => m.src = plot ∧ m.step = 5 ∧ ¬ m.retire ∧ m.kind ≠ 4) = some m)
    (hr : s.plotReads plot = false) (hw : s.plotWrites plot = false) (he : Tbl.find s.tp.erasing plot = none) :
    execMigrationSourceErase plot s = .next (s.erasePlot plot (m.charge s)) := by
  rw [execMigrationSourceErase, hm]
  dsimp only
  rw [if_neg (by simp [hr, hw, he])]

/-- A dirty spare that an erase is due for is erased, or retired where a member is out of service. -/
theorem execSpareErase_due (h1 : (s.plotRec plot).state = 1) (he : Tbl.find s.tp.erasing plot = none) (hr : s.ready < s.fld (TP + 0x14) 15 0)
    (hw : s.plotWrites plot = false) (hm : s.tp.migs.any (fun m => decide (m.src = plot ∧ m.step = 5)) = false) :
    execSpareErase plot s = .next (if s.plotOut plot then s.retirePlot plot 3 else s.erasePlot plot (if s.ready = 0 ∧ s.tp.migQueue ≠ [] then 1 else 0)) := by
  rw [execSpareErase, if_pos ⟨h1, by simp [he], hr, by simp [hw], by simpa using hm⟩]

/-- An erase of a plot that is whole awaits all seventeen members. -/
theorem State.erasePlot_erasing (h : s.plotOut plot = false) : Tbl.find (s.erasePlot plot n).tp.erasing plot = some 17 := by
  have hall : (List.range 17).filter (fun m => !s.memberOut plot m) = List.range 17 := by
    rw [List.filter_eq_self]
    intro k hk
    rw [State.plotOut, List.any_eq_false] at h
    simpa using h k hk
  unfold State.erasePlot
  dsimp only
  rw [hall]
  refine (congrArg (fun x : Plots => Tbl.find x.erasing plot) (foldl_view (v := State.tp) fun t m _ => ?_)).trans (Tbl.find_put_same _ _ _)
  rfl

/-! ### Checkpoints -/

/-- When the checkpoint in progress began. -/
def State.ckptBegan (s : State) : Option Nat := s.tp.ckptRun.map (·.start)

theorem State.Journaled.ckptRun (h : s.Journaled t) : t.tp.ckptRun = s.tp.ckptRun := by rw [h.same]

theorem State.Placed.ckptRun (h : s.Placed t) : t.tp.ckptRun = s.tp.ckptRun := by rw [h.same]

theorem State.Placed.ckptPage {l : List (List Byte)} : s.Placed (s.ckptPage p page l) :=
  (State.Placed.refl s).foldl fun t _ => .ite (State.Placed.refl t).submit (.refl t)

theorem State.ckptWrite_began {r : CkptRun} : (s.ckptWrite r).ckptBegan = some r.start := by
  have hpages (u : State) : u.Placed (u.ckptPrograms r) := (State.Placed.refl u).foldl fun t _ => .ckptPage
  rw [State.ckptBegan, State.ckptWrite]
  dsimp only
  rw [(hpages _).ckptRun]
  rfl

theorem State.ckptPump_began : s.ckptPump.ckptBegan = s.ckptBegan := by
  unfold State.ckptPump
  split
  · rfl
  next r hr =>
    have hb : s.ckptBegan = some r.start := by rw [State.ckptBegan, hr]; rfl
    rw [hb]
    split
    · exact hb
    split
    extract_lets r' tp u
    have hu : u.ckptBegan = some r.start := rfl
    split
    · exact hu
    split
    · rw [State.ckptBegan, (State.Placed.refl u).ringErase.ckptRun]
      exact hu
    · exact State.ckptWrite_began

theorem foldl_snd_tb {α β : Type} {f : β × State → α → β × State} {l : List α} {q : β × State} (hf : ∀ q y, (f q y).2.tb = q.2.tb) : (l.foldl f q).2.tb = q.2.tb := by
  induction l generalizing q with
  | nil => rfl
  | cons y l ih => exact ih.trans (hf q y)

theorem State.nodePrograms_tb {why : Nat → Why} {level i : Nat} {nd : Node} {v : Version} : (s.nodePrograms why level i nd v).2.tb = s.tb := by
  unfold State.nodePrograms
  refine foldl_snd_tb fun q y => ?_
  dsimp only
  split <;> rfl

theorem State.persistFld_tb {o hi lo x : Nat} : (s.persistFld o hi lo x).tb = s.tb := by
  rw [State.persistFld, (State.Stored.refl s).persist.same]

theorem State.advanceNodeKeys_tb : s.advanceNodeKeys.tb = s.tb := by
  unfold State.advanceNodeKeys
  split
  · rfl
  · dsimp only
    split
    · refine (foldl_snd_tb fun _ _ => ?_).trans ((foldl_snd_tb fun _ _ => ?_).trans State.persistFld_tb)
      · exact State.nodePrograms_tb
      · exact State.nodePrograms_tb
    · refine (foldl_snd_tb fun _ _ => ?_).trans ((foldl_snd_tb fun _ _ => ?_).trans State.persistFld_tb)
      · exact State.nodePrograms_tb
      · exact State.nodePrograms_tb

/-- A checkpoint that may start begins now. -/
theorem State.startCheckpoint_began (hr : s.tp.ckptRun = none) (hu : s.usable ≠ 0) (hrec : s.wb.recovered = true) :
    s.startCheckpoint.ckptBegan = some s.tb.ztime := by
  rw [State.startCheckpoint, if_neg (by simp [hr, hu, hrec])]
  dsimp only
  rw [State.ckptPump_began]
  exact congrArg (fun x : TimeBase => some x.ztime) State.advanceNodeKeys_tb

theorem State.began_some {z : Nat} (h : s.ckptBegan = some z) : ∃ r, s.tp.ckptRun = some r ∧ r.start = z := Option.map_eq_some_iff.mp h

theorem execMapCheckpoint_of (h : s.Takes 0x05 n t) (hr : t.tp.ckptRun = none) (hu : t.usable ≠ 0) (hrec : t.wb.recovered = true) :
    execMapCheckpoint s = .next t.startCheckpoint := by
  rw [execMapCheckpoint, State.beginAction_of h, if_neg (by simp [hr, hu, hrec])]

theorem execCheckpointComplete_of {crc : DWord} {r : CkptRun} {c : Ckpt} (hr : s.tp.ckptRun = some r) (hc : r.copy = some c) (hv : s.ckptVerified c = true)
    (hd : s.log.dir < s.log.dirRoom) : execCheckpointComplete crc s = .next (s.closeCheckpoint { c with done := s.tb.ztime, crc := crc }) := by
  rw [execCheckpointComplete, hr, Option.bind_some, hc]
  dsimp only
  rw [if_neg (by simp [hv, hd])]

theorem State.endAction_tp {x : Nat} : (s.endAction x).tp = s.tp := by
  refine foldl_view (v := State.tp) fun t k _ => ?_
  split <;> rfl

/-- A checkpoint that is closed is no longer in progress. -/
theorem State.closeCheckpoint_ckptRun {c : Ckpt} : (s.closeCheckpoint c).tp.ckptRun = none := by
  have hfree (u : State) (o : Option Ckpt) : u.Journaled (u.freeCkpt o) := by
    unfold State.freeCkpt
    split
    · exact (State.Journaled.refl u).foldl fun t _ => (State.Journaled.refl t).journalPlot
    · exact .refl u
  have hstore (u : State) : (u.storeCkpt c).tp.ckptRun = none := by
    unfold State.storeCkpt
    split <;> rfl
  rw [State.closeCheckpoint, State.endAction_tp, (State.Placed.refl _).ringPump.ckptRun]
  refine Eq.trans ?_ (hstore (s.putDirectory c))
  rw [State.forgetRecords]
  refine (hfree _ _).ckptRun.trans ?_
  exact (State.Journaled.refl _).journal.ckptRun

theorem execMapJournalVerified_done {r : JRec} {rest : List JRec} (hu : s.tp.unverified = r :: rest) (hd : s.recordDone r = true) :
    execMapJournalVerified s = .next (State.recordVerified { s with tp := { s.tp with unverified := rest, verified := r :: s.tp.verified } } r) := by
  rw [execMapJournalVerified, hu]
  dsimp only
  rw [if_pos hd]

theorem execMapJournalVerified_waits {r : JRec} {rest : List JRec} (hu : s.tp.unverified = r :: rest) (hd : s.recordDone r = false) :
    execMapJournalVerified s = .next s := by
  rw [execMapJournalVerified, hu]
  dsimp only
  rw [if_neg (by simp [hd])]

/-! ### Drift -/

/-- The hour's samples taken on channel `c` at hour `h`. -/
def State.takeHour (h : Nat) (s : State) (c : Nat) : State :=
  { s with df := { s.df with
    hourly := putSample s.df.hourly (histKey c (h % 1024)) h (s.effClock c)
    daily := if h % 24 = 0 then putSample s.df.daily (histKey c (h / 24 % 1366)) (h / 24) (s.effClock c) else s.df.daily } }

theorem State.takeHours_view {h : Nat} {l : List Nat} : ((l.foldl (State.takeHour h) s).df.cur, (l.foldl (State.takeHour h) s).df.queue,
    (l.foldl (State.takeHour h) s).tb) = (s.df.cur, s.df.queue, s.tb) :=
  foldl_view (v := fun t => (t.df.cur, t.df.queue, t.tb)) fun _ _ _ => rfl

theorem execHourBoundary_due (hdue : s.tb.hourDue = true) (hst : ∀ p ∈ s.tb.started, p.2 ≠ 2) (hstill : s.stillness < 3) (hrec : s.wb.recovered = true) :
    ∃ u : State, execHourBoundary s = .next { u with df := { u.df with old := u.df.cur, cur := [] } } ∧
      u.df.cur = s.df.cur ∧ u.df.queue = s.df.queue ∧ u.tb.hourDue = false := by
  have hno : ¬ (s.tb.started.any fun p => decide (p.2 = 2)) = true := by
    rw [List.any_eq_true]
    exact fun ⟨p, hp, h2⟩ => hst p hp (of_decide_eq_true h2)
  have hview := State.takeHours_view (s := { s with tb := { s.tb with hourDue := false } }) (h := s.tb.ztime / 3600000000000) (l := List.range s.chanCount)
  simp only [Prod.mk.injEq] at hview
  obtain ⟨hcur, hq, htb⟩ := hview
  refine ⟨_, ?_, hcur, hq, by rw [htb]⟩
  rw [execHourBoundary, if_neg (by simp only [hdue, not_true, false_or]; exact hno)]
  exact congrArg Host.Outcome.next (if_neg (not_or.mpr ⟨Nat.not_le.mpr hstill, not_not.mpr hrec⟩))

theorem execInPlaceRefresh_queued {q : Nat × Nat} (hq : s.df.queue.find? (fun q => q.1 = plot) = some q) (hs : s.stillness = 0 ∨ s.stillness = 1 ∧ 2 ≤ q.2) :
    execInPlaceRefresh plot s = .next (s.beginRefresh plot q.2) := by
  rw [execInPlaceRefresh, hq]
  dsimp only
  rw [if_neg (by omega)]

theorem execInPlaceRefreshComplete_of {r : Nat × Nat × Nat} (hr : s.df.refreshing.find? (fun r => r.1 = plot) = some r)
    (hj : s.codes.jobs.any (fun j => decide (j.kind = JobKind.refreshPage) && decide (j.plot = plot)) = false) (hm : s.migrating plot = false)
    (ho : Tbl.find s.df.refreshOn plot = none) (ha : s.refreshAsked plot = false) : execInPlaceRefreshComplete plot s = .next (s.endRefresh plot r) := by
  rw [execInPlaceRefreshComplete, hr]
  dsimp only
  rw [if_neg (by simp [hj, hm, ho, ha])]

theorem execRewriteQueueService_next {sl : Nat} {rest : List (Nat × Nat × Nat)} (hr : s.df.rewrite = (p, page, sl) :: rest) (hs : s.stillness = 0) :
    execRewriteQueueService s = .next (State.rewriteSlot { s with df := { s.df with rewrite := rest } } p page sl) := by
  rw [execRewriteQueueService, hr]
  dsimp only
  rw [if_neg (by omega)]

theorem execScrubPace_next (hs : s.df.scrub = some (i, page)) (h0 : s.stillness = 0) (hj : s.codes.jobs.any (fun j => decide (j.kind = JobKind.scrubPage)) = false) :
    execScrubPace s = .next (s.scrubPage i page) := by
  rw [execScrubPace, hs]
  dsimp only
  rw [if_neg (by simp [h0, hj])]

theorem State.takeAction_regs (h : s.Takes x n t) : t.regs = s.regs := by
  unfold State.Takes State.takeAction at h
  split at h
  · cases h
  · cases h
    rfl

end

end Sys2Proof.Machine

namespace Sys2Proof.Proofs

open Sys2Proof Sys2Proof.Machine

/-- Settles O39: each row's own equation, and what the journal and the checkpoint then hold. -/
theorem plotCommands : Obligations.PlotCommands := by
  refine ⟨fun s kind i p node u hq hs hm hroom hmay hspare => ?_, fun s kind i node hq hs hm hroom hmay => ?_, fun s i node m hm h3 hd hk => ?_,
    fun s plot m hm hr hw he => execMigrationSourceErase_of hm hr hw he, fun s plot h1 he hr hw hm ho => ?_, fun s plot h1 he hr hw hm ho => ?_,
    fun s t n h hr hu hrec => ?_, fun s h => congrArg Host.Outcome.next (if_pos h), fun s crc r c hr hc hv hd => ?_, fun s t n h => ?_,
    fun s u r rest hu hd hx => ?_, fun s r rest hu hd => execMapJournalVerified_waits hu hd⟩
  · refine .intro ((execMigrationStart_new hq hs hm hroom).trans ?_) ⟨rfl, State.beginMigration_journals⟩
    rw [if_neg (by simp [hmay]), hspare]
  · exact (execMigrationStart_new hq hs hm hroom).trans (congrArg Host.Outcome.next (if_pos (by simp [hmay])))
  · obtain ⟨rfl, rfl⟩ := State.migrationOf_some hm
    exact .intro (execMigrationMapSwitch_of hm h3 hd hk) (State.journalSwitch_journals hk)
  · refine .intro ((execSpareErase_due h1 he hr hw hm).trans (congrArg Host.Outcome.next (if_neg (by simp [ho])))) ⟨rfl, State.erasePlot_erasing ho⟩
  · exact (execSpareErase_due h1 he hr hw hm).trans (congrArg Host.Outcome.next (if_pos ho))
  · refine .intro (execMapCheckpoint_of h hr hu hrec) ⟨rfl, State.began_some ?_⟩
    rw [State.startCheckpoint_began hr hu hrec, State.takeAction_ztime h]
  · exact .intro (execCheckpointComplete_of hr hc hv hd) ⟨rfl, State.closeCheckpoint_ckptRun⟩
  · exact .intro (State.runAction_of h) ⟨rfl, State.schedRunning_endEntry, rfl, rfl⟩
  · rw [hx]
    exact execMapJournalVerified_done hu hd

/-- Settles O40: each row's own equation. -/
theorem driftCommands : Obligations.DriftCommands := by
  refine ⟨fun s t n h => .intro (State.runAction_of h) ⟨rfl, State.schedRunning_endEntry⟩, fun s hdue hst hstill hrec => ?_, fun s ha h1 h2 => congrArg Host.Outcome.next (if_pos ⟨ha, h1, h2⟩),
    fun s t n h => .intro (State.runAction_of h) ⟨rfl, State.schedRunning_endEntry⟩, fun s plot q hq hs => execInPlaceRefresh_queued hq hs,
    fun s plot r hr hj hm ho ha => execInPlaceRefreshComplete_of hr hj hm ho ha, fun s p page sl rest hr hs => execRewriteQueueService_next hr hs,
    fun s t n h hm => ?_, fun s t n h hs => ?_, fun s i page hs h0 hj => execScrubPace_next hs h0 hj⟩
  · obtain ⟨u, hu, hcur, hq, hd⟩ := execHourBoundary_due hdue hst hstill hrec
    exact .intro hu ⟨hcur, rfl, hq, hd⟩
  · refine (State.beginAction_of h).trans ?_
    rw [if_neg (by simp [hm])]
  · refine .intro ((State.beginAction_of h).trans (congrArg Host.Outcome.next (if_neg (by simp [hs])))) ⟨rfl, State.takeAction_regs (t := t) h⟩

end Sys2Proof.Proofs

/-! SUPPORT. Parity, the tree and the write buffer (O41, O42). -/

namespace Sys2Proof.Machine

section
variable {s t u : State} {p page n i : Nat} {d : Delta}

/-! ### Parity and pages -/

theorem execParityEntryAgeTrigger_due (hd : s.delta p page = some d) (h : s.fld (CD + 4) 15 0 * 800000 ≤ s.tb.ztime - d.first ∨ s.entering = true) :
    execParityEntryAgeTrigger p page s = .next (s.startWriteback p page) := by
  rw [execParityEntryAgeTrigger, hd]
  dsimp only
  rw [if_pos h]

theorem execParityOverrun_due (hd : s.delta p page = some d) (h : s.fld (CD + 4) 15 0 * 1000000 ≤ s.tb.ztime - d.first) :
    execParityOverrun p page s = .next ((s.bump (CD + 0x3C) 31 0 1).eventOnce p 0x2103 0 none p (page * 256)) := by
  rw [execParityOverrun, hd]
  dsimp only
  rw [if_pos h]

theorem quietReg_cd {j : Nat} (hj : j < 0x10000) : quietReg (CD + j) := by
  simp only [quietReg, CD, EV, HI, PM]
  omega

theorem execParityWritebackComplete_over (hd : s.delta p page = some d) (h : s.parityOver p page = true) : execParityWritebackComplete p page s =
    .next (((if d.count = 0 then s.delDelta p page else s.setDelta p page { d with engine := none, parity := [] }).countGlobal 0xC5 1).goOn) := by
  rw [execParityWritebackComplete, if_pos h, State.releaseDelta, hd]

theorem State.markNext_rebuilding : s.markNext.codes.rebuilding = s.codes.rebuilding ∧ s.markNext.fld (CD + 0x38) 31 0 = s.fld (CD + 0x38) 31 0 := by
  unfold State.markNext
  split
  · exact ⟨rfl, rfl⟩
  · unfold State.markRebuild
    dsimp only
    split
    · exact ⟨rfl, rfl⟩
    split
    · exact ⟨rfl, rfl⟩
    · rw [State.event_codes, (State.event_logs _ _ _ _ _ _).fld (quietReg_cd (by decide))]
      exact ⟨rfl, rfl⟩

/-- A rebuild that ends leaves the list of those in progress and counts. -/
theorem State.endRebuild_leaves {j : Job} : (s.endRebuild j).codes.rebuilding = s.codes.rebuilding.erase (j.plot * 256 + j.page) ∧
    (s.endRebuild j).fld (CD + 0x38) 31 0 = satAdd (s.fld (CD + 0x38) 31 0) 1 (2 ^ 32 - 1) := by
  have hq : quietReg (CD + 0x38) := quietReg_cd (by decide)
  unfold State.endRebuild
  dsimp only
  rw [State.markNext_rebuilding.1, State.markNext_rebuilding.2, State.event_codes, State.countGlobal_codes, (State.event_logs _ _ _ _ _ _).fld hq,
    (State.countGlobal_logs _ _ _).fld hq, State.fld_bump _ _ _ _ _ (by decide) (by decide)]
  exact ⟨rfl, rfl⟩

theorem execPageRebuildComplete_of {j : Job}
    (hj : s.codes.jobs.find? (fun j => decide (j.kind = JobKind.rebuild) && decide (j.plot = p) && decide (j.page = page)) = some j)
    (hr : p * 256 + page ∈ s.codes.rebuilding) (h2 : j.phase = 2) (h0 : j.progs = 0) : execPageRebuildComplete p page s = .next (s.endRebuild j) := by
  rw [execPageRebuildComplete, hj]
  dsimp only
  rw [if_pos ⟨hr, h2, h0⟩]

/-! ### The tree -/

theorem execRegraftComplete_of {level index : Nat} {r : Regraft} (hr : s.regraftTry.regraftOf level index = some r) (hl : r.level = level) (hi : r.index = index)
    (h2 : r.stage = 2) (hj : s.regraftTry.regraftJob level index = false) (h0 : level = 0 → Tbl.find s.regraftTry.wb.leaves index = none) :
    execRegraftComplete level index s = .next (s.regraftTry.endRegraft r) := by
  rw [execRegraftComplete, hr]
  dsimp only
  rw [if_pos ⟨hl, hi, h2, by simp [hj], fun h => by simp [h0 h.1] at h⟩]

theorem execLeafAgeExpire_due {l : Leaf} (hl : Tbl.find s.wb.leaves n = some l) (h : s.fld (WP + 0x10) 15 0 * 1000000 ≤ s.tb.ztime - l.first) :
    execLeafAgeExpire n s = .next (s.leafWriteBack n false) := by
  rw [execLeafAgeExpire, hl]
  dsimp only
  rw [if_pos h]

theorem execLeafWriteBackComplete_clean {l : Leaf} (hl : Tbl.find s.wb.leaves n = some l) (hw : l.writing = true) (h0 : l.progs = 0) (hc : l.changedAt = none) :
    execLeafWriteBackComplete n s = .next (State.goOn { s.setNode 0 n l.node with wb := { s.wb with leaves := Tbl.del s.wb.leaves n } }) := by
  rw [execLeafWriteBackComplete, hl]
  dsimp only
  rw [if_pos ⟨hw, h0⟩, hc]

theorem execRotationTimer_due {r : Rotation} (hr : s.gx.rotation = some r) (ha : s.actionCarried 0x0C = false) (hl : s.larkUp = true)
    (hz : r.stepAt + 100000000 ≤ s.tb.ztime) :
    execRotationTimer s = .next (State.rotateStep { s with gx := { s.gx with rotation := some { r with stepAt := s.tb.ztime } } }) := by
  rw [execRotationTimer, hr]
  dsimp only
  rw [if_neg (by simp [ha, hl]; omega)]

theorem execUncleanSweepStep_none (h : s.gx.sweep = some n) : execUncleanSweepStep .none s = .next (s.sweepStep n) := by
  rw [execUncleanSweepStep, h]
  rfl

/-! ### Frames -/

/-- A frame that has held its line long enough at `s`. -/
def State.ripe (s : State) (f : Frame) : Bool :=
  decide (f.state = .holding) && decide (ceilDiv (s.fld WP 15 0) 64 ≤ (s.stampNow + 128 - f.stamp % 128) % 128)

theorem State.foldl_order {l : List (Nat × Frame)} {f : State → Nat × Frame → State} {r : Frame → Bool}
    (hf : ∀ t x, (f t x).wb.order = if r x.2 then t.wb.order + 1 else t.wb.order) : (l.foldl f t).wb.order = t.wb.order + countIf (fun x => r x.2) l := by
  induction l generalizing t with
  | nil => rfl
  | cons x l ih =>
    rw [List.foldl_cons, ih, hf, countIf, countIf, List.filter_cons]
    split
    · rw [List.length_cons]
      omega
    · rfl

/-- A scan gives each ripe frame its place in the order. -/
theorem State.frameScan_order : s.frameScan.wb.order = s.wb.order + countIf (fun x : Nat × Frame => s.ripe x.2) s.wb.frames := by
  refine State.foldl_order (r := s.ripe) fun t x => ?_
  dsimp only
  rw [State.ripe]
  split <;> rfl

theorem execApply_frame {set way : Nat} {f0 f : Frame} (hs : set < 65536) (hw : way < 8) (h0 : s.frame set way = some f0)
    (hu : u = s.readFrame set way (lineOf s.wb.salt set f0.tag)) (hf : u.frame set way = some f) : execApply set way .none .none s =
      .next (if u.mayApply set way f then u.applyFrame set way f (lineOf s.wb.salt set f0.tag) else u) := by
  subst hu
  rw [execApply, below_of_lt hs, below_of_lt hw, h0]
  dsimp only [State.rickError]
  rw [hf]

theorem execPlotRedirect_of : execPlotRedirect p s = .next (match s.mayRedirect p, s.takeSpare false with
    | true, some (tgt, u) => u.redirect p tgt | _, _ => s) := by
  rw [execPlotRedirect]
  cases s.mayRedirect p with
  | false => rw [if_neg Bool.false_ne_true]
  | true =>
    rw [if_pos rfl]
    cases s.takeSpare false with
    | none => dsimp only
    | some q => dsimp only

/-! ### The anchor journal -/

theorem execAnchorJournalCheckpoint_of (h : s.Takes 0x03 n t) :
    execAnchorJournalCheckpoint s = .next (if t.wb.anchorRun.isSome ∨ ¬ t.wb.recovered then t.endEntry n else t.startAnchorCheckpoint) := by
  rw [execAnchorJournalCheckpoint, State.beginAction_of h]

theorem execAnchorCheckpointComplete_of {x z : Nat} (hr : s.wb.anchorRun = some (x, z)) (hf : s.wb.anchorFrames = []) (hc : s.anchorClosing = false)
    (hp : s.wb.anchors.any (s.anchorPending x z) = false) : execAnchorCheckpointComplete s = .next (s.closeAnchors x) := by
  rw [execAnchorCheckpointComplete, hr]
  dsimp only
  rw [if_neg (by simp only [hf, hc, hp]; decide)]

/-- The checkpoint's own record stands in the anchor journal, yet to be verified. -/
theorem State.closeAnchors_record {x : Nat} : ∃ a ∈ (s.closeAnchors x).wb.anchors, a.type = 3 ∧ a.verified = false := by
  unfold State.closeAnchors State.anchorAppend
  dsimp only
  obtain ⟨q, hq⟩ := (State.Placed.refl (((({ s.ringClose with wb := { s.ringClose.wb with
    anchorNext := s.ringClose.wb.anchorNext + 1
    anchors := s.ringClose.wb.anchors ++ [{ seq := s.ringClose.wb.anchorNext, pos := none, type := 3, poison := false, dom := 0, line := 0, mask := BitVec.ofNat 64 x
                                            data := [], ver := { major := 0, minor := 0 }, verified := false }]
    anchorSince := s.ringClose.wb.anchorSince + 1 } } : State).setReg64 (WP + 0x3C) s.ringClose.wb.anchorNext).countGlobal 0xD0 1))).ringPump.anchors
    { seq := s.ringClose.wb.anchorNext, pos := none, type := 3, poison := false, dom := 0, line := 0, mask := BitVec.ofNat 64 x, data := []
      ver := { major := 0, minor := 0 }, verified := false } (by rw [State.countGlobal_wb]; exact List.mem_append_right _ (List.mem_singleton.mpr rfl))
  exact ⟨_, hq, rfl, rfl⟩

theorem execAnchorRecordVerified_of {q : Nat} {a : AnchorRec} (ha : s.wb.anchors.find? (fun a => a.seq = q ∧ ¬ a.verified) = some a) :
    execAnchorRecordVerified q s = .next (if s.anchorDone a then s.anchorLive a else s) := by
  rw [execAnchorRecordVerified, ha]

/-! ### Admission -/

theorem State.serving_of_admitting (h : s.admitting = true) : s.serving = true := by
  rw [State.admitting, Bool.and_eq_true] at h
  exact h.1

/-- The oldest request of a domain that may go is admitted, where a bucket pays for it; where none does, all that may go are held. -/
theorem execAdmitRequest_first {dom : Nat} {e : Perr} {m : Meas} {r : Req} (hd : dom < 4096) (ha : s.admitting = true)
    (hu : u = s.retryWrites (fun r => decide (r.dom = dom))) (hua : u.admitting = true)
    (hr : u.host.reqs.find? (fun r => decide (r.dom = dom) && decide (r.st = .arrived ∨ r.st = .held)) = some r) (hm : u.mirrorRole dom ≠ .unconfirmed)
    (hw : r.write = true ∨ u.readWaits r = false) : execAdmitRequest dom e m s = .next (match u.admitTest dom (u.requestCost r) with
      | none => { u with host := { u.host with reqs := u.host.reqs.map (fun x =>
          if (decide (x.dom = dom) && (u.admitting || !x.write) && decide (x.st = .arrived ∨ x.st = .held)) = true then { x with st := .held, wasHeld := true } else x) } }
      | some b =>
        if r.write then (if e = .none then (u.setBucket dom b).charged dom (u.requestCost r) else
          ((u.setBucket dom b).charged dom (u.requestCost r)).rickError e r.line dom).admitWrite r
        else (if e = .none then (u.setBucket dom b).charged dom (u.requestCost r) else
          ((u.setBucket dom b).charged dom (u.requestCost r)).rickError e r.line dom).admitRead r (perrCause e) m) := by
  have hopen : u.host.reqs.find? (fun r => decide (r.dom = dom) && (u.admitting || !r.write) && decide (r.st = .arrived ∨ r.st = .held)) = some r := by
    simpa only [hua, Bool.true_or, Bool.and_true] using hr
  have hgo : ¬ (¬ r.write = true ∧ u.readWaits r = true) := fun h => hw.elim h.1 fun h' => Bool.false_ne_true (h'.symm.trans h.2)
  rw [execAdmitRequest, below_of_lt hd, if_neg (not_not.mpr (State.serving_of_admitting ha)), if_pos ha, ← hu]
  dsimp only
  rw [hopen]
  dsimp only
  rw [if_neg hm]
  exact congrArg Host.Outcome.next (if_neg hgo)

/-- Once held no request of the domain that may go is still to arrive. -/
theorem not_arrived_of_held {dom : Nat} {l : List Req} {x : Req} (hx : x ∈ l.map (fun y =>
      if (decide (y.dom = dom) && (true || !y.write) && decide (y.st = .arrived ∨ y.st = .held)) = true then { y with st := .held, wasHeld := true } else y))
    (hd : x.dom = dom) : x.st ≠ .arrived := by
  obtain ⟨y, -, rfl⟩ := List.mem_map.mp hx
  by_cases h : (decide (y.dom = dom) && (true || !y.write) && decide (y.st = .arrived ∨ y.st = .held)) = true
  · rw [if_pos h]
    exact ReqState.noConfusion
  · rw [if_neg h] at hd ⊢
    intro ha
    simp [hd, ha] at h

end

end Sys2Proof.Machine

namespace Sys2Proof.Proofs

open Sys2Proof Sys2Proof.Machine

/-- Settles O41: each row's own equation, and what a rebuild that ends leaves. -/
theorem parityTreeCommands : Obligations.ParityTreeCommands := by
  refine ⟨fun s t n h => ?_, fun s p page d hd h => execParityEntryAgeTrigger_due hd h, fun s p page d hd h => ?_, fun s p page d hd h h0 => ?_,
    fun s p page d hd h h0 => ?_, fun s p page hm hb => ?_, fun s p page j hj hr h2 h0 => ?_, fun s level index r hr hl hi h2 hj h0 => execRegraftComplete_of hr hl hi h2 hj h0,
    fun s n h => congrArg Host.Outcome.next (if_pos h), fun s n l hl h => execLeafAgeExpire_due hl h, fun s n l hl hw h0 hc => execLeafWriteBackComplete_clean hl hw h0 hc,
    fun s t n h => .intro (State.runAction_of h) ⟨rfl, State.schedRunning_endEntry⟩, fun s r hr ha hl hz => execRotationTimer_due hr ha hl hz,
    fun s n h => execUncleanSweepStep_none h⟩
  · exact .intro (State.runAction_of h) ⟨State.schedRunning_endEntry, rfl⟩
  · refine .intro (execParityOverrun_due hd h) ⟨?_, State.eventOnce_codes _ _ _ _ _ _ _⟩
    rw [(State.eventOnce_logs _ _ _ _ _ _ _).fld (quietReg_cd (by decide)), State.fld_bump _ _ _ _ _ (by decide) (by decide)]
    rfl
  · exact (execParityWritebackComplete_over hd h).trans (by rw [if_pos h0])
  · exact (execParityWritebackComplete_over hd h).trans (by rw [if_neg h0])
  · exact congrArg Host.Outcome.next (if_pos ⟨hm, by simp [hb]⟩)
  · have hj' := List.find?_some hj
    simp only [Bool.and_eq_true, decide_eq_true_eq] at hj'
    obtain ⟨⟨-, rfl⟩, rfl⟩ := hj'
    exact .intro (execPageRebuildComplete_of hj hr h2 h0) State.endRebuild_leaves

/-- Settles O42: each row's own equation, and what an admission that no bucket pays for leaves. -/
theorem writeBufferCommands : Obligations.WriteBufferCommands := by
  refine ⟨fun s => .intro rfl ⟨rfl, State.frameScan_order⟩, fun s u set way f0 f hs hw h0 hu hf hm => ?_, fun s u set way f0 f hs hw h0 hu hf hm => ?_,
    fun s plot => execPlotRedirect_of, fun s t n h hr hrec => ?_, fun s t n h hr => ?_, fun s h => congrArg Host.Outcome.next (if_pos h),
    fun s x z hr hf hc hp => .intro (execAnchorCheckpointComplete_of hr hf hc hp) ⟨rfl, State.closeAnchors_record⟩, fun s q a ha hd => ?_, fun s q a ha hd => ?_,
    fun s set hs ha => ?_, fun s u d m r b hd ha hu hua hr hm hw hb => ?_, fun s u d e m r hd ha hu hua hr hm hw hb => ?_⟩
  · exact (execApply_frame hs hw h0 hu hf).trans (by rw [if_pos hm])
  · exact (execApply_frame hs hw h0 hu hf).trans (by rw [if_neg (by simp [hm])])
  · exact (execAnchorJournalCheckpoint_of h).trans (by rw [if_neg (by simp [hr, hrec])])
  · refine .intro ((execAnchorJournalCheckpoint_of h).trans ?_) ⟨rfl, State.schedRunning_endEntry⟩
    rw [if_pos (by simpa using hr)]
  · exact (execAnchorRecordVerified_of ha).trans (by rw [if_pos hd])
  · exact (execAnchorRecordVerified_of ha).trans (by rw [if_neg (by simp [hd])])
  · exact (below_of_lt hs).trans (congrArg Host.Outcome.next (if_neg (not_not.mpr ha)))
  · refine (execAdmitRequest_first hd ha hu hua hr hm hw).trans ?_
    rw [hb]
    rfl
  · refine .intro (execAdmitRequest_first hd ha hu hua hr hm hw) ?_
    rw [hb, hua]
    exact fun x hx hdom => not_arrived_of_held hx hdom

end Sys2Proof.Proofs

/-! SUPPORT. Requests that arrive at a port (O26, O43): counting one leaves what resolves its domain. -/

namespace Sys2Proof.Machine

/-! ### A word kept in a table -/

/-- Setting a word that the table keeps, at a key that a selection passes over, selects the same. -/
theorem Tbl.filterMap_set {α β : Type} [DecidableEq α] {d : Nat → α} {g : Nat × α → Option β} {k : Nat} {v : α} (hv : v ≠ d k) (hg : ∀ w, g (k, w) = none) (t : Tbl α) :
    List.filterMap g (Tbl.set d t k v) = List.filterMap g t := by
  induction t with
  | nil =>
    rw [Tbl.set, if_neg hv, List.filterMap_cons, hg]
  | cons e t ih =>
    obtain ⟨j, w⟩ := e
    unfold Tbl.set
    rcases Nat.lt_trichotomy k j with h | rfl | h
    · simp [h, hv, hg]
    · simp [hv, hg]
    · rw [if_neg (by omega), if_neg (by omega), List.filterMap_cons, List.filterMap_cons, ih]

section
variable {a s t u : State} {b c d e i k l n p o hi lo : Nat}

/-! ### The domains do not depend on the monitor -/

/-- Writing a register outside the domain table a word other than its reset value leaves the valid domains. -/
theorem State.validDoms_setReg {v : Word} (ho : o < QD ∨ QD + 0x20000 ≤ o) (hv : v ≠ resetWord o) : (s.setReg o v).validDoms = s.validDoms := by
  refine Tbl.filterMap_set hv (fun w => ?_) s.regs
  dsimp only
  rw [if_neg]
  omega

/-- A field given a value other than that of reset leaves the valid domains, outside their table. -/
theorem State.validDoms_setFld {x : Nat} (ho : o < QD ∨ QD + 0x20000 ≤ o) (hhi : hi < 32) (hle : lo ≤ hi)
    (hx : x % 2 ^ (hi + 1 - lo) ≠ bits (resetWord o) hi lo) : (s.setFld o hi lo x).validDoms = s.validDoms :=
  State.validDoms_setReg ho fun h => hx (by rw [← h, bits_putBits _ _ _ _ hhi hle])

/-- No overflow flag of a counter is set at reset. -/
theorem resetWord_overflow (h : n < 8) : resetWord (PM + 0xD00 + 4 * n) = 0 := by
  have h8 : ∀ n < 8, resetWord (PM + 0xD00 + 4 * n) = 0 := by decide
  exact h8 n h

theorem bits_resetWord_captures : bits (resetWord (PM + 4)) 31 16 = 0 := by decide

theorem State.validDoms_pmOverflow (h : 16 * b + k < 256) : (s.pmOverflow b k).validDoms = s.validDoms := by
  have hset (v : State) : (v.setBit (PM + 0xD00 + 4 * ((16 * b + k) / 32)) ((16 * b + k) % 32) true).validDoms = v.validDoms := by
    refine State.validDoms_setFld (.inr ?_) (Nat.mod_lt _ (by decide)) (Nat.le_refl _) ?_
    · exact Nat.le_trans (by decide) (Nat.le_add_right (PM + 0xD00) _)
    · rw [resetWord_overflow (by omega), bits_zero, Nat.add_sub_cancel_left]
      decide
  have hbump (v : State) : (v.bump (PM + 4) 31 16 1).validDoms = v.validDoms := by
    refine State.validDoms_setFld (.inr (by decide)) (by decide) (by decide) ?_
    rw [bits_resetWord_captures, satAdd]
    omega
  unfold State.pmOverflow
  dsimp only
  split
  · split
    · exact (hbump _).trans (hset s)
    · split
      · exact (hbump _).trans (hset s)
      · exact hset s
  · exact hset s

theorem State.validDoms_count (hb : b < 12) : (s.count b e i n).validDoms = s.validDoms := by
  unfold State.count
  split
  · refine foldl_view (v := State.validDoms) fun t k hk => ?_
    have hk16 := List.mem_range.mp hk
    unfold State.countOne
    dsimp only
    split
    · split
      · exact State.validDoms_pmOverflow (by omega)
      · rfl
    · rfl
  · rfl

/-! ### What resolves a request, under counting -/

/-- `t` is `s` but for the performance monitor, with the same valid domains. -/
structure State.CountedDoms (s t : State) : Prop where
  counted : s.Counted t
  doms : t.validDoms = s.validDoms

theorem State.CountedDoms.refl (s : State) : s.CountedDoms s := ⟨.refl s, rfl⟩

theorem State.CountedDoms.count (hb : b < 12) (h : a.CountedDoms s) : a.CountedDoms (s.count b e i n) :=
  ⟨h.counted.count hb, (State.validDoms_count hb).trans h.doms⟩

theorem State.CountedDoms.ite {q : Prop} [Decidable q] (h : a.CountedDoms s) (k : a.CountedDoms t) : a.CountedDoms (if q then s else t) := by
  split <;> assumption

theorem State.Counted.host (h : s.Counted t) : t.host = s.host := by rw [h.same]
theorem State.Counted.sw (h : s.Counted t) : t.sw = s.sw := by rw [h.same]
theorem State.Counted.wb (h : s.Counted t) : t.wb = s.wb := by rw [h.same]

theorem State.Counted.flag (h : s.Counted t) (ho : o < PM ∨ PM + 0x1000 ≤ o) : t.flag o b = s.flag o b := by
  rw [State.flag, State.flag, h.fld ho]

theorem State.Counted.power (h : s.Counted t) : t.power = s.power := h.fld (.inl (by decide))

/-- A register of the domain table lies outside the monitor. -/
theorem State.Counted.domFld (h : s.Counted t) (hd : d < 4096) (hk : k < 0x20) : t.fld (QD + d * 0x20 + k) hi lo = s.fld (QD + d * 0x20 + k) hi lo := by
  refine h.fld (.inl ?_)
  simp only [QD, PM]
  omega

theorem State.lt_of_mem_validDoms (h : d ∈ s.validDoms) : d < 4096 := by
  obtain ⟨e, -, he⟩ := List.mem_filterMap.mp h
  split at he
  · next hr =>
    cases he
    omega
  · cases he

theorem State.CountedDoms.resolveDom (h : s.CountedDoms t) {ld dpa : Nat} : t.resolveDom ld dpa = s.resolveDom ld dpa := by
  have hc := h.counted
  unfold State.resolveDom
  rw [h.doms]
  refine List.find?_congr fun d hd => ?_
  have hd' := State.lt_of_mem_validDoms hd
  have hld : t.domLd d = s.domLd d := hc.domFld (k := 0) hd' (by decide)
  have hopen : t.extentOpen ld d = s.extentOpen ld d := by
    unfold State.extentOpen State.ldCfgOf State.ld
    rw [hc.domFld hd' (by decide), hc.host]
  rw [hld, hopen, hc.domFld hd' (by decide), hc.domFld hd' (by decide)]

theorem State.lt_of_resolveDom {ld dpa : Nat} (h : s.resolveDom ld dpa = some d) : d < 4096 := State.lt_of_mem_validDoms (List.mem_of_find?_eq_some h)

theorem State.Counted.mirrorRole (h : s.Counted t) (hd : d < 4096) : t.mirrorRole d = s.mirrorRole d := by
  have hmirror : t.domMirror d = s.domMirror d := congrArg (fun x => decide (x = 1)) (h.domFld (k := 0) hd (by decide))
  have hstate : t.mirrorState = s.mirrorState := h.fld (.inl (by decide))
  have hlead : t.flag (SW + 0x1C) 27 = s.flag (SW + 0x1C) 27 := h.flag (.inl (by decide))
  unfold State.mirrorRole State.migLeads State.migFollows State.migActive
  rw [hmirror, hstate, hlead, h.sw]

/-! ### A request that the port takes -/

/-- The request that a CXL.mem request of a port makes, its domain resolved (R302). -/
def State.memReq (s : State) (port link ld tag dpa : Nat) (write : Bool) (data : List Byte) (mask : BitVec 64) (poison : Bool) (d : Nat) : Req :=
  { id := s.host.nextReq, port := port, link := link, ld := ld, tag := tag, dpa := dpa, write := write, data := data, mask := mask, poison := poison, dom := d
    line := (s.domPool d + (dpa / 2 ^ 20 - s.fld (QD + d * 0x20 + 4) 23 0)) * 16384 + dpa % 2 ^ 20 / 64
    cls := s.domClass d, tier := s.domTier d, anchor := s.domAnchor d, st := .arrived, wasHeld := false, woke := false }

/-- `r` as the last request of the port's. -/
def State.joinReq (s : State) (r : Req) : State := { s with host := { s.host with nextReq := s.host.nextReq + 1, reqs := s.host.reqs ++ [r] } }

theorem State.Counted.joinReq_next {r : Req} (h : s.Counted u) : (u.joinReq r).host.nextReq = s.host.nextReq + 1 := by rw [State.joinReq, h.host]

theorem State.Counted.joinReq_reqs {r : Req} (h : s.Counted u) : (u.joinReq r).host.reqs = s.host.reqs ++ [r] := by rw [State.joinReq, h.host]

theorem quietReg_of_recorderReg (h : recorderReg o = false) : quietReg o :=
  of_not_not fun hn => Bool.false_ne_true (h.symm.trans (recorderReg_of_not_quiet hn))

theorem recorderReg_apart (h : recorderReg o = false) : o < PM ∨ PM + 0x1000 ≤ o := by
  simp only [recorderReg, Bool.or_eq_false_iff, Bool.and_eq_false_iff, decide_eq_false_iff_not] at h
  omega

section
variable {port link ld tag dpa : Nat} {write poison : Bool} {data : List Byte} {mask : BitVec 64}

theorem State.Counted.memReq (h : s.Counted t) (hd : d < 4096) :
    t.memReq port link ld tag dpa write data mask poison d = s.memReq port link ld tag dpa write data mask poison d := by
  have hpool : t.domPool d = s.domPool d := h.domFld hd (by decide)
  have hcls : t.domClass d = s.domClass d := h.domFld (k := 0) hd (by decide)
  have htier : t.domTier d = s.domTier d := h.domFld (k := 0) hd (by decide)
  have hanchor : t.domAnchor d = s.domAnchor d := congrArg (fun x => decide (x = 1)) (h.domFld (k := 0) hd (by decide))
  unfold State.memReq
  rw [hpool, hcls, htier, hanchor, h.host, h.domFld hd (by decide)]

theorem State.memArrive_closed (h : s.linkUp port link = false ∨ 4096 ≤ s.portHolds port ∨ (write = true ∧ s.flushing = true)) :
    s.memArrive port link ld tag dpa write data mask poison = s := by
  refine if_pos ?_
  simpa only [Bool.not_eq_true] using h

/-- The state with the counters counted that one arriving request counts (R302). -/
def State.countArrival (s : State) (port : Nat) (write : Bool) (mask : BitVec 64) : State :=
  let s1 := s.count port (if write then 0x11 else 0x10) 8 1
  let s2 := if write = true ∧ mask ≠ fullMask then s1.count port 0x12 8 1 else s1
  if write then s2.count port 0x14 8 1 else s2

theorem State.countedDoms_countArrival (hb : port < 12) : s.CountedDoms (s.countArrival port write mask) := by
  unfold State.countArrival
  extract_lets s1 s2
  have h1 : s.CountedDoms s1 := (State.CountedDoms.refl s).count hb
  have h2 : s.CountedDoms s2 := (h1.count hb).ite h1
  exact (h2.count hb).ite h2

/-- A request whose domain resolves, on a part that has recovered and is not in A2, joins the port's; the counters of its kind count. -/
theorem State.memArrive_joins (hport : port < 2) (hup : s.linkUp port link = true) (hroom : s.portHolds port < 4096) (hflush : write = true → s.flushing = false)
    (hp : s.power ≠ 2) (hrec : s.wb.recovered = true) (hdom : s.resolveDom ld dpa = some d) (hrole : s.mirrorRole d ≠ .unconfirmed) :
    ∃ u, s.Counted u ∧ s.memArrive port link ld tag dpa write data mask poison =
      if (u.joinReq (s.memReq port link ld tag dpa write data mask poison d)).portHolds port = 4096 then
        (u.joinReq (s.memReq port link ld tag dpa write data mask poison d)).eventOnce port 0x6103 port none port 0
      else u.joinReq (s.memReq port link ld tag dpa write data mask poison d) := by
  have hopen : ¬ (¬ s.linkUp port link = true ∨ 4096 ≤ s.portHolds port ∨ (write = true ∧ s.flushing = true)) := by
    rintro (h | h | ⟨h, h'⟩)
    · exact h hup
    · omega
    · exact Bool.false_ne_true ((hflush h).symm.trans h')
  have h3 : s.CountedDoms (s.countArrival port write mask) := State.countedDoms_countArrival (by omega)
  refine ⟨_, h3.counted, (if_neg hopen).trans ?_⟩
  have hc := h3.counted
  have hd := State.lt_of_resolveDom hdom
  extract_lets s1 s2 s3 woke s4 r host5 s5
  change s.CountedDoms s3 at h3
  change s.Counted s3 at hc
  have h4 : s4 = s3 := if_neg (hc.power ▸ hp)
  have hwoke : woke = false := decide_eq_false (hc.power ▸ hp)
  have hrec5 : s5.wb.recovered = true := by
    change s4.wb.recovered = true
    rw [h4, hc.wb, hrec]
  have hdom5 : s5.resolveDom ld dpa = some d := by
    change s4.resolveDom ld dpa = some d
    rw [h4, h3.resolveDom, hdom]
  have hrole5 : s5.mirrorRole d ≠ .unconfirmed := by
    change s4.mirrorRole d ≠ .unconfirmed
    rw [h4, hc.mirrorRole hd]
    exact hrole
  have hjoin : s4.joinReq { s4.memReq port link ld tag dpa write data mask poison d with woke := woke } =
      s3.joinReq (s.memReq port link ld tag dpa write data mask poison d) := by
    rw [h4, hwoke, ← hc.memReq hd]
    rfl
  refine (if_neg (not_not.mpr hrec5)).trans ?_
  rw [hdom5]
  refine (if_neg hrole5).trans ?_
  extract_lets plot r' s6
  change (if s6.portHolds port = 4096 then _ else s6) = _
  rw [show s6 = _ from hjoin]
  rfl

/-- Short of the last place of the port, nothing is recorded. -/
theorem State.memArrive_of (hport : port < 2) (hup : s.linkUp port link = true) (hroom : s.portHolds port < 4095) (hflush : write = true → s.flushing = false)
    (hp : s.power ≠ 2) (hrec : s.wb.recovered = true) (hdom : s.resolveDom ld dpa = some d) (hrole : s.mirrorRole d ≠ .unconfirmed) :
    ∃ u, s.Counted u ∧ s.memArrive port link ld tag dpa write data mask poison = u.joinReq (s.memReq port link ld tag dpa write data mask poison d) := by
  obtain ⟨u, hu, h⟩ := State.memArrive_joins (tag := tag) (data := data) (mask := mask) (poison := poison) hport hup (Nat.lt_succ_of_lt hroom) hflush hp hrec hdom hrole
  refine ⟨u, hu, h.trans (if_neg ?_)⟩
  have hholds : (u.joinReq (s.memReq port link ld tag dpa write data mask poison d)).portHolds port = s.portHolds port + 1 := by
    unfold State.portHolds countIf State.joinReq
    rw [hu.host, List.filter_append, List.length_append]
    simp [State.memReq]
  omega

/-- `t` is `s` but for at most one request more and what counting and recording change. -/
def State.OnlyArrives (s t : State) : Prop :=
  (∃ new, t.host.reqs = s.host.reqs ++ new ∧ new.length ≤ 1) ∧ (∀ o, recorderReg o = false → t.reg o = s.reg o) ∧ State.SameBytes s t ∧
    t.host.fetches = s.host.fetches ∧ t.wb = s.wb ∧ t.tp = s.tp ∧ t.rk = s.rk ∧ t.gx = s.gx ∧ t.codes = s.codes ∧ t.media = s.media ∧ t.lark = s.lark ∧ t.sw = s.sw

theorem State.OnlyArrives.refl (s : State) : s.OnlyArrives s :=
  ⟨⟨[], by simp⟩, fun _ _ => rfl, .of_eq rfl rfl rfl rfl, rfl, rfl, rfl, rfl, rfl, rfl, rfl, rfl, rfl⟩

theorem State.onlyArrives_memArrive (hport : port < 2) (hp : s.power ≠ 2) (hrec : s.wb.recovered = true) (hdom : s.resolveDom ld dpa = some d)
    (hrole : s.mirrorRole d ≠ .unconfirmed) : s.OnlyArrives (s.memArrive port link ld tag dpa write data mask poison) := by
  by_cases hclosed : s.linkUp port link = false ∨ 4096 ≤ s.portHolds port ∨ (write = true ∧ s.flushing = true)
  · rw [State.memArrive_closed hclosed]
    exact .refl s
  · obtain ⟨hup, hroom, hflush⟩ := not_or.mp hclosed |>.imp_right not_or.mp
    obtain ⟨u, hu, h⟩ := State.memArrive_joins (tag := tag) (data := data) (mask := mask) (poison := poison) hport (Bool.not_eq_false _ ▸ hup)
      (Nat.not_le.mp hroom) (fun hw => Bool.eq_false_iff.mpr fun hf => hflush ⟨hw, hf⟩) hp hrec hdom hrole
    generalize hr : s.memReq port link ld tag dpa write data mask poison d = r at h
    generalize ht : s.memArrive port link ld tag dpa write data mask poison = t at h ⊢
    have hlogs : State.Logs (u.joinReq r) t := by
      rw [h]
      split
      · exact State.eventOnce_logs _ _ _ _ _ _ _
      · exact .refl _
    have hreqs : t.host.reqs = s.host.reqs ++ [r] := (congrArg HostIf.reqs hlogs.lds).trans hu.joinReq_reqs
    have hfetches : t.host.fetches = s.host.fetches := (congrArg HostIf.fetches hlogs.lds).trans (show u.host.fetches = _ by rw [hu.host])
    have hkept : (u.joinReq r).rk = s.rk ∧ (u.joinReq r).wb = s.wb ∧ (u.joinReq r).tp = s.tp ∧ (u.joinReq r).gx = s.gx ∧ (u.joinReq r).codes = s.codes ∧
        (u.joinReq r).media = s.media ∧ (u.joinReq r).lark = s.lark ∧ (u.joinReq r).sw = s.sw ∧ (u.joinReq r).sd = s.sd := by
      rw [hu.same]
      exact ⟨rfl, rfl, rfl, rfl, rfl, rfl, rfl, rfl, rfl⟩
    obtain ⟨hrk, hwb, htp, hgx, hcodes, hmedia, hlark, hsw, hsd⟩ := hkept
    refine ⟨⟨[r], hreqs, Nat.le_refl 1⟩, fun o ho => ?_, .of_eq ?_ ?_ ?_ ?_, hfetches, hlogs.wb.trans hwb, hlogs.tp.trans htp, hlogs.rk.trans hrk,
      hlogs.gx.trans hgx, hlogs.codes.trans hcodes, hlogs.media.trans hmedia, hlogs.lark.trans hlark, hlogs.sw.trans hsw⟩
    · exact (hlogs.reg o (quietReg_of_recorderReg ho)).trans (hu.reg o (recorderReg_apart ho))
    · rw [hlogs.rk, hrk]
    · exact (congrArg Seed.ownerData hlogs.seed).trans (congrArg Seed.ownerData hsd)
    · rw [hlogs.lark, hlark]
    · rw [hlogs.lark, hlark]
end

/-- A command bounded by port, link and LD either does its work or has no effect. -/
theorem below_port_link_ld {port link ld : Nat} (hp : port < 2) (hl : link < 4) (hld : ld < 32) :
    below port 2 s (below link 4 s (below ld 32 s (.next t))) = .next t := by
  rw [below_of_lt hp, below_of_lt hl, below_of_lt hld]

/-! ### Answers without data -/

section
variable {port link ld tag dpa : Nat}

theorem State.memWake_of_power (h : s.power ≠ 2) : s.memWake = s := if_neg h

theorem State.memCmpOnly_of (hup : s.linkUp port link = true) (hp : s.power ≠ 2) :
    s.memCmpOnly port link tag = (s.emit (.memCmp port tag (s.devload none false))).count port (0x20 + s.devload none false) 8 1 := by
  rw [State.memCmpOnly, if_neg (not_not.mpr hup), State.memWake_of_power hp]

theorem State.memCmpOnly_down (h : s.linkUp port link = false) : s.memCmpOnly port link tag = s := if_pos (by simp [h])

end

end

end Sys2Proof.Machine

namespace Sys2Proof.Proofs

open Sys2Proof Sys2Proof.Machine

/-- Settles O43: an open port joins the request, one whose link is down leaves the state, and the opcodes without data are answered at once. -/
theorem memRequests : Obligations.MemRequests := by
  unfold Obligations.MemRequests
  refine ⟨fun s p l ld tag dpa d hp hl hld hup hroom hpow hrec hdom hrole => ?_, fun s p l ld tag dpa d hp hl hld hup hroom hpow hrec hdom hrole => ?_,
    fun s p l ld tag dpa d data poison hp hl hld hup hroom hpow hrec hdom hrole hflush => ?_,
    fun s p l ld tag dpa d data mask poison hp hl hld hup hroom hpow hrec hdom hrole hflush => ?_,
    fun s p l ld tag dpa data mask poison hp hl hld hdown => ?_, fun s p l ld tag dpa hp hl hld hup hpow => ?_, fun s p l ld tag dpa hp hl hld hup hpow => ?_,
    fun s p l ld tag dpa hp hl hld hup => ?_, fun s p l tag op hp hl hup hpow => ?_⟩
  · obtain ⟨u, hu, h⟩ := State.memArrive_of (tag := tag) (write := false) (data := []) (mask := 0) (poison := false) hp hup hroom (by simp) hpow hrec hdom hrole
    exact .intro ((below_port_link_ld hp hl hld).trans (congrArg Host.Outcome.next h)) ⟨hu.joinReq_next, s.memReq p l ld tag dpa false [] 0 false d, hu.joinReq_reqs,
      rfl, rfl, rfl, rfl, rfl, rfl, rfl, rfl, rfl, rfl⟩
  · obtain ⟨u, hu, h⟩ := State.memArrive_of (tag := tag) (write := false) (data := []) (mask := 0) (poison := false) hp hup hroom (by simp) hpow hrec hdom hrole
    exact .intro ((below_port_link_ld hp hl hld).trans (congrArg Host.Outcome.next h)) ⟨hu.joinReq_next, s.memReq p l ld tag dpa false [] 0 false d, hu.joinReq_reqs,
      rfl, rfl, rfl, rfl, rfl, rfl, rfl, rfl, rfl, rfl⟩
  · obtain ⟨u, hu, h⟩ := State.memArrive_of (tag := tag) (data := data) (mask := fullMask) (poison := poison) hp hup hroom (fun _ => hflush) hpow hrec hdom hrole
    exact .intro ((below_port_link_ld hp hl hld).trans (congrArg Host.Outcome.next h)) ⟨s.memReq p l ld tag dpa true data fullMask poison d, hu.joinReq_reqs,
      rfl, rfl, rfl, rfl, rfl, rfl, rfl, rfl, rfl, rfl, rfl, rfl⟩
  · obtain ⟨u, hu, h⟩ := State.memArrive_of (tag := tag) (data := data) (mask := mask) (poison := poison) hp hup hroom (fun _ => hflush) hpow hrec hdom hrole
    exact .intro ((below_port_link_ld hp hl hld).trans (congrArg Host.Outcome.next h)) ⟨s.memReq p l ld tag dpa true data mask poison d, hu.joinReq_reqs,
      rfl, rfl, rfl, rfl, rfl, rfl, rfl, rfl, rfl, rfl, rfl, rfl⟩
  · have harrive (write : Bool) (bytes : List Byte) (m : BitVec 64) (q : Bool) :
        below p 2 s (below l 4 s (below ld 32 s (.next (s.memArrive p l ld tag dpa write bytes m q)))) = .next s := by
      rw [below_port_link_ld hp hl hld, State.memArrive_closed (.inl hdown)]
    have hcmp : below p 2 s (below l 4 s (below ld 32 s (.next (s.memCmpOnly p l tag)))) = .next s := by
      rw [below_port_link_ld hp hl hld, State.memCmpOnly_down hdown]
    have hno : ¬ s.linkUp p l = true := by simp [hdown]
    exact ⟨harrive _ _ _ _, harrive _ _ _ _, harrive _ _ _ _, harrive _ _ _ _, hcmp, hcmp,
      (below_port_link_ld hp hl hld).trans (congrArg Host.Outcome.next (if_neg hno)),
      (below_of_lt hp).trans ((below_of_lt hl).trans (congrArg Host.Outcome.next (if_neg hno)))⟩
  · refine .intro ((below_port_link_ld hp hl hld).trans (congrArg Host.Outcome.next (State.memCmpOnly_of hup hpow))) ⟨rfl, ?_⟩
    have hc := (State.Counted.refl (s.emit (.memCmp p tag (s.devload none false)))).count (b := p) (e := 0x20 + s.devload none false) (i := 8) (n := 1) (by omega)
    exact ⟨congrArg HostIf.reqs hc.host, hc.wb⟩
  · refine .intro ((below_port_link_ld hp hl hld).trans (congrArg Host.Outcome.next (State.memCmpOnly_of hup hpow))) ⟨rfl, ?_⟩
    have hc := (State.Counted.refl (s.emit (.memCmp p tag (s.devload none false)))).count (b := p) (e := 0x20 + s.devload none false) (i := 8) (n := 1) (by omega)
    exact ⟨congrArg HostIf.reqs hc.host, hc.wb⟩
  · exact (below_port_link_ld hp hl hld).trans (congrArg Host.Outcome.next (if_pos hup))
  · refine (below_of_lt hp).trans ((below_of_lt hl).trans (congrArg Host.Outcome.next ((if_pos hup).trans ?_)))
    rw [State.memWake_of_power hpow]

/-- Settles O26: a request that arrives joins the port's, or is ended at once, and changes nothing else. -/
theorem frameMemArrivals : Obligations.FrameMemArrivals := by
  unfold Obligations.FrameMemArrivals
  intro s t p l ld tag dpa d data mask poison hp hrec hdom hrole c hc h
  have hframe (write : Bool) (bytes : List Byte) (m : BitVec 64) (q : Bool)
      (ht : below p 2 s (below l 4 s (below ld 32 s (.next (s.memArrive p l ld tag dpa write bytes m q)))) = .next t) : s.OnlyArrives t := by
    unfold below at ht
    split at ht
    · next hport =>
      split at ht <;> [split at ht; skip] <;> cases ht
      · exact State.onlyArrives_memArrive hport hp hrec hdom hrole
      · exact .refl s
      · exact .refl s
    · cases ht
      exact .refl s
  simp only [List.mem_cons, List.not_mem_nil, or_false] at hc
  rcases hc with rfl | rfl | rfl | rfl
  · exact hframe _ _ _ _ h
  · exact hframe _ _ _ _ h
  · exact hframe _ _ _ _ h
  · exact hframe _ _ _ _ h

end Sys2Proof.Proofs

/-! SUPPORT. SPDM connections and link keys (O45). -/

namespace Sys2Proof.Machine

section
variable {s t : State} {c k n port link : Nat} {code : Nat} {f : State → List Byte × State} {b : List Byte}

/-! ### Answers of a connection -/

@[simp] theorem State.spdm_setSpdm_same {x : Spdm} : (s.setSpdm c x).spdm c = x := Tbl.get_set_same _ _ _ _

@[simp] theorem State.spdm_emit {o : Out} : (s.emit o).spdm c = s.spdm c := rfl

/-- In order, a request answers with what its work gives. -/
theorem State.spdmAnswer_open {q : Bool} (h : q = true) : s.spdmAnswer c q code f = (f s).2.emit (.spdm c code (f s).1) := if_pos h

theorem State.spdmAnswer_refused {q : Bool} (h : q = false) : s.spdmAnswer c q code f = s.emit (.spdm c 0x7F [0x04]) := if_neg (by simp [h])

theorem State.spdmSlot_open (hr : s.spdmReady c = true) (hk : s.hasChain k = true) : s.spdmSlot c k code f = (f s).2.emit (.spdm c code (f s).1) :=
  (if_neg fun h => h.2 hk).trans (State.spdmAnswer_open hr)

/-- A request that names a slot without a chain is invalid. -/
theorem State.spdmSlot_empty (hr : s.spdmReady c = true) (hk : s.hasChain k = false) : s.spdmSlot c k code f = s.emit (.spdm c 0x7F [0x01]) :=
  if_pos ⟨hr, by simp [hk]⟩

theorem State.drawBytes_state : (State.drawBytes n s).2 = { s with free := s.free + n } := by
  induction n generalizing s with
  | zero => rfl
  | succ n ih =>
    refine (ih (s := { s with free := s.free + 1 })).trans ?_
    rw [Nat.add_right_comm, Nat.add_assoc]

theorem State.drawBytes_eq (n : Nat) (s : State) : ∃ b, State.drawBytes n s = (b, { s with free := s.free + n }) :=
  ⟨(State.drawBytes n s).1, Prod.ext rfl State.drawBytes_state⟩

theorem execSpdmGetCsr_open (hc : c < 3) (hr : s.spdmReady c = true) :
    ∃ b, execSpdmGetCsr c s = .next ({ s with free := s.free + 12 }.emit (.spdm c 0x6D b)) := by
  obtain ⟨b, hb⟩ := State.drawBytes_eq 12 s
  refine ⟨b, ?_⟩
  rw [execSpdmGetCsr, below_of_lt hc, State.spdmAnswer_open hr, hb]

theorem execSpdmChallenge_open (hc : c < 3) (hr : s.spdmReady c = true) (hk : s.hasChain k = true) :
    ∃ sig, execSpdmChallenge c k s = .next ({ s with free := s.free + 12 }.emit (.spdm c 0x03 (Config.sha384 (s.chainOf k) ++ sig))) := by
  obtain ⟨b, hb⟩ := State.drawBytes_eq 12 s
  refine ⟨b, ?_⟩
  rw [execSpdmChallenge, below_of_lt hc, State.spdmSlot_open hr hk]
  dsimp only
  rw [hb]
  rfl

theorem execSpdmKeyExchange_open (hc : c < 3) (hr : s.spdmReady c = true) (hk : s.hasChain k = true) :
    ∃ x, execSpdmKeyExchange c k s =
      .next (({ s with free := s.free + 24 }.setSpdm c { s.spdm c with session := 1 }).emit (.spdm c 0x64 x)) := by
  obtain ⟨b, hb⟩ := State.drawBytes_eq 24 s
  refine ⟨b, ?_⟩
  rw [execSpdmKeyExchange, below_of_lt hc, State.spdmSlot_open hr hk]
  dsimp only
  rw [hb]
  rfl

/-! ### Chains and keys -/

theorem quietReg_link (hp : port < 2) (hl : link < 4) : quietReg (linkOff port link) := by
  simp only [quietReg, linkOff, HI, PM, EV]
  omega

/-- The chain of a slot other than the part's own is the one stored last, and the other slots keep theirs. -/
theorem State.chainOf_store {chain : List Byte} (hk : 0 < k) (ht : t.gx.chains = Tbl.put s.gx.chains k chain) :
    t.chainOf k = chain ∧ ∀ j, j ≠ k → t.chainOf j = s.chainOf j := by
  constructor
  · rw [State.chainOf, if_neg (by omega), ht, Tbl.find_put_same]
    rfl
  · intro j hj
    rw [State.chainOf, State.chainOf, ht, Tbl.find_put_other _ _ _ _ hj]

end

end Sys2Proof.Machine

namespace Sys2Proof.Proofs

open Sys2Proof Sys2Proof.Machine

/-- Settles O45, request by request: in order each answers its own response, out of order ERROR. -/
theorem spdmCommands : Obligations.SpdmCommands := by
  unfold Obligations.SpdmCommands
  have hrun {c : Nat} {s t u : State} (hc : c < 3) (h : u = t) : below c 3 s (.next u) = .next t := (below_of_lt hc).trans (congrArg Host.Outcome.next h)
  refine ⟨fun s c hc => ?_, fun s c hc h1 => ?_, fun s c hc h2 => ?_, fun s c hc hr => ?_, fun s c hc hr => ?_, fun s c k hc hr hk => ?_,
    fun s c k hc hr hk => ?_, fun s c k hc hr hk => ?_, fun s c k hc hr hk => ?_, fun s c k hc hr h0 h5 => ?_, fun s c hc h1 => ?_, fun s c hc h1 => ?_,
    fun s c hc hs => ?_, fun s c hc hs => ?_, fun s c hc hs => ?_, fun s c k chain hc h0 h8 hs => ?_, fun s c k chain hc hs => ?_, fun s c hc hr hs => ?_,
    fun s p l hp hl hs hup => ?_, fun s p l hp hl hup hide => ?_⟩
  · exact hrun hc (State.spdmAnswer_open rfl)
  · exact hrun hc (State.spdmAnswer_open (decide_eq_true h1))
  · exact hrun hc (State.spdmAnswer_open (decide_eq_true h2))
  · exact .intro (hrun hc (State.spdmAnswer_open hr)) ⟨rfl, _, rfl⟩
  · obtain ⟨b, h⟩ := execSpdmGetCsr_open hc hr
    exact .intro h ⟨rfl, b, rfl⟩
  · exact hrun hc (State.spdmSlot_open hr hk)
  · obtain ⟨sig, h⟩ := execSpdmChallenge_open hc hr hk
    exact .intro h ⟨rfl, sig, rfl⟩
  · obtain ⟨x, h⟩ := execSpdmKeyExchange_open hc hr hk
    exact .intro h ⟨congrArg Spdm.session State.spdm_setSpdm_same, (congrArg Spdm.phase State.spdm_setSpdm_same).trans (of_decide_eq_true hr), x, rfl⟩
  · exact ⟨hrun hc (State.spdmSlot_empty hr hk), hrun hc (State.spdmSlot_empty hr hk), hrun hc (State.spdmSlot_empty hr hk)⟩
  · refine hrun hc ((if_neg (by omega)).trans ((State.spdmAnswer_open hr).trans ?_))
    dsimp only
    rw [if_neg (by omega), if_neg (by omega)]
  · exact hrun hc ((if_neg (by simp)).trans (State.spdmAnswer_open (decide_eq_true h1)))
  · exact hrun hc (if_pos ⟨h1, Bool.false_ne_true⟩)
  · exact hrun hc (State.spdmAnswer_open hs)
  · exact hrun hc (State.spdmAnswer_open hs)
  · exact hrun hc (State.spdmAnswer_open hs)
  · exact .intro (hrun hc (if_pos ⟨hs, rfl, h0, h8⟩)) (State.chainOf_store h0 rfl)
  · refine hrun hc ((if_neg fun h => Bool.false_ne_true h.2.1).trans ?_)
    rw [if_pos hs]
  · exact ⟨hrun hc (State.spdmAnswer_refused hr), hrun hc (State.spdmAnswer_refused hr), hrun hc (State.spdmAnswer_refused hs),
      hrun hc (State.spdmAnswer_refused hs), hrun hc (State.spdmAnswer_refused hs)⟩
  · refine .intro ((below_of_lt hp).trans ((below_of_lt hl).trans (congrArg Host.Outcome.next (if_pos ⟨hs, hup⟩)))) ⟨rfl, ?_, ?_⟩
    · rw [State.flag_setBit_same _ _ _ _ (by decide)]
    · rw [State.linkUp, State.flag_setBit_other _ _ _ _ _ (by decide) (by decide)]
      exact hup
  · refine .intro ((below_of_lt hp).trans ((below_of_lt hl).trans (congrArg Host.Outcome.next (if_pos ⟨hup, hide⟩)))) ?_
    extract_lets u v
    have hregs : ((v.ldsOf p l).foldl (fun (t : State) i => t.emit (.hostMsix i 3)) v).regs = v.regs := foldl_view (v := State.regs) fun _ _ _ => rfl
    have hlogs : State.Logs u v := (State.event_logs u (0x810D) (4 * p + l) none (4 * p + l) 0).trans (State.emit_logs (.refl _) _)
    have hgx : quietReg (GX + 0x3C) := quietReg_gx (by decide)
    have hne : linkOff p l ≠ GX + 0x3C := by
      simp only [linkOff, HI, GX]
      omega
    constructor
    · rw [State.flag, State.fld_of_regs hregs, hlogs.fld (quietReg_link hp hl), State.fld_bump_other hne]
      exact State.flag_setBit_same _ _ _ _ (by decide)
    · rw [State.fld_of_regs hregs, hlogs.fld hgx, State.fld_bump _ _ _ _ _ (by decide) (by decide), State.setBit, State.fld_setFld_reg _ _ _ _ _ _ _ _ hne.symm]
      rfl

end Sys2Proof.Proofs

/-! SUPPORT. Host links, PERST and LD resets (O44). -/

namespace Sys2Proof.Machine

section
variable {a s t : State} {i k l p r w : Nat} {f : Bool}

/-! ### Links up and down -/

theorem State.gpfCheck_regs : s.gpfCheck.regs = s.regs := by
  unfold State.gpfCheck
  exact foldl_view (v := State.regs) fun _ _ _ => rfl

theorem State.dropLink_regs : (s.dropLink p l).regs = s.regs := State.gpfCheck_regs

theorem State.linkFalls_up (h : s.linkUp p l = true) :
    s.linkFalls p l = ((s.setReg (linkOff p l) 0).dropLink p l).event 0xA102 p none (p + 2 * l) 0 := if_pos h

theorem State.linkUp_linkFalls (hp : p < 2) (hl : l < 4) (h : s.linkUp p l = true) : (s.linkFalls p l).linkUp p l = false := by
  rw [State.linkFalls_up h, State.linkUp, State.flag, (State.event_logs _ _ _ _ _ _).fld (quietReg_link hp hl), State.fld_of_regs State.dropLink_regs,
    State.fld_setReg_same, bits_zero]
  rfl

/-- The word of a link that is up: its width, rate and flit mode, and whether it carries several LDs and the owner's (R324). -/
def linkWord (w r : Nat) (f multi owner : Bool) : Nat :=
  2 ^ 31 + w * 2 ^ 16 + r * 2 ^ 8 + (if f then 16 else 0) + (if multi then 2 else 0) + (if owner then 1 else 0)

theorem bits_linkWord (hw : w < 17) (hr : r < 6) {multi owner : Bool} (x : Word) (hx : x = BitVec.ofNat 32 (linkWord w r f multi owner)) :
    bits x 31 31 = 1 ∧ bits x 20 16 = w ∧ bits x 10 8 = r ∧ bits x 4 4 = (if f then 1 else 0) ∧ bits x 3 3 = 0 := by
  subst hx
  have hsmall : linkWord w r f multi owner < 2 ^ 32 := by
    unfold linkWord
    split <;> split <;> split <;> omega
  simp only [bits, BitVec.toNat_ofNat, Nat.mod_eq_of_lt hsmall]
  unfold linkWord
  cases f <;> cases multi <;> cases owner <;> simp only [if_true, if_false, Bool.false_eq_true] <;> omega

/-- What a link that comes up shows is its word: the event and the records that follow leave it. -/
theorem execHostLinkUp_shows (hp : p < 2) (hl : l < 4) (hw : w < 17) (hr : r < 6) (h : ¬ (s.portLinks p ≤ l ∨ s.perstLow p = true ∨ 2 < s.power)) :
    ∃ t multi owner, execHostLinkUp p l w r f s = .next t ∧ t.reg (linkOff p l) = BitVec.ofNat 32 (linkWord w r f multi owner) := by
  have hq := quietReg_link hp hl
  rw [execHostLinkUp, below_of_lt hp, below_of_lt hl, below_of_lt hw, below_of_lt hr, if_neg h]
  extract_lets cfg lanes lds owner v u v'
  have hv : State.Logs u v' := by
    unfold v'
    split
    · exact State.event_logs _ _ _ _ _ _
    · exact .refl _
  have hfold (x : State) : State.Logs x (lds.foldl (fun (t : State) i => t.cxlRecord i 0 0 0) x) :=
    State.Logs.foldl _ (fun t i => State.cxlRecord_logs (.refl t) i 0 0 0) lds x
  have hreg : u.reg (linkOff p l) = BitVec.ofNat 32 (linkWord w r f (decide (2 ≤ lds.length)) owner) := by
    refine (State.reg_setReg_same _ _ _).trans (congrArg (BitVec.ofNat 32) ?_)
    simp only [v, linkWord, decide_eq_true_eq]
  refine ⟨_, _, _, rfl, Eq.trans ?_ hreg⟩
  split
  · exact hv.reg _ hq
  · exact (hv.trans (hfold v')).reg _ hq

/-! ### Resets of a port and of an LD -/

theorem State.portReset_shows (hp : p < 2) (hl : l < 4) : (s.portReset p (some l)).reg (GLB + 0x104) = BitVec.ofNat 32 (4 + (p + 2 * l) * 256) := by
  refine (State.reg_setReg_same _ _ _).trans ?_
  rw [Nat.mod_eq_of_lt (by omega)]

theorem State.portReset_all_shows (hp : p < 2) : (s.portReset p none).reg (GLB + 0x104) = BitVec.ofNat 32 (4 + (p + 8) * 256) := by
  refine (State.reg_setReg_same _ _ _).trans ?_
  rw [Nat.mod_eq_of_lt (by omega)]

theorem State.ldReset_shows (hi : i < 32) : (s.ldReset i k).reg (GLB + 0x104) = BitVec.ofNat 32 (5 + i * 256) := by
  refine (State.reg_setReg_same _ _ _).trans ?_
  rw [Nat.mod_mod, Nat.mod_eq_of_lt (by omega)]

/-! ### PERST -/

/-- A port whose PERST is asserted is low; a part whose PERST does not wake it keeps its registers. -/
theorem execPerstAssert_low (hp : p < 2) (h : s.flag (PW + 4) 24 = false) :
    ∃ t, execPerstAssert p s = .next t ∧ t.perstLow p = true ∧ t.regs = s.regs := by
  rw [execPerstAssert, below_of_lt hp]
  split
  · next hlow => exact ⟨s, congrArg Host.Outcome.next (if_neg (by simp [h])), hlow, rfl⟩
  · refine ⟨_, congrArg Host.Outcome.next (if_neg (show ¬ (s.flag (PW + 4) 24 = true ∧ _) by simp [h])), ?_, rfl⟩
    unfold State.perstLow
    split <;> rfl

theorem execPerstLow100us_warm (hp : p < 2) (hlow : s.perstLow p = true) (hpow : s.power ≠ 4)
    (hat : 100 ≤ s.tb.tick - (if p = 0 then s.pins.perstAt0 else s.pins.perstAt1)) (hw : s.warmPerst p = true) (hh : s.warmPerstHeld p = true) :
    execPerstLow100us p s = .next (s.warmReset 1) := by
  rw [execPerstLow100us, below_of_lt hp, if_neg, if_pos ⟨hw, hh⟩]
  simp only [hlow, not_true, false_or, not_or]
  exact ⟨hpow, by omega⟩

theorem execPerstLow100us_port (hp : p < 2) (hlow : s.perstLow p = true) (hpow : s.power ≠ 4)
    (hat : 100 ≤ s.tb.tick - (if p = 0 then s.pins.perstAt0 else s.pins.perstAt1)) (hw : (s.warmPerst p && s.warmPerstHeld p) = false) :
    execPerstLow100us p s = .next (s.portReset p none) := by
  rw [execPerstLow100us, below_of_lt hp, if_neg, if_neg]
  · rw [← Bool.and_eq_true, hw]
    exact Bool.false_ne_true
  · simp only [hlow, not_true, false_or, not_or]
    exact ⟨hpow, by omega⟩

end

end Sys2Proof.Machine

namespace Sys2Proof.Proofs

open Sys2Proof Sys2Proof.Machine

/-- Settles O44: a link that comes up shows its word, one that falls shows none; each reset shows itself last. -/
theorem hostLinkCommands : Obligations.HostLinkCommands := by
  unfold Obligations.HostLinkCommands
  have hport {p : Nat} (hp : p < 2) : p = 0 ∨ p = 1 := by omega
  refine ⟨fun s p l w r f hp hl hw hr hlinks hperst hpow => ?_, fun s p l w r f hp hl hw hr h => ?_, fun s p l hp hl hup => ?_, fun s p l hp hl hup => ?_,
    fun s p hp h => ?_, fun s p hp hlow hpow hat hw hh => execPerstLow100us_warm hp hlow hpow hat hw hh,
    fun s p hp hlow hpow hat hw => .intro (execPerstLow100us_port hp hlow hpow hat hw) ⟨rfl, State.portReset_all_shows hp⟩, fun s p hp => ?_, fun s i hi hld => ?_⟩
  · have hopen : ¬ (s.portLinks p ≤ l ∨ s.perstLow p = true ∨ 2 < s.power) := by
      rw [hperst]
      simp only [Bool.false_eq_true, false_or]
      omega
    obtain ⟨t, multi, owner, h, ht⟩ := execHostLinkUp_shows (f := f) hp hl hw hr hopen
    obtain ⟨h31, h20, h10, h4, h3⟩ := bits_linkWord hw hr _ ht
    refine .intro h ⟨decide_eq_true h31, h20, h10, ?_, decide_eq_false (by rw [State.fld, h3]; decide)⟩
    rw [State.flag, State.fld, h4]
    cases f <;> rfl
  · exact (below_of_lt hp).trans ((below_of_lt hl).trans ((below_of_lt hw).trans ((below_of_lt hr).trans (congrArg Host.Outcome.next (if_pos h)))))
  · exact .intro ((below_of_lt hp).trans ((below_of_lt hl).trans (congrArg Host.Outcome.next (State.linkFalls_up hup))))
      ⟨rfl, State.linkFalls_up hup ▸ State.linkUp_linkFalls hp hl hup⟩
  · have hrun : below p 2 s (below l 4 s (.next (if s.linkUp p l then s.portReset p (some l) else s))) = .next (s.portReset p (some l)) :=
      (below_of_lt hp).trans ((below_of_lt hl).trans (congrArg Host.Outcome.next (if_pos hup)))
    exact ⟨.intro hrun ⟨rfl, State.portReset_shows hp hl⟩, .intro hrun ⟨rfl, State.portReset_shows hp hl⟩⟩
  · exact execPerstAssert_low hp h
  · rcases hport hp with rfl | rfl
    · exact .intro (below_of_lt (s := s) hp) ⟨rfl, rfl, rfl⟩
    · exact .intro (below_of_lt (s := s) hp) ⟨rfl, rfl, rfl⟩
  · exact ⟨.intro ((below_of_lt hi).trans (congrArg Host.Outcome.next (if_pos hld))) ⟨rfl, State.ldReset_shows hi⟩,
      .intro ((below_of_lt hi).trans (congrArg Host.Outcome.next (if_pos hld))) ⟨rfl, State.ldReset_shows hi⟩,
      .intro ((below_of_lt hi).trans (congrArg Host.Outcome.next (if_pos hld))) ⟨rfl, State.ldReset_shows hi⟩⟩

end Sys2Proof.Proofs

/-! SUPPORT. Hold-up, power fail and GPF (O50). -/

namespace Sys2Proof.Machine

section
variable {a b d g n p z : Nat} {s t0 u : State} {h : HuTest}

/-- The stored energy shown, as each measure of the hold-up factor shows it first (R206). -/
def State.huShown (s : State) : State := s.setFld (WP + 0x28) 15 0 (min 65535 (s.huEnergy (s.fld (SQ + 8) 11 0) / (512 * 4096 ^ 2) / 10 ^ 9))

theorem execHoldUpFactorUpdate_falls (hu : u = s.huShown) (hf : u.huFactor ≤ s.wb.f) :
    execHoldUpFactorUpdate s = .next (State.setFactor { u with wb := { u.wb with fUp := none } } u.huFactor) := by
  subst hu
  exact congrArg Host.Outcome.next (if_pos hf)

theorem execHoldUpFactorUpdate_rises (hu : u = s.huShown) (hf : s.wb.f < u.huFactor) (hup : s.wb.fUp = none) :
    execHoldUpFactorUpdate s = .next { u with wb := { u.wb with fUp := some (u.huFactor, s.tb.tick) } } := by
  subst hu
  refine (congrArg Host.Outcome.next (if_neg (Nat.not_le_of_lt hf))).trans ?_
  rw [show (s.setFld _ 15 0 _).wb.fUp = none from hup]
  rfl

/-- A rise that has stood long enough is taken up. -/
theorem execHoldUpFactorUpdate_stood (hu : u = s.huShown) (hf : s.wb.f < u.huFactor) (hup : s.wb.fUp = some (g, z)) (hz : 100000 ≤ s.tb.tick - z) :
    execHoldUpFactorUpdate s = .next (State.setFactor { u with wb := { u.wb with fUp := none } } (min u.huFactor g)) := by
  subst hu
  refine (congrArg Host.Outcome.next (if_neg (Nat.not_le_of_lt hf))).trans ?_
  rw [show (s.setFld _ 15 0 _).wb.fUp = some (g, z) from hup]
  exact congrArg Host.Outcome.next (if_pos hz)

theorem execHoldUpTest_taken (ht : s.Takes 0x06 n t0) :
    execHoldUpTest s = .next (if t0.startHuTest.pw.huTest.isSome = true ∧ t0.pw.huTest.isNone = true then t0.startHuTest else t0.startHuTest.endEntry n) := by
  rw [execHoldUpTest, show s.takeAction 0x06 = some (n, t0) from ht]

theorem execHoldUpTest_due (ht : s.takeAction 0x06 = none) (hd : s.pw.huDue = some d) (hat : d ≤ s.tb.tick) : execHoldUpTest s = .next s.startHuTest := by
  rw [execHoldUpTest, ht, hd]
  exact congrArg Host.Outcome.next (if_pos hat)

theorem execHoldUpRetest_due (hd : s.pw.huDue = some d) (hat : d ≤ s.tb.tick) (hf : s.flag (WP + 0x2C) 2 = true) : execHoldUpRetest s = .next s.startHuTest := by
  rw [execHoldUpRetest, hd]
  exact congrArg Host.Outcome.next (if_pos ⟨hat, hf⟩)

theorem execHoldUpTestSample_low (ht : s.pw.huTest = some h) (hlow : s.fld (SQ + 8) 11 0 * 1024 ≤ h.v1 * (1024 - s.fld (WP + 0x1C) 23 16))
    (hfell : s.fld (SQ + 8) 11 0 < h.v1) : execHoldUpTestSample s =
      .next (s.passHuTest h.v1 (10 * s.fld (WP + 0x18) 7 0 * (s.tb.tick - h.start) * 4096 / ((h.v1 - s.fld (SQ + 8) 11 0) * s.huScale))) := by
  rw [execHoldUpTestSample, ht]
  exact congrArg Host.Outcome.next ((if_pos hlow).trans (if_neg (Nat.not_le_of_lt hfell)))

theorem execHoldUpTestSample_high (ht : s.pw.huTest = some h) (hhigh : h.v1 * (1024 - s.fld (WP + 0x1C) 23 16) < s.fld (SQ + 8) 11 0 * 1024) :
    execHoldUpTestSample s = .next s := by
  rw [execHoldUpTestSample, ht]
  exact congrArg Host.Outcome.next (if_neg (Nat.not_le_of_lt hhigh))

theorem execHoldUpTestTimeout_over (ht : s.pw.huTest = some h) (hat : s.fld (WP + 0x1C) 15 8 * 1000 ≤ s.tb.tick - h.start) :
    execHoldUpTestTimeout s = .next (s.failHuTest 0) := by
  rw [execHoldUpTestTimeout, ht]
  exact congrArg Host.Outcome.next (if_pos hat)

end

end Sys2Proof.Machine

namespace Sys2Proof.Proofs

open Sys2Proof Sys2Proof.Machine

/-- Settles O50: each row by the branch its conditions choose. -/
theorem holdUpCommands : Obligations.HoldUpCommands := by
  unfold Obligations.HoldUpCommands
  refine ⟨fun s u hu hf => execHoldUpFactorUpdate_falls hu hf, fun s u hu hf hup => ?_, fun s u g z hu hf hup hz => execHoldUpFactorUpdate_stood hu hf hup hz,
    fun s t n ht hnone => ?_, fun s t n ht hnone hsome => ?_, fun s d ht hd hat => execHoldUpTest_due ht hd hat, fun s d hd hat hf => execHoldUpRetest_due hd hat hf,
    fun s h ht hlow hfell => execHoldUpTestSample_low ht hlow hfell, fun s h ht hhigh => execHoldUpTestSample_high ht hhigh,
    fun s h ht hat => execHoldUpTestTimeout_over ht hat, fun s hfl hmay => ?_, fun s hfl => congrArg Host.Outcome.next (if_pos hfl), fun s hfl => ?_,
    fun s a b hfl hse => congrArg Host.Outcome.next (if_pos ⟨hfl, hse⟩), fun s a b h => ?_, fun s p hp hfl => ?_, fun s p hp hfl => ?_⟩
  · refine .intro (execHoldUpFactorUpdate_rises hu hf hup) ⟨rfl, ?_, rfl⟩
    rw [hu]
    rfl
  · rw [exec, execHoldUpTest_taken ht, if_neg (by simp [hnone])]
  · rw [exec, execHoldUpTest_taken ht, if_pos ⟨hsome, by rw [hnone]; rfl⟩]
  · have hopen : ¬ s.flushing = true := by simp [hfl]
    exact .intro (congrArg Host.Outcome.next ((if_neg hopen).trans (if_pos hmay))) rfl
  · exact .intro (congrArg Host.Outcome.next (if_pos hfl)) ⟨rfl, rfl, rfl⟩
  · refine congrArg Host.Outcome.next (if_neg fun hboth => ?_)
    rcases h with h | h
    · exact Bool.false_ne_true (h.symm.trans hboth.1)
    · exact Bool.false_ne_true (h.symm.trans hboth.2)
  · exact (below_of_lt hp).trans (congrArg Host.Outcome.next (if_neg (by simp [hfl])))
  · exact (below_of_lt hp).trans (congrArg Host.Outcome.next (if_neg (by simp [hfl])))

end Sys2Proof.Proofs

/-! SUPPORT. Recorder plots, meter tail and regulators (O51). -/

namespace Sys2Proof.Machine

section
variable {a s t : State} {d g n : Nat} {l : List Nat}

/-! ### The guarantee in force -/

theorem State.meter_qs {f : MeterAcc → MeterAcc} : (s.meter d f).qs = s.qs := by
  unfold State.meter
  split <;> rfl

theorem State.rescale_qs : s.rescale.qs = s.qs := by
  unfold State.rescale
  extract_lets fs was s1 s2 s3 s4
  have h1 : s1.qs = s.qs := foldl_view (v := State.qs) fun _ _ _ => rfl
  have h4 : s4.qs = s3.qs := foldl_view (v := State.qs) fun _ _ _ => State.meter_qs
  split
  · exact h4.trans h1
  · exact (State.eventOnce_logs _ _ _ _ _ _ _).qs.trans (h4.trans h1)

theorem State.putG_g : (s.putG g).qs.g = g := congrArg (fun x => x.g) State.rescale_qs

theorem execGRaiseTakesEffect_due {z : Nat} (hup : s.qs.gUp = some (g, z)) (hz : z + 100000 ≤ s.tb.tick) (hnew : s.qs.gNew = g) (hg : s.qs.g < g)
    (hfw : s.lark.fwRunning = true) : execGRaiseTakesEffect s = .next (s.putG g) := by
  rw [execGRaiseTakesEffect, hup]
  exact congrArg Host.Outcome.next (if_pos ⟨hz, hnew, hg, hfw⟩)

/-! ### A tick of the regulators -/

/-- `t` is `s` but for the regulators, the meter and the performance monitor: no register outside the monitor changes. -/
structure State.Ticked (s t : State) : Prop where
  same : t = { s with regs := t.regs, pm := t.pm, qs := t.qs, mt := t.mt }
  reg : ∀ o, o < PM ∨ PM + 0x1000 ≤ o → t.reg o = s.reg o

theorem State.Ticked.refl (s : State) : s.Ticked s := ⟨rfl, fun _ _ => rfl⟩

theorem State.Ticked.trans (h : a.Ticked s) (k : s.Ticked t) : a.Ticked t :=
  ⟨by rw [k.same, h.same], fun o ho => (k.reg o ho).trans (h.reg o ho)⟩

theorem State.Ticked.foldl {f : State → Nat → State} (h : a.Ticked s) (hf : ∀ t d, State.Ticked t (f t d)) : a.Ticked (l.foldl f s) := by
  induction l generalizing s with
  | nil => exact h
  | cons d l ih => exact ih (h.trans (hf s d))

theorem State.Ticked.meter {f : MeterAcc → MeterAcc} (h : a.Ticked s) : a.Ticked (s.meter d f) := by
  refine h.trans ?_
  unfold State.meter
  split <;> exact ⟨rfl, fun _ _ => rfl⟩

theorem State.Ticked.heldTick (s : State) (d : Nat) : s.Ticked (s.heldTick d) := by
  have hcnt (f : DomCnt → DomCnt) : s.Ticked (s.updCnt d f) := ⟨rfl, fun _ _ => rfl⟩
  exact (hcnt _).meter

theorem State.Ticked.countGlobal {e : Nat} (h : a.Ticked s) : a.Ticked (s.countGlobal e n) := by
  have hc := (State.Counted.refl s).countGlobal (e := e) (n := n)
  exact h.trans ⟨by rw [hc.same], hc.reg⟩

/-- A tick of the regulators: the domains' buckets fill, the levels are taken, and the balance of the background grows up to its bound. -/
theorem execRegulatorRefill_leaves {u : State} (hu : u = (s.validDoms.foldl State.refillDom s).levelUpdate) :
    ∃ t, execRegulatorRefill s = .next t ∧ (u.setBg (min (1000 * (u.bgRefill : Int)) (u.bgBal + u.bgRefill))).Ticked t := by
  subst hu
  have hheld : ∀ x : State, ∀ l : List Nat, x.Ticked (l.foldl State.heldTick x) := fun x l => (State.Ticked.refl x).foldl State.Ticked.heldTick
  exact ⟨_, rfl, (hheld _ _).countGlobal.countGlobal.countGlobal.countGlobal.countGlobal⟩

theorem State.levelUpdate_host_wb (hu : t = (s.validDoms.foldl State.refillDom s).levelUpdate) : t.host = s.host ∧ t.wb = s.wb := by
  subst hu
  exact ⟨foldl_view (v := State.host) fun _ _ _ => rfl, foldl_view (v := State.wb) fun _ _ _ => rfl⟩

end

end Sys2Proof.Machine

namespace Sys2Proof.Proofs

open Sys2Proof Sys2Proof.Machine

/-- Settles O51: the entries by their action, the guarantee by its raise, the regulators by one tick. -/
theorem spoolRegulatorCommands : Obligations.SpoolRegulatorCommands := by
  unfold Obligations.SpoolRegulatorCommands
  refine ⟨fun s t n h => ?_, fun s hr hfl => ?_, fun s h => congrArg Host.Outcome.next (if_pos h),
    fun s g z hup hz hnew hg hfw => .intro (execGRaiseTakesEffect_due hup hz hnew hg hfw) ⟨rfl, State.putG_g⟩, fun s u hu => ?_, fun s t n h => ?_,
    fun s who v hup hw => congrArg Host.Outcome.next (State.asWriter_of hup hw)⟩
  · exact .intro (State.runAction_of h) ⟨State.schedRunning_endEntry, rfl⟩
  · exact congrArg Host.Outcome.next (if_pos ⟨hr, by simp [hfl]⟩)
  · obtain ⟨t, h, ht⟩ := execRegulatorRefill_leaves hu
    obtain ⟨hhost, hwb⟩ := State.levelUpdate_host_wb hu
    refine .intro h ⟨?_, ?_, (ht.reg _ (.inr (by decide))).trans (State.reg_setReg_same _ _ _),
      (ht.reg _ (.inr (by decide))).trans (State.reg_setReg_other _ _ _ _ (by decide))⟩
    · rw [ht.same]
      exact hhost
    · rw [ht.same]
      exact hwb
  · refine .intro (State.runAction_of h) ⟨State.schedRunning_endEntry, ?_⟩
    by_cases hfw : t.lark.fwRunning = true
    · rw [if_neg (not_not.mpr hfw), if_pos hfw]
    · rw [if_pos hfw, if_neg hfw]

end Sys2Proof.Proofs

/-! SUPPORT. The rail sequencer and the fault line (O52). -/

namespace Sys2Proof.Machine

section
variable {s t : State} {n x : Nat}

/-! ### Rails -/

theorem State.railState_setRail : (s.setRail n x).railState n = x % 16 := State.fld_setFld_same _ _ _ _ _ (by decide) (by decide)

theorem State.flag_setRail {b : Nat} (hb : 15 < b) : (s.setRail n x).flag (railOff n + 0x10) b = s.flag (railOff n + 0x10) b :=
  congrArg (fun y => decide (y = 1)) (State.fld_setFld_other s _ _ _ _ _ _ (by decide) (by decide) (.inr hb))

/-- A rail that has ended shows no power good: neither at its pin nor in its register. -/
theorem State.railEnded_good (h : n < 24) : (s.railEnded n).pins.sqPg.getLsbD n = false ∧ (s.railEnded n).flag (railOff n + 0x10) 24 = false := by
  have hpin : (s.pins.sqPg &&& ~~~ BitVec.ofNat 24 (2 ^ n)).getLsbD n = false := by
    rw [BitVec.getLsbD_and, BitVec.getLsbD_not, BitVec.getLsbD_ofNat, Nat.testBit_two_pow_self]
    simp [h]
  have hne : railOff n + 0x10 ≠ SQ + 4 := by
    simp only [railOff]
    omega
  unfold State.railEnded
  extract_lets pins u v
  have hflag : v.flag (railOff n + 0x10) 24 = false :=
    (State.flag_setRail (by decide)).trans (State.flag_setBit_same u (railOff n + 0x10) 24 false (by decide))
  split
  · exact ⟨hpin, (State.flag_setFld_reg hne).trans hflag⟩
  · exact ⟨hpin, hflag⟩

/-! ### The fault line -/

theorem State.faulted_fld {o hi lo : Nat} (ho : quietReg o) :
    (State.event { s with pins := { s.pins with faultIn := true } } 0xD205 0 none 0 0).fld o hi lo = s.fld o hi lo :=
  (State.event_logs _ _ _ _ _ _).fld ho

theorem execFaultNExternal_only (hd : s.pins.faultDrive = false) (h0 : s.fld SQ 17 16 = 0) :
    execFaultNExternal s = .next (State.event { s with pins := { s.pins with faultIn := true } } 0xD205 0 none 0 0) := by
  rw [execFaultNExternal, if_neg (by simp [hd])]
  dsimp only
  rw [State.faulted_fld (by unfold quietReg; decide), h0]
  rfl

theorem execFaultNExternal_off (hd : s.pins.faultDrive = false) (h1 : s.fld SQ 17 16 = 1) (hp : s.power < 4) :
    execFaultNExternal s = .next ((State.event { s with pins := { s.pins with faultIn := true } } 0xD205 0 none 0 0).enterOff .faultWait) := by
  have hpow : ¬ (State.event { s with pins := { s.pins with faultIn := true } } 0xD205 0 none 0 0).power = 4 := by
    rw [State.power, State.faulted_fld (by unfold quietReg; decide)]
    exact Nat.ne_of_lt hp
  rw [execFaultNExternal, if_neg (by simp [hd])]
  dsimp only
  rw [State.faulted_fld (by unfold quietReg; decide), h1]
  exact congrArg Host.Outcome.next (if_neg fun h => hpow h.1)

/-- The hold of the fault line that has lasted ends, and with every rail off the line is released. -/
theorem execFaultHoldExpire_off (hd : s.pins.faultDrive = true) (hat : s.pw.faultTick + 1000 * s.fld SQ 15 8 ≤ s.tb.tick) (h2 : s.sqState ≠ 2)
    (hrails : ∀ n ∈ s.rails, s.railEn n = false ∧ s.railState n ≠ 3) :
    execFaultHoldExpire s = .next (State.releaseFault { s with pw := { s.pw with faultHold := false } }) := by
  rw [execFaultHoldExpire, if_pos ⟨hd, hat⟩]
  refine congrArg Host.Outcome.next (if_pos ((if_neg h2).trans (List.all_eq_true.mpr fun n hn => ?_)))
  obtain ⟨hen, hst⟩ := hrails n hn
  rw [Bool.and_eq_true]
  exact ⟨congrArg not hen, decide_eq_true hst⟩

/-- Below A3 the step shows no bias of the always-on rail; the bands and the core's step are other fields. -/
theorem execBiasStep_low (h : s.power < 3) : ∃ t, execBiasStep s = .next t ∧ t.fld (PW + 0x20) 23 16 = 0 := by
  have hkeep (u : State) {hi lo x : Nat} (hhi : hi < 16) (hle : lo ≤ hi) : (u.setFld (PW + 0x20) hi lo x).fld (PW + 0x20) 23 16 = u.fld (PW + 0x20) 23 16 :=
    State.fld_setFld_other _ _ _ _ _ _ _ (by omega) hle (.inr hhi)
  refine ⟨_, congrArg Host.Outcome.next ((if_neg (by omega)).trans (if_neg (by omega))), ?_⟩
  refine (hkeep _ (by decide) (by decide)).trans ((hkeep _ (by decide) (by decide)).trans ((hkeep _ (by decide) (by decide)).trans
    ((hkeep _ (by decide) (by decide)).trans ?_)))
  exact State.fld_setFld_same _ _ _ _ _ (by decide) (by decide)

end

end Sys2Proof.Machine

namespace Sys2Proof.Proofs

open Sys2Proof Sys2Proof.Machine

/-- Settles O52: each row by the branch its conditions choose. -/
theorem railCommands : Obligations.RailCommands := by
  unfold Obligations.RailCommands
  refine ⟨fun s h1 hretry hgood hhead => ?_, fun s h2 hgood => ?_, fun s n hn hk hst hfor => ?_, fun s hoff h3 => ?_, fun s hoff h3 => ?_,
    fun s n hn hk he hm => ?_, fun s n hn hk he hm => ?_, fun s code => congrArg Host.Outcome.next (if_pos rfl), fun s n code hn hk => ?_,
    fun s n hn hk hst => (below_of_lt hn).trans (congrArg Host.Outcome.next (if_pos ⟨hk, hst⟩)),
    fun s n hn hst hsq hfor => .intro ((below_of_lt hn).trans (congrArg Host.Outcome.next (if_pos ⟨hst, hsq, hfor⟩))) ⟨rfl, State.railState_setRail⟩,
    fun s h4 hat => congrArg Host.Outcome.next (if_pos ⟨h4, hat⟩), fun s hd h0 => ?_, fun s hd h1 hp => ?_,
    fun s hd => congrArg Host.Outcome.next (if_pos hd), fun s h0 => .intro (congrArg Host.Outcome.next (if_neg h0)) ⟨rfl, rfl⟩,
    fun s hd hat h2 hrails => ?_, fun s h3 => ?_, fun s h3 => ?_⟩
  · refine congrArg Host.Outcome.next ((if_pos h1).trans ((if_neg ?_).trans (if_neg (by simp [hhead]))))
    rintro (h | h)
    · exact Bool.false_ne_true (hretry.symm.trans h)
    · exact h hgood
  · refine congrArg Host.Outcome.next ((if_neg ?_).trans (if_pos ⟨h2, hgood⟩))
    omega
  · exact (below_of_lt hn).trans (congrArg Host.Outcome.next (if_pos ⟨hk, hst, hfor⟩))
  · exact congrArg Host.Outcome.next ((if_neg (by simp [hoff])).trans (if_pos h3))
  · exact congrArg Host.Outcome.next ((if_neg (by simp [hoff])).trans (if_neg h3))
  · refine .intro ((below_of_lt hn).trans (congrArg Host.Outcome.next ((if_pos ⟨hk, he⟩).trans ?_))) ⟨rfl, State.railEnded_good hn⟩
    rw [hm]
    rfl
  · refine (below_of_lt hn).trans (congrArg Host.Outcome.next ((if_pos ⟨hk, he⟩).trans ?_))
    rw [hm]
    rfl
  · exact (below_of_lt (by omega)).trans (congrArg Host.Outcome.next ((if_neg (by omega)).trans (if_pos hk)))
  · exact .intro (execFaultNExternal_only hd h0) ⟨congrArg Pins.faultIn (State.event_logs _ _ _ _ _ _).pins, rfl⟩
  · exact execFaultNExternal_off hd h1 hp
  · exact .intro (execFaultHoldExpire_off hd hat h2 hrails) ⟨rfl, rfl, State.flag_setBit_same _ _ _ _ (by decide)⟩
  · refine .intro (congrArg Host.Outcome.next (if_pos h3)) ⟨State.fld_setFld_same _ _ _ _ _ (by decide) (by decide), ?_⟩
    exact State.fld_setFld_other _ _ _ _ _ _ _ (by decide) (by decide) (.inl (by decide))
  · obtain ⟨t, ht, hzero⟩ := execBiasStep_low h3
    exact .intro ht hzero

end Sys2Proof.Proofs

/-! SUPPORT. Recovery and the power states (O53). -/

namespace Sys2Proof.Machine

section
variable {s t u : State} {f : RecoveryFinding} {n x : Nat}

/-! ### Recovery -/

theorem execRecovery_no (h : s.wb.recovered = true ∨ s.media.mixedReported = true) : execRecovery f s = .next s := by
  refine congrArg Host.Outcome.next (if_pos ?_)
  rcases h with h | h
  · exact .inl h
  · exact .inr (.inr (.inr (.inr (.inr (.inr h)))))

/-- The recovery may begin: nothing is recovered, the part is up, its channels have settled, and no mixed dies were reported. -/
structure State.MayRecover (s : State) : Prop where
  open_ : s.wb.recovered = false
  step : s.recStep = 0
  power : s.power = 0
  rails : s.sqState = 2
  still : s.flag PW 7 = false
  settled : s.channelsSettled = true
  mixed : s.media.mixedReported = false

theorem State.MayRecover.not_waits (h : s.MayRecover) : ¬ (s.wb.recovered = true ∨ ¬ s.recStep = 0 ∨ ¬ s.power = 0 ∨ ¬ s.sqState = 2 ∨ s.flag PW 7 = true ∨
    ¬ s.channelsSettled = true ∨ s.media.mixedReported = true) := by
  simp [h.open_, h.step, h.power, h.rails, h.still, h.settled, h.mixed]

theorem State.uncleanLoss_tp : s.uncleanLoss.tp = s.tp := by
  have hp := ((State.Stored.refl (s.setBit (WP + 0x2C) 4 true)).persist (p := HI + 0xC0) (v := s.reg (HI + 0xC0) + 1)).same
  refine (State.event_logs _ _ _ _ _ _).tp.trans ?_
  rw [hp]
  rfl

theorem State.mapBase_none (ha : s.tp.ckptA = none) (hb : s.tp.ckptB = none) : s.mapBase f = (false, s) := by
  rw [State.mapBase, ha, hb, ite_self, ite_self]

theorem State.recStep_setFld (h : x < 16) : (s.setFld (WP + 0x2C) 11 8 x).recStep = x :=
  (State.fld_setFld_same _ _ _ _ _ (by decide) (by decide)).trans (Nat.mod_eq_of_lt h)

/-- With no image and no checkpoint nothing can be recovered: the recovery stops at step 2. -/
theorem execRecovery_lost (h : s.MayRecover) (hi : s.wb.image = none) (ha : s.tp.ckptA = none) (hb : s.tp.ckptB = none) :
    execRecovery f s = .next ((s.uncleanLoss.event 0x3106 0 none 0 0).setFld (WP + 0x2C) 11 8 2) := by
  have hmap : s.uncleanLoss.mapBase f = (false, s.uncleanLoss) := State.mapBase_none (by rw [State.uncleanLoss_tp, ha]) (by rw [State.uncleanLoss_tp, hb])
  rw [execRecovery, if_neg h.not_waits, hi]
  dsimp only
  rw [if_neg Bool.false_ne_true, hmap]
  dsimp only
  rw [if_pos Bool.false_ne_true, State.uncleanLoss_tp, ha, hb]
  rfl

/-- The state that a recovery from a checkpoint alone restarts from: journalling goes on after the last record, nothing is unverified. -/
def State.rebased (u : State) : State := { u with tp := { u.tp with nextSeq := u.lastSeq + 1, unverified := [] } }

theorem execRecovery_base (h : s.MayRecover) (hi : s.wb.image = none) (hu : s.uncleanLoss.mapBase f = (true, u)) (hui : u.wb.image = none)
    (hg : f.gorseRecords = true) {v : State} (hv : v = u.rebased.meterGap) : execRecovery f s = .next
      (((((State.restoreDrift { v with gx := { v.gx with sweep := some 0 } } false).newSalt).anchorScan false f.badAnchors).restartMigrations.listSpares.eraseIdleArea
        ).recomputeX.setFld (WP + 0x2C) 11 8 7) := by
  subst hv
  rw [execRecovery, if_neg h.not_waits, hi]
  dsimp only
  rw [if_neg Bool.false_ne_true, hu]
  dsimp only
  rw [if_neg (not_not.mpr rfl), hui, if_pos hg, if_neg (fun h => Bool.false_ne_true h.1)]
  rfl

theorem execRecoveryComplete_quick (h7 : s.recStep = 7) (ha : s.areaErasing = false) (hr : s.wb.recovered = false) (hp : s.power = 0) (hf : s.flag PW 7 = false)
    (hn : n ≤ 400) : execRecoveryComplete n s = .next ((((s.persist64 (WP + 0x30) (s.reg64 (WP + 0x30) + 1)).setFld (WP + 0x2C) 11 8 0).setReg (WP + 0x50)
      (BitVec.ofNat 32 n)).startEngines) := by
  rw [execRecoveryComplete, if_pos ⟨h7, by simp [ha], by simp [hr], hp, by simp [hf]⟩]
  dsimp only
  rw [if_neg (by omega), Nat.min_eq_right (by omega)]

/-! ### Requests over the sideband -/

theorem State.sideband_other (hx : x ≠ 0 ∧ x ≠ 4) : s.sideband x = if s.responderUp then s.emit (.sideband false) else s := by
  unfold State.sideband
  by_cases h : s.responderUp = true
  · rw [if_neg (not_not.mpr h), if_pos h, if_pos (.inl hx)]
  · rw [if_pos h, if_neg h]

theorem State.sideband_taken (hup : s.responderUp = true) (hx : x = 0 ∨ x = 4) (htrip : s.flag (TH + 4) 31 = false)
    (hrec : s.power = 4 → s.heading 0 = true → s.recalled = true) : s.sideband x = (s.requestState x).2.emit (.sideband true) := by
  rw [State.sideband, if_neg (not_not.mpr hup), if_neg]
  rintro (h | h | ⟨hp, hh, hn⟩)
  · omega
  · exact Bool.false_ne_true (htrip.symm.trans h)
  · exact hn (hrec hp hh)

/-! ### Entries and exits -/

theorem State.arrive_shows (hx : x < 16) : (s.arrive x).power = x ∧ (s.arrive x).fld PW 11 8 = s.power ∧ (s.arrive x).flag PW 7 = false := by
  have hpower : s.power < 16 := Nat.mod_lt _ (by decide)
  unfold State.arrive State.power State.flag State.setBit
  dsimp only
  simp (disch := decide) only [State.fld_setFld_other, State.fld_setFld_same]
  exact ⟨Nat.mod_eq_of_lt hx, Nat.mod_eq_of_lt hpower, rfl⟩

theorem State.submit_regs {c : Nat} {m : MCmd} : (s.submit c m).regs = s.regs := rfl

theorem State.setStandby_regs {v : Bool} : (s.setStandby v).regs = s.regs := by
  refine foldl_view (v := State.regs) fun t c _ => ?_
  split <;> rfl

theorem State.erasePlot_regs {p : Nat} : (s.erasePlot p n).regs = s.regs := by
  rw [(State.Placed.erasePlot (p := p) (n := n) (.refl s)).same]

theorem State.dropImage_regs : s.dropImage.regs = s.regs := by
  unfold State.dropImage
  split
  · rfl
  · exact foldl_view (v := State.regs) fun t k _ => State.erasePlot_regs

/-- An entry that is broken off shows its target and the reason, and the part is no longer in a transition. -/
theorem State.abortEntry_shows (he : s.entering = true) (hq : s.fld (SQ + 4) 3 0 = 2) :
    (s.abortEntry n).flag PW 7 = false ∧ (s.abortEntry n).reg (PW + 0x1C) = BitVec.ofNat 32 (s.fld PW 27 24 + 16 + n * 256) := by
  have hpw : quietReg PW := quietReg_pw (by decide) (by decide)
  have hshown : quietReg (PW + 0x1C) := quietReg_pw (by decide) (by decide)
  rw [State.abortEntry, if_neg (by simp [he, hq])]
  extract_lets tgt u v w
  have hregs : ((w.dropImage.event 0xD103 0 none tgt n).setStandby false).regs = (w.dropImage.event 0xD103 0 none tgt n).regs := State.setStandby_regs
  have hlogs : State.Logs w.dropImage (w.dropImage.event 0xD103 0 none tgt n) := State.event_logs _ _ _ _ _ _
  have hv : v.fld PW 7 7 = 0 := by
    have hu : u.fld PW 7 7 = 0 := by
      simp (disch := decide) only [u, State.setBit, State.fld_setFld_other, State.fld_setFld_same]
      rfl
    unfold v
    split
    · exact (State.fld_bump_other (by decide)).trans hu
    · exact (State.fld_bump_other (by decide)).trans hu
  constructor
  · rw [State.flag, State.fld_of_regs hregs, hlogs.fld hpw, State.fld_of_regs State.dropImage_regs]
    exact congrArg (fun x => decide (x = 1)) ((State.fld_setReg_other _ _ _ _ _ _ (by decide)).trans hv)
  · rw [State.reg, hregs]
    refine (hlogs.reg _ hshown).trans ?_
    rw [State.reg, State.dropImage_regs]
    exact State.reg_setReg_same _ _ _

theorem execA2DrainComplete_rest (he : s.entering = true) (hh : s.heading 2 = true) (hr : s.atRest = true) (hf : s.host.fetches = []) :
    execA2DrainComplete s = .next (if s.standbyAll true then (s.arrive 2).latchedExit else (s.setFld PW 19 16 4).setStandby true) :=
  congrArg Host.Outcome.next (if_neg fun h => h ⟨he, hh, hr, hf⟩)

theorem execA3DrainComplete_drained (h : s.a3Drained = true) :
    execA3DrainComplete s = .next (if s.wb.writing.isNone then s.writeImage 4 else if s.imageSealed then s.a3Down else s) :=
  congrArg Host.Outcome.next (if_neg (not_not.mpr h))

theorem State.writing_of_imageSealed (h : s.imageSealed = true) : s.wb.writing ≠ none := by
  intro hn
  unfold State.imageSealed at h
  rw [hn] at h
  exact Bool.false_ne_true h

theorem execA3ExitComplete_up {v : Bool} (hp : s.power = 3) (hh : s.heading 0 = true) (hq : s.sqState = 2) (hc : s.channelsSettled = true) :
    execA3ExitComplete v s = .next (if s.fld PW 19 16 ≠ 8 then s.a3Restore v else if s.areaErasing then s else s.a3End) :=
  congrArg Host.Outcome.next (if_neg (not_not.mpr ⟨hp, hh, hq, hc⟩))

/-! ### The always-on supply -/

/-- The straps latched at power-up show at their pins and registers. -/
theorem execStrapLatch_latches {b : Byte} {pages : List Nat} (hp : s.power = 4) (hh : s.heading 0 = true) (hr : s.recalled = false) :
    ∃ t, execStrapLatch ⟨b, pages⟩ s = .next t ∧ t.pins.strap = b ∧ t.sd.unread = pages ∧ t.reg (GLB + 8) = BitVec.ofNat 32 b.toNat ∧
      t.flag CP 27 = b.toNat.testBit 7 := by
  have hopen : s.power = 4 ∧ s.heading 0 = true ∧ ¬ s.recalled = true := ⟨hp, hh, by simp [hr]⟩
  refine ⟨_, congrArg Host.Outcome.next (if_pos hopen), ?_⟩
  extract_lets pins seed u v
  have hreg : v.reg (GLB + 8) = BitVec.ofNat 32 b.toNat :=
    (State.reg_setReg_other _ _ _ _ (by decide)).trans (State.reg_setReg_same _ _ _)
  have hflag : v.flag CP 27 = b.toNat.testBit 7 := State.flag_setBit_same _ _ _ _ (by decide)
  split
  · exact ⟨rfl, rfl, hreg, hflag⟩
  · exact ⟨rfl, rfl, (State.reg_emit _ _ _).trans hreg, (State.flag_emit _ _ _ _).trans hflag⟩

end

end Sys2Proof.Machine

namespace Sys2Proof.Proofs

open Sys2Proof Sys2Proof.Machine

/-- Settles O53: each row by the branch its conditions choose. -/
theorem powerCommands : Obligations.PowerCommands := by
  unfold Obligations.PowerCommands
  refine ⟨fun s ms h7 ha hr hp hf hms => execRecoveryComplete_quick h7 ha hr hp hf hms, fun s f hr => execRecovery_no (.inl hr),
    fun s f hr h0 hp hq hf hc hm hi ha hb => .intro (execRecovery_lost ⟨hr, h0, hp, hq, hf, hc, hm⟩ hi ha hb) ⟨rfl, State.recStep_setFld (by decide)⟩,
    fun s u f hr h0 hp hq hf hc hm hi hu hui hg => ?_, fun s f hm => execRecovery_no (.inr hm), fun s => congrArg Host.Outcome.next (State.sideband_other (by decide)),
    fun s x hup hx ht hrec => congrArg Host.Outcome.next (State.sideband_taken hup hx ht hrec), fun s hw hn => congrArg Host.Outcome.next (if_pos ⟨hw, hn⟩),
    fun s he hh hr hf hs => ?_, fun s he hh hr hf hs => ?_, fun s hd hw => ?_, fun s hd hi => ?_, fun s he hq hat => ?_, fun s hp hh hs => ?_,
    fun s v hp hh hq hc h8 => ?_, fun s v hp hh hq hc h8 ha => ?_, fun s => ?_, fun s => ?_, fun s => .intro rfl rfl,
    fun s b pages hp hh hr => execStrapLatch_latches hp hh hr, fun s hp hh hr => congrArg Host.Outcome.next (if_pos ⟨hp, hh, by simp [hr]⟩), fun s hp => ?_⟩
  · exact .intro (execRecovery_base ⟨hr, h0, hp, hq, hf, hc, hm⟩ hi hu hui hg rfl) ⟨State.recStep_setFld (by decide), _, rfl, rfl⟩
  · exact (execA2DrainComplete_rest he hh hr hf).trans (congrArg Host.Outcome.next (if_pos hs))
  · exact (execA2DrainComplete_rest he hh hr hf).trans (congrArg Host.Outcome.next (if_neg (by simp [hs])))
  · exact (execA3DrainComplete_drained hd).trans (congrArg Host.Outcome.next (if_pos (by simp [hw])))
  · exact (execA3DrainComplete_drained hd).trans
      (congrArg Host.Outcome.next ((if_neg (by simpa using State.writing_of_imageSealed hi)).trans (if_pos hi)))
  · exact .intro (congrArg Host.Outcome.next (if_pos ⟨he, hat⟩)) ⟨rfl, State.abortEntry_shows he hq⟩
  · obtain ⟨hpower, hfrom, hstill⟩ := State.arrive_shows (s := s) (x := 0) (by decide)
    exact .intro (congrArg Host.Outcome.next (if_pos ⟨hp, hh, hs⟩)) ⟨hpower, hfrom.trans hp, hstill⟩
  · exact (execA3ExitComplete_up hp hh hq hc).trans (congrArg Host.Outcome.next (if_pos h8))
  · exact .intro ((execA3ExitComplete_up hp hh hq hc).trans (congrArg Host.Outcome.next ((if_neg (not_not.mpr h8)).trans (if_neg (by simp [ha]))))) ⟨_, _, rfl, rfl, rfl⟩
  · exact .intro rfl ⟨State.fld_setFld_same _ _ _ _ _ (by decide) (by decide), rfl, rfl, rfl⟩
  · exact .intro rfl ⟨rfl, State.flag_setBit_same _ _ _ _ (by decide)⟩
  · exact ⟨congrArg Host.Outcome.next (if_neg hp), congrArg Host.Outcome.next (if_neg hp)⟩

end Sys2Proof.Proofs

/-! SUPPORT. Sensors, trips and the thermal timers (O54). -/

namespace Sys2Proof.Machine

section
variable {s : State} {b c k n tag : Nat} {q : MCmd}

/-! ### Levels and steps -/

theorem State.bgLevel_lt : s.bgLevel < 8 := Nat.mod_lt _ (by decide)

theorem State.thStep_lt : s.thStep < 8 := Nat.mod_lt _ (by decide)

theorem State.bgLevel_setBgLevel : (s.setBgLevel b).bgLevel = min 7 b := by
  refine (State.fld_setFld_same s _ _ _ _ (by decide) (by decide)).trans (Nat.mod_eq_of_lt ?_)
  omega

theorem State.thStep_setThStep (hk : k < 8) : (s.setThStep k).thStep = k := by
  have hstep : quietReg (QS + 0x1C) := by
    unfold quietReg
    decide
  unfold State.setThStep
  dsimp only
  split
  · next h => exact h.symm
  · rw [State.thStep, (State.event_logs _ _ _ _ _ _).fld hstep, State.fld_setFld_reg _ _ _ _ _ _ _ _ (by decide),
      State.fld_setFld_same _ _ _ _ _ (by decide) (by decide)]
    exact Nat.mod_eq_of_lt hk

theorem State.thStep_setThRequest {v : Bool} : (s.setThRequest v).thStep = s.thStep :=
  (State.fld_setFld_reg _ _ _ _ _ _ _ _ (by decide)).trans (State.fld_setFld_other _ _ _ _ _ _ _ (by decide) (by decide) (.inr (by decide)))

theorem execBgLevelTimer_run (h3 : s.thLevel < 3) (hat : s.th.bgAt + (if s.thLevel = 2 then 100000 else 1000000) ≤ s.tb.tick) :
    execBgLevelTimer s = .next (if s.thLevel = 2 then s.setBgLevel (s.bgLevel + 1) else s.setBgLevel (s.bgLevel - 1)) :=
  congrArg Host.Outcome.next ((if_neg (by omega)).trans (if_neg (by omega)))

/-- The step falls by one; the request that ends with it leaves the step. -/
theorem execStepFallTimer_falls (h2 : s.thLevel < 2) (hat : s.th.stepAt + s.fld TH 7 0 * 100000 ≤ s.tb.tick) :
    ∃ t, execStepFallTimer s = .next t ∧ t.thStep = s.thStep - 1 := by
  have hlt : s.thStep - 1 < 8 := Nat.lt_of_le_of_lt (Nat.sub_le _ _) State.thStep_lt
  refine ⟨_, congrArg Host.Outcome.next (if_pos ⟨h2, hat⟩), ?_⟩
  dsimp only
  split
  · exact State.thStep_setThRequest.trans (State.thStep_setThStep hlt)
  · exact State.thStep_setThStep hlt

/-- What the always-on sensors read: those of the sensors that are not absent (R425). -/
def State.aonReadings (s : State) (vs : List Int) : List (Nat × Int) :=
  (((List.range 8).zip vs).map (fun (x : Nat × Int) => (24 + x.1, x.2))).filter (fun (x : Nat × Int) => !s.sensorAbsent x.1)

theorem execAonSensorRead_off {vs : List Int} (hp : 3 ≤ s.power) : execAonSensorRead vs s =
    .next ((s.aonReadings vs).foldl (fun (t : State) x => t.tripCheck x.1) ((s.aonReadings vs).foldl (fun (t : State) x => t.sense x.1 x.2) s)) := by
  rw [execAonSensorRead, if_neg (Nat.not_lt.mpr hp)]
  rfl

/-! ### Temperatures of a stack -/

/-- The readings of a stack's temperature response, with the stack's own first (R426). -/
def stackReadings (c : Nat) (ds : List Int) (hub : Int) : List (Nat × Int × Bool) :=
  (0x100 + c, hub, decide (hub ≤ -128) || decide (127 ≤ hub)) ::
    ((List.range 8).zip ds).map (fun (x : Nat × Int) => (0x200 + 8 * c + x.1, x.2, decide (x.2 ≤ -128) || decide (127 ≤ x.2)))

/-- A response that reads is taken up as readings; of the rest only the drift record of the warmest die changes before the configuration goes on. -/
theorem execTempResponse_success {ds : List Int} {hub : Int} (h : s.Answers c tag [.temp] q) :
    ∃ x u v : State, x = s.handBack c tag ∧ u = State.readings { x with th := { x.th with tempTick := Tbl.put x.th.tempTick c x.tb.tick } } (stackReadings c ds hub) ∧
      v.regs = u.regs ∧ v.th = u.th ∧ v.media = u.media ∧ execTempResponse c tag .success ds hub s = .next ((v.configDone c).settle c) := by
  refine ⟨_, _, ?v, rfl, rfl, ?_, ?_, ?_, ?run⟩
  case run =>
    change State.answered _ _ _ _ _ = _
    rw [State.answered_of h, if_neg (by decide), if_pos rfl]
  · exact foldl_view (v := State.regs) fun _ _ _ => rfl
  · exact foldl_view (v := State.th) fun _ _ _ => rfl
  · exact foldl_view (v := State.media) fun _ _ _ => rfl

theorem execTempResponse_dieFailed {ds : List Int} {hub : Int} (h : s.Answers c tag [.temp] q) :
    execTempResponse c tag .dieFailed ds hub s = .next (((s.handBack c tag).dieStatus c (addrDie q.addr)).settle c) := by
  rw [execTempResponse, State.answered_of h, if_pos rfl]

theorem execTempMissingTimeout_missing (hc : c < 40) (hp : s.power < 3) (ha : s.sensorAbsent (0x100 + c) = false)
    (hat : (Tbl.find s.th.tempTick c).getD 0 + (if s.power = 2 then 120000000 else 10000) ≤ s.tb.tick) :
    execTempMissingTimeout c s = .next (((((0x100 + c) :: (List.range 8).map (fun d => 0x200 + 8 * c + d)).foldl (fun (t : State) i =>
      (if (t.sensor i).isNone then t.setSensor i (Sensor.fresh t.tb.tick 0) else t).judge i true) s).showBroken).thermalUpdate) := by
  rw [execTempMissingTimeout, below_of_lt hc]
  refine congrArg Host.Outcome.next (if_neg ?_)
  simp only [ha, Bool.false_eq_true, false_or, not_or]
  omega

end

end Sys2Proof.Machine

namespace Sys2Proof.Proofs

open Sys2Proof Sys2Proof.Machine

/-- Settles O54: each row by the branch its conditions choose. -/
theorem thermalCommands : Obligations.ThermalCommands := by
  unfold Obligations.ThermalCommands
  refine ⟨fun s rs hp => congrArg Host.Outcome.next (if_neg (by omega)), fun s k v b hk hp => (below_of_lt hk).trans (congrArg Host.Outcome.next (if_neg (by omega))),
    fun s k v b hk hp => (below_of_lt hk).trans (congrArg Host.Outcome.next (if_pos hp)), fun s vs rs hp hrs => ?_, fun s c tag q ds hub h => ?_,
    fun s c tag q ds hub h => ?_, fun s c hc hp ha hat => execTempMissingTimeout_missing hc hp ha hat, fun s g z hg hf hz => ?_, fun s h3 => ?_, fun s h2 h7 hat => ?_,
    fun s h2 hat => ?_, fun s hr h2 hat => congrArg Host.Outcome.next (if_pos ⟨hr, h2, hat⟩), fun s h2 hg hat => ?_, fun s h2 hat => ?_, fun s => rfl⟩
  · rw [hrs]
    exact execAonSensorRead_off hp
  · exact execTempResponse_dieFailed h
  · obtain ⟨x, u, v, hx, hu, hregs, hth, hmedia, hrun⟩ := execTempResponse_success (ds := ds) (hub := hub) h
    exact .intro hrun ⟨x, u, v, hx, hu, hregs, hth, hmedia, rfl⟩
  · refine (below_of_lt hg).trans ?_
    rw [hf]
    exact congrArg Host.Outcome.next (if_pos hz)
  · exact .intro (congrArg Host.Outcome.next (if_pos h3)) State.bgLevel_setBgLevel
  · refine .intro ((execBgLevelTimer_run (by omega) (by rwa [if_pos h2])).trans (congrArg Host.Outcome.next (if_pos h2))) ?_
    exact State.bgLevel_setBgLevel.trans (Nat.min_eq_right (by omega))
  · refine .intro ((execBgLevelTimer_run (by omega) (by rwa [if_neg (by omega)])).trans (congrArg Host.Outcome.next (if_neg (by omega)))) ?_
    have hlt := State.bgLevel_lt (s := s)
    exact State.bgLevel_setBgLevel.trans (Nat.min_eq_right (by omega))
  · refine .intro (congrArg Host.Outcome.next (if_pos ⟨h2, hg, hat⟩)) (State.thStep_setThStep ?_)
    omega
  · obtain ⟨t, ht, hstep⟩ := execStepFallTimer_falls h2 hat
    exact .intro ht hstep

end Sys2Proof.Proofs

/-! SUPPORT. The VCS commands over domains, keys and delegates (O56). -/

namespace Sys2Proof.Machine

section
variable {s u : State} {c : Taken} {d i n op : Nat} {st dt : Nat} {p : List Byte} {k : Taken → State → Nat × Nat × List Byte × State}

/-- The row of the command that Lark executes concludes it with what its work answers. -/
theorem State.Executes.concludes (h : s.Executes c op) (hk : k c s = (st, dt, p, u)) : s.vcs (fun x => x = op) k = .next (u.concluded c st dt p) :=
  State.vcs_taken h.1 (decide_eq_true h.2) hk

theorem State.concluded_lark (ht : u.lark.taken.isSome = true) (hc : vcsCritical c.opcode c.mb = false) :
    (u.concluded c st dt p).lark = { u.lark with taken := none } := by
  rw [State.concluded_taken ht hc, State.answer_lark]

/-! ### Notices -/

/-- The notices as Get notices answers them (R355). -/
def State.noticeBytes (s : State) : List Byte := (s.lark.notices.map (fun (x : Nat × Word) => leBytes 4 x.1 ++ leBytes 4 x.2.toNat)).flatten

theorem State.length_noticeBytes : s.noticeBytes.length = 8 * s.lark.notices.length := by
  unfold State.noticeBytes
  induction s.lark.notices with
  | nil => rfl
  | cons x l ih =>
    rw [List.map_cons, List.flatten_cons, List.length_append, List.length_append, length_leBytes, length_leBytes, ih, List.length_cons]
    omega

theorem State.Executes.getNotices (h : s.Executes c 0x0004) (hfit : s.fitsIn c (8 * s.lark.notices.length) = true) :
    ∃ t, execGetNotices s = .next t ∧ t.lark.notices = [] ∧ t.lark.taken = none := by
  have hc : vcsCritical c.opcode c.mb = false := by rw [h.2]; rfl
  have hfits : s.fitsIn c s.noticeBytes.length = true := by rw [State.length_noticeBytes, hfit]
  refine ⟨_, h.concludes (st := 0) (dt := 0) (p := s.noticeBytes) (u := { s with lark := { s.lark with notices := [] } }) ?_, ?_⟩
  · exact congrArg (fun u => (0, 0, s.noticeBytes, u)) (if_pos hfits)
  · have hlark := State.concluded_lark (u := { s with lark := { s.lark with notices := [] } }) (st := 0) (dt := 0) (p := s.noticeBytes)
      (congrArg Option.isSome h.1) hc
    exact ⟨congrArg (fun x => x.notices) hlark, congrArg (fun x => x.taken) hlark⟩

/-! ### Domains -/

theorem State.Executes.createDomain {code : Nat} (h : s.Executes c 0x0101) (hbad : domainBad c.payload = none) (hs : s.ldScope c (domainOf c.payload).ld = true)
    (hu : s.createDomain (domainOf c.payload) = (code, u)) : execCreateDomain s = .next (u.concluded c (if code = 0 then 0 else 4) code []) := by
  refine h.concludes ?_
  dsimp only
  rw [hbad]
  dsimp only
  rw [if_neg (not_not.mpr hs), hu]
  dsimp only
  split
  · next h0 =>
    rw [h0]
    rfl
  · rfl

theorem State.Executes.createDomain_done (h : s.Executes c 0x0101) (hbad : domainBad c.payload = none) (hs : s.ldScope c (domainOf c.payload).ld = true)
    (hu : s.createDomain (domainOf c.payload) = (0, u)) : execCreateDomain s = .next (u.concluded c 0 0 []) := by
  rw [h.createDomain hbad hs hu, if_pos rfl]

theorem State.Executes.createDomain_refused (h : s.Executes c 0x0101) (hbad : domainBad c.payload = none) (hs : s.ldScope c (domainOf c.payload).ld = true)
    (hu : s.createDomain (domainOf c.payload) = (n, u)) (hn : n ≠ 0) : execCreateDomain s = .next (u.concluded c 4 n []) := by
  rw [h.createDomain hbad hs hu, if_neg hn]

/-- A command on a valid domain within its scope. -/
theorem ite_domain {α : Type} {x y z : α} (hv : s.domValid d = true) (hs : s.ldScope c (s.domLd d) = true) :
    (if ¬ s.domValid d = true then x else if ¬ s.ldScope c (s.domLd d) = true then y else z) = z :=
  (if_neg (not_not.mpr hv)).trans (if_neg (not_not.mpr hs))

theorem State.Executes.vcsIdentify (h : s.Executes c 0x0001) : execVcsIdentify s = .next (s.concluded c 0 0
    (leBytes 4 3 ++ leBytes 4 (s.reg (CP + 0x10)).toNat ++ leBytes 4 (s.reg (CP + 0x14)).toNat ++ leBytes 8 Config.uid.toNat ++ leBytes 4 s.presence)) :=
  h.concludes rfl

theorem State.Executes.getCounter (h : s.Executes c 0x0002) (hn : n < 9) : execGetCounter n s = .next (s.concluded c 0 0 (leBytes 8 (s.counter n))) :=
  h.concludes (if_pos hn)

theorem State.Executes.getProgress (h : s.Executes c 0x0003) : execGetProgress s = .next (s.concluded c 0 0 s.progressBytes) := h.concludes rfl

theorem State.Executes.deleteDomain (h : s.Executes c 0x0102) (hv : s.domValid d = true) (hs : s.ldScope c (s.domLd d) = true)
    (ha : s.extentAccepted d = false) : execDeleteDomain d s = .next ((s.deleteDomain d).concluded c 0 0 []) :=
  h.concludes ((ite_domain hv hs).trans (if_neg (by simp [ha])))

theorem State.Executes.deleteDomain_accepted (h : s.Executes c 0x0102) (hv : s.domValid d = true) (hs : s.ldScope c (s.domLd d) = true)
    (ha : s.extentAccepted d = true) : execDeleteDomain d s = .next (s.concluded c 4 334 []) :=
  h.concludes ((ite_domain hv hs).trans (if_pos ha))

theorem State.Executes.modifyDomain {x : DomainChange} (h : s.Executes c 0x0103) (hv : s.domValid d = true) (hs : s.ldScope c (s.domLd d) = true)
    (hu : s.modifyDomain d x = (0, u)) : execModifyDomain d x s = .next (u.concluded c 0 0 []) := by
  refine h.concludes ((ite_domain hv hs).trans ?_)
  rw [hu]
  rfl

theorem State.Executes.loadDomainPlan {plan : List DomainSpec} {m : Nat} (h : s.Executes c 0x0104) (hu : s.createAll plan = ((0, m), u)) :
    execLoadDomainPlan plan s = .next (u.concluded c 0 0 []) := by
  refine h.concludes ?_
  dsimp only
  rw [hu]
  rfl

/-- The control words of domains, as List domains answers them (R355). -/
def State.domWords (s : State) (ds : List Nat) : List Byte := (ds.map (fun d => leBytes 4 (s.reg (QD + d * 0x20)).toNat)).flatten

theorem State.Executes.listDomains (h : s.Executes c 0x0105) :
    execListDomains s = .next (s.concluded c 0 0 (s.domWords (s.validDoms.filter (fun d => decide (32 ≤ c.mb) || decide (s.domLd d = c.mb))))) :=
  h.concludes rfl

/-! ### Keys, quarantine and delegates -/

theorem State.Executes.rotateDomainKey (h : s.Executes c 0x0201) (hv : s.domValid d = true) (hs : s.ldScope c (s.domLd d) = true) (hsn : s.snapsOf d = [])
    (hr : s.gx.rotation = none) : execRotateDomainKey d s = .next (((s.beginRotation d false).beginLong 0x0201 c.mb c.authority d).concluded c 0x0A 0 []) := by
  refine h.concludes ((ite_domain hv hs).trans ((if_neg (not_not.mpr hsn)).trans ((if_neg (by simp [hr])).trans ?_)))
  rw [State.wantRotation, hr, started, h.2]

theorem State.Executes.rotateDomainKey_snapped (h : s.Executes c 0x0201) (hv : s.domValid d = true) (hs : s.ldScope c (s.domLd d) = true)
    (hsn : s.snapsOf d ≠ []) : execRotateDomainKey d s = .next (s.concluded c 4 395 []) :=
  h.concludes ((ite_domain hv hs).trans (if_pos hsn))

theorem State.Executes.clearQuarantine (h : s.Executes c 0x0202) (hd : d < 4096) : execClearQuarantine d s =
    .next (((s.persist (gxDom d) (putBits (s.reg (gxDom d)) 31 31 0)).setFld (gxDom d) 15 0 0).concluded c 0 0 []) :=
  h.concludes (if_neg (Nat.not_le.mpr hd))

variable {key : List Byte} {g l : Word}

theorem State.Executes.setDelegate (h : s.Executes c 0x0203) (h1 : 1 ≤ i) (h8 : i ≤ 8) (hk : key.length = 32) (hp : s.freshPlace i = some u) :
    execSetDelegate i key g l s = .next ((u.installKey i key g l).concluded c 0 0 []) := by
  refine h.concludes ((if_neg (by omega)).trans ?_)
  rw [hp]
  rfl

theorem State.Executes.revokeDelegate (h : s.Executes c 0x0204) (h1 : 1 ≤ i) (h8 : i ≤ 8) : execRevokeDelegate i s =
    .next ((({ s with lark := { s.lark with auths := Tbl.put s.lark.auths i Authority.absent } }).setLock i true).concluded c 0 0 []) := by
  refine h.concludes (if_neg ?_)
  omega

theorem State.Executes.rekeyAuthority (h : s.Executes c 0x0205) (h8 : i ≤ 8) (hk : key.length = 32) (hpin : s.flag CP 27 = true)
    (hp : s.freshPlace i = some u) : execRekeyAuthority i key s =
      .next (((u.installKey i key (s.auth i).groups (s.auth i).lds).event 0xB204 c.mb none c.mb i).concluded c 0 0 []) := by
  refine h.concludes ((if_neg (by omega)).trans ((if_neg (fun h => h.1 hpin)).trans ?_))
  rw [hp]
  rfl

theorem State.Executes.rekeyAuthority_unstrapped (h : s.Executes c 0x0205) (h1 : 1 ≤ i) (h8 : i ≤ 8) (hk : key.length = 32) (hpin : s.flag CP 27 = false) :
    execRekeyAuthority i key s = .next (s.concluded c 4 363 []) :=
  h.concludes ((if_neg (by omega)).trans (if_pos ⟨by simp [hpin], .inl (by omega)⟩))

end

end Sys2Proof.Machine

namespace Sys2Proof.Proofs

open Sys2Proof Sys2Proof.Machine

/-- Settles O56: each row concludes its command with what its work answers. -/
theorem vcsDomainCommands : Obligations.VcsDomainCommands := by
  unfold Obligations.VcsDomainCommands
  refine ⟨fun s c h => h.vcsIdentify, fun s c a h ha => h.getCounter ha, fun s c h => h.getProgress, fun s c h hfit => ?_,
    fun s u c h hbad hs hu => h.createDomain_done hbad hs hu, fun s u c n h hbad hs hu => h.createDomain_refused hbad hs hu (Nat.succ_ne_zero n),
    fun s c d h hd hv hs ha => h.deleteDomain hv hs ha, fun s c d h hd hv hs ha => h.deleteDomain_accepted hv hs ha,
    fun s u c d x h hd hv hs hu => h.modifyDomain hv hs hu, fun s u c plan k h hu => h.loadDomainPlan hu, fun s c h hm => ?_, fun s c h hm => ?_,
    fun s c d h hd hv hs hsn hr => h.rotateDomainKey hv hs hsn hr, fun s c d h hd hv hs hsn => h.rotateDomainKey_snapped hv hs hsn,
    fun s c d h hd => h.clearQuarantine hd, fun s u c i key g l h h1 h8 hk hp => h.setDelegate h1 h8 hk hp, fun s c i h h1 h8 => h.revokeDelegate h1 h8,
    fun s u c i key h h8 hk hpin hp => h.rekeyAuthority h8 hk hpin hp, fun s c i key h h1 h8 hk hpin => h.rekeyAuthority_unstrapped h1 h8 hk hpin⟩
  · obtain ⟨t, ht, hn, htaken⟩ := h.getNotices hfit
    exact .intro ht ⟨hn, htaken⟩
  · have hall : s.validDoms.filter (fun d => decide (32 ≤ c.mb) || decide (s.domLd d = c.mb)) = s.validDoms := List.filter_eq_self.mpr fun d _ => by simp [hm]
    exact hall ▸ h.listDomains
  · have hown : s.validDoms.filter (fun d => decide (32 ≤ c.mb) || decide (s.domLd d = c.mb)) = s.validDoms.filter (fun d => decide (s.domLd d = c.mb)) :=
      List.filter_congr fun d _ => by simp [Nat.not_le.mpr hm]
    exact hown ▸ h.listDomains

end Sys2Proof.Proofs

/-! SUPPORT. What concluding a command leaves, and the VCS commands over media, Rick, the time base and the schedule (O57). -/

namespace Sys2Proof.Machine

section
variable {a s t u : State} {c : Taken} {d k o p : Nat} {v : Word}

/-! ### What a class P write leaves of the Seed store -/

/-- `t`'s Seed store is `s`'s but for the places of registers and counters. -/
structure State.SeedKept (s t : State) : Prop where
  same : t.sd = { s.sd with
    slots := t.sd.slots, frozen := t.sd.frozen, regMoved := t.sd.regMoved, wornPlaces := t.sd.wornPlaces, wornOn := t.sd.wornOn, spread := t.sd.spread
    moved := t.sd.moved }

theorem State.SeedKept.refl (s : State) : s.SeedKept s := ⟨rfl⟩

theorem State.SeedKept.trans (h : a.SeedKept s) (k : s.SeedKept t) : a.SeedKept t := ⟨by rw [k.same, h.same]⟩

theorem State.SeedKept.of_sd (h : t.sd = s.sd) : s.SeedKept t := ⟨by rw [h]⟩

theorem State.SeedKept.logs (h : a.SeedKept s) (k : State.Logs s t) : a.SeedKept t := by
  have hs : t.sd = { s.sd with spread := t.sd.spread, moved := t.sd.moved } := by rw [← k.seed]
  exact h.trans ⟨by rw [hs]⟩

theorem State.SeedKept.event {code inst p0 p1 : Nat} {dom : Option Nat} (h : a.SeedKept s) : a.SeedKept (s.event code inst dom p0 p1) :=
  h.logs (State.event_logs _ _ _ _ _ _)

theorem State.SeedKept.setReg (h : a.SeedKept s) : a.SeedKept (s.setReg o v) := h.trans ⟨rfl⟩

theorem State.SeedKept.seedWear {n : Nat} (h : a.SeedKept s) : a.SeedKept (s.seedWear n) := by
  unfold State.seedWear
  split
  · exact h.setReg
  · exact h

theorem State.SeedKept.slotWrite (h : a.SeedKept s) : a.SeedKept (s.slotWrite p) := by
  have hput (x : Tbl (Tbl (List Byte))) : a.SeedKept { s with sd := { s.sd with slots := x } } := h.trans ⟨rfl⟩
  unfold State.slotWrite
  dsimp only
  split
  · exact (hput _).seedWear
  split
  · refine State.SeedKept.event (h.trans ⟨rfl⟩)
  split
  · exact (hput _).seedWear
  · exact State.SeedKept.event ((hput _).seedWear.trans ⟨rfl⟩)

theorem State.SeedKept.freeze (h : a.SeedKept s) : a.SeedKept (s.freeze p) := by
  unfold State.freeze
  split
  · exact h
  · exact State.SeedKept.event (State.SeedKept.setReg (State.SeedKept.setReg (h.trans ⟨rfl⟩)))

theorem State.SeedKept.persist (h : a.SeedKept s) : a.SeedKept (s.persist p v) := by
  unfold State.persist
  dsimp only
  split
  · exact h.setReg.slotWrite
  · exact h.freeze

/-! ### What concluding a command leaves (R353) -/

/-- `t` is `s` with command `c` concluded: what its answer writes, and the lock of its authority. -/
structure State.Ends (c : Taken) (s t : State) : Prop where
  same : t = { s with
    regs := t.regs, ev := t.ev, host := { s.host with lds := t.host.lds }, pm := t.pm, sd := t.sd, out := t.out, rk := t.rk
    lark := { s.lark with taken := none, auths := t.lark.auths } }
  seed : s.SeedKept t
  reg : ∀ o, quietReg o → o < SD → o ≠ CP → ¬ outReg c.mb o → t.reg o = s.reg o

theorem State.ends_answer {st : Nat} {b : List Byte} : State.Ends c s (s.answer c st d b) where
  same := by
    have h := ((State.Posted.refl s).answer (c := c) (st := st) (d := d) (p := b)).same
    have htaken : (s.answer c st d b).lark.taken = none := by rw [State.answer_lark]
    rw [htaken] at h
    rw [h]
  seed := .of_sd State.answer_sd
  reg := fun o hq _ _ ho => State.answer_reg ho hq.2.2

theorem State.Ends.setLock {n : Nat} {x : Bool} (h : State.Ends c a s) : State.Ends c a (s.setLock n x) where
  same := by
    have hs := ((State.Stored.refl { s with lark := { s.lark with auths := Tbl.put s.lark.auths n { s.auth n with locked := x } } }).persist (p := CP)
      (v := putBits (s.reg CP) n n (if x then 1 else 0))).same
    rw [show s.setLock n x = _ from hs, h.same]
  seed := State.SeedKept.persist (h.seed.trans (t := { s with lark := _ }) ⟨rfl⟩)
  reg := fun o hq hsd hcp ho => (State.persist_reg hq hsd hcp).trans (h.reg o hq hsd hcp ho)

/-- Concluding a command that the state still holds answers it, and locks an authority whose counter is worn out. -/
theorem State.ends_concluded {st : Nat} {b : List Byte} (ht : s.lark.taken.isSome = true) : State.Ends c s (s.concluded c st d b) := by
  have hn : s.lark.taken.isNone = false := by simpa using ht
  unfold State.concluded
  rw [hn, if_neg Bool.false_ne_true]
  split
  · exact State.ends_answer.setLock
  · exact State.ends_answer

theorem State.Ends.taken (h : State.Ends c s t) : t.lark.taken = none := by rw [h.same]

theorem State.Ends.tb (h : State.Ends c s t) : t.tb = s.tb := by rw [h.same]

/-- No register below the domain table changes. -/
theorem State.Ends.reg_low (h : State.Ends c s t) (ho : o < QD) : t.reg o = s.reg o := by
  have hcp : o < CP := Nat.lt_trans ho (by decide)
  refine h.reg o (quietReg_gx ho) (Nat.lt_trans ho (by decide)) (Nat.ne_of_lt hcp) ?_
  simp only [outReg, mbOff]
  omega

theorem State.Ends.fld (h : State.Ends c s t) {hi lo : Nat} (hq : quietReg o) (ho : o < CP + 0x1000) (hcp : o ≠ CP) : t.fld o hi lo = s.fld o hi lo := by
  rw [State.fld, State.fld, h.reg o hq (Nat.lt_trans ho (by decide)) hcp]
  simp only [outReg, mbOff]
  omega

/-! ### Media, Rick and the time base -/

theorem State.Executes.mediaReformatting {x : Nat} (h : s.Executes c 0x0301) (hx : s.usableOk x = true) :
    execMediaReformatting x s = .next (((s.format x).beginLong 0x0301 c.mb c.authority x).concluded c 0x0A 0 []) := by
  refine h.concludes ((if_pos hx).trans ?_)
  rw [started, h.2]

theorem State.Executes.mediaReformatting_refused {x : Nat} (h : s.Executes c 0x0301) (hx : s.usableOk x = false) :
    execMediaReformatting x s = .next (s.concluded c 4 27 []) := h.concludes (if_neg (by simp [hx]))

theorem State.Executes.overwriteSanitize (h : s.Executes c 0x0302) :
    execOverwriteSanitize s = .next ((s.beginLong 0x0302 c.mb c.authority 0).concluded c 0x0A 0 []) := by
  refine h.concludes ?_
  rw [started, h.2]

theorem State.Executes.setChannelDisable {x : Bool} (h : s.Executes c 0x0303) (hk : k < 40) : execSetChannelDisable k x s = .next
    (((s.persistFld (MC + k * 0x1000) 30 30 (if x then 1 else 0)).persistDone (MC + k * 0x1000) (s.reg (MC + k * 0x1000))).concluded c 0 0 []) :=
  h.concludes (if_neg (Nat.not_le.mpr hk))

theorem State.Executes.rickMaintenance_runs {op n : Nat} {key : DWord} (h : s.Executes c 0x0401) (hop : op ≤ 4) (h1 : 1 ≤ n) (hn : n ≤ 65536)
    (hkey : key.toNat < 2 ^ 39) (hbusy : s.flag (RK + 0x3C) 31 = false) : execRickMaintenance op n key s = .next
      ((State.maintPump n (s.maintGo op key.toNat n)).concluded c 0 0 (leBytes 4 ((State.maintPump n (s.maintGo op key.toNat n)).reg (RK + 0x3C)).toNat)) :=
  h.concludes ((if_neg (by omega)).trans (if_neg (by simp [hbusy])))

theorem State.Executes.rickMaintenance_busy {op n : Nat} {key : DWord} (h : s.Executes c 0x0401) (hop : op ≤ 4) (h1 : 1 ≤ n) (hn : n ≤ 65536)
    (hkey : key.toNat < 2 ^ 39) (hbusy : s.flag (RK + 0x3C) 31 = true) :
    execRickMaintenance op n key s = .next ((s.setBit (RK + 0x3C) 30 true).concluded c 4 256 []) := by
  refine h.concludes ((if_neg (by omega)).trans ((if_pos hbusy).trans ?_))
  rw [State.maintGo, if_pos hbusy]
  rfl

theorem State.Executes.setCommonsSize {n : Nat} (h : s.Executes c 0x0402) (h4 : 4 ≤ n) (hn : n ≤ 64) :
    execSetCommonsSize n s = .next ((s.persistFld RK 6 0 n).concluded c 0 0 []) := h.concludes (if_pos ⟨h4, hn⟩)

theorem State.Executes.confirmBackwardStep (h : s.Executes c 0x0501) (hp : s.flag TB 11 = true) :
    execConfirmBackwardStep s = .next (s.stepBack.concluded c 0 0 []) := h.concludes (if_pos hp)

theorem State.Executes.confirmBackwardStep_none (h : s.Executes c 0x0501) (hp : s.flag TB 11 = false) :
    execConfirmBackwardStep s = .next (s.concluded c 4 44 []) := h.concludes (if_neg (by simp [hp]))

/-- A pending backward step discarded: such steps are ignored from then on (R45). -/
def State.stepDiscarded (s : State) : State :=
  ({ s.clearPending with tb := { s.tb with ignoring := true } }).event 0xB403 0 none (s.reg64 (TB + 0x1C)) (s.reg64 (TB + 0x1C) / 2 ^ 32)

theorem State.stepDiscarded_logs : State.Logs { s.clearPending with tb := { s.tb with ignoring := true } } s.stepDiscarded := State.event_logs _ _ _ _ _ _

theorem State.stepDiscarded_shows : s.stepDiscarded.flag TB 11 = false ∧ s.stepDiscarded.reg64 (TB + 0x1C) = 0 := by
  have hreg (o : Nat) (ho : o < QD) : s.stepDiscarded.reg o = s.clearPending.reg o := State.stepDiscarded_logs.reg o (quietReg_gx ho)
  constructor
  · rw [State.flag, State.fld, hreg _ (by decide), State.clearPending, State.reg_setReg64, if_neg (by decide), if_neg (by decide)]
    exact State.flag_setBit_same s _ _ _ (by decide)
  · rw [State.reg64, hreg _ (by decide), hreg _ (by decide)]
    exact State.reg64_setReg64_same _ _ _

theorem State.Executes.discardBackwardStep (h : s.Executes c 0x0502) (hp : s.flag TB 11 = true) :
    execDiscardBackwardStep s = .next (s.stepDiscarded.concluded c 0 0 []) := h.concludes (if_pos hp)

/-- A discarded backward step leaves no step pending; time goes on, and such steps are ignored. -/
theorem State.Executes.discardBackwardStep_leaves (h : s.Executes c 0x0502) (ht : t = s.stepDiscarded.concluded c 0 0 []) :
    t.flag TB 11 = false ∧ t.reg64 (TB + 0x1C) = 0 ∧ t.tb.ztime = s.tb.ztime ∧ t.tb.ignoring = true := by
  have htaken : s.stepDiscarded.lark.taken.isSome = true := by
    rw [State.stepDiscarded_logs.lark]
    exact congrArg Option.isSome h.1
  have hends : State.Ends c s.stepDiscarded t := ht ▸ State.ends_concluded htaken
  have hreg (o : Nat) (ho : o < QD) : t.reg o = s.stepDiscarded.reg o := hends.reg_low ho
  obtain ⟨hflag, hzero⟩ := State.stepDiscarded_shows (s := s)
  refine ⟨?_, ?_, ?_, ?_⟩
  · rw [State.flag, State.fld, hreg _ (by decide)]
    exact hflag
  · rw [State.reg64, hreg _ (by decide), hreg _ (by decide)]
    exact hzero
  · rw [hends.tb, State.stepDiscarded_logs.tb]
  · rw [hends.tb, State.stepDiscarded_logs.tb]

/-! ### The schedule -/

theorem State.Executes.writeScheduleEntry {e : Nat} {ctl period window : Word} {phase : DWord} (h : s.Executes c 0x0503) (he : e < 64) (hctl : bits ctl 7 0 ≤ 0x12)
    (hv : (s.schedPut e ctl period window phase).schedValid e = true) : execWriteScheduleEntry e ctl period window phase s = .next
      ((State.schedChanged s (s.schedPut e ctl period window phase) e).concluded c 0 0 []) := by
  have hok : ¬ (64 ≤ e ∨ 0x12 < bits ctl 7 0 ∨ ¬ (s.schedPut e ctl period window phase).schedValid e = true) := by
    rintro (h64 | hact | hno)
    · exact Nat.not_le.mpr he h64
    · exact Nat.not_lt.mpr hctl hact
    · exact hno hv
  refine h.concludes ?_
  dsimp only
  rw [if_neg hok]
  rfl

theorem State.Executes.setTimedDoorbell {n : Nat} {x : Word} (h : s.Executes c 0x0505) (hn : n < 16) (hx : bits x 29 24 ≤ 35) :
    execSetTimedDoorbell n x s = .next ((s.plainWrite .lark (CP + 0x40 + 4 * n) x).concluded c 0 0 []) := by
  refine h.concludes ?_
  rw [if_neg (by omega)]
  rfl

/-- The words of entry `e` that are saved (R51). -/
def State.entryWords (s : State) (e : Nat) : List (Nat × Word) :=
  [(schedOff e, s.reg (schedOff e) &&& 0xE00000FF), (schedOff e + 4, s.reg (schedOff e + 4)), (schedOff e + 8, s.reg (schedOff e + 8)),
    (schedOff e + 0x10, s.reg (schedOff e + 0x10)), (schedOff e + 0x14, s.reg (schedOff e + 0x14))]

/-- The words of the schedule that are saved: those of every entry but entry 0. -/
def State.scheduleWords (s : State) : List (Nat × Word) := ((List.range 63).map (fun i => s.entryWords (i + 1))).flatten

theorem State.length_scheduleWords : s.scheduleWords.length = 63 * 5 := by
  unfold State.scheduleWords
  have hfive : List.length ∘ (fun i => s.entryWords (i + 1)) = fun _ => 5 := rfl
  rw [List.length_flatten, List.map_map, hfive, List.map_const', List.length_range, List.sum_replicate_nat]

theorem State.mem_scheduleWords {e : Nat} {x : Nat × Word} (h1 : 1 ≤ e) (h : e < 64) (hx : x ∈ s.entryWords e) : x ∈ s.scheduleWords := by
  refine List.mem_flatten.mpr ⟨s.entryWords e, List.mem_map.mpr ⟨e - 1, List.mem_range.mpr (by omega), ?_⟩, hx⟩
  rw [Nat.sub_add_cancel h1]

theorem State.Executes.saveSchedule (h : s.Executes c 0x0504) : ∃ t, execSaveSchedule s = .next t ∧ t.sd.schedule = some s.scheduleWords := by
  refine ⟨_, h.concludes rfl, ?_⟩
  have hends : State.Ends c _ (({ s with sd := { s.sd with schedule := some s.scheduleWords } } : State).concluded c 0 0 []) :=
    State.ends_concluded (congrArg Option.isSome h.1)
  exact congrArg Seed.schedule hends.seed.same

end

end Sys2Proof.Machine

namespace Sys2Proof.Proofs

open Sys2Proof Sys2Proof.Machine

/-- Settles O57: each row concludes its command with what its work answers. -/
theorem vcsMediaTimeCommands : Obligations.VcsMediaTimeCommands := by
  unfold Obligations.VcsMediaTimeCommands
  refine ⟨fun s c u h hu => h.mediaReformatting hu, fun s c u h hu => h.mediaReformatting_refused hu, fun s c h => h.overwriteSanitize,
    fun s c k v h hk => h.setChannelDisable hk, fun s c op n key h hop h1 hn hkey hb => h.rickMaintenance_runs hop h1 hn hkey hb,
    fun s c op n key h hop h1 hn hkey hb => h.rickMaintenance_busy hop h1 hn hkey hb, fun s c n h h4 hn => h.setCommonsSize h4 hn,
    fun s c h hp => h.confirmBackwardStep hp, fun s c h hp => h.confirmBackwardStep_none hp, fun s c h hp => .intro (h.discardBackwardStep hp) (h.discardBackwardStep_leaves rfl),
    fun s c e ctl period window phase h he hctl hv => h.writeScheduleEntry he hctl hv, fun s c h => ?_, fun s c n v h hn hv => h.setTimedDoorbell hn hv⟩
  obtain ⟨t, ht, hsched⟩ := h.saveSchedule
  refine .intro ht ⟨s.scheduleWords, hsched, State.length_scheduleWords, fun e h1 he => ⟨State.mem_scheduleWords h1 he ?_, State.mem_scheduleWords h1 he ?_⟩⟩
  · exact List.mem_cons_of_mem _ List.mem_cons_self
  · exact List.mem_cons_self

end Sys2Proof.Proofs

/-! SUPPORT. The VCS commands over images, mirroring, cuts, power, telemetry and persistent fields (O58). -/

namespace Sys2Proof.Machine

section
variable {a s t u : State} {c : Taken} {d n o x : Nat} {uid : DWord} {b : List Byte}

theorem State.Ends.mt (h : State.Ends c s t) : t.mt = s.mt := by rw [h.same]
theorem State.Ends.sw (h : State.Ends c s t) : t.sw = s.sw := by rw [h.same]
theorem State.Ends.act (h : State.Ends c s t) : t.lark.act = s.lark.act := by rw [h.same]
theorem State.Ends.longOp (h : State.Ends c s t) : t.lark.longOp = s.lark.longOp := by rw [h.same]

/-! ### Images -/

/-- The activation of the slot that does not run has begun, as a long operation (R342). -/
def State.activating (s : State) (c : Taken) : State :=
  { s with lark := { s.lark with act := some { step := 1, version := (s.slotOf (!s.slotRuns)).version, start := s.tb.tick } } }.beginLong 0x0602 c.mb c.authority 0

theorem State.Executes.activateInactiveSlot (h : s.Executes c 0x0602) (hg : (s.slotOf (!s.slotRuns)).good s.svnMin = true)
    (hh : (s.slotOf (!s.slotRuns)).handoffMin ≤ (s.slotOf s.slotRuns).handoff) (hf : s.flushing = false) (hr : s.wb.recovered = true) :
    execActivateInactiveSlot s = .next ((s.activating c).concluded c 0x0A 0 []) := by
  have hno : ¬ (¬ (s.slotOf (!s.slotRuns)).good s.svnMin = true ∨ (s.slotOf s.slotRuns).handoff < (s.slotOf (!s.slotRuns)).handoffMin ∨ s.flushing = true ∨
      ¬ s.wb.recovered = true) := by
    rw [hg, hf, hr]
    simpa using hh
  refine h.concludes ((if_neg hno).trans ?_)
  rw [started, h.2]
  rfl

theorem State.Executes.activateInactiveSlot_bad (h : s.Executes c 0x0602) (hg : (s.slotOf (!s.slotRuns)).good s.svnMin = false) :
    execActivateInactiveSlot s = .next (s.concluded c 4 367 []) := by
  refine h.concludes (if_pos (.inl ?_))
  rw [hg]
  exact Bool.false_ne_true

theorem State.Executes.raiseSvnMin (h : s.Executes c 0x0603) : execRaiseSvnMin s = .next
    ((State.showAlt (s.persistFld (CP + 0x18) 15 0 (max s.svnMin (s.slotOf s.slotRuns).svn))).concluded c 0 0 []) := h.concludes rfl

/-! ### The mirror partner -/

theorem State.Executes.setMirrorPartner_new (h : s.Executes c 0x0701) (hbig : s.bitmapTooBig = false) (hu : uid.toNat ≠ s.partnerUid) :
    execSetMirrorPartner uid false false s = .next ((s.namePartner uid).concluded c 0 0 []) := by
  refine h.concludes ?_
  rw [if_neg (by simp [hbig]), if_neg (by simp), if_neg (by simp), if_neg (by simp), if_neg hu]
  rfl

theorem State.Executes.setMirrorPartner_same (h : s.Executes c 0x0701) (hbig : s.bitmapTooBig = false) (hu : uid.toNat = s.partnerUid) :
    execSetMirrorPartner uid false false s = .next (s.concluded c 0 0 []) := by
  refine h.concludes ?_
  rw [if_neg (by simp [hbig]), if_neg (by simp), if_neg (by simp), if_neg (by simp), if_pos hu]
  rfl

theorem State.Executes.setMirrorPartner_promote (h : s.Executes c 0x0701) (hbig : s.bitmapTooBig = false) (hu : uid.toNat = s.partnerUid)
    (h4 : s.mirrorState = 4) (hl : s.leads = false) : execSetMirrorPartner uid true false s = .next (s.promote.concluded c 0 0 []) := by
  refine h.concludes ?_
  rw [if_neg (by simp [hbig]), if_neg (by simp [hu]), if_pos rfl, if_pos ⟨h4, by simp [hl]⟩]
  rfl

theorem State.Executes.setMirrorPartner_demote (h : s.Executes c 0x0701) (hbig : s.bitmapTooBig = false) (hu : uid.toNat = s.partnerUid)
    (hl : s.leads = true) : execSetMirrorPartner uid false true s = .next (s.demote.concluded c 0 0 []) := by
  refine h.concludes ?_
  rw [if_neg (by simp [hbig]), if_neg (by simp [hu]), if_neg (by simp), if_pos rfl, if_pos hl]
  rfl

/-! ### Live migration and cuts -/

/-- The migration of domain `d` to node `n` that has begun, before its long operation (R393). -/
def State.migBegun (s : State) (d n dst ld dpa pool : Nat) : State :=
  let t := { s with sw := { s.sw with migState := 1, migDom := d, migNode := n, migDst := dst, migSource := true, migSnap := none, migPool := pool
                                      migSeq := migBase + 1, resyncLine := 0 } }
  (t.dirtyDomain d).sendPeer n 0x0712 (t.targetVals d dst ld dpa pool false)

theorem State.Executes.startLiveDomainMigration {dst ld dpa pool : Nat} (h : s.Executes c 0x0702) (hv : s.domValid d = true) (hn : n < 256) (hself : n ≠ s.nodeId)
    (hdst : dst < 4096) (hld : ld < 32) (hm : s.domMirror d = false) (ha : s.migActive = false) : execStartLiveDomainMigration d n dst ld dpa pool none s =
      .next (((s.migBegun d n dst ld dpa pool).beginLong 0x0702 c.mb c.authority d).concluded c 0x0A 0 []) := by
  refine h.concludes ?_
  dsimp only
  rw [if_neg, if_neg (by simp [hm, ha]), started, h.2]
  · rfl
  · rintro (h1 | h1 | h1 | h1 | h1 | h1)
    · exact h1 hv
    · omega
    · exact hself h1
    · omega
    · omega
    · exact h1 rfl

theorem State.Executes.armSnapshotOrResetCut {x : CutSpec} (h : s.Executes c 0x0703) (hlen : x.pairs.length ≤ 64)
    (hp : ∀ p ∈ x.pairs, p.1 < 256 ∧ p.2 < 4096) (hat : s.cutLead ≤ x.at_) (hst : s.swState ≠ 1) : execArmSnapshotOrResetCut x s = .next
      (((s.installCut x s.nodeId).otherNodes.foldl (fun (u : State) n => u.sendPeer n 0x0713 (armVals x)) (s.installCut x s.nodeId)).concluded c 0 0 []) := by
  have hany : ¬ (64 < x.pairs.length ∨ x.pairs.any (fun p => decide (256 ≤ p.1) || decide (4096 ≤ p.2)) = true) := by
    rintro (h1 | h1)
    · omega
    · obtain ⟨p, hmem, hbad⟩ := List.any_eq_true.mp h1
      obtain ⟨h256, h4096⟩ := hp p hmem
      simp only [Bool.or_eq_true, decide_eq_true_eq] at hbad
      omega
  refine h.concludes ?_
  rw [if_neg hany, if_neg (fun hlate => Nat.not_lt.mpr hat hlate.2.2), if_neg hst]
  rfl

/-! ### Power, events and the meter -/

theorem State.Executes.requestPowerState (h : s.Executes c 0x0801) (hu : s.requestState x = (0, u)) :
    execRequestPowerState false x s = .next (u.concluded c 0 0 []) := by
  rw [execRequestPowerState, if_neg Bool.false_ne_true]
  refine h.concludes ?_
  rw [hu]
  rfl

theorem State.Executes.clearEventRecorder (h : s.Executes c 0x0901) :
    execClearEventRecorder s = .next (((({ s with ev := { s.ev with staging := [], ring := [], archive := [] } } : State)).event 0xF101 0 none
      (min ((s.heldRecords.map (fun e => e.seq)).eraseDups).length (2 ^ 32 - 1)) (c.mb + c.authority % 16 * 256)).concluded c 0 0 []) := h.concludes rfl

/-! ### Persistent fields, the control profile and owner data -/

theorem State.Executes.writeRwaField {mask v : Word} (h : s.Executes c 0x0A01) (hlen : c.payload.length = 20) (ho : msgNat c.payload 0 4 = o)
    (hhere : rwaHere o = true) (hsens : o = TH + 0x60 ∨ o = TH + 0x64 ∨ o = TH + 0x68) (hm : BitVec.ofNat 32 (msgNat c.payload 4 4) = mask)
    (hmask : mask &&& ~~~ rwaMask o = 0) (hval : BitVec.ofNat 32 (msgNat c.payload 8 4) = v) (hres : msgNat c.payload 12 4 = 0) (hopen : s.seedOpen o = true) :
    execWriteRwaField s = .next (((s.persist o (rwaWord o (s.reg o) mask v)).rwaDone o v).concluded c 0 0 []) := by
  have hhome : rwaElsewhere o = false ∧ o ≠ GLB + 0x100 ∧ ¬ (HI + 0x40 ≤ o ∧ o < HI + 0xC0) := by
    rcases hsens with rfl | rfl | rfl <;> decide
  obtain ⟨helse, hglb, hld⟩ := hhome
  subst ho hm hval
  refine h.concludes ?_
  dsimp only
  rw [if_neg (not_not.mpr hlen), if_neg (by simp [helse]), if_neg (not_not.mpr hhere), if_neg (not_not.mpr hmask), if_neg (not_not.mpr hres), State.rwaWrite,
    if_neg hglb]
  dsimp only
  rw [if_neg (fun hcfg => hld ⟨hcfg.1, hcfg.2.1⟩), if_neg (not_not.mpr hopen)]
  rfl

theorem State.Executes.saveControlProfile {l : List (Nat × Word)} (h : s.Executes c 0x0A02) (hl : l.length ≤ 2048) :
    execSaveControlProfile l s = .next ((({ s with sd := { s.sd with profile := l, profileLost := false } }).setFld (CP + 0x30) 11 0 l.length).concluded c 0 0 []) :=
  h.concludes (if_neg (Nat.not_lt.mpr hl))

theorem State.Executes.readOwnerDataArea {off : Nat} (h : s.Executes c 0x0A03) (hoff : off + n ≤ 65536) (hn : n % 4 = 0) :
    execReadOwnerDataArea off n s = .next (s.concluded c 0 0 (s.sd.ownerData.readBytes off n)) := h.concludes (if_neg (by omega))

theorem State.Executes.writeOwnerDataArea {off : Nat} (h : s.Executes c 0x0A04) (hb : b.length ≤ 4096) (hoff : off + b.length ≤ 65536) :
    execWriteOwnerDataArea off b s = .next ((s.queueSeed (.ownerData off b)).concluded c 0 0 []) := h.concludes (if_neg (by omega))

theorem State.Executes.fmApiTunnel (h : s.Executes c 0x0B01) :
    ∃ b, b.length = 8 ∧ execFmApiTunnel s = .next (State.concluded { s with free := s.free + 1 } c 0 0 b) :=
  ⟨(State.drawBytes 1 s).1, (congrArg List.length (List.append_nil _)).trans (length_leBytes 8 _), h.concludes rfl⟩

/-- An opcode that is neither a command's nor a peer's is unsupported. -/
theorem State.Executes.vcsUnsupportedOpcode {op : Nat} (h : s.Executes c op) (hop : op ∉ vcsOpcodes) (hpeer : peerOpcode op = false) :
    execVcsUnsupportedOpcode s = .next (s.concluded c 2 0 []) := by
  refine State.vcs_taken h.1 ?_ rfl
  rw [h.2, hpeer, decide_eq_true hop]
  rfl

/-! ### What the migration and the flush leave -/

theorem State.dirtyDomain_sw : (s.dirtyDomain d).sw = s.sw := foldl_view (v := State.sw) fun _ _ _ => rfl

/-- Sending a message leaves all of Sward but the messages under way. -/
theorem State.sendPeer_sw {op : Nat} {vals : List Nat} :
    (s.sendPeer n op vals).sw = { s.sw with sends := (s.sendPeer n op vals).sw.sends, peerBusy := (s.sendPeer n op vals).sw.peerBusy } := by
  have hto : (s.sendTo n 2 msgPeer (op :: vals)).sw = s.sw := by
    unfold State.sendTo
    split
    · exact ((State.Counted.refl _).count (by decide)).sw
    · rfl
  unfold State.sendPeer State.setSends
  rw [hto]

theorem State.migBegun_sw {dst ld dpa pool : Nat} (hu : u = s.migBegun d n dst ld dpa pool) :
    u.sw.migState = 1 ∧ u.sw.migDom = d ∧ u.sw.migNode = n ∧ u.sw.migDst = dst ∧ u.sw.migSource = true := by
  subst hu
  unfold State.migBegun
  dsimp only
  rw [State.sendPeer_sw, State.dirtyDomain_sw]
  exact ⟨rfl, rfl, rfl, rfl, rfl⟩

theorem State.Counted.lark (h : s.Counted t) : t.lark = s.lark := by rw [h.same]

theorem State.sendPeer_lark {op : Nat} {vals : List Nat} : (s.sendPeer n op vals).lark = s.lark := by
  have hto : (s.sendTo n 2 msgPeer (op :: vals)).lark = s.lark := by
    unfold State.sendTo
    split
    · exact ((State.Counted.refl _).count (by decide)).lark
    · rfl
  exact hto

theorem State.migBegun_lark {dst ld dpa pool : Nat} : (s.migBegun d n dst ld dpa pool).lark = s.lark :=
  State.sendPeer_lark.trans (foldl_view (v := State.lark) fun _ _ _ => rfl)

theorem State.spoolErase_keeps : (s.spoolErase.mt.units, s.spoolErase.mt.tail, s.spoolErase.lark) = (s.mt.units, s.mt.tail, s.lark) := by
  refine foldl_view (v := fun t : State => (t.mt.units, t.mt.tail, t.lark)) fun t _ _ => ?_
  extract_lets i p mt plots u
  split
  · rfl
  split
  · rfl
  · rw [(State.Placed.erasePlot (p := p) (n := 2) (.refl u)).same]

/-- The meter stream thrown away, its loss counted and recorded (R455). -/
def State.meterFlushed (s : State) : State :=
  let n := 64 * (s.mt.units.length + s.mt.closing.length)
  let t := State.spoolErase { s with mt := { s.mt with units := [], tail := 0, closing := [], gaps := [], headPage := [], cut := decide (0 < s.mt.portPos) } }
  ((t.setReg64 (MT + 0x18) n).event 0xF201 0 none n (n / 2 ^ 32)).meterRequest

theorem State.meterRequest_keeps : s.meterRequest.mt = s.mt ∧ s.meterRequest.lark = s.lark := by
  unfold State.meterRequest
  dsimp only
  split
  · split <;> exact ⟨rfl, rfl⟩
  · split <;> exact ⟨rfl, rfl⟩

theorem State.meterFlushed_leaves : s.meterFlushed.mt.units = [] ∧ s.meterFlushed.mt.tail = 0 ∧ s.meterFlushed.lark = s.lark := by
  unfold State.meterFlushed
  extract_lets n mt t
  have hspool : (t.mt.units, t.mt.tail, t.lark) = ([], 0, s.lark) := State.spoolErase_keeps
  obtain ⟨hunits, hrest⟩ := Prod.mk.inj hspool
  obtain ⟨htail, hlark⟩ := Prod.mk.inj hrest
  have hlogs : State.Logs (t.setReg64 (MT + 0x18) n) ((t.setReg64 (MT + 0x18) n).event 0xF201 0 none n (n / 2 ^ 32)) := State.event_logs _ _ _ _ _ _
  obtain ⟨hmt, hl⟩ := State.meterRequest_keeps (s := (t.setReg64 (MT + 0x18) n).event 0xF201 0 none n (n / 2 ^ 32))
  rw [hmt, hl, hlogs.mt, hlogs.lark]
  exact ⟨hunits, htail, hlark⟩

theorem State.Executes.flushMeterStream (h : s.Executes c 0x0902) : execFlushMeterStream s = .next (s.meterFlushed.concluded c 0 0 []) := h.concludes rfl

end

end Sys2Proof.Machine

namespace Sys2Proof.Proofs

open Sys2Proof Sys2Proof.Machine

/-- Settles O58: each row concludes its command with what its work answers. -/
theorem vcsSystemCommands : Obligations.VcsSystemCommands := by
  unfold Obligations.VcsSystemCommands
  have htaken {s u : State} {c : Taken} {op : Nat} (h : s.Executes c op) (hl : u.lark.taken = s.lark.taken) : u.lark.taken.isSome = true := by
    rw [hl, h.1]
    rfl
  refine ⟨fun s c off b h hb => ?_, fun s c h hg hh hf hr => ?_, fun s c h hg => h.activateInactiveSlot_bad hg, fun s c h => h.raiseSvnMin,
    fun s c uid h hbig hu => h.setMirrorPartner_new hbig hu,
    fun s c uid h hbig hu => ⟨h.setMirrorPartner_same hbig hu, fun h4 hl => h.setMirrorPartner_promote hbig hu h4 hl, fun hl => h.setMirrorPartner_demote hbig hu hl⟩,
    fun s c d node dst ld dpa pool h hd hv hn hself hdst hld hm ha => ?_, fun s c x h hlen hp hat hst => h.armSnapshotOrResetCut hlen hp hat hst,
    fun s u c x h hu => h.requestPowerState hu, fun s x => rfl, fun s c h => h.clearEventRecorder, fun s c h => ?_,
    fun s c o mask v h hlen ho hhere hsens hm hmask hval hres hopen => h.writeRwaField hlen ho hhere hsens hm hmask hval hres hopen, fun s c l h hl => ?_,
    fun s c off n h hoff hn => h.readOwnerDataArea hoff hn, fun s c off b h hb hoff => h.writeOwnerDataArea hb hoff, fun s c h => ?_,
    fun s c op h hop hpeer => h.vcsUnsupportedOpcode hop hpeer⟩
  · have hc : vcsCritical c.opcode c.mb = false := by
      rw [h.2]
      rfl
    have hslot (v : Bool) : ((s.withChunk off b).showAlt.concluded c 0 0 []).slotOf v = (s.withChunk off b).slotOf v := (State.concluded_slots hc v).1
    refine .intro (execTransferImageChunk_taken h hb) ?_
    rw [hslot, hslot, State.withChunk_slot, State.withChunk_running]
    exact ⟨rfl, rfl, rfl⟩
  · have hends : State.Ends c (s.activating c) ((s.activating c).concluded c 0x0A 0 []) := State.ends_concluded (htaken h rfl)
    exact .intro (h.activateInactiveSlot hg hh hf hr) ⟨⟨_, hends.act, rfl, rfl⟩, hends.longOp⟩
  · have hends : State.Ends c ((s.migBegun d node dst ld dpa pool).beginLong 0x0702 c.mb c.authority d) _ :=
      State.ends_concluded (st := 0x0A) (d := 0) (b := []) (htaken h (congrArg (fun x => x.taken) State.migBegun_lark))
    obtain ⟨hstate, hdom, hnode, hdst', hsrc⟩ := State.migBegun_sw (s := s) (d := d) (n := node) (dst := dst) (ld := ld) (dpa := dpa) (pool := pool) rfl
    refine .intro (h.startLiveDomainMigration hv hn hself hdst hld hm ha) ?_
    rw [hends.sw, hends.longOp]
    exact ⟨hstate, hdom, hnode, hdst', hsrc, rfl⟩
  · obtain ⟨hunits, htail, hlark⟩ := State.meterFlushed_leaves (s := s)
    have hends : State.Ends c s.meterFlushed (s.meterFlushed.concluded c 0 0 []) := State.ends_concluded (htaken h (by rw [hlark]))
    refine .intro h.flushMeterStream ?_
    rw [hends.mt]
    exact ⟨hunits, htail, hends.taken⟩
  · have hends : State.Ends c (({ s with sd := { s.sd with profile := l, profileLost := false } }).setFld (CP + 0x30) 11 0 l.length) _ :=
      State.ends_concluded (st := 0) (d := 0) (b := []) (htaken h rfl)
    refine .intro (h.saveControlProfile hl) ⟨congrArg Seed.profile hends.seed.same, congrArg Seed.profileLost hends.seed.same, ?_⟩
    rw [hends.fld (by unfold quietReg; decide) (by decide) (by decide), State.fld_setFld_same _ _ _ _ _ (by decide) (by decide)]
    exact Nat.mod_eq_of_lt (by omega)
  · obtain ⟨b, hb, hrun⟩ := h.fmApiTunnel
    exact .intro hrun ⟨b, { s with free := s.free + 1 }, hb, rfl, rfl⟩

end Sys2Proof.Proofs

/-! SUPPORT. The VCS commands that read: their answer alone is written (O27). -/

namespace Sys2Proof.Machine

section
variable {s t u : State} {c : Taken} {d n o x st : Nat} {op : Nat → Bool} {k : Taken → State → Nat × Nat × List Byte × State} {b : List Byte}

/-! ### What an answer leaves of Commons -/

/-- An answer without a tag is at most its buffer long, or its header alone. -/
theorem State.answer_commons (ha : c.auth = false) (hx : x < c.ptr.toNat % 2 ^ 26 ∨ c.ptr.toNat % 2 ^ 26 + max 32 c.buffer ≤ x) :
    (s.answer c st d b).rk.commons.read x = s.rk.commons.read x := by
  have hmsg (m : List Byte) (hm : m.length ≤ max 32 c.buffer) (v : State) : (v.writeMessage c.ptr m).rk.commons.read x = v.rk.commons.read x := by
    unfold State.writeMessage
    split
    · exact Memory.read_writeBytes_out _ _ _ _ (by omega)
    · rfl
  unfold State.answer
  extract_lets key need fits payload hdr tag lark w
  have hw : w.rk = s.rk := State.unburdened_rk
  have hkey : key = none := if_neg (by simp [ha])
  have htag : tag = [] := by
    unfold tag
    rw [hkey]
  split
  · rw [hw]
  · rw [State.postOut_rk, hmsg, hw]
    have hhdr : hdr.length = 32 := length_answerHeader
    rw [List.length_append, List.length_append, hhdr, htag]
    unfold payload
    split
    · next hfit =>
      have hneed : need ≤ c.buffer := of_decide_eq_true hfit
      have hlen : need = 32 + b.length := by
        unfold need
        rw [hkey]
        rfl
      rw [List.length_nil]
      omega
    · exact Nat.le_max_left _ _

/-! ### Commands that read -/

/-- What a command works out may draw a free value, and is nothing else than an answer. -/
def State.OnlyAnswers (s : State) (r : Nat × Nat × List Byte × State) : Prop := ∃ n, r.2.2.2 = { s with free := n }

theorem State.OnlyAnswers.done : s.OnlyAnswers (done s b) := ⟨s.free, rfl⟩

theorem State.OnlyAnswers.badInput : s.OnlyAnswers (badInput s) := ⟨s.free + 1, rfl⟩

theorem State.OnlyAnswers.ite {q : Prop} [Decidable q] {r r' : Nat × Nat × List Byte × State} (h : s.OnlyAnswers r) (h' : s.OnlyAnswers r') :
    s.OnlyAnswers (if q then r else r') := by
  split <;> assumption

/-- `t` is `s`, or `s` with the command answered and possibly a free value drawn. -/
def State.Reads (s : State) (c : Taken) (t : State) : Prop := t = s ∨ ∃ n st d b, t = State.answer { s with free := n } c st d b

/-- A command that only answers, and is not critical, leaves the state or answers it. -/
theorem State.vcs_reads (h : s.vcs op k = .next t) (ht : s.lark.taken = some c) (hop : op c.opcode = true → vcsCritical c.opcode c.mb = false)
    (hk : s.OnlyAnswers (k c s)) : s.Reads c t := by
  by_cases hc : op c.opcode = true
  · obtain ⟨n, hn⟩ := hk
    have hrun := State.vcs_taken (k := k) (u := (k c s).2.2.2) (st := (k c s).1) (d := (k c s).2.1) (p := (k c s).2.2.1) ht hc rfl
    rw [hn] at hrun
    cases hrun.symm.trans h
    exact .inr ⟨n, _, _, _, State.concluded_taken (congrArg Option.isSome ht) (hop hc)⟩
  · unfold State.vcs at h
    rw [ht] at h
    dsimp only at h
    rw [if_neg hc] at h
    cases h
    exact .inl rfl

/-- The reading commands are none of the critical ones. -/
theorem vcsCritical_reads {mb : Nat} (h : n ∈ [0x0001, 0x0002, 0x0003, 0x0105, 0x0A03]) (hd : decide (x = n) = true) : vcsCritical x mb = false := by
  rw [of_decide_eq_true hd]
  simp only [List.mem_cons, List.not_mem_nil, or_false] at h
  rcases h with rfl | rfl | rfl | rfl | rfl <;> rfl

theorem State.Reads.vcsIdentify (ht : s.lark.taken = some c) (h : execVcsIdentify s = .next t) : s.Reads c t :=
  State.vcs_reads h ht (vcsCritical_reads (by decide)) .done

theorem State.Reads.getCounter (ht : s.lark.taken = some c) (h : execGetCounter n s = .next t) : s.Reads c t :=
  State.vcs_reads h ht (vcsCritical_reads (by decide)) (.ite .done .badInput)

theorem State.Reads.getProgress (ht : s.lark.taken = some c) (h : execGetProgress s = .next t) : s.Reads c t :=
  State.vcs_reads h ht (vcsCritical_reads (by decide)) .done

theorem State.Reads.listDomains (ht : s.lark.taken = some c) (h : execListDomains s = .next t) : s.Reads c t :=
  State.vcs_reads h ht (vcsCritical_reads (by decide)) .done

theorem State.Reads.readOwnerDataArea (ht : s.lark.taken = some c) (h : execReadOwnerDataArea n x s = .next t) : s.Reads c t :=
  State.vcs_reads h ht (vcsCritical_reads (by decide)) (.ite .badInput .done)

/-- The registers of an answer lie in the set of its mailbox. -/
theorem not_outReg_of_apart (h : ¬ (mbOff x ≤ o ∧ o < mbOff x + 0x40)) : ¬ outReg x o := by
  unfold outReg
  omega

end

end Sys2Proof.Machine

namespace Sys2Proof.Proofs

open Sys2Proof Sys2Proof.Machine

/-- Settles O27: a command that reads leaves the state or answers it; with none taken every row is idle. -/
theorem frameVcsReads : Obligations.FrameVcsReads := by
  unfold Obligations.FrameVcsReads
  constructor
  · intro s t c a off n ht hmb ha i hi h
    have hreads : s.Reads c t := by
      simp only [List.mem_cons, List.not_mem_nil, or_false] at hi
      rcases hi with rfl | rfl | rfl | rfl | rfl
      · exact State.Reads.vcsIdentify ht h
      · exact State.Reads.getCounter ht h
      · exact State.Reads.getProgress ht h
      · exact State.Reads.listDomains ht h
      · exact State.Reads.readOwnerDataArea ht h
    obtain rfl | ⟨m, st, d, b, rfl⟩ := hreads
    · exact ⟨fun _ _ => rfl, fun _ _ _ => rfl, rfl, rfl, rfl, rfl, rfl, rfl, rfl⟩
    · exact ⟨fun x hx => State.answer_commons ha hx, fun o ho hrec => State.answer_reg (not_outReg_of_apart ho) (recorderReg_apart hrec), State.answer_sd,
        State.answer_gx, State.answer_tb, State.answer_tp, State.answer_wb, State.answer_host, State.answer_ev⟩
  · intro s a off n ht i hi
    simp only [List.mem_cons, List.not_mem_nil, or_false] at hi
    rcases hi with rfl | rfl | rfl | rfl | rfl | rfl | rfl | rfl | rfl | rfl | rfl
    · exact (State.vcs_idle ht : execVcsIdentify s = _)
    · exact (State.vcs_idle ht : execGetCounter a s = _)
    · exact (State.vcs_idle ht : execGetProgress s = _)
    · exact (State.vcs_idle ht : execGetNotices s = _)
    · exact (State.vcs_idle ht : execCreateDomain s = _)
    · exact (State.vcs_idle ht : execListDomains s = _)
    · exact (State.vcs_idle ht : execClearEventRecorder s = _)
    · exact (State.vcs_idle ht : execWriteRwaField s = _)
    · exact (State.vcs_idle ht : execReadOwnerDataArea off n s = _)
    · exact (State.vcs_idle ht : execConfirmBackwardStep s = _)
    · exact (State.vcs_idle ht : execSaveSchedule s = _)

end Sys2Proof.Proofs

/-! SUPPORT. The post mailboxes and Lark's own events (O55). -/

namespace Sys2Proof.Machine

section
variable {s t u : State} {c : Taken} {e k n op r : Nat} {v : Word} {who : Requester} {m bytes : List Byte}

/-! ### Posts and releases -/

theorem State.mailboxWrite_of {f : State → State} (hup : s.mailboxesUp = true) (hw : mailboxOf who k = true) : s.mailboxWrite who k f = f s :=
  (if_neg (not_not.mpr hup)).trans (if_pos hw)

/-- A post shows its word, a full slot and the doorbell. -/
theorem State.post_shows : (s.post k v).reg (mbOff k + 8) = v ∧ (s.post k v).inFull k = true ∧ (s.post k v).flag (mbOff k + 0x24) 0 = true := by
  have hfull : (s.post k v).inFull k = ((s.setReg (mbOff k + 8) v).setBit (mbOff k + 0x0C) 0 true).inFull k :=
    State.inFull_of_reg (State.reg_setReg_other _ _ _ _ (by omega))
  refine ⟨?_, hfull.trans (State.flag_setBit_same _ _ _ _ (by decide)), State.flag_setBit_same _ _ _ _ (by decide)⟩
  exact (State.reg_setReg_other _ _ _ _ (by omega)).trans ((State.reg_setReg_other _ _ _ _ (by omega)).trans (State.reg_setReg_same _ _ _))

/-- A host's post into a full slot is rejected: it shows in the slot's word and in the count of rejected posts. -/
theorem State.rejectPost_shows (t : State) (ht : t = s.rejectPost (.host k) k v) : t.reg (mbOff k + 8) = s.reg (mbOff k + 8) ∧
    t.flag (mbOff k + 0x0C) 1 = true ∧ t.fld (CP + 0x20) 15 0 = satAdd (s.fld (CP + 0x20) 15 0) 1 (2 ^ 16 - 1) ∧ t.out = .advisoryNonFatal (s.portOf (.host k)) :: s.out := by
  subst ht
  have hne (j : Nat) : mbOff k + j ≠ CP + 0x20 := by
    simp only [mbOff, CP]
    omega
  refine ⟨?_, ?_, ?_, rfl⟩
  · exact (State.reg_setReg_other _ _ _ _ (hne 8)).trans (State.reg_setReg_other _ _ _ _ (by omega))
  · exact (State.flag_setFld_reg (hne 0x0C)).trans (State.flag_setBit_same _ _ _ _ (by decide))
  · refine (State.fld_bump _ _ _ _ _ (by decide) (by decide)).trans ?_
    rw [State.setBit, State.fld_setFld_reg _ _ _ _ _ _ _ _ (hne 0x0C).symm]
    rfl

theorem State.outRelease_shows (h : s.outFull k = true) : (s.outRelease k).outFull k = false ∧ (s.outRelease k).flag (mbOff k + 0x24) 1 = true ∧
    (s.outRelease k).lark = s.lark := by
  rw [State.outRelease, if_pos h]
  refine ⟨?_, State.flag_setBit_same _ _ _ _ (by decide), rfl⟩
  exact (State.flag_setFld_reg (by omega)).trans (State.flag_setBit_same _ _ _ _ (by decide))

/-- A notice kept back is posted once its slot is empty. -/
theorem execInternalNoticeRetry_posts {x : Nat × Word} (hk : k < 40) (hup : s.mailboxesUp = true) (hx : s.lark.kept.find? (fun y => decide (y.1 = k)) = some x)
    (he : s.inFull k = false) : execInternalNoticeRetry k s = .next (({ s with lark := { s.lark with kept := s.lark.kept.erase x } } : State).post k x.2) := by
  rw [execInternalNoticeRetry, below_of_lt hk, hx]
  exact congrArg Host.Outcome.next ((if_neg (not_not.mpr hup)).trans (if_neg (by simp [he])))

/-- The entry whose action is taken is the first one started with it. -/
theorem State.Takes.first {x : Nat} (h : s.Takes x n t) : (s.tb.started.find? (fun p => p.2 = x)).map (fun p => p.1) = some n := by
  unfold State.Takes State.takeAction at h
  split at h
  · cases h
  · next p hp =>
    cases h
    rw [hp]
    rfl

theorem execLarkDoorbell_takes {t : State} (he : e < 64) (hup : s.larkUp = true) (ht : s.Takes 0x12 e t) :
    execLarkDoorbell e s = .next ((t.timedDoorbells e).endEntry e) := by
  rw [execLarkDoorbell, below_of_lt he, if_neg (by simp [ht.first, hup])]
  exact State.runAction_of ht

/-! ### Commands taken -/

theorem State.message_of_rk {ptr : DWord} (h : t.rk = s.rk) : t.message k ptr bytes = s.message k ptr bytes := by
  unfold State.message State.bufferOk
  rw [h]

/-- A command for any mailbox, well formed, on a part that has recovered, with no long operation: Lark holds it. -/
theorem State.command_taken (hl : s.lark.longOp = none) (h30 : s.flag CP 30 = false) (hr : s.wb.recovered = true) (h3 : msgNat m 0 1 = 3)
    (h4 : msgNat m 4 4 % 4 = 0) (hbuf : 32 + msgNat m 4 4 + 16 ≤ c.buffer) (hop : c.opcode ∈ [0x0001, 0x0002, 0x0003, 0x0004]) : s.command c m = s.take c := by
  have hserved : s.servedNow c = true := by
    rw [State.servedNow, if_neg (by simp [h30]), hr]
    rfl
  have hbox : vcsBoxOk c.opcode c.mb = true := if_pos hop
  have hplain : peerOpcode c.opcode = false ∧ vcsCritical c.opcode c.mb = false := by
    simp only [List.mem_cons, List.not_mem_nil, or_false] at hop
    rcases hop with h | h | h | h <;> rw [h] <;> exact ⟨rfl, rfl⟩
  have hfits : ¬ (msgNat m 4 4 % 4 ≠ 0 ∨ c.buffer < 32 + msgNat m 4 4 + (if c.auth then 16 else 0)) := by
    have h16 : (if c.auth then 16 else 0) ≤ 16 := by split <;> decide
    omega
  rw [State.command, if_neg (by simp [hl]), if_neg (not_not.mpr hserved), if_neg (not_not.mpr h3), if_neg hfits, if_neg (not_not.mpr hbox),
    if_neg (by simp [hplain.1]), if_neg (by simp [hplain.2])]

/-- The state in which Lark looks at the message of a slot: the slot is empty again, its doorbell off, the mailbox the one taken last. -/
def State.slotTaken (s : State) (k : Nat) : State :=
  { (s.setBit (mbOff k + 0x0C) 0 false).setBit (mbOff k + 0x24) 0 false with lark := { s.lark with lastMb := k } }

theorem State.takeFrom_command (hk : k < 36) (hm : s.message k (BitVec.ofNat 64 (s.reg64 (mbOff k))) bytes = some m) :
    s.takeFrom k bytes = (s.slotTaken k).command (takenOf k (s.reg (mbOff k + 8)) (BitVec.ofNat 64 (s.reg64 (mbOff k))) m) m := by
  have hmsg : (s.slotTaken k).message k (BitVec.ofNat 64 (s.reg64 (mbOff k))) bytes = some m := (State.message_of_rk rfl).trans hm
  refine (if_neg (by omega)).trans ?_
  dsimp only
  split
  · next h => cases h.symm.trans hmsg
  · next h =>
    cases h.symm.trans hmsg
    rfl

theorem State.takeFrom_taken (hk : k < 34) (hm : s.message k (BitVec.ofNat 64 (s.reg64 (mbOff k))) bytes = some m) (hl : s.lark.longOp = none)
    (h30 : s.flag CP 30 = false) (hr : s.wb.recovered = true) (h3 : msgNat m 0 1 = 3) (h4 : msgNat m 4 4 % 4 = 0) (hbuf : 32 + msgNat m 4 4 + 16 ≤ msgNat m 8 4)
    (hop : msgNat m 2 2 ∈ [0x0001, 0x0002, 0x0003, 0x0004]) :
    (s.takeFrom k bytes).lark.taken = some (takenOf k (s.reg (mbOff k + 8)) (BitVec.ofNat 64 (s.reg64 (mbOff k))) m) := by
  have hne (j : Nat) : CP ≠ mbOff k + j := by
    simp only [mbOff]
    omega
  have hflag : (s.slotTaken k).flag CP 30 = false := (State.flag_setFld_reg (hne 0x24)).trans ((State.flag_setFld_reg (hne 0x0C)).trans h30)
  rw [State.takeFrom_command (by omega) hm, State.command_taken (s := s.slotTaken k) hl hflag hr h3 h4 hbuf hop]
  rfl

/-! ### Long operations -/

theorem State.ringOut_fld {o hi lo : Nat} (ho : o < CP + 0x1000) : (s.ringOut k v).fld o hi lo = s.fld o hi lo := by
  rw [State.fld, State.fld, State.reg_ringOut, if_neg]
  simp only [mbOff]
  omega

theorem State.ringOut_lark : (s.ringOut k v).lark = s.lark := by rw [(State.Rings.refl s).ringOut.same]

/-- A long operation that ends leaves none, and shows its end and its result; the slot that runs is another field. -/
theorem State.endLong_leaves {l : LongOp} (h : s.lark.longOp = some l) : (s.endLong r).lark = { s.lark with longOp := none } ∧ (s.endLong r).flag CP 29 = false ∧
    (s.endLong r).fld (CP + 8) 15 14 = (if r % 256 = 0 then 2 else 3) ∧ (s.endLong r).slotRuns = s.slotRuns := by
  have hcp : quietReg CP := quietReg_of_cp (by decide) (by decide)
  have hcp8 : quietReg (CP + 8) := quietReg_of_cp (by decide) (by decide)
  unfold State.endLong
  split
  · next hn => cases hn.symm.trans h
  next l' _ =>
    extract_lets lark t1 t2 t3 t4 t5
    have hfld (o hi lo : Nat) (ho : o < CP + 0x1000) : t5.fld o hi lo = t3.fld o hi lo := by
      refine Eq.trans ?_ (State.ringOut_fld (k := l'.mb) (v := 4) ho)
      unfold t5
      split
      · rfl
      · exact State.ringOut_fld ho
    have hlark : t5.lark = { s.lark with longOp := none } := by
      have h3 : t3.lark = { s.lark with longOp := none } := by
        unfold t3
        split <;> rfl
      have h4 : t4.lark = { s.lark with longOp := none } := State.ringOut_lark.trans h3
      unfold t5
      split
      · exact h4
      · exact State.ringOut_lark.trans h4
    have hcpfld (hi lo : Nat) : t3.fld CP hi lo = t1.fld CP hi lo := by
      have h2 : t2.fld CP hi lo = t1.fld CP hi lo :=
        (State.fld_setFld_reg _ _ _ _ _ _ _ _ (by decide)).trans (State.fld_setFld_reg _ _ _ _ _ _ _ _ (by decide))
      unfold t3
      split
      · exact (State.fld_setFld_reg _ _ _ _ _ _ _ _ (by decide)).trans h2
      · exact h2
    have hresult : t3.fld (CP + 8) 15 14 = if r % 256 = 0 then 2 else 3 := by
      have h2 : t2.fld (CP + 8) 15 14 = if r % 256 = 0 then 2 else 3 := by
        refine (State.fld_setFld_reg _ _ _ _ _ _ _ _ (by decide)).trans ((State.fld_setFld_same _ _ _ _ _ (by decide) (by decide)).trans ?_)
        split <;> rfl
      unfold t3
      split
      · next h0 => exact (State.fld_setFld_other _ _ _ _ _ _ _ (by decide) (by decide) (.inr (by decide))).trans (h2.trans (if_pos h0))
      · next h0 => exact h2.trans (if_neg h0)
    have hlogs : State.Logs t5 (t5.event 0xB302 0 none l'.opcode (r % 256)) := State.event_logs _ _ _ _ _ _
    refine ⟨hlogs.lark.trans hlark, ?_, ?_, ?_⟩
    · rw [State.flag, hlogs.fld hcp, hfld _ _ _ (by decide), hcpfld]
      exact State.flag_setBit_same _ _ _ _ (by decide)
    · rw [hlogs.fld hcp8, hfld _ _ _ (by decide), hresult]
    · rw [State.slotRuns, State.slotRuns, hlogs.fld hcp, hfld _ _ _ (by decide), hcpfld]
      exact congrArg (fun x => decide (x = 1)) (State.fld_setFld_other _ _ _ _ _ _ _ (by decide) (by decide) (.inl (by decide)))

theorem State.endLong_none (h : s.lark.longOp = none) : s.endLong r = s := by
  rw [State.endLong, h]

/-- Whatever was under way, no long operation is left, and the slot that runs stays. -/
theorem State.endLong_lark : (s.endLong r).lark = { s.lark with longOp := none } ∧ (s.endLong r).slotRuns = s.slotRuns := by
  cases h : s.lark.longOp with
  | none =>
    rw [State.endLong_none h, ← h]
    exact ⟨rfl, rfl⟩
  | some l =>
    obtain ⟨hl, -, -, hs⟩ := State.endLong_leaves (r := r) h
    exact ⟨hl, hs⟩

/-! ### Activation -/

/-- Doorbells rung for many mailboxes leave Lark, and of the registers all but the doorbells. -/
theorem ringAll_lark {l : List Nat} : (l.foldl (fun (t : State) k => t.ringOut k v) s).lark = s.lark :=
  foldl_view (v := State.lark) fun _ _ _ => State.ringOut_lark

theorem ringAll_reg {l : List Nat} {o : Nat} (ho : o < CP + 0x1000) : (l.foldl (fun (t : State) k => t.ringOut k v) s).reg o = s.reg o :=
  foldl_view (v := fun t => t.reg o) fun t k _ => by
    show (t.ringOut k v).reg o = t.reg o
    rw [State.reg_ringOut, if_neg]
    simp only [mbOff]
    omega

theorem State.activated_lark {x : Activation} : (s.activated x).lark.act = none ∧ (s.activated x).lark.longOp = none := by
  unfold State.activated
  extract_lets new t1 t2 t3 t4
  have hact : t4.lark.act = none := (congrArg Lark.act (ringAll_lark (s := State.showAlt _))).trans rfl
  have hlog : State.Logs t4 (t4.event 0xB103 0 none x.version 0) := State.event_logs _ _ _ _ _ _
  obtain ⟨hend, -⟩ := State.endLong_lark (s := t4.event 0xB103 0 none x.version 0) (r := 0)
  exact ⟨by rw [hend, hlog.lark]; exact hact, by rw [hend]⟩

theorem State.abandon_leaves {x : Activation} : (s.abandon x).lark.act = none ∧ (s.abandon x).lark.longOp = none ∧ (s.abandon x).slotRuns = s.slotRuns := by
  unfold State.abandon State.draw
  dsimp only
  generalize (Config.freeValue s.free).toNat % 255 + 1 = q
  set t : State := { s with lark := { s.lark with act := none }, free := s.free + 1 } with ht
  have hlog : State.Logs t (t.event 0xB104 0 none x.version q) := State.event_logs _ _ _ _ _ _
  obtain ⟨hend, hslot⟩ := State.endLong_lark (s := t.event 0xB104 0 none x.version q) (r := q)
  have hcp : quietReg CP := quietReg_of_cp (by decide) (by decide)
  refine ⟨by rw [hend, hlog.lark], by rw [hend], ?_⟩
  rw [hslot, State.slotRuns, State.slotRuns, hlog.fld hcp]
  rfl

/-! ### Lark's resets -/

/-- Clearing the fields of a mask to their reset value twice is clearing them once. -/
theorem clearMask_idem (x w m : Word) : ((((x &&& ~~~m) ||| (w &&& m)) &&& ~~~m) ||| (w &&& m)) = ((x &&& ~~~m) ||| (w &&& m)) := by
  ext i hi
  simp only [BitVec.getElem_or, BitVec.getElem_and, BitVec.getElem_not]
  cases m[i] <;> simp

theorem clearMask_self (w m : Word) : ((w &&& ~~~m) ||| (w &&& m)) = w := by
  ext i hi
  simp only [BitVec.getElem_or, BitVec.getElem_and, BitVec.getElem_not]
  cases m[i] <;> simp

theorem Tbl.get_of_not_mem {α : Type} {d : Nat → α} {l : Tbl α} {o : Nat} (h : o ∉ l.map Prod.fst) : Tbl.get d l o = d o := by
  induction l with
  | nil => rfl
  | cons x l ih =>
    obtain ⟨j, w⟩ := x
    simp only [List.map_cons, List.mem_cons, not_or] at h
    rw [Tbl.get]
    simp [h.1, ih h.2]

section
variable {kp : Keep → Bool} {p : Nat → Bool} {o : Nat}

theorem State.reg_resetReg {j : Nat} : (s.resetReg kp j).reg o = if o = j then (s.reg o &&& ~~~ keepBits kp o) ||| (resetWord o &&& keepBits kp o) else s.reg o := by
  rw [State.resetReg, State.reg_setReg]
  split
  · next h => rw [h]
  · rfl

/-- A reset of the fields of some classes reaches a register in the table it goes through. -/
theorem State.reg_resetFold (l : Tbl Word) (s : State) : (l.foldl (fun (t : State) e => if p e.1 then t.resetReg kp e.1 else t) s).reg o =
    if o ∈ l.map Prod.fst ∧ p o = true then (s.reg o &&& ~~~ keepBits kp o) ||| (resetWord o &&& keepBits kp o) else s.reg o := by
  induction l generalizing s with
  | nil => simp
  | cons x l ih =>
    rw [List.foldl_cons, ih]
    by_cases hx : o = x.1
    · subst hx
      by_cases hp : p x.1 = true
      · simp [hp, State.reg_resetReg, clearMask_idem]
      · simp [hp]
    · have hreg : (if p x.1 = true then s.resetReg kp x.1 else s).reg o = s.reg o := by
        split
        · rw [State.reg_resetReg, if_neg hx]
        · rfl
      simp [hreg, hx]

/-- What a reset of the fields of some classes leaves in a register it covers (R466): the table's default is the reset word. -/
theorem State.reg_resetKeep : (s.resetKeep kp p).reg o = if p o = true then (s.reg o &&& ~~~ keepBits kp o) ||| (resetWord o &&& keepBits kp o) else s.reg o := by
  rw [State.resetKeep, State.reg_resetFold]
  by_cases ho : o ∈ s.regs.map Prod.fst
  · simp [ho]
  · have hdef : s.reg o = resetWord o := Tbl.get_of_not_mem ho
    simp [ho, hdef, clearMask_self]

theorem State.resetKeep_regs : s.resetKeep kp p = { s with regs := (s.resetKeep kp p).regs } := by
  rw [State.resetKeep]
  generalize s.regs = l
  induction l generalizing s with
  | nil => rfl
  | cons x l ih =>
    rw [List.foldl_cons, ih]
    split <;> rfl

end

/-- What a control reset leaves before it records its event and rings. -/
def State.controlHalt (s : State) (cause : Nat) : State :=
  let u := { s.resetCore with lark := { s.lark with taken := none, lastMb := 35, failRun := [], lockout := [], notices := [], fwRunning := false } }
  (((((((((u.setBit CP 31 false).setBit CP 30 false).setBit CP 29 false).setBit CP 28 false).setBit (CP + 0x30) 31 false).setReg (CP + 0x10) 0).bump
    (CP + 0x24) 15 0 1).bump (GLB + 0x108) 15 8 1).resetDone 6 cause)

theorem State.controlReset_eq (hup : s.mailboxesUp = true) : s.controlReset n =
    (List.range 40).foldl (fun (t : State) k => t.ringOut k 8) ((s.controlHalt n).event 0xB105 0 none n 0) := by
  have hl : s.resetCore.lark = s.lark := by rw [State.resetCore, State.resetKeep_regs]
  rw [State.controlReset, if_neg (not_not.mpr hup), State.controlHalt, ← hl]

theorem State.controlHalt_logs : State.Logs (s.controlHalt n) ((s.controlHalt n).event 0xB105 0 none n 0) := State.event_logs _ _ _ _ _ _

/-- A control reset stops Lark and shows itself (R466). -/
theorem State.controlReset_leaves (hup : s.mailboxesUp = true) (hn : n < 256) : (s.controlReset n).lark.fwRunning = false ∧ (s.controlReset n).lark.taken = none ∧
    (s.controlReset n).flag CP 31 = false ∧ (s.controlReset n).reg (GLB + 0x104) = BitVec.ofNat 32 (6 + n * 256) := by
  have hcp : quietReg CP := quietReg_of_cp (by decide) (by decide)
  have hglb : quietReg (GLB + 0x104) := by
    simp only [quietReg, GLB, EV, HI, PM]
    omega
  rw [State.controlReset_eq hup, State.flag, State.fld, ringAll_lark, ringAll_reg (by decide), ringAll_reg (by decide), State.controlHalt_logs.lark,
    State.controlHalt_logs.reg _ hcp, State.controlHalt_logs.reg _ hglb]
  refine ⟨rfl, rfl, ?_, (State.reg_setReg_same _ _ _).trans (by rw [Nat.mod_eq_of_lt hn])⟩
  show (s.controlHalt n).flag CP 31 = false
  rw [State.controlHalt, State.resetDone, State.flag]
  simp (disch := decide) only [State.bump, State.setBit, State.fld_setReg_other, State.fld_setFld_reg, State.fld_setFld_other, State.fld_setFld_same]
  rfl

end

end Sys2Proof.Machine
namespace Sys2Proof.Machine

section
variable {s t u : State} {k n r : Nat} {v : Word} {who : Requester} {a : Activation} {l : LongOp}

theorem execCpInTagWrite_of (hk : k < 40) (hup : s.mailboxesUp = true) (hw : mailboxOf who k = true) :
    execCpInTagWrite who k v s = .next (if s.inFull k then s.rejectPost who k v else s.post k v) := by
  rw [execCpInTagWrite, below_of_lt hk, State.mailboxWrite_of hup hw]

theorem execCpOutRelease_of (hk : k < 40) (hup : s.mailboxesUp = true) (hw : mailboxOf who k = true) : execCpOutRelease who k s = .next (s.outRelease k) := by
  rw [execCpOutRelease, below_of_lt hk, State.mailboxWrite_of hup hw]

theorem execDoorbellSet_of (hk : k < 40) (hup : s.mailboxesUp = true) (hw : mailboxOf who k = true) : execDoorbellSet who k v s = .next (s.doorbellIn k v) := by
  rw [execDoorbellSet, below_of_lt hk, State.mailboxWrite_of hup hw]

/-- The lockouts of a mailbox whose time is over go, and no other. -/
def State.lockoutsExpired (s : State) (k : Nat) : State :=
  { s with lark := { s.lark with lockout := s.lark.lockout.filter (fun x => ¬ (x.1 = k ∧ x.2 + 1000000 ≤ s.tb.tick)) } }

theorem execAuthLockoutExpire_of (hk : k < 40) : execAuthLockoutExpire k s = .next (s.lockoutsExpired k) := below_of_lt hk

theorem State.mem_lockoutsExpired {x : Nat × Nat} : x ∈ (s.lockoutsExpired k).lark.lockout ↔ x ∈ s.lark.lockout ∧ ¬ (x.1 = k ∧ x.2 + 1000000 ≤ s.tb.tick) := by
  exact List.mem_filter.trans (and_congr_right fun _ => decide_eq_true_iff)

theorem execLongOperationEnd_done (hl : s.lark.longOp = some l) (hd : s.longDone l = true) (hop : l.opcode ≠ 0x0702) :
    execLongOperationEnd r s = .next (s.endLong r) := by
  rw [execLongOperationEnd, hl]
  simp [hd, hop]

theorem execLongOperationEnd_migration (hl : s.lark.longOp = some l) (hop : l.opcode = 0x0702) (hm : s.sw.migState = 1) (hr : r % 256 ≠ 0) :
    execLongOperationEnd r s = .next (s.migFail.endLong r) := by
  rw [execLongOperationEnd, hl]
  simp [hop, hm, hr]

theorem execLarkWatchdogExpire_of (h : s.lark.fwRunning = true) : execLarkWatchdogExpire s = .next (s.controlReset 1) := by
  rw [execLarkWatchdogExpire, if_pos h]

theorem execLarkStart_boot {b : Bool} (hsq : s.sqState = 2) (hup : s.regsUp = true) (hfw : s.lark.fwRunning = false) (h30 : s.flag CP 30 = false)
    (hc : s.chooseSlot = (some b, u)) : execLarkStart s = .next (u.bootFrom b) := by
  simp [execLarkStart, hsq, hup, hfw, h30, hc]

theorem execLarkStart_wait (hsq : s.sqState = 2) (hup : s.regsUp = true) (hfw : s.lark.fwRunning = false) (h30 : s.flag CP 30 = false)
    (hc : s.chooseSlot = (none, u)) : execLarkStart s = .next ((u.showAlt.setBit CP 30 true).event 0xB102 0 none 0 0) := by
  simp [execLarkStart, hsq, hup, hfw, h30, hc]

theorem execActivationImageReady_of {b : Bool} (ha : s.lark.act = some a) :
    execActivationImageReady b s = .next (if b then s.activated a else s.abandon a) := by
  rw [execActivationImageReady, ha]

theorem execActivationTimeout_of (ha : s.lark.act = some a) :
    execActivationTimeout s = .next (if a.start + 2000000 ≤ s.tb.tick then s.abandon a else s) := by
  rw [execActivationTimeout, ha]

end

end Sys2Proof.Machine

namespace Sys2Proof.Proofs

open Sys2Proof Sys2Proof.Machine

/-- Settles O55, row by row: each command is the one operation of its row, and the operation's own lemma says what it shows. -/
theorem mailboxCommands : Obligations.MailboxCommands := by
  unfold Obligations.MailboxCommands
  refine ⟨?_, ?_, ?_, ?_, ?_, ?_, ?_, ?_, ?_, ?_, ?_, ?_, ?_, ?_, ?_, ?_, ?_, ?_, ?_⟩
  · intro s who k v hk hup hw he
    exact .intro ((execCpInTagWrite_of hk hup hw).trans (congrArg Host.Outcome.next (if_neg (by simp [he])))) ⟨rfl, State.post_shows⟩
  · intro s k v hk hup hf
    have hw : mailboxOf (.host k) k = true := by simp [mailboxOf, hk]
    exact .intro ((execCpInTagWrite_of (by omega) hup hw).trans (congrArg Host.Outcome.next (if_pos hf))) (State.rejectPost_shows _ rfl)
  · intro s k x hk hup hx he
    obtain ⟨hreg, hfull, -⟩ := State.post_shows (s := { s with lark := { s.lark with kept := s.lark.kept.erase x } }) (k := k) (v := x.2)
    exact .intro (execInternalNoticeRetry_posts hk hup hx he) ⟨hreg, hfull, rfl⟩
  · intro s who k hk hup hw hf
    exact .intro (execCpOutRelease_of hk hup hw) (State.outRelease_shows hf)
  · intro s who k v hk hup hw
    exact execDoorbellSet_of hk hup hw
  · intro s t e he hup ht
    exact execLarkDoorbell_takes he hup ht
  · intro s k bytes hup hrun hp hn hk
    exact execLarkTakeCommand_open hup hrun hp hn hk
  · intro s k bytes m hup hrun h30 hp hn hk hk34 hm hl hr h3 h4 hbuf hop
    obtain ⟨hslot, hlast⟩ := State.takeFrom_slot (s := s) (k := k) (by omega) bytes
    exact .intro (execLarkTakeCommand_open hup hrun hp hn hk) ⟨State.takeFrom_taken hk34 hm hl h30 hr h3 h4 hbuf hop, hlast (by omega), hslot⟩
  · intro s k hk hold
    refine .intro (execAuthLockoutExpire_of hk) ⟨fun hmem => ?_, fun x hx => ?_, rfl⟩
    · obtain ⟨x, hx, hxk⟩ := List.mem_map.mp hmem
      obtain ⟨hin, hnot⟩ := State.mem_lockoutsExpired.mp hx
      exact hnot ⟨hxk, hold x hin hxk⟩
    · rw [State.mem_lockoutsExpired]
      exact and_iff_left fun h => hx h.1
  · intro s k at0 hk hin hat
    refine .intro (execAuthLockoutExpire_of hk) ⟨State.mem_lockoutsExpired.mpr ⟨hin, fun h => ?_⟩, rfl⟩
    exact absurd h.2 (by omega)
  · intro s l r hl hd hop
    obtain ⟨hlark, hbusy, hres, -⟩ := State.endLong_leaves (r := r) hl
    exact .intro (execLongOperationEnd_done hl hd hop) ⟨rfl, by rw [hlark], hbusy, hres⟩
  · intro s l r hl hop hm hr
    exact execLongOperationEnd_migration hl hop hm hr
  · intro s hup hfw
    obtain ⟨hrun, htaken, hflag, hreg⟩ := State.controlReset_leaves (n := 1) hup (by decide)
    exact .intro (execLarkWatchdogExpire_of hfw) ⟨hrun, htaken, hflag, by rw [hreg]; rfl⟩
  · intro s hup
    obtain ⟨hrun, htaken, hflag, hreg⟩ := State.controlReset_leaves (n := 2) hup (by decide)
    exact .intro (rfl : execGlbRstControl s = _) ⟨hrun, htaken, hflag, by rw [hreg]; rfl⟩
  · intro s u b hsq hup hfw h30 hc
    exact execLarkStart_boot hsq hup hfw h30 hc
  · intro s u hsq hup hfw h30 hc
    have hlog : State.Logs (u.showAlt.setBit CP 30 true) ((u.showAlt.setBit CP 30 true).event 0xB102 0 none 0 0) := State.event_logs _ _ _ _ _ _
    refine .intro (execLarkStart_wait hsq hup hfw h30 hc) ⟨?_, by rw [hlog.lark]; rfl⟩
    rw [State.flag, hlog.fld (quietReg_of_cp (by decide) (by decide))]
    exact State.flag_setBit_same _ _ _ _ (by decide)
  · intro s a ha
    obtain ⟨hact, hlong, -⟩ := State.abandon_leaves (s := s) (x := a)
    exact ⟨.intro (execActivationImageReady_of (b := true) ha) ⟨rfl, State.activated_lark⟩,
      .intro (execActivationImageReady_of (b := false) ha) ⟨rfl, hact, hlong⟩⟩
  · intro s a ha hd
    obtain ⟨hact, -, hslot⟩ := State.abandon_leaves (s := s) (x := a)
    exact .intro ((execActivationTimeout_of ha).trans (congrArg Host.Outcome.next (if_pos hd))) ⟨rfl, hact, hslot⟩
  · intro s a ha hd
    exact (execActivationTimeout_of ha).trans (congrArg Host.Outcome.next (if_neg (by omega)))

end Sys2Proof.Proofs

/-! SUPPORT. What a control reset resets and keeps (O20). -/

namespace Sys2Proof.Machine

section
variable {s : State} {n o : Nat} {v : Word}

theorem ringAll_keeps {l : List Nat} : (l.foldl (fun (t : State) k => t.ringOut k v) s).rk = s.rk ∧ (l.foldl (fun (t : State) k => t.ringOut k v) s).sd = s.sd ∧
    (l.foldl (fun (t : State) k => t.ringOut k v) s).wb = s.wb ∧ (l.foldl (fun (t : State) k => t.ringOut k v) s).tp = s.tp ∧
    (l.foldl (fun (t : State) k => t.ringOut k v) s).host = s.host := by
  have h (t : State) (k : Nat) : (fun u : State => (u.rk, u.sd, u.wb, u.tp, u.host)) (t.ringOut k v) = (fun u : State => (u.rk, u.sd, u.wb, u.tp, u.host)) t := by
    dsimp only
    rw [(State.Rings.refl t).ringOut.same]
  have hall := foldl_view (v := fun u : State => (u.rk, u.sd, u.wb, u.tp, u.host)) (f := fun (t : State) k => t.ringOut k v) (l := l) (s := s) fun t k _ => h t k
  simpa only [Prod.mk.injEq] using hall

theorem ringAll_reg_outside {l : List Nat} (hl : ∀ k ∈ l, k < 40) (ho : o < CP ∨ CP + 0x10000 ≤ o) :
    (l.foldl (fun (t : State) k => t.ringOut k v) s).reg o = s.reg o :=
  foldl_view (v := fun t => t.reg o) fun t k hk => by
    have hk40 : k < 40 := hl k hk
    show (t.ringOut k v).reg o = t.reg o
    rw [State.reg_ringOut, if_neg]
    simp only [mbOff, CP] at *
    omega

/-- Lark's own part of a control reset writes the CP block and the two registers that show the reset. -/
theorem State.controlHalt_reg (ho : o < CP ∨ CP + 0x10000 ≤ o) (h4 : o ≠ GLB + 0x104) (h8 : o ≠ GLB + 0x108) : (s.controlHalt n).reg o =
    (s.reg o &&& ~~~ keepBits (fun k => decide (k = .c ∨ k = .l)) o) ||| (resetWord o &&& keepBits (fun k => decide (k = .c ∨ k = .l)) o) := by
  have hcp (j : Nat) (hj : j < 0x10000) : o ≠ CP + j := by omega
  have h0 : o ≠ CP := hcp 0 (by decide)
  have h30 : o ≠ CP + 0x30 := hcp _ (by decide)
  have h10 : o ≠ CP + 0x10 := hcp _ (by decide)
  have h24 : o ≠ CP + 0x24 := hcp _ (by decide)
  rw [State.controlHalt, State.resetDone]
  simp only [State.bump, State.setBit, State.reg_setFld, State.reg_setReg, h0, h30, h10, h24, h4, h8, if_false]
  exact State.reg_resetKeep.trans (if_pos rfl)

theorem State.controlReset_reg (hup : s.mailboxesUp = true) (ho : o < CP ∨ CP + 0x10000 ≤ o) (h4 : o ≠ GLB + 0x104) (h8 : o ≠ GLB + 0x108)
    (hrec : recorderReg o = false) : (s.controlReset n).reg o =
    (s.reg o &&& ~~~ keepBits (fun k => decide (k = .c ∨ k = .l)) o) ||| (resetWord o &&& keepBits (fun k => decide (k = .c ∨ k = .l)) o) := by
  rw [State.controlReset_eq hup, ringAll_reg_outside (fun k hk => List.mem_range.mp hk) ho, State.controlHalt_logs.reg _ (quietReg_of_recorderReg hrec)]
  exact State.controlHalt_reg ho h4 h8

/-- A control reset leaves the bytes of every memory and the data path. -/
theorem State.controlReset_keeps (hup : s.mailboxesUp = true) : State.SameBytes s (s.controlReset n) ∧ (s.controlReset n).wb = s.wb ∧
    (s.controlReset n).tp = s.tp ∧ (s.controlReset n).host.reqs = s.host.reqs := by
  have hl : (s.controlHalt n).rk = s.rk ∧ (s.controlHalt n).sd = s.sd ∧ (s.controlHalt n).wb = s.wb ∧ (s.controlHalt n).tp = s.tp ∧ (s.controlHalt n).host = s.host ∧
      (s.controlHalt n).lark.slotA = s.lark.slotA ∧ (s.controlHalt n).lark.slotB = s.lark.slotB := by
    rw [State.controlHalt, State.resetCore, State.resetKeep_regs]
    exact ⟨rfl, rfl, rfl, rfl, rfl, rfl, rfl⟩
  obtain ⟨hrk, hsd, hwb, htp, hhost, hA, hB⟩ := hl
  have k := State.controlHalt_logs (s := s) (n := n)
  obtain ⟨rrk, rsd, rwb, rtp, rhost⟩ := ringAll_keeps (s := (s.controlHalt n).event 0xB105 0 none n 0) (v := 8) (l := List.range 40)
  rw [State.controlReset_eq hup, State.SameBytes, rrk, rsd, rwb, rtp, rhost, ringAll_lark, k.rk, k.wb, k.tp, k.lark, hrk, hwb, htp, hA, hB]
  have howner : ((s.controlHalt n).event 0xB105 0 none n 0).sd.ownerData = s.sd.ownerData := (congrArg Seed.ownerData k.seed :).trans (congrArg Seed.ownerData hsd)
  have hreqs : ((s.controlHalt n).event 0xB105 0 none n 0).host.reqs = s.host.reqs := (congrArg HostIf.reqs k.lds :).trans (congrArg HostIf.reqs hhost)
  exact ⟨⟨fun _ => rfl, fun _ => by rw [howner], fun _ => rfl, fun _ => rfl⟩, rfl, rfl, hreqs⟩

end

end Sys2Proof.Machine

namespace Sys2Proof.Proofs

open Sys2Proof Sys2Proof.Machine

/-- Settles O20: both rows are the control reset; its fold over the registers is a law per register, and the rest of it stays in the CP block. -/
theorem controlResetKeeps : Obligations.ControlResetKeeps := by
  unfold Obligations.ControlResetKeeps
  intro s hup c hc hfw
  have hrun : ∃ n, exec c s = .next (s.controlReset n) := by
    simp only [List.mem_cons, List.not_mem_nil, or_false] at hc
    rcases hc with rfl | rfl
    · exact ⟨2, (rfl : execGlbRstControl s = _)⟩
    · exact ⟨1, execLarkWatchdogExpire_of (hfw rfl)⟩
  obtain ⟨n, hn⟩ := hrun
  exact ⟨.intro hn fun o ho h4 h8 hrec => State.controlReset_reg hup ho h4 h8 hrec, .intro hn (State.controlReset_keeps hup)⟩

end Sys2Proof.Proofs

/-! SUPPORT. The Sward links and the formation of the fabric (O59). -/

namespace Sys2Proof.Machine

section
variable {a s t u : State} {p n c : Nat} {x : SwPort} {uid : DWord}

/-! ### Messages sent on the fabric -/

/-- `t` is `s` but for messages sent out and what the performance monitor counts of them. -/
structure State.Sent (s t : State) : Prop where
  same : t = { s with regs := t.regs, pm := t.pm, out := t.out }
  reg : ∀ o, o < PM ∨ PM + 0x1000 ≤ o → t.reg o = s.reg o

theorem State.Sent.refl (s : State) : s.Sent s := ⟨rfl, fun _ _ => rfl⟩

theorem State.Sent.trans (h : a.Sent s) (k : s.Sent t) : a.Sent t :=
  ⟨by rw [k.same, h.same], fun o ho => (k.reg o ho).trans (h.reg o ho)⟩

theorem State.Counted.sent (h : s.Counted t) : s.Sent t := ⟨by rw [h.same], h.reg⟩

theorem State.Sent.sendVia {dest vc msg : Nat} {vals : List Nat} (h : a.Sent s) : a.Sent (s.sendVia p dest vc msg vals) := by
  have hemit : s.Sent (s.emit (.sward p dest vc msg vals)) := ⟨rfl, fun _ _ => rfl⟩
  exact (h.trans hemit).trans ((State.Counted.refl _).count (by decide)).sent

theorem State.Sent.sendOn {vc msg : Nat} {vals : List Nat} (h : a.Sent s) : a.Sent (s.sendOn p vc msg vals) := h.sendVia

theorem State.Sent.sendTo {node vc msg : Nat} {vals : List Nat} (h : a.Sent s) : a.Sent (s.sendTo node vc msg vals) := by
  unfold State.sendTo
  split
  · exact h.sendVia
  · exact h

theorem State.Sent.foldl {α : Type} {f : State → α → State} {l : List α} (h : a.Sent s) (hf : ∀ t, ∀ x ∈ l, a.Sent t → a.Sent (f t x)) : a.Sent (l.foldl f s) := by
  induction l generalizing s with
  | nil => exact h
  | cons x l ih => exact ih (hf s x (by simp) h) fun t y hy => hf t y (by simp [hy])

theorem State.Sent.flood {ps : List Nat} (h : a.Sent s) : a.Sent (s.flood ps) := h.foldl fun _ _ _ k => k.sendOn

theorem State.Sent.sw (h : s.Sent t) : t.sw = s.sw := by rw [h.same]
theorem State.Sent.tb (h : s.Sent t) : t.tb = s.tb := by rw [h.same]

theorem State.Sent.fld (h : s.Sent t) {o hi lo : Nat} (ho : o < PM ∨ PM + 0x1000 ≤ o) : t.fld o hi lo = s.fld o hi lo := by
  rw [State.fld, State.fld, h.reg o ho]

theorem State.Sent.flag (h : s.Sent t) {o b : Nat} (ho : o < PM ∨ PM + 0x1000 ≤ o) : t.flag o b = s.flag o b := by
  rw [State.flag, State.flag, h.fld ho]

/-! ### Ports -/

theorem State.swPort_setSwPort : (s.setSwPort p x).swPort p = x := by simp [State.swPort, State.setSwPort]

theorem State.swPort_of_sw (h : t.sw = s.sw) : t.swPort p = s.swPort p := by rw [State.swPort, State.swPort, h]

theorem portOff_ne {o : Nat} (h : o < SW + 0x40 := by decide) : portOff p ≠ o := by
  simp only [portOff]
  omega

/-! ### Rows -/

theorem execSwardLinkUp_of (hp : p < 8) (hsq : s.sqState = 2) (hen : s.flag SW (16 + p) = true) (hkey : (Tbl.find s.gx.chains 1).isSome = true)
    (hheld : p ∉ s.sw.held) (hdown : s.flag (portOff p) 0 = false) :
    execSwardLinkUp p s = .next ((s.setBit (portOff p) 0 true).setSwPort p SwPort.fresh) := by
  have hchain : (Tbl.find s.gx.chains 1).isNone = false := by rw [Option.isNone_eq_false_iff, hkey]
  rw [execSwardLinkUp, below_of_lt hp, if_neg (by simp [hsq, hen, hchain, hheld]), if_neg (by simp [hdown])]

theorem execSwardLinkDown_up (hp : p < 8) (hup : s.flag (portOff p) 0 = true) : execSwardLinkDown p s = .next (s.swDown p false) := by
  rw [execSwardLinkDown, below_of_lt hp, if_pos hup]

theorem execSwardLinkSession_good (hp : p < 8) (hup : s.flag (portOff p) 0 = true) (hen : s.flag SW 31 = true) :
    execSwardLinkSession p true s = .next ((s.setBit (portOff p) 1 true).sendHello p) := by
  have hsw : (s.setBit (portOff p) 1 true).flag SW 31 = true := (State.flag_setFld_reg (portOff_ne).symm).trans hen
  rw [execSwardLinkSession, below_of_lt hp, if_neg (by simp [hup]), if_pos rfl]
  exact congrArg Host.Outcome.next (if_pos hsw)

theorem execSwardLinkSession_bad (hp : p < 8) (hup : s.flag (portOff p) 0 = true) :
    execSwardLinkSession p false s = .next (((s.swDown p true).bump (SW + 0x804) 31 0 1).event 0xC103 p none p 0) := by
  rw [execSwardLinkSession, below_of_lt hp, if_neg (by simp [hup]), if_neg (by simp)]

/-- The port that a good hello names behind a port of the torus. -/
def oppositePort (p : Nat) : Nat := if p % 2 = 0 then p + 1 else p - 1

theorem execSwardHello_good {partner : DWord} {l : Bool} (hp : p < 6) (hup : s.flag (portOff p) 0 = true) (hsess : s.flag (portOff p) 1 = true)
    (hen : s.flag SW 31 = true) (hu : uid.toNat ≠ s.partnerUid) : execSwardHello p (oppositePort p) (s.fld SW 15 0) uid partner l s = .next
      (((s.setSwPort p { s.swPort p with peerUid := uid, peerPort := oppositePort p, helloOk := true }).setFld (portOff p) 18 16 (oppositePort p)).reform) := by
  have hbad : (decide (s.fld SW 15 0 ≠ s.fld SW 15 0) || (if 6 ≤ p then !decide (uid.toNat = s.partnerUid) || decide (oppositePort p < 6)
      else decide (oppositePort p ≠ (if p % 2 = 0 then p + 1 else p - 1)))) = false := by
    rw [if_neg (by omega)]
    simp [oppositePort]
  rw [execSwardHello, below_of_lt (by omega), if_neg (by simp [hup, hsess, hen])]
  dsimp only
  rw [if_neg (by rw [hbad]; exact Bool.false_ne_true), if_neg (by simp [hu])]

theorem execSwardHello_otherFabric {q f : Nat} {partner : DWord} {l : Bool} (hp : p < 8) (hup : s.flag (portOff p) 0 = true) (hsess : s.flag (portOff p) 1 = true)
    (hen : s.flag SW 31 = true) (hf : f ≠ s.fld SW 15 0) : execSwardHello p q f uid partner l s = .next ((s.swDown p true).event 0xC103 p none p 0) := by
  rw [execSwardHello, below_of_lt hp, if_neg (by simp [hup, hsess, hen])]
  dsimp only
  rw [if_pos (by simp [hf])]

theorem execSwardReplayTimeout_replay (hp : p < 8) (hup : s.flag (portOff p) 0 = true) (h7 : (s.swPort p).replays < 7) :
    execSwardReplayTimeout p s = .next ((s.count 9 0xB8 8 1).setSwPort p { s.swPort p with replays := (s.swPort p).replays + 1 }) := by
  rw [execSwardReplayTimeout, below_of_lt hp]
  dsimp only
  rw [if_neg (by simp [hup]; omega), if_pos (by omega)]

theorem execSwardReplayTimeout_retrain (hp : p < 8) (hup : s.flag (portOff p) 0 = true) (h7 : (s.swPort p).replays = 7) :
    execSwardReplayTimeout p s = .next (((s.count 9 0xB8 8 1).swRetrain p).event 0xC101 p none p 0) := by
  rw [execSwardReplayTimeout, below_of_lt hp]
  dsimp only
  rw [if_neg (by simp [hup]; omega), if_neg (by omega)]

theorem execSwardRetrainTimeout_of (hp : p < 8) (h : (s.swPort p).replays = 8) :
    execSwardRetrainTimeout p s = .next ((s.setSwPort p { s.swPort p with replays := 0 }).swDown p false) := by
  rw [execSwardRetrainTimeout, below_of_lt hp, if_pos h]

theorem execSwardKeyUpdateCount_of (hp : p < 8) (h : s.flag (portOff p) 1 = true) : execSwardKeyUpdateCount p s = .next (s.sendOn p 2 msgKeyUpdate []) := by
  rw [execSwardKeyUpdateCount, below_of_lt hp, if_pos h]

/-! ### The lowest UID -/

/-- The node takes a lower UID that a port brought: formation begins, and this node is not the root. -/
def State.lowerUid (s : State) (p : Nat) (uid : DWord) : State :=
  (((({ s with sw := { s.sw with lowUid := uid, rootPort := some p } } : State).setReg64 (SW + 0xC) uid.toNat).setFld (SW + 8) 31 29 1).setBit (SW + 8) 28 false)

theorem State.reg64_of_regs {o : Nat} (h : t.reg o = s.reg o) (h4 : t.reg (o + 4) = s.reg (o + 4)) : t.reg64 o = s.reg64 o := by
  rw [State.reg64, State.reg64, h, h4]

theorem State.lowerUid_leaves : (s.lowerUid p uid).sw.lowUid = uid ∧ (s.lowerUid p uid).sw.rootPort = some p ∧ (s.lowerUid p uid).reg64 (SW + 0xC) = uid.toNat ∧
    (s.lowerUid p uid).swState = 1 ∧ (s.lowerUid p uid).flag (SW + 8) 28 = false := by
  refine ⟨rfl, rfl, ?_, ?_, State.flag_setBit_same _ _ _ _ (by decide)⟩
  · refine (State.reg64_of_regs (s := ({ s with sw := { s.sw with lowUid := uid, rootPort := some p } } : State).setReg64 (SW + 0xC) uid.toNat) ?_ ?_).trans
      ((State.reg64_setReg64_same _ _ _).trans (Nat.mod_eq_of_lt uid.isLt))
    · exact (State.reg_setReg_other _ _ _ _ (by decide)).trans (State.reg_setReg_other _ _ _ _ (by decide))
    · exact (State.reg_setReg_other _ _ _ _ (by decide)).trans (State.reg_setReg_other _ _ _ _ (by decide))
  · refine (State.fld_setFld_other _ _ _ _ _ _ _ (by decide) (by decide) (.inr (by decide))).trans ?_
    exact State.fld_setFld_same _ _ _ _ _ (by decide) (by decide)

theorem execFormationUidFlood_lower (hp : p < 8) (hen : s.flag SW 31 = true) (hup : s.swUp p = true) (h1 : s.swState = 1) (hlow : uid.toNat < s.sw.lowUid.toNat) :
    ∃ t, execFormationUidFlood p uid s = .next t ∧ (s.lowerUid p uid).Sent t := by
  rw [execFormationUidFlood, below_of_lt hp, if_neg (by simp [hen, hup])]
  dsimp only
  rw [if_pos h1, if_pos hlow]
  exact ⟨_, rfl, ((State.Sent.refl (s.lowerUid p uid)).flood).sendOn⟩

theorem execFormationUidFlood_keep (hp : p < 8) (hen : s.flag SW 31 = true) (hup : s.swUp p = true) (h1 : s.swState = 1) (hlow : s.sw.lowUid.toNat ≤ uid.toNat) :
    execFormationUidFlood p uid s = .next s := by
  rw [execFormationUidFlood, below_of_lt hp, if_neg (by simp [hen, hup])]
  dsimp only
  rw [if_pos h1, if_neg (by omega)]

/-- The links that a report leaves: those it reports take the place of the same node's. -/
def State.linksReported (s : State) (ls : List LinkRep) : State :=
  { s with sw := { s.sw with links := s.sw.links.filter (fun (l : LinkRep) => !ls.any (fun (x : LinkRep) => decide (x.uidA = l.uidA))) ++ ls } }

theorem execFormationLinkReport_root {ls : List LinkRep} (h1 : s.swState = 1) (hroot : s.sw.lowUid = Config.uid) :
    execFormationLinkReport ls s = .next (s.linksReported ls).formTry := by
  rw [execFormationLinkReport, if_neg (not_not.mpr h1), if_pos hroot]
  rfl

theorem execRoutingTables_of {id m1 : Nat} {ext tree : List Nat} {w : Bool} {ids : List (DWord × Nat)} {rows : List (Nat × Word)} (h1 : s.swState = 1)
    (hroot : s.sw.lowUid ≠ Config.uid) (hid : id < 256) : execRoutingTables id m1 ext w tree ids rows s = .next (s.formed id m1 ext w tree ids rows) := by
  rw [execRoutingTables, if_neg (by simp [h1, hroot]), if_neg (by omega)]

theorem execEndToEndResend_of {dest msg : Nat} {y : Sending} (hx : s.sw.sends.find? (fun y => decide (y.dest = dest) && decide (y.msg = msg)) = some y)
    (hdue : y.tick + 100 ≤ s.tb.tick) (hbusy : (Tbl.find s.sw.peerBusy msg).isSome = false) : execEndToEndResend dest msg s = .next
      (if 8 ≤ y.times then s.unreachable dest msg
        else (((s.setSends dest msg (y.times + 1)).bump (SW + 0x808) 31 0 1).count 9 0xBD 8 1).sendAgain dest msg) := by
  rw [execEndToEndResend, hx]
  exact congrArg Host.Outcome.next (if_neg (by simp [hbusy]; omega))

/-! ### Time over the fabric -/

theorem execLinkDelayExchange_of {d : Nat} (hp : p < 8) (hup : s.swUp p = true) :
    execLinkDelayExchange p d s = .next ((s.setSwPort p { s.swPort p with delayNs := d }).swProgress p) := by
  rw [execLinkDelayExchange, below_of_lt hp, if_pos hup]

theorem State.swProgress_leaves : ((s.swProgress p).swPort p).delayNs = (s.swPort p).delayNs ∧ ((s.swProgress p).swPort p).peerUid = (s.swPort p).peerUid ∧
    (s.swProgress p).regs = s.regs := by
  unfold State.swProgress
  split
  · rw [State.swPort_setSwPort]
    exact ⟨rfl, rfl, rfl⟩
  · exact ⟨rfl, rfl, rfl⟩

/-- `s` stands in the fabric's time as `a` does: the message heard last, the source, what SW shows of its state and of the master. -/
structure State.Heard (a s : State) : Prop where
  tick : s.tb.fabricTick = a.tb.fabricTick
  seen : s.tb.primarySeen = a.tb.primarySeen
  source : s.reg TB = a.reg TB
  status : s.reg (SW + 8) = a.reg (SW + 8)
  master : s.reg (SW + 0x30) = a.reg (SW + 0x30)

theorem State.Heard.refl (s : State) : s.Heard s := ⟨rfl, rfl, rfl, rfl, rfl⟩

theorem State.Heard.trans (h : a.Heard s) (k : s.Heard t) : a.Heard t :=
  ⟨k.tick.trans h.tick, k.seen.trans h.seen, k.source.trans h.source, k.status.trans h.status, k.master.trans h.master⟩

/-- Registers outside the time base's control, the fabric's state and its master are free. -/
theorem State.Heard.setReg {o : Nat} {v : Word} (h : a.Heard s) (ho : TB ≠ o ∧ SW + 8 ≠ o ∧ SW + 0x30 ≠ o) : a.Heard (s.setReg o v) :=
  h.trans ⟨rfl, rfl, State.reg_setReg_other _ _ _ _ ho.1, State.reg_setReg_other _ _ _ _ ho.2.1, State.reg_setReg_other _ _ _ _ ho.2.2⟩

theorem State.Heard.ite {q : Prop} [Decidable q] (h : a.Heard s) (k : a.Heard t) : a.Heard (if q then s else t) := by
  split
  · exact h
  · exact k

theorem State.Logs.heard (h : State.Logs s t) : s.Heard t :=
  ⟨by rw [h.tb], by rw [h.tb], h.reg _ (quietReg_of_recorderReg rfl), h.reg _ (quietReg_of_recorderReg rfl), h.reg _ (quietReg_of_recorderReg rfl)⟩

theorem State.Sent.heard (h : s.Sent t) : s.Heard t :=
  ⟨by rw [h.tb], by rw [h.tb], h.reg _ (.inl (by decide)), h.reg _ (.inl (by decide)), h.reg _ (.inl (by decide))⟩

theorem State.Heard.event {code inst p0 p1 : Nat} {dom : Option Nat} (h : a.Heard s) : a.Heard (s.event code inst dom p0 p1) :=
  h.trans (State.event_logs _ _ _ _ _ _).heard

/-- Of the time base what is not the fabric's, and everything beside it and the registers, are free. -/
theorem State.Heard.upd {pending : List Instr} {latches : List HalfLatch} {holds : List HalfLatch} {tb : TimeBase} {media : Media} {codes : Codes} {tp : Plots}
    {log : LogField} {df : Drift} {wb : WriteBuf} {host : HostIf} {rk : Rick} {gx : Gorse} {qs : Regul} {lark : Lark} {sw : Sward} {pw : Power} {th : Thermal}
    {ev : Recorder} {mt : Meter} {pm : Perf} {sd : Seed} {pins : Pins} {out : List Out} {free : Nat} (h : a.Heard s)
    (ht : tb.fabricTick = s.tb.fabricTick := by rfl) (hp : tb.primarySeen = s.tb.primarySeen := by rfl) :
    a.Heard (State.mk pending s.regs latches holds tb media codes tp log df wb host rk gx qs lark sw pw th ev mt pm sd pins out free) :=
  h.trans ⟨ht, hp, rfl, rfl, rfl⟩

theorem State.Heard.setFld {o hi lo n : Nat} (h : a.Heard s) (ho : TB ≠ o ∧ SW + 8 ≠ o ∧ SW + 0x30 ≠ o := by decide) : a.Heard (s.setFld o hi lo n) := h.setReg ho

theorem State.Heard.setBit {o b : Nat} {v : Bool} (h : a.Heard s) (ho : TB ≠ o ∧ SW + 8 ≠ o ∧ SW + 0x30 ≠ o := by decide) : a.Heard (s.setBit o b v) := h.setReg ho

theorem State.Heard.bump {o hi lo n : Nat} (h : a.Heard s) (ho : TB ≠ o ∧ SW + 8 ≠ o ∧ SW + 0x30 ≠ o := by decide) : a.Heard (s.bump o hi lo n) := h.setReg ho

theorem State.Heard.countGlobal {e k : Nat} (h : a.Heard s) : a.Heard (s.countGlobal e k) := h.trans (State.countGlobal_logs _ _ _).heard

theorem State.Heard.emit {o : Out} (h : a.Heard s) : a.Heard (s.emit o) := h.upd

theorem State.Heard.meterRequest (h : a.Heard s) : a.Heard s.meterRequest := by
  unfold State.meterRequest
  exact (h.ite h.emit).setBit.ite (h.setBit.ite h)

theorem State.Heard.packetSeq (h : a.Heard s) : a.Heard s.packetSeq := by
  unfold State.packetSeq
  exact h.ite (h.trans (State.advanceTo_logs _ _ _).heard).upd

theorem State.Heard.meterPump (h : a.Heard s) : a.Heard s.meterPump := by
  unfold State.meterPump
  split
  · exact h
  · exact h.ite (h.upd.countGlobal.bump.ite h.upd.countGlobal).meterRequest

theorem State.Heard.meterOpen (h : a.Heard s) : a.Heard s.meterOpen := h.upd

theorem State.Heard.meterClose {upTo : Int} {stepped : Bool} (h : a.Heard s) : a.Heard (s.meterClose upTo stepped) := by
  unfold State.meterClose
  exact (h.bump.ite h.bump.event).upd.ite ((h.packetSeq.upd.event.ite h.packetSeq.upd).meterOpen.meterPump)

theorem State.Heard.leapNow (h : a.Heard s) : a.Heard s.leapNow := by
  unfold State.leapNow
  exact h.setFld.setFld.upd.ite h

theorem State.Heard.announce {n : Nat} (h : a.Heard s) : a.Heard (s.announce n) := by
  unfold State.announce
  exact (h.setFld.upd.upd.ite h.setFld.upd).ite h.setFld

theorem State.Heard.takeLeap {l : Int} (h : a.Heard s) : a.Heard (s.takeLeap l) := by
  unfold State.takeLeap
  exact h.leapNow.upd.ite (h.leapNow.upd.setFld.upd.meterClose.event.ite h.leapNow.upd.setFld.upd)

/-- What a time message of the fabric shows at once: its master, and that the fabric has time. -/
def State.fabricShown (s : State) (hops master : Nat) : State :=
  ((s.setReg (SW + 0x30) (BitVec.ofNat 32 (master % 256 + min hops 15 * 256))).setBit (SW + 8) 26 true).setBit (SW + 8) 27 false

/-- With another source the rest of the message leaves the fabric's own state. -/
theorem State.fabricTaken_heard {z leap : Int} {ann hops master : Nat} (hs : s.source ≠ 2) :
    (s.fabricShown hops master).Heard (s.fabricTaken z leap ann hops master) := by
  have hh : (s.fabricShown hops master).Heard (((s.fabricShown hops master).takeLeap leap).announce ann) := (State.Heard.refl _).takeLeap.announce
  have hreg : (s.fabricShown hops master).reg TB = s.reg TB :=
    (State.reg_setReg_other _ _ _ _ (by decide)).trans ((State.reg_setReg_other _ _ _ _ (by decide)).trans (State.reg_setReg_other _ _ _ _ (by decide)))
  have hsrc : (((s.fabricShown hops master).takeLeap leap).announce ann).source ≠ 2 := by
    rw [State.source, State.fld, hh.source, hreg]
    exact hs
  unfold State.fabricTaken
  exact (congrArg (State.Heard _) (if_neg hsrc)).mpr hh

theorem execFabricTimeMessage_heard {z leap : Int} {ann hops master : Nat} (hp : p < 8) (h2 : s.swState = 2) (hup : s.swUp p = true) (hs : s.source ≠ 2) :
    ∃ t, execFabricTimeMessage p z leap ann hops master s = .next t ∧ ((s.count 9 0xB7 8 1).noteFabric.fabricShown hops master).Heard t := by
  have hc : s.Counted (s.count 9 0xB7 8 1) := (State.Counted.refl _).count (by decide)
  have hsrc : (s.count 9 0xB7 8 1).noteFabric.source ≠ 2 := by
    have h : (s.count 9 0xB7 8 1).noteFabric.source = s.source := hc.fld (.inl (by decide))
    rwa [h]
  rw [execFabricTimeMessage, below_of_lt hp, if_neg (by simp [h2, hup])]
  exact ⟨_, rfl, (State.fabricTaken_heard hsrc).trans ((State.Sent.refl _).foldl fun _ _ _ k => k.sendOn).heard⟩

/-- What a message of time leaves of the fabric. -/
theorem State.Heard.shows {hops master : Nat} (h : ((s.count 9 0xB7 8 1).noteFabric.fabricShown hops master).Heard t) : t.tb.fabricTick = some s.tb.tick ∧
    t.tb.primarySeen = true ∧ t.flag (SW + 8) 26 = true ∧ t.flag (SW + 8) 27 = false ∧ (t.reg (SW + 0x30)).toNat = master % 256 + min hops 15 * 256 := by
  have hc : s.Counted (s.count 9 0xB7 8 1) := (State.Counted.refl _).count (by decide)
  refine ⟨h.tick.trans ?_, h.seen, ?_, ?_, ?_⟩
  · exact congrArg (fun b : TimeBase => some b.tick) (by rw [hc.same])
  · rw [State.flag, State.fld, h.status]
    exact (State.flag_setBit_other _ _ _ _ _ (by decide) (by decide)).trans (State.flag_setBit_same _ _ _ _ (by decide))
  · rw [State.flag, State.fld, h.status]
    exact State.flag_setBit_same _ _ _ _ (by decide)
  · have hreg : ((s.count 9 0xB7 8 1).noteFabric.fabricShown hops master).reg (SW + 0x30) = BitVec.ofNat 32 (master % 256 + min hops 15 * 256) :=
      (State.reg_setReg_other _ _ _ _ (by decide)).trans ((State.reg_setReg_other _ _ _ _ (by decide)).trans (State.reg_setReg_same _ _ _))
    rw [h.master, hreg, BitVec.toNat_ofNat]
    omega

end

end Sys2Proof.Machine

namespace Sys2Proof.Proofs

open Sys2Proof Sys2Proof.Machine

/-- Settles O59, row by row; what a message sent leaves (`State.Sent`) and what the time's own steps leave of the fabric (`State.Heard`) are stated once. -/
theorem fabricCommands : Obligations.FabricCommands := by
  unfold Obligations.FabricCommands
  refine ⟨?_, ?_, ?_, ?_, ?_, ?_, ?_, ?_, ?_, ?_, ?_, ?_, ?_, ?_, ?_, ?_, ?_, ?_⟩
  · intro s p hp hsq hen hkey hheld hdown
    exact .intro (execSwardLinkUp_of hp hsq hen hkey hheld hdown) ⟨State.flag_setBit_same _ _ _ _ (by decide), State.swPort_setSwPort, rfl⟩
  · intro s p hp hup
    exact execSwardLinkDown_up hp hup
  · intro s p hp hup hen
    exact execSwardLinkSession_good hp hup hen
  · intro s p hp hup
    exact execSwardLinkSession_bad hp hup
  · intro s p uid partner l hp hup hsess hen hu
    exact execSwardHello_good hp hup hsess hen hu
  · intro s p q f uid partner l hp hup hsess hen hf
    exact execSwardHello_otherFabric hp hup hsess hen hf
  · intro s p hp hup h7
    have hc : s.Counted (s.count 9 0xB8 8 1) := (State.Counted.refl _).count (by decide)
    refine .intro (execSwardReplayTimeout_replay hp hup h7) ⟨by rw [State.swPort_setSwPort], ?_, ?_⟩
    · exact (congrArg State.out hc.same :)
    · exact (congrArg Sward.sends hc.sw :)
  · intro s p hp hup h7
    exact execSwardReplayTimeout_retrain hp hup h7
  · intro s p hp h8
    exact execSwardRetrainTimeout_of hp h8
  · intro s p hp h1
    exact execSwardKeyUpdateCount_of hp h1
  · intro s p uid hp hen hup h1 hlow
    obtain ⟨t, hrun, hsent⟩ := execFormationUidFlood_lower hp hen hup h1 hlow
    obtain ⟨huid, hroot, hreg, hstate, hflag⟩ := State.lowerUid_leaves (s := s) (p := p) (uid := uid)
    refine .intro hrun ⟨by rw [hsent.sw, huid], by rw [hsent.sw, hroot], ?_, (hsent.fld (.inl (by decide))).trans hstate, (hsent.flag (.inl (by decide))).trans hflag⟩
    exact (State.reg64_of_regs (hsent.reg _ (.inl (by decide))) (hsent.reg _ (.inl (by decide)))).trans hreg
  · intro s p uid hp hen hup h1 hlow
    exact execFormationUidFlood_keep hp hen hup h1 hlow
  · intro s ls h1 hroot
    exact .intro (execFormationLinkReport_root h1 hroot) ⟨s.linksReported ls, rfl, rfl, rfl⟩
  · intro s id m1 ext tree w ids rows h1 hroot hid
    exact execRoutingTables_of h1 hroot hid
  · intro s dest msg x hx hdue hbusy ht
    exact (execEndToEndResend_of hx hdue hbusy).trans (congrArg Host.Outcome.next (if_neg (by omega)))
  · intro s dest msg x hx hdue hbusy ht
    exact (execEndToEndResend_of hx hdue hbusy).trans (congrArg Host.Outcome.next (if_pos ht))
  · intro s p d hp hup
    obtain ⟨hdelay, huid, hregs⟩ := State.swProgress_leaves (s := s.setSwPort p { s.swPort p with delayNs := d }) (p := p)
    rw [State.swPort_setSwPort] at hdelay huid
    exact .intro (execLinkDelayExchange_of hp hup) ⟨hdelay, huid, hregs⟩
  · intro s p hops master ann z leap hp h2 hup hs
    obtain ⟨t, hrun, hheard⟩ := execFabricTimeMessage_heard (z := z) (leap := leap) (ann := ann) (hops := hops) (master := master) hp h2 hup hs
    exact .intro hrun hheard.shows

end Sys2Proof.Proofs

/-! SUPPORT. Register rows and Seed store rows (O49). -/

namespace Sys2Proof.Machine

section
variable {s t : State} {o k n a b : Nat} {v l w : Word} {who : Requester}

/-! ### Which register a write reaches -/

/-- The row for a write that is no half of a 64-bit quantity and has no row of its own. -/
theorem plainOffset_parts (h : plainOffset o = true) : o % 4 = 0 ∧ pairLow o = false ∧ pairHigh o = false ∧ boxOf o = none ∧
    ¬ (TB + 0x1000 ≤ o ∧ o < TB + 0x1800) ∧ ¬ (MC ≤ o ∧ o < 0x48000 ∧ ((o - MC) % 0x1000 = 0 ∨ (o - MC) % 0x1000 = 8)) ∧
    o ∉ [EV + 0x34, RP + 0xC, QS + 0x60, RK + 0x38, SW + 4, PM, SD] := by
  simp only [plainOffset, Bool.and_eq_true, Bool.not_eq_true', Bool.and_eq_false_iff, decide_eq_true_eq, decide_eq_false_iff_not] at h
  obtain ⟨⟨⟨⟨⟨⟨h4, hlow⟩, hhigh⟩, hbox⟩, htb⟩, hmc⟩, hown⟩ := h
  exact ⟨h4, hlow, hhigh, hbox, not_and_or.mpr htb, fun ⟨ha, hb, hc⟩ => hmc.elim (fun h => h.elim (absurd ha) (absurd hb)) (absurd hc), hown⟩

/-- Requesters without the right to write are refused. -/
theorem State.regWrite_refused (hup : s.regsUp = true) (h4 : o % 4 = 0) (hbox : boxOf o = none) (hw : who = .mctp ∨ who = .peer ∨ who = .engine) :
    s.regWrite who o v = s.disallowed who o true := by
  rcases hw with rfl | rfl | rfl <;> simp [State.regWrite, hup, h4, ldOther, regTarget, hbox, mayWrite]

theorem State.regPut_plain (h : plainOffset o = true) : s.regPut who o v = s.plainWrite who o v := by
  obtain ⟨-, hlow, hhigh, hbox, htb, hmc, hown⟩ := plainOffset_parts h
  simp only [List.mem_cons, List.not_mem_nil, or_false, not_or] at hown
  obtain ⟨hev, hrp, hqs, hrk, hsw, hpm, -⟩ := hown
  have hword : s.regPut who o v = s.wordWrite who o v := by
    unfold State.regPut
    rw [if_neg htb, if_neg hev]
    simp [hlow, hhigh]
  rw [hword]
  unfold State.wordWrite
  split
  · next h => cases hbox.symm.trans h
  rw [if_neg fun ⟨ha, hb, hc⟩ => hmc ⟨ha, hb, .inl hc⟩, if_neg fun ⟨ha, hb, hc⟩ => hmc ⟨ha, hb, .inr hc⟩, if_neg hrp, if_neg hqs, if_neg hrk, if_neg hsw, if_neg hpm]

theorem State.reg_queueSeed {x : SeedWrite} (hk : k ≠ SD) : (s.queueSeed x).reg k = s.reg k := State.reg_setReg_other _ _ _ _ hk

theorem State.reg_plainWrite (hk : k ≠ SD) : (s.plainWrite who o v).reg k = if k = o then plainWord o (s.reg o) v else s.reg k := by
  unfold State.plainWrite
  split
  · rw [State.reg_queueSeed hk, State.reg_setReg]
  · rw [State.reg_setReg]

theorem State.plainWrite_queue : (s.plainWrite who o v).sd.queue =
    if hasPersist o = true ∧ wholeOk o v = true then s.sd.queue ++ [.register who o v] else s.sd.queue := by
  unfold State.plainWrite
  split <;> rfl

/-! ### Reads -/

theorem State.readReg_low_regs (hlow : pairLow o = true) (hl : ladderLow o = false) : (s.readReg who o).2.regs = s.regs := by
  rw [State.readReg, if_pos hlow]
  dsimp only
  rw [if_neg (by simp [hl])]
  rfl

theorem State.readReg_ladder (hlow : pairLow o = true) (hl : ladderLow o = true) : s.readReg who o = (s.view o, (s.latch who o (s.view (o + 4))).setReg64 o 0) := by
  rw [State.readReg, if_pos hlow]
  dsimp only
  rw [if_pos hl]

theorem State.readReg_word (hlow : pairLow o = false) (hhigh : pairHigh o = false) : s.readReg who o = (s.view o, s.clearRc o) := by
  rw [State.readReg, if_neg (by simp [hlow]), if_neg (by simp [hhigh])]

theorem ladderLow_counter (hk : k < 5) : ladderLow (CD + 0x10 + 8 * k) = true := by
  rw [ladderLow, decide_eq_true (by omega), decide_eq_true (by omega), decide_eq_true (by simp only [CD]; omega)]
  rfl

theorem pairLow_of_ladderLow (h : ladderLow o = true) : pairLow o = true := by
  rw [ladderLow] at h
  simp [pairLow, h]

theorem State.readReg_out : (s.readReg who o).2.out = s.out := by
  unfold State.readReg
  split
  · dsimp only
    split <;> rfl
  · split <;> rfl

theorem State.mctpReads_leaves : (State.mctpReads n o s).1.length = n ∧ (State.mctpReads n o s).2.out = s.out := by
  induction n generalizing o s with
  | zero => exact ⟨rfl, rfl⟩
  | succ n ih =>
    obtain ⟨hlen, hout⟩ := ih (o := o + 4) (s := (s.readReg .mctp o).2)
    exact ⟨congrArg Nat.succ hlen, hout.trans State.readReg_out⟩

theorem execMctpRegisterRead_of (hup : s.regsUp = true) (h0 : 0 < n) (h64 : n ≤ 64) (h4 : o % 4 = 0) (hend : o + 4 * n ≤ 0x200000) :
    execMctpRegisterRead 0x1F7E n o s = .next ((State.mctpReads n o s).2.emit (.mctp 0 (State.mctpReads n o s).1)) := by
  have hrec : s.recalled = true := (Bool.and_eq_true_iff.mp hup).1
  rw [execMctpRegisterRead, if_neg (by decide), if_neg (by simp [hrec]), if_neg (not_not.mpr hup), if_neg (by omega)]

/-! ### Refused accesses -/

theorem State.commonsRefuse_regs {wr : Bool} : (s.commonsRefuse who wr).regs = s.regs ∧ (s.commonsRefuse who wr).rk = s.rk := by
  unfold State.commonsRefuse
  split <;> split <;> exact ⟨rfl, rfl⟩

/-- The log of refused accesses counts one of wrong size. -/
theorem State.logRefused_size {wr : Bool} : (s.logRefused who 0 o wr).fld (GLB + 0x14) 15 0 = satAdd (s.fld (GLB + 0x14) 15 0) 1 (2 ^ 16 - 1) ∧
    (s.logRefused who 0 o wr).rk = s.rk := by
  have hb : (s.bump (GLB + 0x14) 15 0 1).fld (GLB + 0x14) 15 0 = satAdd (s.fld (GLB + 0x14) 15 0) 1 (2 ^ 16 - 1) := State.fld_bump _ _ _ _ _ (by decide) (by decide)
  unfold State.logRefused
  rw [if_pos rfl]
  extract_lets u
  by_cases hfull : u.flag (GLB + 0x10) 31 = true ∨ reqCode who = 3
  · rw [if_pos hfull]
    exact ⟨hb, rfl⟩
  · rw [if_neg hfull]
    exact ⟨(State.fld_setReg_other _ _ _ _ _ _ (by decide)).trans hb, rfl⟩

theorem State.badAccess_owner {wr : Bool} : (s.badAccess .owner o wr).fld (GLB + 0x14) 15 0 = satAdd (s.fld (GLB + 0x14) 15 0) 1 (2 ^ 16 - 1) ∧
    (s.badAccess .owner o wr).rk = s.rk := by
  obtain ⟨hregs, hrk⟩ := State.commonsRefuse_regs (s := s.logRefused .owner 0 o wr) (who := .owner) (wr := wr)
  obtain ⟨hfld, hlog⟩ := State.logRefused_size (s := s) (who := .owner) (o := o) (wr := wr)
  rw [State.badAccess, if_neg (by decide)]
  exact ⟨(State.fld_of_regs hregs).trans hfld, hrk.trans hlog⟩

/-! ### The Seed store queue -/

theorem execSeedWriteComplete_of {x : SeedWrite} {rest : List SeedWrite} (h : s.sd.queue = x :: rest) : execSeedWriteComplete s =
    .next (State.seedWrite (State.setBit { s with sd := { s.sd with queue := rest } } SD 29 (decide (rest ≠ []))) x) := by
  rw [execSeedWriteComplete, h]

/-- The state in which a loss of VDDNV meets the write under way: nothing waits any more. -/
def State.queueLost (s : State) : State := ({ s with sd := { s.sd with queue := [] } } : State).setBit SD 29 false

/-- A torn slot: the store changes at its key alone, and not at all where every bit still holds the old word. -/
theorem State.tearSlot_leaves {key x : Nat} : (s.tearSlot key x a b).sd.queue = s.sd.queue ∧ (s.tearSlot key x a b).regs = s.regs ∧
    (s.tearSlot key x a b).sd.ownerData = s.sd.ownerData ∧ (∀ j, j ≠ key → Tbl.find (s.tearSlot key x a b).sd.slots j = Tbl.find s.sd.slots j) ∧
    (a = 0 → (∀ j < 256, b.testBit j = true) → (s.tearSlot key x a b).sd.slots = s.sd.slots) := by
  by_cases hopen : s.seedOpen key = true
  case neg =>
    rw [State.tearSlot, if_pos hopen]
    exact ⟨rfl, rfl, rfl, fun _ _ => rfl, fun _ _ => rfl⟩
  obtain ⟨i, new, hdue⟩ : ∃ i new, s.slotDue key x = (i, new) := ⟨_, _, rfl⟩
  rw [State.tearSlot, if_neg (not_not.mpr hopen), hdue]
  dsimp only
  split
  · exact ⟨rfl, rfl, rfl, fun _ _ => rfl, fun _ _ => rfl⟩
  · next hall =>
    refine ⟨rfl, rfl, rfl, fun j hj => Tbl.find_put_other _ _ _ _ hj, fun ha hb => absurd ?_ hall⟩
    refine List.all_eq_true.mpr fun j _ => ?_
    rw [ha, hb _ (Nat.mod_lt _ (by decide))]
    rfl

theorem execVddNvLoss_register {p : Nat} {rest : List SeedWrite} (h : s.sd.queue = .register who p v :: rest) :
    ∃ x, execVddNvLoss a b s = .next (s.queueLost.tearSlot (seedKey p) x a b) := by
  rw [execVddNvLoss, h]
  exact ⟨_, rfl⟩

theorem execVddNvLoss_ownerData {bytes : List Byte} {rest : List SeedWrite} (h : s.sd.queue = .ownerData o bytes :: rest) :
    execVddNvLoss a b s = .next { s.queueLost with sd := { s.queueLost.sd with ownerData := tornBytes s.queueLost.sd.ownerData o a b bytes } } := by
  rw [execVddNvLoss, h]
  rfl

theorem execVddNvLoss_idle (h : s.sd.queue = []) : execVddNvLoss a b s = .next s := by
  rw [execVddNvLoss, h]

end

end Sys2Proof.Machine

namespace Sys2Proof.Proofs

open Sys2Proof Sys2Proof.Machine

/-- Settles O49, row by row: a write is followed to the register it reaches, a read to the half it is of, the Seed store's queue to its first write. -/
theorem registerRows : Obligations.RegisterRows := by
  unfold Obligations.RegisterRows
  refine ⟨?_, ?_, ?_, ?_, ?_, ?_, ?_, ?_, ?_, ?_, ?_, ?_, ?_, ?_⟩
  · intro s o v hup hpl
    obtain ⟨h4, -, -, hbox, -, -, hown⟩ := plainOffset_parts hpl
    have hsd : o ≠ SD := by
      simp only [List.mem_cons, List.not_mem_nil, or_false, not_or] at hown
      exact hown.2.2.2.2.2.2
    have hrun : execRegisterWrite .owner o v s = .next (s.plainWrite .owner o v) :=
      congrArg Host.Outcome.next ((State.regWrite_of_mayWrite v hup rfl h4 hbox).trans (State.regPut_plain hpl))
    refine .intro hrun ⟨(State.reg_plainWrite hsd).trans (if_pos rfl), fun k hk hks => (State.reg_plainWrite hks).trans (if_neg hk), State.plainWrite_queue⟩
  · intro s o v who hup h4 hbox hw
    exact (congrArg Host.Outcome.next (State.regWrite_refused hup h4 hbox hw) : execRegisterWrite who o v s = _)
  · intro s o w hup
    have hrun : execBar0BadSizeAccess .owner o w s = .next (s.badAccess .owner o w) := congrArg Host.Outcome.next (if_pos hup)
    exact .intro hrun State.badAccess_owner
  · intro s o hup hq h4 hlow hl
    obtain ⟨hval, hout, hlatch⟩ := State.readReg_low (s := s) (who := .owner) hlow
    have hrun : exec (.lowHalfRead .owner o) s = .next ((s.readReg .owner o).2.emit (.readData .owner (s.readReg .owner o).1)) :=
      (exec_lowHalfRead _ _ _).trans (congrArg Host.Outcome.next (State.regRead_of_right hup hq h4 rfl rfl))
    refine .intro hrun ⟨?_, hlatch, State.readReg_low_regs hlow hl⟩
    rw [hval]
    exact congrArg (_ :: ·) hout
  · intro s o v hup h4 hlow hbox htb
    have hrun : exec (.lowHalfWrite .owner o v) s = .next (s.hold .owner o v) :=
      (exec_lowHalfWrite _ _ _ _).trans (congrArg Host.Outcome.next ((State.regWrite_of_mayWrite v hup rfl h4 hbox).trans (State.regPut_low v htb hlow hbox)))
    exact .intro hrun ⟨State.holdAt_hold _ _ _ _, rfl⟩
  · intro s o l v hup h4 hlow hhigh hev hbox hbox4 htb hpm hp hp4 hl
    have hrun : exec (.highHalfWrite .owner (o + 4) v) s =
        .next (((s.dropHold .owner o).setReg o (plainWord o (s.reg o) l)).setReg (o + 4) (plainWord (o + 4) (s.reg (o + 4)) v)) :=
      (exec_highHalfWrite _ _ _ _).trans (congrArg Host.Outcome.next ((State.regWrite_of_mayWrite v hup rfl (by omega) hbox4).trans
        ((State.regPut_high v htb hev hlow hhigh).trans (State.pairWrite_held v hbox hpm hl hp hp4))))
    exact .intro hrun ⟨(State.reg_setReg_other _ _ _ _ (by omega)).trans (State.reg_setReg_same _ _ _), State.reg_setReg_same _ _ _⟩
  · intro s o hup hq h4 hlow hhigh
    have hrun : execClearOnRead .owner o s = .next ((s.clearRc o).emit (.readData .owner (s.view o))) :=
      congrArg Host.Outcome.next ((State.regRead_of_right hup hq h4 rfl rfl).trans (by rw [State.readReg_word hlow hhigh]))
    exact .intro hrun ⟨rfl, rfl⟩
  · intro s k hup hq hk
    have hl : ladderLow (CD + 0x10 + 8 * k) = true := ladderLow_counter hk
    have h4 : (CD + 0x10 + 8 * k) % 4 = 0 := by
      simp only [CD]
      omega
    have hrun : execCdLadderCntLowRead .owner k s = .next (((s.latch .owner (CD + 0x10 + 8 * k) (s.view (CD + 0x10 + 8 * k + 4))).setReg64 (CD + 0x10 + 8 * k) 0).emit
        (.readData .owner (s.view (CD + 0x10 + 8 * k)))) :=
      (below_of_lt hk).trans (congrArg Host.Outcome.next ((State.regRead_of_right hup hq h4 rfl rfl).trans
        (by rw [State.readReg_ladder (pairLow_of_ladderLow hl) hl])))
    exact .intro hrun ⟨rfl, State.latchAt_latch _ _ _ _, State.reg64_setReg64_same _ _ _⟩
  · intro s n o hup h0 h64 h4 hend
    obtain ⟨hlen, hout⟩ := State.mctpReads_leaves (n := n) (o := o) (s := s)
    exact .intro (execMctpRegisterRead_of hup h0 h64 h4 hend) ⟨_, hlen, congrArg (_ :: ·) hout⟩
  · intro s w rest hq
    exact .intro (execSeedWriteComplete_of hq) rfl
  · intro s t0 n pages ht
    have hrun : execSeedStoreMarginRead pages s = .next ((pages.foldl State.pageFound t0).endEntry n) := State.runAction_of ht
    exact .intro hrun ⟨rfl, State.schedRunning_endEntry⟩
  · intro s who o v rest a b hq
    obtain ⟨x, hrun⟩ := execVddNvLoss_register (a := a) (b := b) hq
    obtain ⟨hqueue, hregs, howner, hslots, hold⟩ := State.tearSlot_leaves (s := s.queueLost) (key := seedKey o) (x := x) (a := a) (b := b)
    exact .intro hrun ⟨hqueue, hregs, howner, hslots, hold⟩
  · intro s o bytes rest a b hq
    exact .intro (execVddNvLoss_ownerData hq) ⟨rfl, rfl⟩
  · intro s a b hq
    exact execVddNvLoss_idle hq

end Sys2Proof.Proofs

/-! SUPPORT. Mirroring, live migration, the peers' commands, the global operations and the cuts (O60). -/

namespace Sys2Proof.Machine

section
variable {s t u : State} {n q p d k op : Nat} {r : MirrorRec}

/-! ### Mirrored writes -/

theorem execForwardedWrite_lead (hr : r.seq < migBase ∨ s.sw.migSource = false) (ha : s.admitting = true) (hl : s.mirrorRole r.dom = .leader)
    (hs : r.seq ∉ s.sw.fwdSeen) : execForwardedWrite r s = .next (State.streamPump (State.count
      { s with sw := { s.sw with fwd := s.sw.fwd ++ [r], fwdSeen := s.sw.fwdSeen ++ [r.seq] } } 9 0xB4 8 1)) := by
  have hown : ¬ (migBase ≤ r.seq ∧ s.sw.migSource = true) := by
    rintro ⟨hb, hm⟩
    rcases hr with h | h
    · omega
    · rw [h] at hm
      cases hm
  unfold execForwardedWrite
  rw [if_neg hown]
  dsimp only
  rw [if_neg (by simp [ha, hl, hs])]

/-- A record of the mirror stream that this node follows. -/
theorem execMirrorRecord_mine (hr : r.seq < migBase) (ha : s.admitting = true) (hd : s.domMirror r.dom = true) (hlead : s.flag (SW + 0x1C) 27 = false)
    (h2 : s.mirrorState = 2) : execMirrorRecord r .none s = .next
      (if r.seq < s.sw.nextSeq then (s.count 9 0xB4 8 1).mirrorAckOut r.seq
        else if s.sw.early.any (fun x => decide (x.seq = r.seq)) then s.count 9 0xB4 8 1
        else State.streamPump { s.count 9 0xB4 8 1 with sw := { (s.count 9 0xB4 8 1).sw with early := s.sw.early ++ [r] } }) := by
  have hc : (s.count 9 0xB4 8 1).sw = s.sw := ((State.Counted.refl s).count (by decide)).sw
  have hnext : (s.count 9 0xB4 8 1).mirrorNext r.seq = s.sw.nextSeq := by rw [State.mirrorNext, if_neg (by omega), hc]
  unfold execMirrorRecord
  extract_lets mine t1 t2
  have hmine : mine = true := (if_neg (by omega)).trans (by simp [hd, hlead, h2])
  have ht : t2 = s.count 9 0xB4 8 1 := if_pos rfl
  rw [if_neg (by simp [ha, hmine]), ht, hnext, hc]
  rfl

/-! ### What a write's end leaves of the fabric -/

theorem State.pmOverflow_sw {b j : Nat} : (s.pmOverflow b j).sw = s.sw := by
  unfold State.pmOverflow
  extract_lets i u
  split
  · split
    · rfl
    · split <;> rfl
  · rfl

theorem State.count_sw {b e i m : Nat} : (s.count b e i m).sw = s.sw := by
  have hone (t : State) (j : Nat) : (t.countOne b e i m j).sw = t.sw := by
    unfold State.countOne
    extract_lets o v u
    split
    · split
      · exact State.pmOverflow_sw
      · rfl
    · rfl
  unfold State.count
  split
  · exact foldl_view (v := State.sw) fun t j _ => hone t j
  · rfl

theorem State.pmComplete_sw {port cls dom cause line lat chan : Nat} {w : Bool} : (s.pmComplete port cls dom cause line lat chan w).sw = s.sw := by
  unfold State.pmComplete
  split
  · rfl
  · split <;> rfl

theorem State.gpfCheck_sw : s.gpfCheck.sw = s.sw := foldl_view (v := State.sw) fun _ _ _ => rfl

theorem State.completeWrite_sw {x : Req} {dom : Option Nat} : (s.completeWrite x dom).sw = s.sw := by
  unfold State.completeWrite
  exact State.gpfCheck_sw.trans (State.pmComplete_sw.trans State.count_sw)

theorem State.throughCheck_sw : s.throughCheck.sw = s.sw := by
  refine foldl_view (v := State.sw) fun t x _ => ?_
  dsimp only
  split
  · split
    · exact State.completeWrite_sw
    · rfl
  · rfl

theorem State.finishWrite_sw {x : Req} {a : Nat} : (s.finishWrite x a).sw = s.sw := by
  unfold State.finishWrite
  split
  · rfl
  · split
    · exact State.throughCheck_sw
    · exact State.completeWrite_sw

/-! ### Acknowledgements -/

theorem State.swProgress_keeps : (s.swProgress p).host = s.host ∧ (s.swProgress p).out = s.out ∧ (s.swProgress p).sw.outstanding = s.sw.outstanding ∧
    (s.swProgress p).sw.resyncUnacked = s.sw.resyncUnacked := by
  unfold State.swProgress
  split <;> exact ⟨rfl, rfl, rfl, rfl⟩

/-- What an acknowledgement writes before it lets a request go on. -/
def State.ackHeard (s : State) (q : Nat) : State :=
  { s.count 9 0xB4 8 1 with sw := { (s.count 9 0xB4 8 1).sw with
    outstanding := (s.count 9 0xB4 8 1).sw.outstanding.filter (fun r => ¬ r.seq = q), lastAck := (s.count 9 0xB4 8 1).tb.tick
    sends := (s.count 9 0xB4 8 1).sw.sends.filter (fun (x : Sending) => ¬ x.msg = mirrorMsg q) } }

theorem State.ackHeard_keeps : (s.ackHeard q).host = s.host ∧ (s.ackHeard q).out = s.out ∧
    (s.ackHeard q).sw.outstanding = s.sw.outstanding.filter (fun r => ¬ r.seq = q) ∧ (s.ackHeard q).sw.resyncUnacked = s.sw.resyncUnacked := by
  have hc : s.Counted (s.count 9 0xB4 8 1) := (State.Counted.refl s).count (by decide)
  refine ⟨hc.host, (congrArg State.out hc.same :), ?_, (congrArg Sward.resyncUnacked hc.sw :)⟩
  exact congrArg (fun w : Sward => w.outstanding.filter (fun r => ¬ r.seq = q)) hc.sw

/-- With nothing of the resync unacknowledged an acknowledgement lets the request that waits for it go on, and that is all. -/
theorem execMirrorAck_of (hu : s.sw.resyncUnacked = []) : ∃ u : State, u.host = s.host ∧ u.out = s.out ∧
    u.sw.outstanding = s.sw.outstanding.filter (fun r => ¬ r.seq = q) ∧ u.sw.resyncUnacked = [] ∧
    (s.host.reqs = [] → ∃ t, execMirrorAck q s = .next t ∧ t.host = u.host ∧ t.out = u.out ∧ t.sw.outstanding = u.sw.outstanding) ∧
    (∀ x : Req, s.host.reqs = [x] → x.st = .mirrorWait q → 0 < q → ∃ t, execMirrorAck q s = .next t ∧ t.out = (u.finishWrite x 0).out) := by
  obtain ⟨hhost, hout, houtst, hunack⟩ := State.ackHeard_keeps (s := s) (q := q)
  unfold execMirrorAck
  extract_lets t1 w t2 t3 t4 plots w5 t5 clean t6
  have h3 : t3.host = t2.host ∧ t3.out = t2.out ∧ t3.sw.outstanding = t2.sw.outstanding ∧ t3.sw.resyncUnacked = t2.sw.resyncUnacked := by
    unfold t3
    split
    · exact State.swProgress_keeps
    · exact ⟨rfl, rfl, rfl, rfl⟩
  obtain ⟨h3host, h3out, h3outst, h3un⟩ := h3
  have hun3 : t3.sw.resyncUnacked = [] := h3un.trans (hunack.trans hu)
  have hend (h4 : t4.sw.resyncUnacked = []) : t6.host = t4.host ∧ t6.out = t4.out ∧ t6.sw.outstanding = t4.sw.outstanding ∧ plots.isEmpty = true := by
    have hp : plots = [] := by
      unfold plots
      rw [h4]
      rfl
    have hcl : clean = [] := by
      unfold clean
      rw [hp]
      rfl
    unfold t6
    rw [hcl, hp]
    exact ⟨rfl, rfl, rfl, rfl⟩
  refine ⟨t3, h3host.trans hhost, h3out.trans hout, h3outst.trans houtst, hun3, fun h0 => ?_, fun x h1 hst hq => ?_⟩
  · have h4 : t4 = t3 := by
      unfold t4
      rw [h3host.trans (hhost.trans rfl), h0]
      rfl
    obtain ⟨ehost, eout, eoutst, hemp⟩ := hend (by rw [h4]; exact hun3)
    exact ⟨t6, congrArg Host.Outcome.next (if_pos hemp), by rw [ehost, h4], by rw [eout, h4], by rw [eoutst, h4]⟩
  · have h4 : t4 = t3.finishWrite x 0 := by
      unfold t4
      rw [h3host.trans (hhost.trans rfl), h1, List.foldl_cons, List.foldl_nil, hst]
      exact if_pos ⟨rfl, hq⟩
    obtain ⟨-, eout, -, hemp⟩ := hend (by rw [h4, State.finishWrite_sw]; exact hun3)
    exact ⟨t6, congrArg Host.Outcome.next (if_pos hemp), by rw [eout, h4]⟩

/-! ### Keepalives and the loss of the partner -/

theorem execKeepalive_plain : execKeepalive false .plain s = .next { s with sw := { s.sw with lastKeepalive := s.tb.tick } } := by
  unfold execKeepalive
  rw [if_neg (by decide)]
  exact congrArg Host.Outcome.next (if_neg (by simp))

theorem execKeepalive_synced (hm : s.sw.migSource = false) (h1 : s.sw.migState = 1) (hs : s.sw.migSnap = none) :
    execKeepalive true .synced s = .next { s with sw := { s.sw with migState := 2 } } := by
  have ha : s.migActive = true := by simp [State.migActive, h1]
  unfold execKeepalive
  rw [if_pos rfl, if_neg (by simp [hm, ha]), if_neg (by simp), if_pos ⟨rfl, h1⟩, hs]
  rfl

theorem execKeepalive_gone (hm : s.sw.migSource = false) (h2 : s.sw.migState = 2) :
    execKeepalive true .gone s = .next { s with sw := { s.sw.migStop with migState := 0 } } := by
  have ha : s.migActive = true := by simp [State.migActive, h2]
  unfold execKeepalive
  rw [if_pos rfl, if_neg (by simp [hm, ha]), if_pos rfl, if_neg (by omega)]

theorem execPartnerLoss_of (hp : s.mirrorState = 2 ∨ s.mirrorState = 5)
    (hl : (s.pairWaits = true ∧ s.sw.lastAck + s.fld (SW + 4) 15 0 ≤ s.tb.tick) ∨ s.sw.lastKeepalive + 1000 ≤ s.tb.tick) :
    execPartnerLoss s = .next s.partnerLost := congrArg Host.Outcome.next (if_pos ⟨hp, hl⟩)

/-! ### The peers' commands -/

/-- A part whose Lark is up, with no long operation, recovered and formed, takes a peer's command. -/
theorem State.peerCommand_taken {f : State → State} (h2 : s.swState = 2) (hup : s.larkUp = true) (hl : s.lark.longOp = none) (hr : s.wb.recovered = true) :
    s.peerCommand n op f = f (s.count 9 0xB6 8 1) := by
  rw [State.peerCommand, if_neg (by simp [h2, hup]), if_neg (by simp [hl]), if_neg (not_not.mpr hr)]

theorem execPeerBusyResend_of {x : Sending} (hx : s.sw.sends.find? (fun y => decide (y.msg = op)) = some x) (ht : x.tick + 10000 ≤ s.tb.tick)
    (hn : (Tbl.find s.sw.peerBusy op).getD 0 = n) (h100 : n < 100) : execPeerBusyResend op s = .next
      (State.sendTo (State.setSends { s with sw := { s.sw with peerBusy := Tbl.put s.sw.peerBusy op (n + 1) } } x.dest op x.times) x.dest 2 msgResend [op]) := by
  subst hn
  rw [execPeerBusyResend, hx]
  exact congrArg Host.Outcome.next ((if_neg (by omega)).trans (if_pos h100))

/-- What a bind of a mirrored domain that matches leaves before the pair is tried. -/
def State.bound (s : State) (n d : Nat) : State :=
  let t := s.count 9 0xB6 8 1
  State.setSends { t with sw := { t.sw with peerNames := true, peerLeads := false, confirmed := t.sw.confirmed.filter (fun x => ¬ x = d) ++ [d] } } n 0x0711 0

theorem State.bound_sw : (s.bound n d).sw.confirmed = s.sw.confirmed.filter (fun x => ¬ x = d) ++ [d] ∧ (s.bound n d).sw.peerNames = true ∧
    (s.bound n d).sw.peerLeads = false := by
  refine ⟨?_, rfl, rfl⟩
  exact congrArg (fun w : Sward => w.confirmed.filter (fun x => ¬ x = d) ++ [d]) State.count_sw

theorem execMirrorBind_of (hd : d < 4096) (hp : s.partnerNode = some n) (h2 : s.swState = 2) (hup : s.larkUp = true) (hl : s.lark.longOp = none)
    (hr : s.wb.recovered = true) (hv : s.domValid d = true) (hm : s.domMirror d = true) :
    execMirrorBind d (s.domSize d) true false s = .next (s.bound n d).pairTry := by
  have hc : s.Counted (s.count 9 0xB6 8 1) := (State.Counted.refl s).count (by decide)
  have hsize : (s.count 9 0xB6 8 1).domSize d = s.domSize d := by
    rw [State.domSize, State.domSize, hc.domFld hd (by decide), hc.domFld hd (by decide)]
  have hvalid : (s.count 9 0xB6 8 1).domValid d = s.domValid d := congrArg (fun x => decide (d < 4096) && decide (x = 1)) (hc.domFld (k := 0) hd (by decide))
  have hmirror : (s.count 9 0xB6 8 1).domMirror d = s.domMirror d := congrArg (fun x => decide (x = 1)) (hc.domFld (k := 0) hd (by decide))
  have hok : ((s.count 9 0xB6 8 1).domValid d && (s.count 9 0xB6 8 1).domMirror d && decide ((s.count 9 0xB6 8 1).domSize d = s.domSize d)) = true := by
    simp [hvalid, hmirror, hsize, hv, hm]
  unfold execMirrorBind
  rw [hp]
  refine congrArg Host.Outcome.next ((State.peerCommand_taken h2 hup hl hr).trans ?_)
  extract_lets w t1 ok rest w1 t2 t3
  have hok1 : ok = true := hok
  have h3 : t3 = s.bound n d := by
    refine (if_pos rfl).trans ?_
    unfold t2
    rw [if_pos hok1]
    rfl
  rw [h3]

theorem execPrepareTarget_failed {x : DomainSpec} {code : Nat} {b : Bool} (h2 : s.swState = 2) (hup : s.larkUp = true) (hl : s.lark.longOp = none)
    (hr : s.wb.recovered = true) (hc : (s.count 9 0xB6 8 1).createDomain { x with mirror := false } = (code + 1, u)) :
    execPrepareTarget x n b s = .next (u.sendTo n 2 msgPeer [0x0712, 4, code + 1]) := by
  rw [execPrepareTarget, State.peerCommand_taken h2 hup hl hr, hc]
  dsimp only
  rw [if_neg (by omega), if_neg (by omega)]

theorem execPrepareTarget_made {x : DomainSpec} (h2 : s.swState = 2) (hup : s.larkUp = true) (hl : s.lark.longOp = none)
    (hr : s.wb.recovered = true) (hc : (s.count 9 0xB6 8 1).createDomain { x with mirror := false } = (0, u)) : ∃ t, execPrepareTarget x n false s = .next t ∧
      t.sw.migState = 1 ∧ t.sw.migDom = x.dom ∧ t.sw.migNode = n ∧ t.sw.migSource = false := by
  rw [execPrepareTarget, State.peerCommand_taken h2 hup hl hr, hc]
  refine ⟨_, rfl, ?_⟩
  dsimp only
  rw [if_pos rfl, ((State.Sent.refl _).sendTo).sw]
  exact ⟨rfl, rfl, rfl, rfl⟩

theorem execPeerArm_formed {c : CutSpec} (hn : n < 256) (h2 : s.swState = 2) (hup : s.larkUp = true) (hl : s.lark.longOp = none) (hr : s.wb.recovered = true) :
    execPeerArm c n s = .next ((s.count 9 0xB6 8 1).installCut c n) := by
  rw [execPeerArm, below_of_lt hn, if_neg (by omega), State.peerCommand_taken h2 hup hl hr]

theorem execPeerArm_forming {c : CutSpec} (hn : n < 256) (h1 : s.swState = 1) (hup : s.larkUp = true) :
    execPeerArm c n s = .next { s with sw := { s.sw with armWait := s.sw.armWait ++ [(c, n)] } } := by
  rw [execPeerArm, below_of_lt hn, if_pos h1, if_pos hup]

/-- A node's report of a cut takes the place of its own earlier one. -/
theorem execCutReport_of {tag : Nat} {ok : Bool} (hn : n < 256) (h2 : s.swState = 2) (hup : s.larkUp = true) (hl : s.lark.longOp = none)
    (hr : s.wb.recovered = true) : ∃ t, execCutReport n tag ok s = .next t ∧
      t.sw.reports = s.sw.reports.filter (fun r => ¬ (r.1 = n ∧ r.2.1 = tag)) ++ [(n, tag, ok)] := by
  rw [execCutReport, below_of_lt hn, State.peerCommand_taken h2 hup hl hr]
  have hsw : (s.count 9 0xB6 8 1).sw = s.sw := State.count_sw
  exact ⟨_, rfl, (congrArg (fun w : Sward => w.reports.filter (fun r => ¬ (r.1 = n ∧ r.2.1 = tag)) ++ [(n, tag, ok)]) hsw :)⟩

/-! ### The global operations -/

theorem execBroadcast_torus {left : Nat} {b : List Byte} (h2 : s.swState = 2) (ho : s.inOrder = true) : execBroadcast n 8 left b s = .next (s.spread3 0 n b) := by
  rw [execBroadcast, below_of_lt (by decide), if_neg (not_not.mpr h2), if_pos rfl]
  exact congrArg Host.Outcome.next ((if_pos ho).trans (if_pos rfl))

theorem execBroadcast_root {left : Nat} {b : List Byte} (h2 : s.swState = 2) (ho : s.inOrder = false) (hroot : s.flag (SW + 8) 28 = true) :
    execBroadcast n 8 left b s = .next (s.downTree n b) := by
  rw [execBroadcast, below_of_lt (by decide), if_neg (not_not.mpr h2), if_pos rfl]
  exact congrArg Host.Outcome.next ((if_neg (by simp [ho])).trans (if_pos hroot))

/-- A node has arrived at the barrier: with all of them there the root casts the end. -/
def State.barrierArrive (s : State) (n k : Nat) : State :=
  let here := s.sw.barrierArrived.filter (fun x => ¬ x = n) ++ [n]
  if k ≤ here.length then ({ s with sw := { s.sw with barrierArrived := [] } } : State).barrierEnds.rootCast []
  else { s with sw := { s.sw with barrierArrived := here } }

theorem execBarrier_root (hn : n < 256) (h2 : s.swState = 2) (hroot : s.flag (SW + 8) 28 = true) (hup : s.larkUp = true) (hl : s.lark.longOp = none)
    (hr : s.wb.recovered = true) : ∃ u : State, u.sw.barrierArrived = s.sw.barrierArrived ∧ u.out = s.out ∧ execBarrier n k false s = .next (u.barrierArrive n k) := by
  rw [execBarrier, below_of_lt hn, if_neg (not_not.mpr h2), if_neg (by decide)]
  by_cases hself : n = s.nodeId
  · refine ⟨{ s with sw := { s.sw with barrier := 1 } }, rfl, rfl, ?_⟩
    rw [if_pos hself]
    exact congrArg Host.Outcome.next ((if_pos hroot).trans (if_pos hself))
  · have hc : s.Counted (s.count 9 0xB6 8 1) := (State.Counted.refl s).count (by decide)
    refine ⟨s.count 9 0xB6 8 1, congrArg Sward.barrierArrived hc.sw, (congrArg State.out hc.same :), ?_⟩
    rw [if_neg hself]
    exact congrArg Host.Outcome.next ((if_pos hroot).trans ((if_neg hself).trans (State.peerCommand_taken h2 hup hl hr)))

theorem State.barrierArrive_waits (hk : (s.sw.barrierArrived.filter (fun x => ¬ x = n)).length + 1 < k) :
    s.barrierArrive n k = { s with sw := { s.sw with barrierArrived := s.sw.barrierArrived.filter (fun x => ¬ x = n) ++ [n] } } := by
  refine if_neg ?_
  rw [List.length_append, List.length_singleton]
  omega

theorem State.barrierArrive_ends (hk : k ≤ (s.sw.barrierArrived.filter (fun x => ¬ x = n)).length + 1) :
    ∃ u : State, u.sw.barrierArrived = [] ∧ u.out = s.out ∧ s.barrierArrive n k = u.rootCast [] := by
  have hend (t : State) : t.barrierEnds.sw.barrierArrived = t.sw.barrierArrived ∧ t.barrierEnds.out = t.out := by
    unfold State.barrierEnds
    extract_lets u
    split <;> exact ⟨rfl, rfl⟩
  obtain ⟨harr, hout⟩ := hend { s with sw := { s.sw with barrierArrived := [] } }
  refine ⟨_, harr, hout, if_pos ?_⟩
  rw [List.length_append, List.length_singleton]
  exact hk

/-! ### Cuts -/

theorem execSnapshotCut_release {e : Nat} {c : CutSpec} (he : e < 64) (ht : s.Takes 0x0D e t) (hc : Tbl.find t.sw.cuts e = some c) (hop : c.op = .release) :
    execSnapshotCut e s = .next (((t.releaseTag c.ftag).freeCut e true).endEntry e) := by
  rw [execSnapshotCut, below_of_lt he, if_neg (not_not.mpr ht.first)]
  refine (State.runAction_of ht).trans (congrArg (fun u : State => Host.Outcome.next (u.endEntry e)) ?_)
  rw [hc]
  exact if_pos hop

theorem execSnapshotCut_snapshot {e : Nat} {c : CutSpec} (he : e < 64) (ht : s.Takes 0x0D e t) (hc : Tbl.find t.sw.cuts e = some c) (hop : c.op = .snapshot)
    (hi : ∀ d ∈ t.cutDoms c, t.mirrorRole d ≠ .isolated) (hr : t.cutRefused (t.cutDoms c) = false) : execSnapshotCut e s =
      .next ((((t.cutDoms c).foldl (fun (u : State) d => u.snapshotDom c.ftag d) t).freeCut e true).endEntry e) := by
  rw [execSnapshotCut, below_of_lt he, if_neg (not_not.mpr ht.first)]
  refine (State.runAction_of ht).trans (congrArg (fun u : State => Host.Outcome.next (u.endEntry e)) ?_)
  rw [hc]
  refine (if_neg (by simp [hop])).trans ?_
  extract_lets ds isolated ins t1
  have hins : ins = ds := List.filter_eq_self.mpr fun d hd => by simp [isolated, hi d hd]
  have hiso : ds.filter isolated = [] := List.filter_eq_nil_iff.mpr fun d hd => by simp [isolated, hi d hd]
  have ht1 : t1 = t := by
    unfold t1
    rw [hiso]
    rfl
  rw [hins, ht1, if_neg (by simp [ds, hr]), decide_eq_true rfl]

/-- The walker of copy on write sets a plot's bit where no migration has the plot. -/
theorem State.cowMarked {l : List Nat} (hu : u = l.foldl (fun (t : State) i => if t.plotTaken i then t else t.setCow i true) s) :
    u.sw = s.sw ∧ u.admitting = s.admitting := by
  subst hu
  exact ⟨foldl_view (v := State.sw) fun t i _ => by split <;> rfl, foldl_view (v := State.admitting) fun t i _ => by split <;> rfl⟩

theorem execCowWalkerAdvance_of {x : SnapSt} (hd : d < 4096) (hx : s.sw.snaps.find? (fun y => decide (y.2.dom = d)) = some (k, x)) (he : x.ending = false)
    (ha : s.admitting = false) : ∃ t, execCowWalkerAdvance d n s = .next t ∧
      Tbl.find t.sw.snaps k = some { x with walker := x.walker + min n (s.domSize d - x.walker) } := by
  unfold execCowWalkerAdvance
  rw [below_of_lt hd, hx]
  split
  · next hn => cases hn
  next k' x' hsome =>
  cases hsome
  extract_lets m plots t1 w t2 t3
  have h1 : t1.sw = s.sw ∧ t1.admitting = s.admitting := by
    refine State.cowMarked (l := plots) ?_
    unfold t1
    rw [he]
    rfl
  have hfind : Tbl.find t2.sw.snaps k = some { x with walker := x.walker + m } := Tbl.find_put_same _ _ _
  have h3 : t3 = t2 := by
    unfold t3 State.snapGone
    rw [hfind]
    exact if_neg (by simp [he])
  refine ⟨t3, congrArg Host.Outcome.next (if_neg ?_), by rw [h3]; exact hfind⟩
  rw [h3]
  exact ne_of_eq_of_ne (h1.2.trans ha) Bool.false_ne_true

theorem execFabricResetCut_of {e : Nat} (he : e < 64) (ht : s.Takes 0x0E e t) : execFabricResetCut e s = .next (((t.freeCut e true).fabricReset).endEntry e) := by
  rw [execFabricResetCut, below_of_lt he, if_neg (not_not.mpr ht.first)]
  exact State.runAction_of ht

/-! ### The copy to the partner -/

/-- A line whose bytes stand whole in the write buffer is sent from there. -/
theorem execResyncStep_buffered {m : Meas} {line : Nat} {v : List (Option Byte) × Bool} (ha : s.admitting = true) (h5 : s.mirrorState ≠ 5)
    (hsnap : s.sw.migSnap = none) (hp : (s.dirtyFrom (s.sw.resyncLine / 16384)).find? (fun x => s.copies x) = some p) (hd : s.domOfPlot p = some d)
    (hline : line = max s.sw.resyncLine (p * 16384))
    (hu : u = State.readLine { s.chargeBg 4 with sw := { (s.chargeBg 4).sw with resyncLine := line + 1 } } line) (hq : u.quarantined d = false)
    (hv : u.bufferView line = some v) (hpoison : v.2 = false) (hfull : bufferFull v = true) :
    execResyncStep m s = .next (State.resyncSend u line d (bufferBytes v) false) := by
  have hstate : (s.chargeBg 4).mirrorState = s.mirrorState := State.fld_setReg_other _ _ _ _ _ _ (by decide)
  unfold execResyncStep
  rw [if_neg (not_not.mpr ha), hp]
  split
  · next hn => cases hn
  next p' hsome =>
  cases hsome
  rw [hd, hsnap]
  extract_lets d' line' snap held t1 w t2 t3 zeros t4
  have hnone : snap = none := rfl
  have h3 : t3 = t2 := if_neg fun h => h5 (hstate.symm.trans h)
  have h4 : t4 = u := by
    unfold t4
    rw [h3, hu, hline]
  have hq4 : ¬ t4.quarantined d' = true := by
    rw [h4]
    exact ne_of_eq_of_ne hq Bool.false_ne_true
  refine congrArg Host.Outcome.next ((if_neg (by simp [hnone])).trans ((if_neg hq4).trans ?_))
  rw [h4, show d' = d from rfl, show line' = line from hline.symm, hv]
  exact (if_neg (by simp [hpoison])).trans (if_pos hfull)

end

end Sys2Proof.Machine

namespace Sys2Proof.Proofs

open Sys2Proof Sys2Proof.Machine

/-- Settles O60, row by row: a mirrored write or acknowledgement, a peer's command, a global operation or a cut is the step its own lemma states. -/
theorem mirrorCommands : Obligations.MirrorCommands := by
  unfold Obligations.MirrorCommands
  refine ⟨?_, ?_, ?_, ?_, ?_, ?_, ?_, ?_, ?_, ?_, ?_, ?_, ?_, ?_, ?_, ?_, ?_, ?_, ?_, ?_, ?_, ?_, ?_, ?_, ?_, ?_, ?_⟩
  · intro s r hr ha hl hs
    exact execForwardedWrite_lead hr ha hl hs
  · intro s r hr ha hd hlead h2 hseq
    exact (execMirrorRecord_mine hr ha hd hlead h2).trans (congrArg Host.Outcome.next (if_pos hseq))
  · intro s r hr ha hd hlead h2 hseq hearly
    have hnew : s.sw.early.any (fun x => decide (x.seq = r.seq)) = false := List.any_eq_false.mpr fun x hx => by simp [hearly x hx]
    have hc : (s.count 9 0xB4 8 1).sw = s.sw := State.count_sw
    refine (execMirrorRecord_mine hr ha hd hlead h2).trans (congrArg Host.Outcome.next ?_)
    rw [if_neg (by omega), if_neg (by simp [hnew])]
  · intro s q h0 hu
    obtain ⟨u, hhost, hout, houtst, -, hnone, -⟩ := execMirrorAck_of (q := q) hu
    obtain ⟨t, hrun, thost, tout, toutst⟩ := hnone h0
    exact .intro hrun ⟨toutst.trans houtst, thost.trans hhost, tout.trans hout⟩
  · intro s r q h1 hst hq hu
    obtain ⟨u, hhost, hout, houtst, -, -, hone⟩ := execMirrorAck_of (q := q) hu
    obtain ⟨t, hrun, tout⟩ := hone r h1 hst hq
    exact .intro hrun ⟨u, tout, hhost, houtst, hout⟩
  · intro s
    exact .intro execKeepalive_plain ⟨rfl, rfl, rfl⟩
  · intro s hm h1 hs
    exact .intro (execKeepalive_synced hm h1 hs) ⟨rfl, rfl⟩
  · intro s hm h2
    exact .intro (execKeepalive_gone hm h2) ⟨rfl, rfl⟩
  · intro s hp hk
    exact execPartnerLoss_of hp (.inr hk)
  · intro s hp hw hk
    exact execPartnerLoss_of hp (.inl ⟨hw, hk⟩)
  · intro s u m p d line v ha h5 hsnap hp hd hline hu hq hv hpoison hfull
    exact execResyncStep_buffered ha h5 hsnap hp hd hline hu hq hv hpoison hfull
  · intro s op n x hx ht hn h100
    exact execPeerBusyResend_of hx ht hn h100
  · intro s d n size hd hp h2 hup hl hr hv hm hsize
    subst hsize
    obtain ⟨hconf, hnames, hleads⟩ := State.bound_sw (s := s) (n := n) (d := d)
    exact .intro (execMirrorBind_of hd hp h2 hup hl hr hv hm) ⟨s.bound n d, rfl, hconf, hnames, hleads⟩
  · intro s u x n code b hd h2 hup hl hr hc
    exact execPrepareTarget_failed h2 hup hl hr hc
  · intro s u x n hd h2 hup hl hr hc
    obtain ⟨t, hrun, hleaves⟩ := execPrepareTarget_made h2 hup hl hr hc
    exact .intro hrun hleaves
  · intro s c o ho hup hl hr h2
    exact execPeerArm_formed ho h2 hup hl hr
  · intro s c o ho hup h1
    exact execPeerArm_forming ho h1 hup
  · intro s n tag ok hn h2 hup hl hr
    obtain ⟨t, hrun, hreports⟩ := execCutReport_of (tag := tag) (ok := ok) hn h2 hup hl hr
    refine .intro hrun ⟨by rw [hreports]; simp, fun r hr hne => ?_⟩
    rw [hreports]
    exact List.mem_append_left _ (List.mem_filter.mpr ⟨hr, decide_eq_true hne⟩)
  · intro s src left b h2 ho
    exact execBroadcast_torus h2 ho
  · intro s src left b h2 ho hroot
    exact execBroadcast_root h2 ho hroot
  · intro s n k hn h2 hroot hup hl hr hk
    obtain ⟨u, harr, hout, hrun⟩ := execBarrier_root (k := k) hn h2 hroot hup hl hr
    rw [← harr] at hk ⊢
    exact .intro (hrun.trans (congrArg Host.Outcome.next (State.barrierArrive_waits hk))) ⟨rfl, hout⟩
  · intro s n k hn h2 hroot hup hl hr hk
    obtain ⟨u, harr, hout, hrun⟩ := execBarrier_root (k := k) hn h2 hroot hup hl hr
    rw [← harr] at hk
    obtain ⟨w, hempty, hwout, hcast⟩ := State.barrierArrive_ends hk
    exact .intro hrun ⟨w, hempty, hwout.trans hout, hcast⟩
  · intro s t e c he ht hc hop
    exact execSnapshotCut_release he ht hc hop
  · intro s t e c he ht hc hop hi hr
    exact execSnapshotCut_snapshot he ht hc hop hi hr
  · intro s d n k x hd hx he ha hp
    obtain ⟨t, hrun, hfind⟩ := execCowWalkerAdvance_of (n := n) hd hx he ha
    have hdom : x.dom = d := of_decide_eq_true (List.find?_some hx :)
    exact .intro hrun ⟨_, hfind, hdom, rfl⟩
  · intro s t e he ht
    exact execFabricResetCut_of he ht
  · intro s who hup hw
    exact (congrArg Host.Outcome.next (State.asWriter_of hup hw) : execSwCtlReset who s = _)

end Sys2Proof.Proofs
